-- ==== Sys2Proof/Word.lean ====
section
/-! DEFINITION. The byte, the unit of every layout the spec gives (R9), and nothing else: everything that a repair may
have to mend (bit fields, byte order, signed readings) stands in Machine/Bits.lean. -/

namespace Sys2Proof

/-- A byte. -/
abbrev Byte := BitVec 8

/-- A byte of value `n` modulo 256. -/
def byte (n : Nat) : Byte := BitVec.ofNat 8 n

end Sys2Proof
end

