-- ==== Sys2Proof/Syntax.lean ====
section
/-! DEFINITION. The commands of the block: one constructor of `Instr` for every row of spec/opcode_table.json, with the
row's operands. The first 137 rows are host commands (Table 12.13): each carries the command as it arrived (Table 12.2).
The others are accesses of the host to the register space, packets received, and events at pins, timers and engines. -/

namespace Sys2Proof

/-- Who sent a command (R446): the PCIe function, one UDP source address and port, or one relaying node. -/
inductive Requester where
  | pcie
  | udp (ip sport : Nat)
  | fabric (node : Nat)
  deriving DecidableEq, Repr

/-- A command as Table 12.2 lays it out, with the path it came by. `slot` is its mailbox slot (0xFF for UDP and the
fabric), `tag` the relay tag of a fabric command (Table 10.10). `dmaPayload` is what the node reads at the descriptor's
payload address when flag dma is set (R449), and `data` what it reads of the host memory (or of the relayed transfer,
R479) that a payload field names. -/
structure HostCmd where
  req : Requester
  slot : Nat
  tag : Nat
  opcode : Nat
  target : Nat
  session : Nat
  seq : Nat
  flags : Nat
  reserved : Nat
  activation : Nat
  payload : List Byte
  dmaPayload : List Byte
  data : List Byte
  deriving DecidableEq, Repr

/-- A fabric packet: the fields of Table 10.1 and the payload. -/
structure Pkt where
  ptype : Nat
  fence : Bool
  mcast : Bool
  vc : Nat
  dst : Nat
  src : Nat
  ttl : Nat
  dl : Bool
  payload : List Byte
  deriving DecidableEq, Repr

/-- What makes a lock-up reset (Table 13.1, bit 8). -/
inductive Lockup where
  | doubleFault
  | machineCheck
  | noRetire
  deriving DecidableEq, Repr

/-- A video mode a DisplayPort sink receives (Table 3.1): link rate code and lanes code of Table 3.2, format code of
Table 3.6 (0 for an encoding outside it), pixel clock, refresh and what the mode asks for. -/
structure DpMode where
  linkRate : Nat
  lanes : Nat
  width : Nat
  height : Nat
  format : Nat
  colorimetry : Nat
  pixelRate : Nat
  refresh : Nat
  plainSst : Bool
  deriving DecidableEq, Repr

/-- The requesters of a CXL arbiter (Table 3.10). -/
inductive ArbReq where
  | str | cap (port : Nat) | hst | rsv | cpu
  deriving DecidableEq, Repr

/-- The statistics of one lane's adaptation window that Table 9.11 checks: 66-bit blocks of it and those that are data blocks, the UI
or symbols of its 2^20 that differ from the one before, those at each of the four levels, and the longest run of equal ones. -/
structure AdaptWindow where
  blocks : Nat
  dataBlocks : Nat
  transitions : Nat
  levels : List Nat
  run : Nat
  deriving DecidableEq, Repr

/-- What ends a calibration run: the sensor temperature and the values of Table 14.6; the window of a port lane (kind 0); and for a return
pair the statistics of Table 14.5 over its 2^16 symbols (those that decode as valid, those that are K28.5, the bits of the 655,360 that
differ from the one before, and the replies and drivers seen). A kind for which the spec names no checks says whether its own pass. -/
structure CalOutcome where
  checksPass : Bool
  window : AdaptWindow
  temp : Nat
  values : List Byte
  valid : Nat
  idle : Nat
  transitions : Nat
  replies : Nat
  drivers : Nat
  deriving DecidableEq, Repr

/-- What a lane's receiver finds at a training word (R330, R331): the request it would make next, as control-word bits, and whether it has
finished. -/
structure RxFinding where
  want : Nat
  ready : Bool
  deriving DecidableEq, Repr

/-- A control block on a port: its eight bytes, the block type first (R358). -/
structure PortBlock where
  port : Nat
  bytes : List Byte
  deriving DecidableEq, Repr

/-- The units that the burst in progress on a CXL link has moved (R117). -/
structure BurstUnits where
  link : Nat
  units : Nat
  deriving DecidableEq, Repr

/-- A test or a loop by its kind and index (Tables 16.1 and 16.2). -/
structure TestItem where
  kind : Nat
  index : Nat
  deriving DecidableEq, Repr

/-- What a chunk of a test or loop found (Table 16.3): errors, and the two words of detail; a memory test names each uncorrectable word as
State.memDouble numbers them, and the offset of the first. -/
structure Chunk where
  errors : Nat
  detailA : Nat
  detailB : Nat
  words : List Nat
  deriving DecidableEq, Repr

/-- The JTAG instructions (R589), and a TAP reset. -/
inductive Jtag where
  | bypass | idcode | sample | extest | clamp | highz | tapReset
  deriving DecidableEq, Repr

/-- The commands of the block. -/
inductive Instr where

  /-- SYS_IDENT (R484). -/
  | sysIdent (c : HostCmd)
  /-- SYS_STATUS (R484). -/
  | sysStatus (c : HostCmd)
  /-- SYS_PING (R484). -/
  | sysPing (c : HostCmd)
  /-- REG_READ (R484). -/
  | regRead (c : HostCmd)
  /-- REG_WRITE (R464). -/
  | regWrite (c : HostCmd)
  /-- EVENT_SET (R484). -/
  | eventSet (c : HostCmd)
  /-- UPLOAD_WRITE (R488). -/
  | uploadWrite (c : HostCmd)
  /-- LOG_READ (R484). -/
  | logRead (c : HostCmd)
  /-- SESSION_OPEN (R470). -/
  | sessionOpen (c : HostCmd)
  /-- SESSION_CLOSE (R469). -/
  | sessionClose (c : HostCmd)
  /-- SESSION_RENEW (R467). -/
  | sessionRenew (c : HostCmd)
  /-- SESSION_GET (R484). -/
  | sessionGet (c : HostCmd)
  /-- ABORT (R480). -/
  | abort (c : HostCmd)
  /-- FAB_PORT_GET (R354). -/
  | fabPortGet (c : HostCmd)
  /-- FAB_PORT_SET (R354). -/
  | fabPortSet (c : HostCmd)
  /-- FAB_RESTART (R354). -/
  | fabRestart (c : HostCmd)
  /-- FAB_LOOP (R353). -/
  | fabLoop (c : HostCmd)
  /-- FAB_LANE_GET (R354). -/
  | fabLaneGet (c : HostCmd)
  /-- FAB_NODE_GET (R403). -/
  | fabNodeGet (c : HostCmd)
  /-- FAB_SET_ID (R403). -/
  | fabSetId (c : HostCmd)
  /-- FAB_DISCOVER (R375). -/
  | fabDiscover (c : HostCmd)
  /-- FAB_TOPO_READ (R403). -/
  | fabTopoRead (c : HostCmd)
  /-- FAB_GROUP_SET (R386). -/
  | fabGroupSet (c : HostCmd)
  /-- FAB_ROUTE_GET (R403). -/
  | fabRouteGet (c : HostCmd)
  /-- FAB_LINK_GET (R403). -/
  | fabLinkGet (c : HostCmd)
  /-- FAB_TRANSIT_GET (R393). -/
  | fabTransitGet (c : HostCmd)
  /-- FAB_FENCE (R397). -/
  | fabFence (c : HostCmd)
  /-- TIME_GET (R484). -/
  | timeGet (c : HostCmd)
  /-- TIME_SET_SOURCE (R53). -/
  | timeSetSource (c : HostCmd)
  /-- TIME_SET_PERIOD (R79). -/
  | timeSetPeriod (c : HostCmd)
  /-- TIME_SET_ANCHOR (R79). -/
  | timeSetAnchor (c : HostCmd)
  /-- TIME_STEP (R80). -/
  | timeStep (c : HostCmd)
  /-- TIME_SET_TRIM (R59). -/
  | timeSetTrim (c : HostCmd)
  /-- TIME_SET_HOLD (R73). -/
  | timeSetHold (c : HostCmd)
  /-- LAYER_GET (R180). -/
  | layerGet (c : HostCmd)
  /-- LAYER_SET_VIDEO (R180). -/
  | layerSetVideo (c : HostCmd)
  /-- LAYER_SET_GRAPHIC (R180). -/
  | layerSetGraphic (c : HostCmd)
  /-- LAYER_WRITE_GRAPHIC (R168). -/
  | layerWriteGraphic (c : HostCmd)
  /-- LAYER_SET_WINDOW (R124). -/
  | layerSetWindow (c : HostCmd)
  /-- LAYER_SET_BG (R180). -/
  | layerSetBg (c : HostCmd)
  /-- LAYER_SET_GUARD (R25). -/
  | layerSetGuard (c : HostCmd)
  /-- COMMIT (R621). -/
  | commit (c : HostCmd)
  /-- COMMIT_STATUS (R180). -/
  | commitStatus (c : HostCmd)
  /-- P_SET (R616). -/
  | pSet (c : HostCmd)
  /-- P_WRITE (R171). -/
  | pWrite (c : HostCmd)
  /-- P_KEY (R170). -/
  | pKey (c : HostCmd)
  /-- WB_SET (R172). -/
  | wbSet (c : HostCmd)
  /-- WB_RING (R175). -/
  | wbRing (c : HostCmd)
  /-- FROST_GET (R180). -/
  | frostGet (c : HostCmd)
  /-- FROST_SET (R178). -/
  | frostSet (c : HostCmd)
  /-- LAYER_GET_COEF (R157). -/
  | layerGetCoef (c : HostCmd)
  /-- CLOVER_SET (R210). -/
  | cloverSet (c : HostCmd)
  /-- CLOVER_GET (R210). -/
  | cloverGet (c : HostCmd)
  /-- STREAM_GET (R122). -/
  | streamGet (c : HostCmd)
  /-- STREAM_SETUP (R98). -/
  | streamSetup (c : HostCmd)
  /-- STREAM_SET_FRAME (R104). -/
  | streamSetFrame (c : HostCmd)
  /-- STREAM_PLAY_CLIP (R107). -/
  | streamPlayClip (c : HostCmd)
  /-- STREAM_STOP (R122). -/
  | streamStop (c : HostCmd)
  /-- DP_SET (R83). -/
  | dpSet (c : HostCmd)
  /-- DP_GET (R122). -/
  | dpGet (c : HostCmd)
  /-- CLIP_INFO (R122). -/
  | clipInfo (c : HostCmd)
  /-- CLIP_ALLOC (R90). -/
  | clipAlloc (c : HostCmd)
  /-- CLIP_FREE (R110). -/
  | clipFree (c : HostCmd)
  /-- CLIP_WRITE (R114). -/
  | clipWrite (c : HostCmd)
  /-- CLIP_READ (R92). -/
  | clipRead (c : HostCmd)
  /-- CLIP_PINS (R122). -/
  | clipPins (c : HostCmd)
  /-- CLIP_SET_WINDOW (R122). -/
  | clipSetWindow (c : HostCmd)
  /-- COL_GET (R241). -/
  | colGet (c : HostCmd)
  /-- COL_SET (R241). -/
  | colSet (c : HostCmd)
  /-- COEF_LOAD (R239). -/
  | coefLoad (c : HostCmd)
  /-- COEF_READ (R241). -/
  | coefRead (c : HostCmd)
  /-- COEF_SAVE (R238). -/
  | coefSave (c : HostCmd)
  /-- COEF_CHECK (R241). -/
  | coefCheck (c : HostCmd)
  /-- ZONE_GET (R241). -/
  | zoneGet (c : HostCmd)
  /-- SCAN_GET (R270). -/
  | scanGet (c : HostCmd)
  /-- SCAN_SET_LANES (R270). -/
  | scanSetLanes (c : HostCmd)
  /-- SCAN_SET_TIMING (R270). -/
  | scanSetTiming (c : HostCmd)
  /-- SCAN_SET_FEED (R270). -/
  | scanSetFeed (c : HostCmd)
  /-- SCAN_SET_WINDOW (R270). -/
  | scanSetWindow (c : HostCmd)
  /-- SCAN_PLAN (R256). -/
  | scanPlan (c : HostCmd)
  /-- GENLOCK_SET (R264). -/
  | genlockSet (c : HostCmd)
  /-- GENLOCK_GET (R265). -/
  | genlockGet (c : HostCmd)
  /-- SHUTTER_SET (R267). -/
  | shutterSet (c : HostCmd)
  /-- SCAN_SET_TRIM (R248). -/
  | scanSetTrim (c : HostCmd)
  /-- LANE_GET (R315). -/
  | laneGet (c : HostCmd)
  /-- LANE_RESTART (R281). -/
  | laneRestart (c : HostCmd)
  /-- LANE_REG (R316). -/
  | laneReg (c : HostCmd)
  /-- LANE_SET_CURRENT (R315). -/
  | laneSetCurrent (c : HostCmd)
  /-- LANE_SET_CURMAP (R293). -/
  | laneSetCurmap (c : HostCmd)
  /-- DIAG_SET (R315). -/
  | diagSet (c : HostCmd)
  /-- DIAG_SUMMARY (R315). -/
  | diagSummary (c : HostCmd)
  /-- DIAG_READ_MAP (R306). -/
  | diagReadMap (c : HostCmd)
  /-- DIAG_EVENTS (R309). -/
  | diagEvents (c : HostCmd)
  /-- LANE_ECHO (R316). -/
  | laneEcho (c : HostCmd)
  /-- RED_GET (R445). -/
  | redGet (c : HostCmd)
  /-- RED_SET (R445). -/
  | redSet (c : HostCmd)
  /-- RED_HANDOVER (R420). -/
  | redHandover (c : HostCmd)
  /-- RED_TAKEOVER (R420). -/
  | redTakeover (c : HostCmd)
  /-- RED_SET_SELECT (R439). -/
  | redSetSelect (c : HostCmd)
  /-- RED_CLAIM (R422). -/
  | redClaim (c : HostCmd)
  /-- RED_RESILVER (R441). -/
  | redResilver (c : HostCmd)
  /-- THM_GET (R541). -/
  | thmGet (c : HostCmd)
  /-- THM_SET (R528). -/
  | thmSet (c : HostCmd)
  /-- THM_SENSOR (R525). -/
  | thmSensor (c : HostCmd)
  /-- THM_NEIGH_SET (R523). -/
  | thmNeighSet (c : HostCmd)
  /-- CAL_RUN (R535). -/
  | calRun (c : HostCmd)
  /-- CAL_READ (R538). -/
  | calRead (c : HostCmd)
  /-- CAL_WRITE (R538). -/
  | calWrite (c : HostCmd)
  /-- CAL_REF_SET (R531). -/
  | calRefSet (c : HostCmd)
  /-- FW_GET (R575). -/
  | fwGet (c : HostCmd)
  /-- FW_BEGIN (R550). -/
  | fwBegin (c : HostCmd)
  /-- FW_WRITE (R551). -/
  | fwWrite (c : HostCmd)
  /-- FW_WRITE_DATA (R551). -/
  | fwWriteData (c : HostCmd)
  /-- FW_SPREAD (R555). -/
  | fwSpread (c : HostCmd)
  /-- FW_ACTIVATE (R559). -/
  | fwActivate (c : HostCmd)
  /-- FW_CONFIRM (R565). -/
  | fwConfirm (c : HostCmd)
  /-- FW_REVERT (R564). -/
  | fwRevert (c : HostCmd)
  /-- FW_FALLBACK_REQ (R572). -/
  | fwFallbackReq (c : HostCmd)
  /-- SETTINGS_GET (R575). -/
  | settingsGet (c : HostCmd)
  /-- SETTINGS_PUT (R569). -/
  | settingsPut (c : HostCmd)
  /-- SETTINGS_SAVE (R570). -/
  | settingsSave (c : HostCmd)
  /-- TRACE_SET (R210). -/
  | traceSet (c : HostCmd)
  /-- TRACE_READ (R210). -/
  | traceRead (c : HostCmd)
  /-- PSE_SET_SERVICE (R205). -/
  | pseSetService (c : HostCmd)
  /-- TST_RUN (R576). -/
  | tstRun (c : HostCmd)
  /-- TST_LOOP (R576). -/
  | tstLoop (c : HostCmd)
  /-- TST_RESULT (R586). -/
  | tstResult (c : HostCmd)
  /-- TST_COUNTERS (R587). -/
  | tstCounters (c : HostCmd)
  /-- FROST_EXPECT (R588). -/
  | frostExpect (c : HostCmd)
  /-- PWR_GET (R518). -/
  | pwrGet (c : HostCmd)
  /-- PWR_SET (R516). -/
  | pwrSet (c : HostCmd)
  /-- RST_GET (R518). -/
  | rstGet (c : HostCmd)
  /-- RST_NODE (R489). -/
  | rstNode (c : HostCmd)
  /-- RST_BLOCK (R497). -/
  | rstBlock (c : HostCmd)
  /-- AON_READ (R518). -/
  | aonRead (c : HostCmd)
  /-- AON_WRITE (R518). -/
  | aonWrite (c : HostCmd)
  /-- BOOT_CLEAR (R508). -/
  | bootClear (c : HostCmd)
  /-- BAR0_WRITE (R11). -/
  | bar0Write (offset size value : Nat)
  /-- FT_NOW_READ (R49). -/
  | ftNowRead
  /-- LOW_WORD_READ (R49). -/
  | lowWordRead (offset : Nat)
  /-- MBX_DOORBELL (R451). -/
  | mbxDoorbell (mask : Nat)
  /-- CQ_HEAD_WRITE (R456). -/
  | cqHeadWrite (value : Nat)
  /-- FRADDR_WRITE (R106). -/
  | fraddrWrite (stream value : Nat)
  /-- BAR4_WRITE (R113). -/
  | bar4Write (offset : Nat) (bytes : List Byte)
  /-- BAR4_READ (R92). -/
  | bar4Read (offset length : Nat)
  /-- RESTART (R333). -/
  | restart (port : Nat)
  /-- RST_CTRL_NODE (R489). -/
  | rstCtrlNode (key : Nat)
  /-- RST_CTRL_WARM (R489). -/
  | rstCtrlWarm (key : Nat)
  /-- RST_BLOCK_WRITE (R493). -/
  | rstBlockWrite (value : Nat)
  /-- DIAG_EVENT_READ (R309). -/
  | diagEventRead
  /-- TRACE_CTRL_WRITE (R209). -/
  | traceCtrlWrite (offset value : Nat)
  /-- WARM_RESET (R489). -/
  | warmReset
  /-- BACKUP_ENTER (R15). -/
  | backupEnter
  /-- VBAK_LOSS (R15). -/
  | vbakLoss
  /-- POWER_ON_RESET (R602). -/
  | powerOnReset (roleSel : Nat) (testEn strapChanged : Bool)
  /-- POWER_ON_RESET_ASSERT (R602). -/
  | powerOnResetAssert
  /-- BROWN_OUT_RESET (R489). -/
  | brownOutReset (also : Nat)
  /-- PIN_RESET (R608). -/
  | pinReset (lowNs also : Nat)
  /-- WATCHDOG_EXPIRE (R491). -/
  | watchdogExpire (serviced : Bool)
  /-- LOCKUP_RESET (R489). -/
  | lockupReset (cause : Lockup)
  /-- CLOCK_FAILURE_RESET (R496). -/
  | clockFailureReset (domain : Nat)
  /-- PENDING_RELEASE_COMPLETE (R495). -/
  | pendingReleaseComplete (block : Nat)
  /-- PENDING_RELEASE_TIMEOUT (R495). -/
  | pendingReleaseTimeout (block : Nat)
  /-- CLOCK_SOURCE_RETRY (R496). -/
  | clockSourceRetry (domain : Nat) (good : Bool)
  /-- RAIL_LOW (R603). -/
  | railLow (rail : Nat)
  /-- PWR_GOOD_CHANGE (R609). -/
  | pwrGoodChange (level : Bool) (heldNs : Nat)
  /-- OTP_LOAD_DONE (R501). -/
  | otpLoadDone (crcOk : Bool)
  /-- BOOT_STEP_END (R504). -/
  | bootStepEnd (step : Nat) (failed : Option Nat) (word : Nat)
  /-- BOOT_STEP_TIMEOUT (R506). -/
  | bootStepTimeout (step : Nat)
  /-- BOOT_STEP_RETRY (R507). -/
  | bootStepRetry
  /-- AUTO_SHOW_ENTER (R515). -/
  | autoShowEnter
  /-- ROLE_SET_LOST (R35). -/
  | roleSetLost
  /-- FRAME_BOUNDARY (R21). -/
  | frameBoundary
  /-- LATCH_POINT (R197). -/
  | latchPoint
  /-- FT_TICK (R46). -/
  | ftTick
  /-- TIME_SYNC_SEND (R57). -/
  | timeSyncSend
  /-- TIME_SYNC_RX (R58). -/
  | timeSyncRx (port : Nat) (pkt : Pkt) (tin : Nat) (tout : List Nat)
  /-- PDELAY_REQ_SEND (R57). -/
  | pdelayReqSend (tout : List Nat)
  /-- PDELAY_REQ_RX (R57). -/
  | pdelayReqRx (port : Nat) (pkt : Pkt) (tin tout : Nat)
  /-- PDELAY_RESP_RX (R58). -/
  | pdelayRespRx (port : Nat) (pkt : Pkt) (tin : Nat)
  /-- PTP_MESSAGE_RX (R52). -/
  | ptpMessageRx (ptpNs : Nat) (domain : Nat)
  /-- PARENT_TIMEOUT (R71). -/
  | parentTimeout
  /-- REF_LOST (R72). -/
  | refLost
  /-- HOLD_LIMIT_EXPIRE (R73). -/
  | holdLimitExpire
  /-- ALIGN_LIMIT_EXPIRE (R75). -/
  | alignLimitExpire
  /-- TIME_RETURN_SHOW (R76). -/
  | timeReturnShow
  /-- REF_DISAGREE_TIMER (R78). -/
  | refDisagreeTimer
  /-- GENLOCK_EDGE (R264). -/
  | genlockEdge (input : Nat) (rising : Bool) (heldNs : Nat) (stampHalfNs : Nat)
  /-- GENLOCK_MISSED (R265). -/
  | genlockMissed (input : Nat)
  /-- SHUTTER_ASSERT (R267). -/
  | shutterAssert (output : Nat)
  /-- SHUTTER_DEASSERT (R267). -/
  | shutterDeassert (output : Nat)
  /-- DP_FRAME_COMPLETE (R84). -/
  | dpFrameComplete (port : Nat) (bytes : List Byte)
  /-- DP_MODE_RECEIVED (R82). -/
  | dpModeReceived (port : Nat) (mode : DpMode)
  /-- DP_LINK_LOSS (R87). -/
  | dpLinkLoss (port : Nat) (linkUp : Bool)
  /-- DP_HOLD_EXPIRE (R87). -/
  | dpHoldExpire (port : Nat)
  /-- SEND_WINDOW_OPEN (R96). -/
  | sendWindowOpen
  /-- LINE_SLOT (R99). -/
  | lineSlot (stream : Nat)
  /-- FRADDR_LATCH (R104). -/
  | fraddrLatch (stream : Nat)
  /-- CXL_LINK_UP (R88). -/
  | cxlLinkUp (link : Nat) (type3 switched : Bool) (size : Nat) (tableOk : Bool)
  /-- ARBITER_GRANT (R115). -/
  | arbiterGrant (link : Nat) (requests : List ArbReq) (units : Nat)
  /-- BURST_CUT (R117). -/
  | burstCut (cut : BurstUnits)
  /-- CLIP_FREE_COMPLETE (R110). -/
  | clipFreeComplete (handle : Nat)
  /-- STREAM_PACKET_RX (R151). -/
  | streamPacketRx (pkt : Pkt)
  /-- FRAME_COMPLETE_RX (R149). -/
  | frameCompleteRx (port : Nat) (pkt : Pkt)
  /-- HEAD_PICK_RX (R431). -/
  | headPickRx (pkt : Pkt)
  /-- PICK_WAIT_EXPIRE (R432). -/
  | pickWaitExpire
  /-- GUST (R203). -/
  | gust
  /-- ENGINE_LULL (R202). -/
  | engineLull (engine : Nat)
  /-- TASK_COMPLETE (R186). -/
  | taskComplete (engine : Nat)
  /-- ENGINE_OVERRUN (R206). -/
  | engineOverrun (engine : Nat)
  /-- P_DATA_WRITTEN (R171). -/
  | pDataWritten
  /-- COEF_COPY_COMPLETE (R236). -/
  | coefCopyComplete
  /-- SLOT_CLEAR_COMPLETE (R247). -/
  | slotClearComplete
  /-- COEF_BLOCK_RELOAD (R30). -/
  | coefBlockReload (block : Nat) (ok : Bool)
  /-- MEMORY_SCRUB (R31). -/
  | memoryScrub (memory : Nat) (single double : List Nat)
  /-- WB_DATA_RX (R175). -/
  | wbDataRx (pkt : Pkt)
  /-- SUB_UPDATE_START (R253). -/
  | subUpdateStart
  /-- LOAD_START (R254). -/
  | loadStart
  /-- PROBE_STARVED_TIMER (R262). -/
  | probeStarvedTimer
  /-- LANE_TRAIN_DONE (R281). -/
  | laneTrainDone (lane : Nat)
  /-- LANE_REPLY_RX (R300). -/
  | laneReplyRx (group : Nat) (reply : List Byte)
  /-- LANE_REPLY_TIMEOUT (R300). -/
  | laneReplyTimeout (group : Nat)
  /-- LANE_RETRY_TIMER (R281). -/
  | laneRetryTimer (lane : Nat)
  /-- OFFER_SEND (R325). -/
  | offerSend (port : Nat)
  /-- OFFER_RX (R327). -/
  | offerRx (port : Nat) (offer : List Byte)
  /-- SILENT_BURST (R337). -/
  | silentBurst (port : Nat)
  /-- TRAINING_WORD_RX (R330). -/
  | trainingWordRx (port lane control status : Nat) (rx : RxFinding)
  /-- TRAIN_STAGE_TIMEOUT (R334). -/
  | trainStageTimeout (port : Nat)
  /-- SIGNAL_LOSS (R335). -/
  | signalLoss (port : Nat)
  /-- LANE0_LOCK_LOSS (R336). -/
  | lane0LockLoss (port : Nat)
  /-- ALIGN_CHECK (R339). -/
  | alignCheck (port corrected uncorrectable badSync : Nat) (skews : List (Option Nat))
  /-- FEC_WINDOW (R340). -/
  | fecWindow (port corrected uncorrectable burst : Nat)
  /-- ADAPT_TRIGGER (R343). -/
  | adaptTrigger (port : Nat)
  /-- ADAPT_RESULT (R344). -/
  | adaptResult (port : Nat) (windows : List AdaptWindow)
  /-- RATE_STEP (R348). -/
  | rateStep (port : Nat)
  /-- PACKET_RX (R371). -/
  | packetRx (port : Nat) (bytes : List Byte)
  /-- LINK_PACKET_RX (R366). -/
  | linkPacketRx (port : Nat) (pkt : Pkt)
  /-- LINK_SEND (R365). -/
  | linkSend (port : Nat)
  /-- EGRESS_SELECT (R369). -/
  | egressSelect (port : Nat)
  /-- REPLAY_TIMEOUT (R372). -/
  | replayTimeout (port : Nat)
  /-- NAK_REPEAT (R371). -/
  | nakRepeat (port : Nat)
  /-- LINK_EVENT_RX (R375). -/
  | linkEventRx (pkt : Pkt)
  /-- DISCOVERY_START (R377). -/
  | discoveryStart
  /-- DISC_QUERY_RX (R376). -/
  | discQueryRx (port : Nat) (pkt : Pkt)
  /-- DISC_REPLY_RX (R377). -/
  | discReplyRx (port : Nat) (pkt : Pkt)
  /-- DISC_QUERY_TIMEOUT (R377). -/
  | discQueryTimeout (tag : Nat)
  /-- DISC_ASSIGN_RX (R379). -/
  | discAssignRx (port : Nat) (pkt : Pkt)
  /-- BULK_DATA_RX (R389). -/
  | bulkDataRx (port : Nat) (pkt : Pkt)
  /-- ROUTE_SET_RX (R390). -/
  | routeSetRx (pkt : Pkt)
  /-- NO_ROUTE_RX (R399). -/
  | noRouteRx (pkt : Pkt)
  /-- FENCE_RX (R397). -/
  | fenceRx (pkt : Pkt)
  /-- FENCE_DONE_RX (R397). -/
  | fenceDoneRx (pkt : Pkt)
  /-- FENCE_TIMEOUT (R397). -/
  | fenceTimeout (fence : Nat)
  /-- MBX_CMD_RX (R399). -/
  | mbxCmdRx (pkt : Pkt) (data : List Byte)
  /-- MBX_RSP_RX (R400). -/
  | mbxRspRx (pkt : Pkt)
  /-- RELAY_TIMEOUT (R399). -/
  | relayTimeout (tag : Nat)
  /-- SCHEDULED_ACTIVATION (R401). -/
  | scheduledActivation
  /-- FENCED_COMMAND_START (R460). -/
  | fencedCommandStart
  /-- UDP_DATAGRAM_RX (R457). -/
  | udpDatagramRx (ip sport : Nat) (bytes : List Byte)
  /-- SESSION_LAPSE (R467). -/
  | sessionLapse (session : Nat)
  /-- COMMIT_PREPARE_RX (R140). -/
  | commitPrepareRx (pkt : Pkt)
  /-- COMMIT_VOTE_RX (R137). -/
  | commitVoteRx (pkt : Pkt)
  /-- COMMIT_SEAL_RX (R141). -/
  | commitSealRx (pkt : Pkt)
  /-- COMMIT_ABANDON_RX (R141). -/
  | commitAbandonRx (pkt : Pkt)
  /-- VOTE_TIMEOUT (R139). -/
  | voteTimeout
  /-- PREPARED_SET_EXPIRE (R145). -/
  | preparedSetExpire
  /-- LEASE_RENEW_SEND (R406). -/
  | leaseRenewSend
  /-- LEASE_RENEW_RX (R408). -/
  | leaseRenewRx (port : Nat) (pkt : Pkt)
  /-- LEASE_ACK_RX (R407). -/
  | leaseAckRx (pkt : Pkt)
  /-- LEASE_YIELD_RX (R419). -/
  | leaseYieldRx (pkt : Pkt)
  /-- LEASE_END (R409). -/
  | leaseEnd
  /-- LEASE_SILENCE (R410). -/
  | leaseSilence
  /-- GUARD_END (R410). -/
  | guardEnd
  /-- CANDIDATE_TIMEOUT (R410). -/
  | candidateTimeout
  /-- RENEW_MISSED (R406). -/
  | renewMissed
  /-- HEAD_CLAIM_RX (R425). -/
  | headClaimRx (port : Nat) (pkt : Pkt)
  /-- PAIR_STANDDOWN (R440). -/
  | pairStanddown
  /-- RESILVER_RX (R443). -/
  | resilverRx (pkt : Pkt)
  /-- RESILVER_PASS_DONE (R442). -/
  | resilverPassDone
  /-- THERMAL_SAMPLE (R521). -/
  | thermalSample (cls index : Nat) (sample : Option Int)
  /-- CAL_RUN_START (R535). -/
  | calRunStart
  /-- CAL_RUN_DONE (R534). -/
  | calRunDone (outcome : CalOutcome)
  /-- FIRMWARE_RESTART (R560). -/
  | firmwareRestart (parsed : Bool)
  /-- FIRMWARE_RESTART_TIMEOUT (R561). -/
  | firmwareRestartTimeout
  /-- FALLBACK_REQ_REPEAT (R571). -/
  | fallbackReqRepeat
  /-- SPREAD_POLL (R557). -/
  | spreadPoll
  /-- SPREAD_TIMEOUT (R557). -/
  | spreadTimeout
  /-- TEST_RUN_START (R576). -/
  | testRunStart
  /-- TEST_CHUNK_DONE (R586). -/
  | testChunkDone (isLoop : Bool) (item : TestItem) (chunk : Chunk)
  /-- JTAG_INSTRUCTION (R590). -/
  | jtagInstruction (instr : Jtag)
  /-- DEBUG_RESPONSE (R591). -/
  | debugResponse (signature : List Byte) (resetToo : Bool)
  /-- PCIE_LINK_DOWN (R469). -/
  | pcieLinkDown
  /-- CXL_LINK_DOWN (R88). -/
  | cxlLinkDown (link : Nat) (deviceError : Bool)
  /-- FLASH_WRITE_COMPLETE (R238). -/
  | flashWriteComplete
  /-- RESYNC_BLOCK_RX (R358). -/
  | resyncBlockRx (block : PortBlock)
  deriving DecidableEq, Repr

end Sys2Proof
end

