-- ==== Sys2Proof/Machine/Bits.lean ====
section
/-! DEFINITION. The plainest arithmetic of the spec: little-endian byte order (R9), bit ranges (R10), rounding (R211),
signed readings of a field, and the sparse stores (lists of key and value in one canonical form). -/

namespace Sys2Proof

/-- The `n` bytes of a value, least significant first (R9). -/
def leBytes : (n : Nat) → (v : Nat) → List Byte
  | 0, _ => []
  | n + 1, v => byte v :: leBytes n (v / 256)

/-- The value that bytes hold, least significant first (R9). -/
def leVal : List Byte → Nat
  | [] => 0
  | b :: bs => b.toNat + 256 * leVal bs

/-- Bits `[hi:lo]` of a value (R10). -/
def bits (v hi lo : Nat) : Nat := v / 2 ^ lo % 2 ^ (hi + 1 - lo)

/-- Bit `i` of a value. -/
def bit (v i : Nat) : Bool := v / 2 ^ i % 2 == 1

/-- A value with bit `i` set to `b`. -/
def setBit (v i : Nat) (b : Bool) : Nat :=
  if bit v i then (if b then v else v - 2 ^ i) else (if b then v + 2 ^ i else v)

/-- 1 for true and 0 for false, the way a register shows a flag. -/
def b2n (b : Bool) : Nat := if b then 1 else 0

/-- A `w`-bit field read as a signed number. -/
def toInt (w v : Nat) : Int := if v % 2 ^ w < 2 ^ (w - 1) then (v % 2 ^ w : Nat) else (v % 2 ^ w : Nat) - (2 ^ w : Nat)

/-- A signed number as a `w`-bit field. -/
def ofInt (w : Nat) (x : Int) : Nat := (x % (2 ^ w : Nat)).toNat

/-- The smallest whole number not below `a / b`. -/
def ceilDiv (a b : Nat) : Nat := (a + b - 1) / b

/-- `x` held within `lo` and `hi`. -/
def clampN (lo hi x : Nat) : Nat := max lo (min hi x)

/-- `x` held within `lo` and `hi`, as a natural number. -/
def clampI (lo hi : Nat) (x : Int) : Nat := if x < lo then lo else if (hi : Int) < x then hi else x.toNat

/-- A right shift of a signed value, rounding toward minus infinity (R211). -/
def shr (x : Int) (n : Nat) : Int := x.fdiv (2 ^ n : Nat)

/-- The entry `i` of a list, or `d` past its end. -/
def nth {α : Type} (l : List α) (i : Nat) (d : α) : α := l.getD i d

/-- The list with entry `i` replaced by `f` of it. -/
def updAt {α : Type} (l : List α) (i : Nat) (f : α → α) : List α :=
  match l, i with
  | [], _ => []
  | a :: r, 0 => f a :: r
  | a :: r, n + 1 => a :: updAt r n f

/-! ### Sparse stores

A store is a list of (key, value) in strictly rising keys, with no entry equal to what an unlisted key reads as, so that
equal contents are equal lists. -/

/-- What the list gives for a key, if it lists it. -/
def assoc {α : Type} : List (Nat × α) → Nat → Option α
  | [], _ => none
  | (k, v) :: r, key => if k = key then some v else assoc r key

/-- The list with the key's entry set, keys strictly rising. -/
def assocPut {α : Type} : List (Nat × α) → Nat → α → List (Nat × α)
  | [], key, v => [(key, v)]
  | (k, w) :: r, key, v =>
    if key < k then (key, v) :: (k, w) :: r
    else if key = k then (key, v) :: r
    else (k, w) :: assocPut r key v

/-- The list without any entry of the key. -/
def assocDel {α : Type} : List (Nat × α) → Nat → List (Nat × α)
  | [], _ => []
  | (k, w) :: r, key => if k = key then assocDel r key else (k, w) :: assocDel r key

/-- The value of a key in a store whose unlisted keys read as `d`. -/
def sget {α : Type} (d : α) (l : List (Nat × α)) (key : Nat) : α := (assoc l key).getD d

/-- The store with a key set; setting it to what an unlisted key reads as removes the entry. -/
def sput {α : Type} [DecidableEq α] (d : α) (l : List (Nat × α)) (key : Nat) (v : α) : List (Nat × α) :=
  if v = d then assocDel l key else assocPut l key v

/-- Keys strictly rising, all above `lo` (a bound one below the first admissible key is `none`). -/
def rising {α : Type} : Option Nat → List (Nat × α) → Bool
  | _, [] => true
  | lo, (k, _) :: r => (match lo with | none => true | some b => decide (b < k)) && rising (some k) r

/-- The canonical form of a store whose unlisted keys read as `d`. -/
def swf {α : Type} [DecidableEq α] (d : α) (l : List (Nat × α)) : Bool :=
  rising none l && l.all (fun e => decide (e.2 ≠ d))

end Sys2Proof
end

