-- ==== Sys2Proof/Machine/Fields.lean ====
section
/-! DEFINITION. The register fields of BAR0: one name for every field that the register tables of the spec give the node
(Tables 0.6, 0.7, 1.7, 1.8, 1.10, 2.1 to 2.13, 3.2 to 3.13, 4.3, 4.4, 4.10, 5.7 to 5.10, 6.8, 6.9, 7.3 to 7.7, 8.8, 8.9,
9.13 to 9.15, 10.12, 10.13, 11.11, 12.17, 12.18, 13.5, 13.11, 14.8, 15.8, 15.9, 16.5, 17.9 and 17.10), and for each its
place, its access code (R11) and its reset value. Reserved fields read as 0 (R14) and have no name. -/

namespace Sys2Proof.Machine

/-- The access codes of Table 0.5 (R11) that the register tables use. -/
inductive Access where
  | ro | rw | rw1c | wo | rws | aon
  deriving DecidableEq, Repr

/-- Every field of the register tables that is not reserved; a field of an array of registers takes an index beside its name. -/
inductive FName where
  | sysPart | sysSteppingMajor | sysSteppingMinor | sysRoleActive | sysRoleStrap | clkGood310 | clkGood3932
  | sysPseAwake | sysPstate | ftNs | ftFrac | ftIncrInt | ftIncrFrac | ftAnchorFt | ftAnchorFrame | ftPeriodNum
  | ftPeriodDen | ftFrame | ftNextBoundary | ftGenlockRatio | ftGenlockInput | ftHops | ftSource | ftRefDisagree
  | ftStampRange | ftStepDone | ftTimeLost | ftHoldoverEntered | ftRefLost | ftParentChanged | ftAlign | ftParentPort
  | ftIsRoot | ftLockState | ftOffset | ftAltOffset | ftTakeoverAllow | ftHoldLimit | ftRefDiff | ftPortDelay
  | ftPortTrim | dprLinkUp | dprLinkRate | dprLanes | dprVideoValid | dprLost | dprDpDrop | dprUnsupported
  | dprSkipCount | dprVActive | dprHActive | dprColorimetry | dprFormat | dprDpHold | cxlHoldLimit | cxlInterleave
  | cxlSplit | cxlTableBad | cxlPoisonRead | cxlDevError | cxlLinkUp | cxlWindow | cxlPinLogCsa | cxlPinRefusals
  | cxlPreemptions | ingEnable | ingKind | ingDpPort | ingGroup | ingFeedMask | ingFormat | ingHeight | ingWidth
  | ingFraddr | ingRepeat | ingLateCommit | ingPoison | ingMarkerWithheld | ingSending | ingStreamMargin | layVEnable
  | layVPolicy | layVStream | layVAlpha | layVFeedMask | layVHoldMax | layVSrcY | layVSrcX | layVSrcH | layVSrcW
  | layVFullH | layVFullW | layVDstX | layVDstY | layVDstH | layVDstW | layVUnderrunSlice | layVDecim
  | layVScaleDegraded | layVUnderrun | layVHeld | layVReady | layVUnits | layGEnable | layGFormat | layGBuffer
  | layGAlpha | layGFeedMask | layGY | layGX | layGH | layGW | layPEnable | layPAlpha | layPFeedMask | layPKeyFails
  | layPKeyLocked | layPKeySet | layWinX | layWinY | layWinH | layWinW | layBg | layGuard | laySealLost | layLateCommit
  | layPrepared | layPending | layFreeUnits | layLastId | layLastFrame | layWbOn | layWbFeed | layWbScale | layWbDiv
  | layWbDest | layWbDrops | layFrostReport | layFrostOn | layFrostFrames | layFrozen | laySignature | clvW3 | clvW2
  | clvW1 | clvGustMin | clvLullDelay | clvGustWait | clvPlanning | clvGrantsFree | clvAwake | clvReady1 | clvReady0
  | clvReady3 | clvReady2 | clvSquashes | clvCancels | clvPlanLast | clvPlanMax | clvTraceOn | clvStopWhenFull
  | clvTraceVc3 | clvClassMask | clvSizeKib | clvWritten | clvLost | clvTraceDest | pseFault | pseInService | pseBusy
  | colPProfile | colGProfile | colEmitters4 | colDitherOn | colDerateOn | colSprofEn | colSprofLo | colSprofHi
  | colGainE1 | colGainE0 | colGainE3 | colGainE2 | colDslew | colReloadFail | colFileBad | colUnknownCode
  | colMapValid | colTablesValid | colDirty | colStageUsed | colClamps | colZfE3 | colZfE2 | colZfE1 | colZfE0 | scnFf
  | scnSegLog2 | scnSubLog2 | scnBlank | scnMux | scnGdivM1 | scnScanDelay | scnFront | scnProbeStarved | scnWindowSlip
  | scnComposeMiss | scnTSub | scnTLoad | scnSlotLamps | scnRefresh | scnLaneCpd | scnLaneDrivers | scnLaneBase
  | scnGclkTrim | scnFeedEnable | scnFeedConfine | scnFeedOffset | scnFeedPitch | winEnable | winExclusive | winGlCheck
  | winGlInput | winFeedMask | winDivM1 | winPhase | winOffset | winLength | winGlExpect | genEnable | genFalling
  | genFilter | genGlitch | genMissed | genPresent | genStamp | genPeriod | genPhase | genStampHalf | genEdges
  | genMisses | shuEnable | shuActiveLow | shuPulse | shuStandby | shuWindow | shuLead | shuWidth | llShortTh
  | llOpenTh | llEpoch | llClaim | llCurrent | llGen | llCurmap | laneState | lanePortB | laneTempDrv | laneFound
  | laneErrors | dgnDiagOn | dgnProbeOn | dgnEventOverflow | dgnProbeBlocked | dgnNewFault | dgnOk | dgnOpen | dgnShort
  | dgnUnmeasured | dgnRoundUs | dgnProbes | dgnValid | dgnStatus | dgnLamp | fabEnable | fabRestart | fabRatePolicy
  | fabLoopAllow | fabLoop | fabLanesAllowed | fabMaxRate | fabInitPresetPam4 | fabInitPresetNrz | fabState | fabRate
  | fabLanesUp | fabAttempts | fabLaneExcluded | fabLoopRefused | fabLoopedCable | fabRateShort | fabFecDegrade
  | fabCalDeferred | fabFallback | fabTrainTimeout | fabSilentEntered | fabUnplugged | fabBackoff | fabRetrains
  | fabFecCorrected | fabFecUncorrectable | fabCalDeferrals | fabNeed | fabLaneMain | fabLanePost | fabLanePre
  | fabLaneDfe1 | fabLaneCtle | fabLaneEyeWidth | fabLaneEyeHeight | netPreferred | netNodeId | netMaster
  | netRouteEpoch | netMasterId | netFenceTimeout | netRouteCrc | netRouteLate | netWallLimit | netIdChanged
  | netLocalDrop | netNoRoute | netTtlDrop | netAssigned | netBoundary | netDateline | netMember | netRing
  | netPosition | netDir1Port | netDir0Port | netSlackA | netSlackB | fabCrcErrors | fabHdrErrors | fabReplays
  | fabTtlDrops | fabNoRoute | fabDroppedDown | fabLocalDrops | fabAckRx | fabCreditError | fabRetryFail | fabCredit1
  | fabCredit0 | redLeaseMode | redClaimMode | redPairOn | redPairSide | redClaimHold | redDwell | redLeaseUs
  | redRenewUs | redGuardUs | redPickWaitUs | redState | redHolder | redTwinSeen | redMirrorComplete | redTookOver
  | redYielded | redDegradedTakeover | redPickMissing | redCopyMismatch | redMirrorDiverged | redClaimRejected
  | redRenewMissed | redPairStanddown | redObeyed | redHealth | redTwinHealth | redStanddownMask | redControlHead
  | redTwin | redTerm | redEpoch | redClaim | redTwinClaim | redSelect | redTakeovers | redRenewsMissed
  | redLastTakeover | redResilverLeft | redResilverLost | redPasses | pcieAerUncorrectable | pcieAerCorrectable
  | pcieLinkUp | pcieWidth | pcieSpeed | mbxDoorbell | mbxBusy | mbxDone | mbxEvents | mbxEventEn | mbxSessions
  | mbxQueued | mbxBarNarrow | mbxSessionLapsed | mbxRingFull | mbxDoorbellBusy | mbxBarLocked | mbxCqEnable
  | mbxCqSize | mbxCqBase | mbxCqTail | mbxCqHead | aonBootStep | aonAlter | aonRepeats | aonReason | aonFailStep
  | aonResetCount | aonPrevCause | aonLastCause | aonInterrupted | aonTerm | aonEpoch | aonScratch | rstCause | rstNode
  | rstWarm | rstKey | rstBlock | rstPending | rstClkfail310 | rstClkfail3932 | rstRetry | rstDenied | rstAonLost
  | rstSettingsDefault | rstRomRecovery | rstTrimBad | rstOtpCopy | rstTrimsValid | rstWdEn | rstWdMs | rstAutoShow
  | thmTscaleDerate | thmTscaleThrottle | thmNodeLevel | thmDieLevel | thmCalDone | thmCalDeferred | thmShutdownHold
  | thmNoBoard | thmDieBlind | thmSensorBack | thmSensorBad | thmLevelDown | thmLevelUp | thmLevelEvents
  | thmLevelEnable | thmLevelSet | thmDieState | thmDieTemp | thmZoneState | thmZoneTemp | thmNeigh | calDrift
  | calDeferred | calDeferrals | calQueued | calRefComp | aonFwuTrialXfer | aonFwuFallbackSent | aonFwuActRecord
  | aonFwuTrial | aonFwuTrialBank | fwuStateA | fwuStateB | fwuRunning | fwuTrial | fwuFallbackDone
  | fwuSettingsIncompatible | fwuTrialFailed | fwuSpreadFail | fwuBlockFailed | fwuVersionRefused | fwuFloorPending
  | fwuFloorTarget | fwuFloor | fwuSecA | fwuSecB | fwuXferId | fwuBlocksDone | fwuSettingsMin | fwuSettingsFormat
  | fwuSpreadLimit | fwuRevertDelay | fwuRestartUs | fwuBlockRetries | tstDebugFused | tstDebugUnlocked
  | tstDebugRefusing | tstBscan | tstFrostMismatch | tstTestFail | tstTestDone | tstRunning | tstQueued | tstMemBad
  | tstExpect | tstCheckOn | tstMismatches | sysTestEn | sysPwrFail | sysPwrGood | sysVbakOk | sysVdd33Ok | sysVddllOk
  | sysAvdd12Ok | sysAvdd085Ok | sysVdd33Low | sysVddllLow | sysAvdd12Low | sysAvdd085Low
  deriving DecidableEq, Repr, Inhabited

/-- Where a field lies and how it behaves: `base` and `stride` give the byte offset of its word in BAR0 (index `i` of an
array of `cnt` registers of `inner` entries each lies at `base + stride * (i / inner) + istride * (i % inner)`), `hi` and `lo`
its bits there (bits above 31 lie in the following word), `rst` its reset value, and `wraps` marks a counter that the tables call wrapping. -/
structure FDesc where
  base : Nat
  stride : Nat
  cnt : Nat
  istride : Nat
  inner : Nat
  hi : Nat
  lo : Nat
  acc : Access
  rst : Nat
  wraps : Bool
  deriving DecidableEq, Repr

/-- A single register. -/
def FDesc.one (base hi lo : Nat) (acc : Access) (rst : Nat) (wraps : Bool := false) : FDesc :=
  ⟨base, 0, 1, 0, 1, hi, lo, acc, rst, wraps⟩

/-- An array of registers. -/
def FDesc.arr (base stride cnt hi lo : Nat) (acc : Access) (rst : Nat) (wraps : Bool := false) : FDesc :=
  ⟨base, stride, cnt, 0, 1, hi, lo, acc, rst, wraps⟩

/-- An array of registers with an inner array in each. -/
def FDesc.arr2 (base stride cnt istride inner hi lo : Nat) (acc : Access) (rst : Nat) (wraps : Bool := false) : FDesc :=
  ⟨base, stride, cnt, istride, inner, hi, lo, acc, rst, wraps⟩

/-- The register tables: the description of every field. -/
def FName.desc : FName → FDesc
  -- Table 0.6
  | .sysPart => .one 0x0 31 16 .ro 3478
  | .sysSteppingMajor => .one 0x0 15 8 .ro 11
  | .sysSteppingMinor => .one 0x0 7 0 .ro 1
  -- Table 0.7
  | .sysRoleActive => .one 0x4 2 2 .ro 0
  | .sysRoleStrap => .one 0x4 1 0 .ro 0
  -- Table 1.7
  | .clkGood310 => .one 0x10 31 0 .ro 3
  -- Table 1.8
  | .clkGood3932 => .one 0x14 7 0 .ro 0
  -- Table 1.10
  | .sysPseAwake => .one 0x8 15 8 .ro 0
  | .sysPstate => .one 0x8 2 0 .ro 2
  -- Table 2.1
  | .ftNs => .one 0x400 63 0 .ro 0
  -- Table 2.2
  | .ftFrac => .one 0x408 31 16 .ro 0
  -- Table 2.3
  | .ftIncrInt => .one 0x410 39 32 .ro 4
  | .ftIncrFrac => .one 0x410 31 0 .ro 0
  -- Table 2.8
  | .ftAnchorFt => .one 0x420 63 0 .rws 0
  | .ftAnchorFrame => .one 0x428 47 0 .rws 0
  | .ftPeriodNum => .one 0x430 47 0 .rws 50000000
  | .ftPeriodDen => .one 0x438 15 0 .rws 3
  | .ftFrame => .one 0x440 47 0 .ro 0
  | .ftNextBoundary => .one 0x448 63 0 .ro 0
  -- Table 2.11
  | .ftGenlockRatio => .one 0x450 25 20 .ro 1
  | .ftGenlockInput => .one 0x450 19 18 .ro 0
  | .ftHops => .one 0x450 15 8 .ro 255
  | .ftSource => .one 0x450 2 0 .ro 0
  -- Table 2.12
  | .ftRefDisagree => .one 0x454 15 15 .rw1c 0
  | .ftStampRange => .one 0x454 14 14 .rw1c 0
  | .ftStepDone => .one 0x454 13 13 .rw1c 0
  | .ftTimeLost => .one 0x454 12 12 .rw1c 0
  | .ftHoldoverEntered => .one 0x454 11 11 .rw1c 0
  | .ftRefLost => .one 0x454 10 10 .rw1c 0
  | .ftParentChanged => .one 0x454 9 9 .rw1c 0
  | .ftAlign => .one 0x454 8 8 .ro 0
  | .ftParentPort => .one 0x454 5 4 .ro 0
  | .ftIsRoot => .one 0x454 3 3 .ro 0
  | .ftLockState => .one 0x454 2 0 .ro 0
  -- Table 2.13
  | .ftOffset => .one 0x458 31 0 .ro 0
  | .ftAltOffset => .one 0x45c 31 0 .ro 0
  | .ftTakeoverAllow => .one 0x460 31 16 .ro 0
  | .ftHoldLimit => .one 0x460 15 0 .rw 100
  | .ftRefDiff => .one 0x464 31 0 .ro 0
  | .ftPortDelay => .arr 0x470 0x4 4 31 0 .ro 0
  | .ftPortTrim => .arr 0x480 0x4 4 15 0 .rw 0
  -- Table 3.2
  | .dprLinkUp => .arr 0xc00 0x40 4 31 31 .ro 0
  | .dprLinkRate => .arr 0xc00 0x40 4 30 28 .ro 0
  | .dprLanes => .arr 0xc00 0x40 4 27 26 .ro 0
  | .dprVideoValid => .arr 0xc00 0x40 4 25 25 .ro 0
  | .dprLost => .arr 0xc00 0x40 4 24 24 .rw1c 0
  | .dprDpDrop => .arr 0xc00 0x40 4 23 23 .rw1c 0
  | .dprUnsupported => .arr 0xc00 0x40 4 22 22 .rw1c 0
  | .dprSkipCount => .arr 0xc00 0x40 4 15 0 .ro 0 true
  -- Table 3.3
  | .dprVActive => .arr 0xc04 0x40 4 31 16 .ro 0
  | .dprHActive => .arr 0xc04 0x40 4 15 0 .ro 0
  | .dprColorimetry => .arr 0xc08 0x40 4 15 8 .ro 0
  | .dprFormat => .arr 0xc08 0x40 4 7 0 .ro 0
  | .dprDpHold => .arr 0xc0c 0x40 4 15 0 .rw 100
  -- Table 3.11
  | .cxlHoldLimit => .one 0xb00 23 16 .rw 64
  | .cxlInterleave => .one 0xb00 1 1 .ro 0
  | .cxlSplit => .one 0xb00 0 0 .ro 0
  | .cxlTableBad => .one 0xb04 11 11 .rw1c 0
  | .cxlPoisonRead => .one 0xb04 10 10 .rw1c 0
  | .cxlDevError => .one 0xb04 9 8 .rw1c 0
  | .cxlLinkUp => .one 0xb04 1 0 .ro 0
  | .cxlWindow => .one 0xb08 8 0 .rw 0
  | .cxlPinLogCsa => .one 0xb10 40 0 .ro 0
  | .cxlPinRefusals => .one 0xb18 31 0 .ro 0 true
  | .cxlPreemptions => .one 0xb1c 31 0 .ro 0 true
  -- Table 3.12
  | .ingEnable => .arr 0x800 0x20 16 31 31 .rws 0
  | .ingKind => .arr 0x800 0x20 16 30 28 .rws 0
  | .ingDpPort => .arr 0x800 0x20 16 27 26 .rws 0
  | .ingGroup => .arr 0x800 0x20 16 23 16 .rws 0
  | .ingFeedMask => .arr 0x800 0x20 16 15 8 .rws 1
  | .ingFormat => .arr 0x800 0x20 16 7 0 .rws 3
  -- Table 3.13
  | .ingHeight => .arr 0x804 0x20 16 31 16 .rws 2160
  | .ingWidth => .arr 0x804 0x20 16 15 0 .rws 3840
  | .ingFraddr => .arr 0x808 0x20 16 40 0 .rw 0
  | .ingRepeat => .arr 0x810 0x20 16 4 4 .ro 0
  | .ingLateCommit => .arr 0x810 0x20 16 3 3 .rw1c 0
  | .ingPoison => .arr 0x810 0x20 16 2 2 .rw1c 0
  | .ingMarkerWithheld => .arr 0x810 0x20 16 1 1 .rw1c 0
  | .ingSending => .arr 0x810 0x20 16 0 0 .ro 0
  | .ingStreamMargin => .one 0xa00 15 0 .rw 20
  -- Table 4.3
  | .layVEnable => .arr 0x1000 0x40 4 31 31 .rws 0
  | .layVPolicy => .arr 0x1000 0x40 4 30 30 .rws 0
  | .layVStream => .arr 0x1000 0x40 4 27 24 .rws 0
  | .layVAlpha => .arr 0x1000 0x40 4 23 16 .rws 255
  | .layVFeedMask => .arr 0x1000 0x40 4 15 8 .rws 1
  | .layVHoldMax => .arr 0x1000 0x40 4 7 0 .rws 8
  | .layVSrcY => .arr 0x1004 0x40 4 31 16 .rws 0
  | .layVSrcX => .arr 0x1004 0x40 4 15 0 .rws 0
  | .layVSrcH => .arr 0x1008 0x40 4 31 16 .rws 2160
  | .layVSrcW => .arr 0x1008 0x40 4 15 0 .rws 3840
  | .layVFullH => .arr 0x100c 0x40 4 31 16 .rws 2160
  | .layVFullW => .arr 0x100c 0x40 4 15 0 .rws 3840
  | .layVDstX => .arr 0x1010 0x40 4 31 0 .rws 0
  | .layVDstY => .arr 0x1014 0x40 4 31 0 .rws 0
  | .layVDstH => .arr 0x1018 0x40 4 31 16 .rws 2160
  | .layVDstW => .arr 0x1018 0x40 4 15 0 .rws 3840
  | .layVUnderrunSlice => .arr 0x1020 0x40 4 31 16 .ro 0
  | .layVDecim => .arr 0x1020 0x40 4 7 4 .ro 1
  | .layVScaleDegraded => .arr 0x1020 0x40 4 3 3 .ro 0
  | .layVUnderrun => .arr 0x1020 0x40 4 2 2 .rw1c 0
  | .layVHeld => .arr 0x1020 0x40 4 1 1 .ro 0
  | .layVReady => .arr 0x1020 0x40 4 0 0 .ro 0
  | .layVUnits => .arr 0x1024 0x40 4 15 0 .ro 0
  | .layGEnable => .arr 0x1100 0x40 4 31 31 .rws 0
  | .layGFormat => .arr 0x1100 0x40 4 30 30 .rws 0
  | .layGBuffer => .arr 0x1100 0x40 4 29 29 .rws 0
  | .layGAlpha => .arr 0x1100 0x40 4 23 16 .rws 255
  | .layGFeedMask => .arr 0x1100 0x40 4 15 8 .rws 1
  | .layGY => .arr 0x1104 0x40 4 31 16 .rws 0
  | .layGX => .arr 0x1104 0x40 4 15 0 .rws 0
  | .layGH => .arr 0x1108 0x40 4 31 16 .rws 0
  | .layGW => .arr 0x1108 0x40 4 15 0 .rws 0
  | .layPEnable => .one 0x1200 31 31 .rws 0
  | .layPAlpha => .one 0x1200 23 16 .rws 255
  | .layPFeedMask => .one 0x1200 15 8 .rws 255
  | .layPKeyFails => .one 0x1220 7 4 .ro 0
  | .layPKeyLocked => .one 0x1220 3 3 .ro 0
  | .layPKeySet => .one 0x1220 2 2 .ro 0
  -- Table 4.4
  | .layWinX => .one 0x1300 31 0 .rws 0
  | .layWinY => .one 0x1304 31 0 .rws 0
  | .layWinH => .one 0x1308 31 16 .rws 0
  | .layWinW => .one 0x1308 15 0 .rws 0
  | .layBg => .one 0x130c 29 0 .rws 0
  | .layGuard => .one 0x1310 15 0 .rws 64
  | .laySealLost => .one 0x1314 7 7 .rw1c 0
  | .layLateCommit => .one 0x1314 6 6 .rw1c 0
  | .layPrepared => .one 0x1314 5 5 .ro 0
  | .layPending => .one 0x1314 2 0 .ro 0
  | .layFreeUnits => .one 0x1318 15 0 .ro 24576
  | .layLastId => .one 0x1320 63 48 .ro 0
  | .layLastFrame => .one 0x1320 47 0 .ro 0
  -- Table 4.10
  | .layWbOn => .one 0x1340 31 31 .rw 0
  | .layWbFeed => .one 0x1340 30 28 .rw 0
  | .layWbScale => .one 0x1340 27 26 .rw 2
  | .layWbDiv => .one 0x1340 23 16 .rw 1
  | .layWbDest => .one 0x1340 11 0 .rw 0
  | .layWbDrops => .one 0x1344 31 0 .ro 0 true
  | .layFrostReport => .one 0x1348 9 9 .rw 1
  | .layFrostOn => .one 0x1348 8 8 .rw 1
  | .layFrostFrames => .one 0x1348 7 0 .rw 3
  | .layFrozen => .one 0x134c 7 0 .rw1c 0
  | .laySignature => .arr 0x1380 0x4 8 31 0 .ro 0
  -- Table 5.7
  | .clvW3 => .one 0x1400 31 28 .rw 0
  | .clvW2 => .one 0x1400 27 24 .rw 4
  | .clvW1 => .one 0x1400 23 20 .rw 8
  | .clvGustMin => .one 0x1400 15 8 .rw 12
  | .clvLullDelay => .one 0x1400 7 0 .rw 64
  -- Table 5.8
  | .clvGustWait => .one 0x1404 15 0 .rw 100
  | .clvPlanning => .one 0x1408 31 31 .ro 0
  | .clvGrantsFree => .one 0x1408 20 16 .ro 16
  | .clvAwake => .one 0x1408 11 0 .ro 0
  | .clvReady1 => .one 0x140c 24 16 .ro 0
  | .clvReady0 => .one 0x140c 8 0 .ro 0
  | .clvReady3 => .one 0x1410 24 16 .ro 0
  | .clvReady2 => .one 0x1410 8 0 .ro 0
  | .clvSquashes => .one 0x1414 31 0 .ro 0 true
  | .clvCancels => .one 0x1418 31 0 .ro 0 true
  | .clvPlanLast => .one 0x141c 31 0 .ro 0
  | .clvPlanMax => .one 0x1420 31 0 .ro 0
  | .clvTraceOn => .one 0x1440 31 31 .rw 0
  | .clvStopWhenFull => .one 0x1440 30 30 .rw 0
  | .clvTraceVc3 => .one 0x1440 29 29 .rw 0
  | .clvClassMask => .one 0x1440 7 0 .rw 252
  | .clvSizeKib => .one 0x1444 15 0 .rw 64
  | .clvWritten => .one 0x1448 31 0 .ro 0 true
  | .clvLost => .one 0x144c 31 0 .ro 0 true
  | .clvTraceDest => .one 0x1450 11 0 .rw 0
  -- Table 5.9
  | .pseFault => .one 0x1480 27 16 .rw1c 0
  | .pseInService => .one 0x1480 11 0 .rw 4095
  -- Table 5.10
  | .pseBusy => .arr 0x1490 0x4 12 31 0 .ro 0 true
  -- Table 6.8
  | .colPProfile => .one 0x1600 27 24 .rws 0
  | .colGProfile => .one 0x1600 23 20 .rws 0
  | .colEmitters4 => .one 0x1600 2 2 .rws 1
  | .colDitherOn => .one 0x1600 1 1 .rws 1
  | .colDerateOn => .one 0x1600 0 0 .rws 1
  -- Table 6.9
  | .colSprofEn => .one 0x1604 15 0 .rws 0
  | .colSprofLo => .one 0x1608 31 0 .rws 0
  | .colSprofHi => .one 0x160c 31 0 .rws 0
  | .colGainE1 => .one 0x1610 31 16 .rws 32768
  | .colGainE0 => .one 0x1610 15 0 .rws 32768
  | .colGainE3 => .one 0x1614 31 16 .rws 32768
  | .colGainE2 => .one 0x1614 15 0 .rws 32768
  | .colDslew => .one 0x1618 7 0 .rw 8
  | .colReloadFail => .one 0x161c 5 5 .rw1c 0
  | .colFileBad => .one 0x161c 4 4 .rw1c 0
  | .colUnknownCode => .one 0x161c 3 3 .rw1c 0
  | .colMapValid => .one 0x161c 2 2 .ro 0
  | .colTablesValid => .one 0x161c 1 1 .ro 0
  | .colDirty => .one 0x161c 0 0 .ro 0
  | .colStageUsed => .one 0x1620 18 0 .ro 0
  | .colClamps => .one 0x1624 31 0 .ro 0 true
  | .colZfE3 => .arr 0x1700 0x8 96 63 48 .ro 32768
  | .colZfE2 => .arr 0x1700 0x8 96 47 32 .ro 32768
  | .colZfE1 => .arr 0x1700 0x8 96 31 16 .ro 32768
  | .colZfE0 => .arr 0x1700 0x8 96 15 0 .ro 32768
  -- Table 7.3
  | .scnFf => .one 0x2000 31 31 .rws 0
  | .scnSegLog2 => .one 0x2000 30 28 .rws 4
  | .scnSubLog2 => .one 0x2000 27 26 .rws 0
  | .scnBlank => .one 0x2000 23 16 .rws 8
  | .scnMux => .one 0x2000 14 8 .rws 16
  | .scnGdivM1 => .one 0x2000 3 0 .rws 0
  -- Table 7.4
  | .scnScanDelay => .one 0x2004 31 0 .rws 110000
  | .scnFront => .one 0x2008 31 24 .ro 0
  | .scnProbeStarved => .one 0x2008 19 19 .rw1c 0
  | .scnWindowSlip => .one 0x2008 15 8 .rw1c 0
  | .scnComposeMiss => .one 0x2008 7 0 .rw1c 0
  | .scnTSub => .one 0x200c 31 0 .ro 77824
  | .scnTLoad => .one 0x2010 31 0 .ro 0
  | .scnSlotLamps => .one 0x2014 20 0 .ro 0
  | .scnRefresh => .one 0x2018 31 0 .ro 960
  | .scnLaneCpd => .arr 0x2100 0x8 96 13 8 .rws 48
  | .scnLaneDrivers => .arr 0x2100 0x8 96 4 0 .rws 0
  | .scnLaneBase => .arr 0x2104 0x8 96 20 0 .ro 0
  | .scnGclkTrim => .arr 0x2400 0x4 12 15 0 .rw 0
  | .scnFeedEnable => .arr 0x2440 0x10 8 31 31 .rws 0
  | .scnFeedConfine => .arr 0x2440 0x10 8 30 30 .rws 0
  | .scnFeedOffset => .arr 0x2444 0x10 8 31 0 .rws 0
  | .scnFeedPitch => .arr 0x2448 0x10 8 31 0 .rws 0
  -- Table 7.5
  | .winEnable => .arr 0x2500 0x10 8 31 31 .rws 0
  | .winExclusive => .arr 0x2500 0x10 8 30 30 .rws 1
  | .winGlCheck => .arr 0x2500 0x10 8 29 29 .rws 0
  | .winGlInput => .arr 0x2500 0x10 8 28 27 .rws 0
  | .winFeedMask => .arr 0x2500 0x10 8 15 8 .rws 0
  | .winDivM1 => .arr 0x2500 0x10 8 7 4 .rws 0
  | .winPhase => .arr 0x2500 0x10 8 3 0 .rws 0
  | .winOffset => .arr 0x2504 0x10 8 31 0 .rws 0
  | .winLength => .arr 0x2508 0x10 8 31 0 .rws 0
  | .winGlExpect => .arr 0x250c 0x10 8 31 0 .rws 0
  -- Table 7.6
  | .genEnable => .arr 0x2600 0x20 4 31 31 .rw 0
  | .genFalling => .arr 0x2600 0x20 4 30 30 .rw 0
  | .genFilter => .arr 0x2600 0x20 4 25 16 .rw 100
  | .genGlitch => .arr 0x2600 0x20 4 2 2 .rw1c 0
  | .genMissed => .arr 0x2600 0x20 4 1 1 .rw1c 0
  | .genPresent => .arr 0x2600 0x20 4 0 0 .ro 0
  | .genStamp => .arr 0x2608 0x20 4 63 0 .ro 0
  | .genPeriod => .arr 0x2610 0x20 4 31 0 .ro 0
  | .genPhase => .arr 0x2614 0x20 4 31 0 .ro 0
  | .genStampHalf => .arr 0x2618 0x20 4 31 31 .ro 0
  | .genEdges => .arr 0x2618 0x20 4 30 0 .ro 0 true
  | .genMisses => .arr 0x261c 0x20 4 31 0 .ro 0 true
  -- Table 7.7
  | .shuEnable => .arr 0x2680 0x10 4 31 31 .rw 0
  | .shuActiveLow => .arr 0x2680 0x10 4 30 30 .rw 0
  | .shuPulse => .arr 0x2680 0x10 4 29 29 .rw 0
  | .shuStandby => .arr 0x2680 0x10 4 28 28 .rw 0
  | .shuWindow => .arr 0x2680 0x10 4 2 0 .rw 0
  | .shuLead => .arr 0x2684 0x10 4 31 0 .rw 0
  | .shuWidth => .arr 0x2688 0x10 4 31 0 .rw 1000
  -- Table 8.8
  | .llShortTh => .one 0x2800 15 8 .rw 60
  | .llOpenTh => .one 0x2800 7 0 .rw 20
  -- Table 8.9
  | .llEpoch => .one 0x2808 47 32 .ro 0
  | .llClaim => .one 0x2808 31 0 .ro 0
  | .llCurrent => .one 0x2810 31 0 .rws 2155905152
  | .llGen => .one 0x2814 7 0 .ro 0
  | .llCurmap => .arr 0x2818 0x4 3 31 0 .rw 3840206052
  | .laneState => .arr 0x2900 0x4 96 31 29 .ro 0
  | .lanePortB => .arr 0x2900 0x4 96 28 28 .ro 0
  | .laneTempDrv => .arr 0x2900 0x4 96 27 24 .rw 0
  | .laneFound => .arr 0x2900 0x4 96 20 16 .ro 0
  | .laneErrors => .arr 0x2900 0x4 96 15 0 .ro 0 true
  | .dgnDiagOn => .one 0x2b00 31 31 .rw 1
  | .dgnProbeOn => .one 0x2b00 30 30 .rw 1
  | .dgnEventOverflow => .one 0x2b04 2 2 .rw1c 0
  | .dgnProbeBlocked => .one 0x2b04 1 1 .rw1c 0
  | .dgnNewFault => .one 0x2b04 0 0 .rw1c 0
  | .dgnOk => .one 0x2b08 20 0 .ro 0
  | .dgnOpen => .one 0x2b0c 20 0 .ro 0
  | .dgnShort => .one 0x2b10 20 0 .ro 0
  | .dgnUnmeasured => .one 0x2b14 20 0 .ro 0
  | .dgnRoundUs => .one 0x2b18 31 0 .ro 0
  | .dgnProbes => .one 0x2b1c 31 0 .ro 0 true
  | .dgnValid => .one 0x2b20 31 31 .ro 0
  | .dgnStatus => .one 0x2b20 22 21 .ro 0
  | .dgnLamp => .one 0x2b20 20 0 .ro 0
  -- Table 9.13
  | .fabEnable => .arr 0x3000 0x100 4 31 31 .rw 1
  | .fabRestart => .arr 0x3000 0x100 4 30 30 .wo 0
  | .fabRatePolicy => .arr 0x3000 0x100 4 29 29 .rw 1
  | .fabLoopAllow => .arr 0x3000 0x100 4 28 28 .rw 0
  | .fabLoop => .arr 0x3000 0x100 4 27 26 .rw 0
  | .fabLanesAllowed => .arr 0x3000 0x100 4 23 20 .rw 15
  | .fabMaxRate => .arr 0x3000 0x100 4 17 16 .rw 3
  | .fabInitPresetPam4 => .arr 0x3000 0x100 4 14 12 .rw 3
  | .fabInitPresetNrz => .arr 0x3000 0x100 4 10 8 .rw 2
  -- Table 9.14
  | .fabState => .arr 0x3004 0x100 4 31 29 .ro 1
  | .fabRate => .arr 0x3004 0x100 4 28 27 .ro 0
  | .fabLanesUp => .arr 0x3004 0x100 4 26 23 .ro 0
  | .fabAttempts => .arr 0x3004 0x100 4 22 21 .ro 0
  | .fabLaneExcluded => .arr 0x3004 0x100 4 9 9 .rw1c 0
  | .fabLoopRefused => .arr 0x3004 0x100 4 8 8 .rw1c 0
  | .fabLoopedCable => .arr 0x3004 0x100 4 7 7 .rw1c 0
  | .fabRateShort => .arr 0x3004 0x100 4 6 6 .rw1c 0
  | .fabFecDegrade => .arr 0x3004 0x100 4 5 5 .rw1c 0
  | .fabCalDeferred => .arr 0x3004 0x100 4 4 4 .rw1c 0
  | .fabFallback => .arr 0x3004 0x100 4 3 3 .rw1c 0
  | .fabTrainTimeout => .arr 0x3004 0x100 4 2 2 .rw1c 0
  | .fabSilentEntered => .arr 0x3004 0x100 4 1 1 .rw1c 0
  | .fabUnplugged => .arr 0x3004 0x100 4 0 0 .rw1c 0
  -- Table 9.15
  | .fabBackoff => .arr 0x3008 0x100 4 15 0 .ro 0
  | .fabRetrains => .arr 0x300c 0x100 4 31 0 .ro 0 true
  | .fabFecCorrected => .arr 0x3010 0x100 4 31 0 .ro 0 true
  | .fabFecUncorrectable => .arr 0x3014 0x100 4 31 0 .ro 0 true
  | .fabCalDeferrals => .arr 0x3018 0x100 4 31 0 .ro 0 true
  | .fabNeed => .arr 0x301c 0x100 4 31 0 .ro 0
  | .fabLaneMain => .arr2 0x3040 0x100 4 0x10 4 23 16 .ro 64
  | .fabLanePost => .arr2 0x3040 0x100 4 0x10 4 15 8 .ro 0
  | .fabLanePre => .arr2 0x3040 0x100 4 0x10 4 7 0 .ro 0
  | .fabLaneDfe1 => .arr2 0x3044 0x100 4 0x10 4 15 8 .ro 0
  | .fabLaneCtle => .arr2 0x3044 0x100 4 0x10 4 3 0 .ro 0
  | .fabLaneEyeWidth => .arr2 0x3048 0x100 4 0x10 4 31 16 .ro 0
  | .fabLaneEyeHeight => .arr2 0x3048 0x100 4 0x10 4 15 0 .ro 0
  -- Table 10.12
  | .netPreferred => .one 0x3400 27 16 .rw 0
  | .netNodeId => .one 0x3400 11 0 .ro 0
  | .netMaster => .one 0x3404 31 31 .ro 0
  | .netRouteEpoch => .one 0x3404 23 16 .ro 0
  | .netMasterId => .one 0x3404 11 0 .ro 0
  | .netFenceTimeout => .one 0x3408 8 8 .rw1c 0
  | .netRouteCrc => .one 0x3408 7 7 .rw1c 0
  | .netRouteLate => .one 0x3408 6 6 .rw1c 0
  | .netWallLimit => .one 0x3408 5 5 .rw1c 0
  | .netIdChanged => .one 0x3408 4 4 .rw1c 0
  | .netLocalDrop => .one 0x3408 3 3 .rw1c 0
  | .netNoRoute => .one 0x3408 2 2 .rw1c 0
  | .netTtlDrop => .one 0x3408 1 1 .rw1c 0
  | .netAssigned => .one 0x3408 0 0 .ro 0
  | .netBoundary => .one 0x340c 7 4 .ro 0
  | .netDateline => .one 0x340c 3 0 .ro 0
  | .netMember => .arr 0x3410 0x4 8 31 0 .rw 0
  | .netRing => .one 0x3430 23 16 .ro 255
  | .netPosition => .one 0x3430 15 8 .ro 255
  | .netDir1Port => .one 0x3430 3 2 .ro 0
  | .netDir0Port => .one 0x3430 1 0 .ro 0
  | .netSlackA => .arr 0x3440 0x8 16 31 0 .ro 2147483647
  | .netSlackB => .arr 0x3444 0x8 16 31 0 .ro 2147483647
  -- Table 10.13
  | .fabCrcErrors => .arr 0x3080 0x100 4 31 0 .ro 0 true
  | .fabHdrErrors => .arr 0x3084 0x100 4 31 0 .ro 0 true
  | .fabReplays => .arr 0x3088 0x100 4 31 0 .ro 0 true
  | .fabTtlDrops => .arr 0x308c 0x100 4 31 0 .ro 0 true
  | .fabNoRoute => .arr 0x3090 0x100 4 31 0 .ro 0 true
  | .fabDroppedDown => .arr 0x3094 0x100 4 31 0 .ro 0 true
  | .fabLocalDrops => .arr 0x3098 0x100 4 31 0 .ro 0 true
  | .fabAckRx => .arr 0x309c 0x100 4 14 8 .ro 0
  | .fabCreditError => .arr 0x309c 0x100 4 1 1 .rw1c 0
  | .fabRetryFail => .arr 0x309c 0x100 4 0 0 .rw1c 0
  | .fabCredit1 => .arr2 0x30a0 0x100 4 0x4 4 31 16 .ro 0
  | .fabCredit0 => .arr2 0x30a0 0x100 4 0x4 4 15 0 .ro 0
  -- Table 11.11
  | .redLeaseMode => .one 0x3800 31 31 .rw 0
  | .redClaimMode => .one 0x3800 30 30 .rw 0
  | .redPairOn => .one 0x3800 29 29 .rw 0
  | .redPairSide => .one 0x3800 28 28 .rw 0
  | .redClaimHold => .one 0x3800 23 16 .rw 3
  | .redDwell => .one 0x3800 15 8 .rw 3
  | .redLeaseUs => .one 0x3804 31 16 .rw 4000
  | .redRenewUs => .one 0x3804 15 0 .rw 1000
  | .redGuardUs => .one 0x3808 31 16 .rw 1000
  | .redPickWaitUs => .one 0x3808 15 0 .rw 20
  | .redState => .one 0x380c 31 29 .ro 0
  | .redHolder => .one 0x380c 28 28 .ro 0
  | .redTwinSeen => .one 0x380c 27 27 .ro 0
  | .redMirrorComplete => .one 0x380c 26 26 .ro 0
  | .redTookOver => .one 0x380c 15 15 .rw1c 0
  | .redYielded => .one 0x380c 14 14 .rw1c 0
  | .redDegradedTakeover => .one 0x380c 13 13 .rw1c 0
  | .redPickMissing => .one 0x380c 12 12 .rw1c 0
  | .redCopyMismatch => .one 0x380c 11 11 .rw1c 0
  | .redMirrorDiverged => .one 0x380c 10 10 .rw1c 0
  | .redClaimRejected => .one 0x380c 9 9 .rw1c 0
  | .redRenewMissed => .one 0x380c 8 8 .rw1c 0
  | .redPairStanddown => .one 0x380c 7 7 .rw1c 0
  | .redObeyed => .one 0x380c 1 0 .ro 0
  | .redHealth => .one 0x3810 10 0 .ro 1024
  | .redTwinHealth => .one 0x3814 10 0 .ro 0
  | .redStanddownMask => .one 0x3818 10 0 .rw 2047
  | .redControlHead => .one 0x381c 27 16 .ro 0
  | .redTwin => .one 0x381c 11 0 .ro 0
  | .redTerm => .one 0x3820 31 0 .ro 0
  | .redEpoch => .one 0x3824 31 16 .ro 0
  | .redClaim => .one 0x3828 31 0 .ro 0
  | .redTwinClaim => .one 0x382c 31 0 .ro 0
  | .redSelect => .one 0x3830 63 0 .ro 0
  | .redTakeovers => .one 0x3838 31 0 .ro 0 true
  | .redRenewsMissed => .one 0x383c 31 0 .ro 0 true
  | .redLastTakeover => .one 0x3840 63 0 .ro 0
  | .redResilverLeft => .one 0x3848 31 0 .ro 0
  | .redResilverLost => .one 0x384c 31 0 .ro 0
  | .redPasses => .one 0x3850 31 24 .ro 0
  -- Table 12.17
  | .pcieAerUncorrectable => .one 0x300 7 7 .rw1c 0
  | .pcieAerCorrectable => .one 0x300 6 6 .rw1c 0
  | .pcieLinkUp => .one 0x300 5 5 .ro 0
  | .pcieWidth => .one 0x300 4 3 .ro 0
  | .pcieSpeed => .one 0x300 2 0 .ro 0
  -- Table 12.18
  | .mbxDoorbell => .one 0x4000 31 0 .wo 0
  | .mbxBusy => .one 0x4004 31 0 .ro 0
  | .mbxDone => .one 0x4008 31 0 .rw1c 0
  | .mbxEvents => .one 0x400c 15 0 .rw1c 0
  | .mbxEventEn => .one 0x4010 15 0 .rw 0
  | .mbxSessions => .one 0x4014 31 24 .ro 0
  | .mbxQueued => .one 0x4014 23 16 .ro 0
  | .mbxBarNarrow => .one 0x4014 5 5 .rw1c 0
  | .mbxSessionLapsed => .one 0x4014 4 4 .rw1c 0
  | .mbxRingFull => .one 0x4014 3 3 .rw1c 0
  | .mbxDoorbellBusy => .one 0x4014 2 2 .rw1c 0
  | .mbxBarLocked => .one 0x4014 1 1 .rw1c 0
  | .mbxCqEnable => .one 0x4018 31 31 .rw 0
  | .mbxCqSize => .one 0x4018 12 0 .rw 16
  | .mbxCqBase => .one 0x4020 63 0 .rw 0
  | .mbxCqTail => .one 0x4028 11 0 .ro 0
  | .mbxCqHead => .one 0x402c 11 0 .rw 0
  -- Table 13.5
  | .aonBootStep => .one 0x200 7 0 .ro 0
  | .aonAlter => .one 0x204 31 24 .ro 0
  | .aonRepeats => .one 0x204 23 16 .ro 0
  | .aonReason => .one 0x204 15 8 .ro 0
  | .aonFailStep => .one 0x204 7 0 .ro 0
  | .aonResetCount => .one 0x208 31 0 .ro 0 true
  | .aonPrevCause => .one 0x20c 24 16 .ro 0
  | .aonLastCause => .one 0x20c 8 0 .ro 0
  | .aonInterrupted => .one 0x210 1 0 .ro 0
  | .aonTerm => .one 0x214 31 0 .ro 0
  | .aonEpoch => .one 0x218 15 0 .ro 0
  | .aonScratch => .arr 0x220 0x4 8 31 0 .aon 0
  -- Table 13.11
  | .rstCause => .one 0x100 8 0 .ro 1
  | .rstNode => .one 0x104 31 31 .wo 0
  | .rstWarm => .one 0x104 30 30 .wo 0
  | .rstKey => .one 0x104 15 0 .wo 0
  | .rstBlock => .one 0x108 13 0 .rw 0
  | .rstPending => .one 0x10c 13 0 .ro 0
  | .rstClkfail310 => .one 0x110 31 0 .rw1c 0
  | .rstClkfail3932 => .one 0x114 7 0 .rw1c 0
  | .rstRetry => .one 0x118 7 7 .rw1c 0
  | .rstDenied => .one 0x118 6 6 .rw1c 0
  | .rstAonLost => .one 0x118 5 5 .rw1c 0
  | .rstSettingsDefault => .one 0x118 4 4 .rw1c 0
  | .rstRomRecovery => .one 0x118 3 3 .ro 0
  | .rstTrimBad => .one 0x118 2 2 .ro 0
  | .rstOtpCopy => .one 0x118 1 1 .ro 0
  | .rstTrimsValid => .one 0x118 0 0 .ro 0
  | .rstWdEn => .one 0x11c 31 31 .ro 1
  | .rstWdMs => .one 0x11c 15 0 .ro 500
  | .rstAutoShow => .one 0x120 31 31 .rw 0
  -- Table 14.8
  | .thmTscaleDerate => .one 0x5000 31 16 .rw 28672
  | .thmTscaleThrottle => .one 0x5000 15 0 .rw 16384
  | .thmNodeLevel => .one 0x5004 26 24 .ro 0
  | .thmDieLevel => .one 0x5004 18 16 .ro 0
  | .thmCalDone => .one 0x5004 9 9 .rw1c 0
  | .thmCalDeferred => .one 0x5004 8 8 .rw1c 0
  | .thmShutdownHold => .one 0x5004 7 7 .ro 0
  | .thmNoBoard => .one 0x5004 6 6 .rw1c 0
  | .thmDieBlind => .one 0x5004 5 5 .ro 0
  | .thmSensorBack => .one 0x5004 4 4 .rw1c 0
  | .thmSensorBad => .one 0x5004 3 3 .rw1c 0
  | .thmLevelDown => .one 0x5004 2 2 .rw1c 0
  | .thmLevelUp => .one 0x5004 1 1 .rw1c 0
  | .thmLevelEvents => .one 0x5008 31 0 .ro 0 true
  | .thmLevelEnable => .arr 0x5010 0x4 8 31 31 .rw 1
  | .thmLevelSet => .arr 0x5010 0x4 8 15 0 .rw 0
  | .thmDieState => .arr 0x5040 0x4 8 18 16 .ro 1
  | .thmDieTemp => .arr 0x5040 0x4 8 15 0 .ro 0
  | .thmZoneState => .arr 0x5100 0x4 96 18 16 .ro 1
  | .thmZoneTemp => .arr 0x5100 0x4 96 15 0 .ro 0
  | .thmNeigh => .arr 0x5300 0x4 96 31 0 .rw 0
  | .calDrift => .one 0x5500 7 0 .rw 10
  | .calDeferred => .one 0x5504 5 0 .rw1c 0
  | .calDeferrals => .one 0x5508 31 0 .ro 0 true
  | .calQueued => .one 0x550c 4 0 .ro 0
  | .calRefComp => .arr 0x5510 0x4 16 15 0 .rw 0
  -- Table 15.8
  | .aonFwuTrialXfer => .one 0x21c 31 16 .ro 0
  | .aonFwuFallbackSent => .one 0x21c 7 7 .ro 0
  | .aonFwuActRecord => .one 0x21c 6 6 .ro 0
  | .aonFwuTrial => .one 0x21c 2 2 .ro 0
  | .aonFwuTrialBank => .one 0x21c 1 1 .ro 0
  -- Table 15.9
  | .fwuStateA => .one 0x5800 31 29 .ro 0
  | .fwuStateB => .one 0x5800 28 26 .ro 0
  | .fwuRunning => .one 0x5800 25 25 .ro 0
  | .fwuTrial => .one 0x5800 24 24 .ro 0
  | .fwuFallbackDone => .one 0x5800 11 11 .rw1c 0
  | .fwuSettingsIncompatible => .one 0x5800 10 10 .rw1c 0
  | .fwuTrialFailed => .one 0x5800 9 9 .rw1c 0
  | .fwuSpreadFail => .one 0x5800 8 8 .rw1c 0
  | .fwuBlockFailed => .one 0x5800 7 7 .rw1c 0
  | .fwuVersionRefused => .one 0x5800 6 6 .rw1c 0
  | .fwuFloorPending => .one 0x5800 5 5 .ro 0
  | .fwuFloorTarget => .one 0x5804 24 16 .ro 0
  | .fwuFloor => .one 0x5804 8 0 .ro 0
  | .fwuSecA => .one 0x5808 31 0 .ro 4294967295
  | .fwuSecB => .one 0x580c 31 0 .ro 4294967295
  | .fwuXferId => .one 0x5810 31 0 .ro 0
  | .fwuBlocksDone => .one 0x5818 63 0 .ro 0
  | .fwuSettingsMin => .one 0x5820 31 16 .ro 0
  | .fwuSettingsFormat => .one 0x5820 15 0 .ro 0
  | .fwuSpreadLimit => .one 0x5824 31 16 .rw 600
  | .fwuRevertDelay => .one 0x5824 15 0 .rw 50
  | .fwuRestartUs => .one 0x5828 31 0 .ro 0
  | .fwuBlockRetries => .one 0x582c 31 0 .ro 0 true
  -- Table 16.5
  | .tstDebugFused => .one 0x6000 7 7 .ro 0
  | .tstDebugUnlocked => .one 0x6000 6 6 .ro 0
  | .tstDebugRefusing => .one 0x6000 5 5 .ro 0
  | .tstBscan => .one 0x6000 4 4 .ro 0
  | .tstFrostMismatch => .one 0x6000 3 3 .rw1c 0
  | .tstTestFail => .one 0x6000 2 2 .rw1c 0
  | .tstTestDone => .one 0x6000 1 1 .rw1c 0
  | .tstRunning => .one 0x6000 0 0 .ro 0
  | .tstQueued => .one 0x6004 4 0 .ro 0
  | .tstMemBad => .one 0x6008 6 0 .ro 0
  | .tstExpect => .arr 0x6040 0x8 8 31 0 .rw 0
  | .tstCheckOn => .arr 0x6044 0x8 8 31 31 .rw 0
  | .tstMismatches => .arr 0x6044 0x8 8 15 0 .ro 0 true
  -- Table 17.9
  | .sysTestEn => .one 0x20 3 3 .ro 0
  | .sysPwrFail => .one 0x20 2 2 .rw1c 0
  | .sysPwrGood => .one 0x20 1 1 .ro 0
  -- Table 17.10
  | .sysVbakOk => .one 0x24 15 15 .ro 0
  | .sysVdd33Ok => .one 0x24 11 11 .ro 0
  | .sysVddllOk => .one 0x24 10 10 .ro 0
  | .sysAvdd12Ok => .one 0x24 9 9 .ro 0
  | .sysAvdd085Ok => .one 0x24 8 8 .ro 0
  | .sysVdd33Low => .one 0x24 3 3 .rw1c 0
  | .sysVddllLow => .one 0x24 2 2 .rw1c 0
  | .sysAvdd12Low => .one 0x24 1 1 .rw1c 0
  | .sysAvdd085Low => .one 0x24 0 0 .rw1c 0

/-- Every field name, in the order of the spec's tables. -/
def FName.all : List FName :=
  List.flatten (α := FName)
  [[.sysPart, .sysSteppingMajor, .sysSteppingMinor, .sysRoleActive, .sysRoleStrap, .clkGood310, .clkGood3932,
   .sysPseAwake, .sysPstate, .ftNs, .ftFrac, .ftIncrInt, .ftIncrFrac, .ftAnchorFt, .ftAnchorFrame, .ftPeriodNum,
   .ftPeriodDen, .ftFrame, .ftNextBoundary, .ftGenlockRatio, .ftGenlockInput, .ftHops, .ftSource, .ftRefDisagree,
   .ftStampRange, .ftStepDone, .ftTimeLost, .ftHoldoverEntered, .ftRefLost, .ftParentChanged, .ftAlign,
   .ftParentPort, .ftIsRoot, .ftLockState, .ftOffset, .ftAltOffset, .ftTakeoverAllow, .ftHoldLimit, .ftRefDiff,
   .ftPortDelay],
   [.ftPortTrim, .dprLinkUp, .dprLinkRate, .dprLanes, .dprVideoValid, .dprLost, .dprDpDrop, .dprUnsupported,
   .dprSkipCount, .dprVActive, .dprHActive, .dprColorimetry, .dprFormat, .dprDpHold, .cxlHoldLimit, .cxlInterleave,
   .cxlSplit, .cxlTableBad, .cxlPoisonRead, .cxlDevError, .cxlLinkUp, .cxlWindow, .cxlPinLogCsa, .cxlPinRefusals,
   .cxlPreemptions, .ingEnable, .ingKind, .ingDpPort, .ingGroup, .ingFeedMask, .ingFormat, .ingHeight, .ingWidth,
   .ingFraddr, .ingRepeat, .ingLateCommit, .ingPoison, .ingMarkerWithheld, .ingSending, .ingStreamMargin],
   [.layVEnable, .layVPolicy, .layVStream, .layVAlpha, .layVFeedMask, .layVHoldMax, .layVSrcY, .layVSrcX, .layVSrcH,
   .layVSrcW, .layVFullH, .layVFullW, .layVDstX, .layVDstY, .layVDstH, .layVDstW, .layVUnderrunSlice, .layVDecim,
   .layVScaleDegraded, .layVUnderrun, .layVHeld, .layVReady, .layVUnits, .layGEnable, .layGFormat, .layGBuffer,
   .layGAlpha, .layGFeedMask, .layGY, .layGX, .layGH, .layGW, .layPEnable, .layPAlpha, .layPFeedMask, .layPKeyFails,
   .layPKeyLocked, .layPKeySet, .layWinX, .layWinY],
   [.layWinH, .layWinW, .layBg, .layGuard, .laySealLost, .layLateCommit, .layPrepared, .layPending, .layFreeUnits,
   .layLastId, .layLastFrame, .layWbOn, .layWbFeed, .layWbScale, .layWbDiv, .layWbDest, .layWbDrops, .layFrostReport,
   .layFrostOn, .layFrostFrames, .layFrozen, .laySignature, .clvW3, .clvW2, .clvW1, .clvGustMin, .clvLullDelay,
   .clvGustWait, .clvPlanning, .clvGrantsFree, .clvAwake, .clvReady1, .clvReady0, .clvReady3, .clvReady2,
   .clvSquashes, .clvCancels, .clvPlanLast, .clvPlanMax, .clvTraceOn],
   [.clvStopWhenFull, .clvTraceVc3, .clvClassMask, .clvSizeKib, .clvWritten, .clvLost, .clvTraceDest, .pseFault,
   .pseInService, .pseBusy, .colPProfile, .colGProfile, .colEmitters4, .colDitherOn, .colDerateOn, .colSprofEn,
   .colSprofLo, .colSprofHi, .colGainE1, .colGainE0, .colGainE3, .colGainE2, .colDslew, .colReloadFail, .colFileBad,
   .colUnknownCode, .colMapValid, .colTablesValid, .colDirty, .colStageUsed, .colClamps, .colZfE3, .colZfE2,
   .colZfE1, .colZfE0, .scnFf, .scnSegLog2, .scnSubLog2, .scnBlank, .scnMux],
   [.scnGdivM1, .scnScanDelay, .scnFront, .scnProbeStarved, .scnWindowSlip, .scnComposeMiss, .scnTSub, .scnTLoad,
   .scnSlotLamps, .scnRefresh, .scnLaneCpd, .scnLaneDrivers, .scnLaneBase, .scnGclkTrim, .scnFeedEnable,
   .scnFeedConfine, .scnFeedOffset, .scnFeedPitch, .winEnable, .winExclusive, .winGlCheck, .winGlInput, .winFeedMask,
   .winDivM1, .winPhase, .winOffset, .winLength, .winGlExpect, .genEnable, .genFalling, .genFilter, .genGlitch,
   .genMissed, .genPresent, .genStamp, .genPeriod, .genPhase, .genStampHalf, .genEdges, .genMisses],
   [.shuEnable, .shuActiveLow, .shuPulse, .shuStandby, .shuWindow, .shuLead, .shuWidth, .llShortTh, .llOpenTh,
   .llEpoch, .llClaim, .llCurrent, .llGen, .llCurmap, .laneState, .lanePortB, .laneTempDrv, .laneFound, .laneErrors,
   .dgnDiagOn, .dgnProbeOn, .dgnEventOverflow, .dgnProbeBlocked, .dgnNewFault, .dgnOk, .dgnOpen, .dgnShort,
   .dgnUnmeasured, .dgnRoundUs, .dgnProbes, .dgnValid, .dgnStatus, .dgnLamp, .fabEnable, .fabRestart, .fabRatePolicy,
   .fabLoopAllow, .fabLoop, .fabLanesAllowed, .fabMaxRate],
   [.fabInitPresetPam4, .fabInitPresetNrz, .fabState, .fabRate, .fabLanesUp, .fabAttempts, .fabLaneExcluded,
   .fabLoopRefused, .fabLoopedCable, .fabRateShort, .fabFecDegrade, .fabCalDeferred, .fabFallback, .fabTrainTimeout,
   .fabSilentEntered, .fabUnplugged, .fabBackoff, .fabRetrains, .fabFecCorrected, .fabFecUncorrectable,
   .fabCalDeferrals, .fabNeed, .fabLaneMain, .fabLanePost, .fabLanePre, .fabLaneDfe1, .fabLaneCtle, .fabLaneEyeWidth,
   .fabLaneEyeHeight, .netPreferred, .netNodeId, .netMaster, .netRouteEpoch, .netMasterId, .netFenceTimeout,
   .netRouteCrc, .netRouteLate, .netWallLimit, .netIdChanged, .netLocalDrop],
   [.netNoRoute, .netTtlDrop, .netAssigned, .netBoundary, .netDateline, .netMember, .netRing, .netPosition,
   .netDir1Port, .netDir0Port, .netSlackA, .netSlackB, .fabCrcErrors, .fabHdrErrors, .fabReplays, .fabTtlDrops,
   .fabNoRoute, .fabDroppedDown, .fabLocalDrops, .fabAckRx, .fabCreditError, .fabRetryFail, .fabCredit1, .fabCredit0,
   .redLeaseMode, .redClaimMode, .redPairOn, .redPairSide, .redClaimHold, .redDwell, .redLeaseUs, .redRenewUs,
   .redGuardUs, .redPickWaitUs, .redState, .redHolder, .redTwinSeen, .redMirrorComplete, .redTookOver, .redYielded],
   [.redDegradedTakeover, .redPickMissing, .redCopyMismatch, .redMirrorDiverged, .redClaimRejected, .redRenewMissed,
   .redPairStanddown, .redObeyed, .redHealth, .redTwinHealth, .redStanddownMask, .redControlHead, .redTwin, .redTerm,
   .redEpoch, .redClaim, .redTwinClaim, .redSelect, .redTakeovers, .redRenewsMissed, .redLastTakeover,
   .redResilverLeft, .redResilverLost, .redPasses, .pcieAerUncorrectable, .pcieAerCorrectable, .pcieLinkUp,
   .pcieWidth, .pcieSpeed, .mbxDoorbell, .mbxBusy, .mbxDone, .mbxEvents, .mbxEventEn, .mbxSessions, .mbxQueued,
   .mbxBarNarrow, .mbxSessionLapsed, .mbxRingFull, .mbxDoorbellBusy],
   [.mbxBarLocked, .mbxCqEnable, .mbxCqSize, .mbxCqBase, .mbxCqTail, .mbxCqHead, .aonBootStep, .aonAlter, .aonRepeats,
   .aonReason, .aonFailStep, .aonResetCount, .aonPrevCause, .aonLastCause, .aonInterrupted, .aonTerm, .aonEpoch,
   .aonScratch, .rstCause, .rstNode, .rstWarm, .rstKey, .rstBlock, .rstPending, .rstClkfail310, .rstClkfail3932,
   .rstRetry, .rstDenied, .rstAonLost, .rstSettingsDefault, .rstRomRecovery, .rstTrimBad, .rstOtpCopy,
   .rstTrimsValid, .rstWdEn, .rstWdMs, .rstAutoShow, .thmTscaleDerate, .thmTscaleThrottle, .thmNodeLevel],
   [.thmDieLevel, .thmCalDone, .thmCalDeferred, .thmShutdownHold, .thmNoBoard, .thmDieBlind, .thmSensorBack,
   .thmSensorBad, .thmLevelDown, .thmLevelUp, .thmLevelEvents, .thmLevelEnable, .thmLevelSet, .thmDieState,
   .thmDieTemp, .thmZoneState, .thmZoneTemp, .thmNeigh, .calDrift, .calDeferred, .calDeferrals, .calQueued,
   .calRefComp, .aonFwuTrialXfer, .aonFwuFallbackSent, .aonFwuActRecord, .aonFwuTrial, .aonFwuTrialBank, .fwuStateA,
   .fwuStateB, .fwuRunning, .fwuTrial, .fwuFallbackDone, .fwuSettingsIncompatible, .fwuTrialFailed, .fwuSpreadFail,
   .fwuBlockFailed, .fwuVersionRefused, .fwuFloorPending, .fwuFloorTarget],
   [.fwuFloor, .fwuSecA, .fwuSecB, .fwuXferId, .fwuBlocksDone, .fwuSettingsMin, .fwuSettingsFormat, .fwuSpreadLimit,
   .fwuRevertDelay, .fwuRestartUs, .fwuBlockRetries, .tstDebugFused, .tstDebugUnlocked, .tstDebugRefusing, .tstBscan,
   .tstFrostMismatch, .tstTestFail, .tstTestDone, .tstRunning, .tstQueued, .tstMemBad, .tstExpect, .tstCheckOn,
   .tstMismatches, .sysTestEn, .sysPwrFail, .sysPwrGood, .sysVbakOk, .sysVdd33Ok, .sysVddllOk, .sysAvdd12Ok,
   .sysAvdd085Ok, .sysVdd33Low, .sysVddllLow, .sysAvdd12Low, .sysAvdd085Low]]

end Sys2Proof.Machine
end

