-- ==== Sys2Proof/Machine/RegFile.lean ====
section
/-! DEFINITION. The register file as one store: the key of a field, its reset value (the register tables' Reset columns),
and reading and writing a field. -/

namespace Sys2Proof.Machine

/-- Width of a field in bits. -/
def FName.width (f : FName) : Nat := f.desc.hi + 1 - f.desc.lo

/-- The key of a field of an array under index `i`, below 128. -/
def FName.key (f : FName) (i : Nat) : Nat := f.ctorIdx * 128 + i % 128

/-- Reset value of a field: the table's, where it is the same for every index. Levels are indexed 4 × class + level − 1
(Table 14.8, set points of Table 14.2 in 1/16 °C); the neighbours of zone z are z − 1 and z + 1 with 0xFF at the ends. -/
def resetVal (f : FName) (i : Nat) : Nat :=
  match f with
  | .scnFeedEnable => if i = 0 then 1 else 0
  | .thmLevelEnable => if i = 1 then 0 else 1
  | .thmLevelSet => nth [1520, 0, 1680, 1840, 1120, 1280, 1440, 1600] i 0
  | .thmNeigh => 0xFFFF0000 + (if i + 1 < 96 then i + 1 else 0xFF) * 256 + (if 0 < i then i - 1 else 0xFF)
  | _ => f.desc.rst

/-- The value of a field in a register file. -/
def rget (g : List (Nat × Nat)) (f : FName) (i : Nat) : Nat := (assoc g (f.key i)).getD (resetVal f (i % 128))

/-- A register file with a field set; a field holds no more than its width, and its reset value is not listed. -/
def rput (g : List (Nat × Nat)) (f : FName) (i v : Nat) : List (Nat × Nat) :=
  if v % 2 ^ f.width = resetVal f (i % 128) then assocDel g (f.key i) else assocPut g (f.key i) (v % 2 ^ f.width)

/-- Several plain fields set in a register file. -/
def rputs (g : List (Nat × Nat)) (l : List (FName × Nat)) : List (Nat × Nat) := l.foldl (fun g p => rput g p.1 0 p.2) g

end Sys2Proof.Machine
end

