-- ==== Sys2Proof/Machine/ScanPlan.lean ====
section
/-! DEFINITION. The scan-out configuration as a function of a reading of the registers: slot layout (R242 to R245), timing
(R251 to R255), flicker-free placement (R259), windows (R260 to R262) and the checks of Table 7.1 but for the lamp map. -/

namespace Sys2Proof.Machine

/-- A reading of the register fields: in effect, staged, or as they will be after some sets. -/
abbrev View := FName → Nat → Nat

/-- One billion: nanoseconds in a second. -/
abbrev giga : Nat := 1000000000

/-! ### Slot layout -/

/-- Slot lamps of lane `n` and of the node, and the base of lane `n` (R242, R244). -/
def laneLamps (v : View) (n : Nat) : Nat := v .scnLaneDrivers n * v .scnMux 0 * v .scnLaneCpd n
def laneBase (v : View) (n : Nat) : Nat := ((List.range n).map (laneLamps v)).sum
def slotLamps (v : View) : Nat := laneBase v 96

/-- Position in the slot of the lamp at a lane, driver, line and channel (R244). -/
def lampPos (v : View) (n d l ch : Nat) : Nat := laneBase v n + (l * v .scnLaneDrivers n + d) * v .scnLaneCpd n + ch

/-- Enabled feeds, ascending. -/
def feedsOn (v : View) : List Nat := (List.range 8).filter (fun k => v .scnFeedEnable k == 1)

/-! ### Timing -/

def gdivOf (v : View) : Nat := v .scnGdivM1 0 + 1
def subsOf (v : View) : Nat := 2 ^ v .scnSubLog2 0

/-- The shortest frame of a period (R256). -/
def pminOf (v : View) : Nat := v .ftPeriodNum 0 / v .ftPeriodDen 0

/-- Cycles of a line slot (R251) and T_sub in ns (R252) with a given blank. -/
def lineCycles (s blank : Nat) : Nat := 1024 / 2 ^ s + 4 + blank
def subTime (v : View) (blank : Nat) : Nat :=
  v .scnMux 0 * 2 ^ v .scnSegLog2 0 * lineCycles (v .scnSegLog2 0) blank * 4 * gdivOf v

/-- Feeds × sub, and Δ of R259. -/
def ffQ (v : View) : Nat := (feedsOn v).length * subsOf v
def ffDelta (v : View) : Nat := pminOf v / ffQ v

/-- The largest blank from 2 to 255 for which T_sub ≤ Δ (R259). -/
def ffBlank (v : View) : Option Nat :=
  ((List.range 254).map (fun i => 255 - i)).find? (fun b => decide (subTime v b ≤ ffDelta v))

/-- R259 holds: mux 1, s 7, feeds × rate × sub from 7,600 to 7,680, no feed confined, and a blank that fits. -/
def ffFits (v : View) : Bool :=
  v .scnMux 0 == 1 && v .scnSegLog2 0 == 7 &&
  decide (7600 * v .ftPeriodNum 0 ≤ ffQ v * v .ftPeriodDen 0 * giga) &&
  decide (ffQ v * v .ftPeriodDen 0 * giga ≤ 7680 * v .ftPeriodNum 0) &&
  (feedsOn v).all (fun k => v .scnFeedConfine k != 1) && decide (0 < ffQ v) && (ffBlank v).isSome

def ffOn (v : View) : Bool := v .scnFf 0 == 1

/-- Blank, offset and pitch as they work: computed under ff (R259). -/
def blankOf (v : View) : Nat := if ffOn v then (ffBlank v).getD (v .scnBlank 0) else v .scnBlank 0
def offsetOf (v : View) (k : Nat) : Nat := if ffOn v then k * ffDelta v else v .scnFeedOffset k
def feedPitch (v : View) (k : Nat) : Nat :=
  if ffOn v then (feedsOn v).length * ffDelta v else v .scnFeedPitch k

/-- T_sub (R252) and T_load (R254). -/
def tSub (v : View) : Nat := subTime v (blankOf v)
def tLoad (v : View) : Nat := 10 * ((List.range 96).map (laneLamps v)).foldl max 0

/-- Effective refresh in Hz, rounded down. -/
def refreshOf (v : View) : Nat :=
  (feedsOn v).length * subsOf v * 2 ^ v .scnSegLog2 0 * v .ftPeriodDen 0 * giga / v .ftPeriodNum 0

/-- A sub-update of the schedule: start offset from B(F), feed and index. -/
abbrev Start := Nat × Nat × Nat

/-- A start placed in order of its offset. -/
def insertStart (x : Start) : List Start → List Start
  | [] => [x]
  | y :: r => if x.1 < y.1 then x :: y :: r else y :: insertStart x r

/-- The start offsets of a frame, sorted: a = scan_delay + o_k + i × p_k (R253). -/
def startsOf (v : View) : List Start :=
  let one (k i : Nat) : Start := (v .scnScanDelay 0 + offsetOf v k + i * (if subsOf v = 1 then 0 else feedPitch v k), k, i)
  ((feedsOn v).flatMap (fun k => (List.range (subsOf v)).map (one k))).foldl (fun l x => insertStart x l) []

/-- The margin m (R255). -/
def marginOf (v : View) : Nat := 50 + 4 * gdivOf v

/-! ### Windows -/

def windowsOn (v : View) : List Nat := (List.range 8).filter (fun w => v .winEnable w == 1)

/-- Window `w` is active in frame `f` (R260). -/
def windowActive (v : View) (w f : Nat) : Bool := v .winEnable w == 1 && f % (v .winDivM1 w + 1) == v .winPhase w

/-- A sub-update that starts at `a`, widened by m, lies in the span of window `w` (R260). -/
def insideWindow (v : View) (a w : Nat) : Bool :=
  decide (v .winOffset w + marginOf v ≤ a) && decide (a + tSub v + marginOf v ≤ v .winOffset w + v .winLength w)

/-- It meets the span of window `w` widened by m, the span moved by `sh` (R261, R262). -/
def meetsWindow (v : View) (a w : Nat) (sh : Int) : Bool :=
  let off : Int := v .winOffset w + sh
  decide ((a : Int) < off + v .winLength w + marginOf v) && decide (off - marginOf v < (a : Int) + tSub v)

/-- The moves of a span that R261 checks: its own frame, and one frame later and earlier, by Pmin and by Pmin + 1. -/
def windowShifts (v : View) : List Int :=
  let p : Int := pminOf v
  [0, p, -p, p + 1, -p - 1]

/-- The moves that neighbouring frames can have: Pmin + 1 only where the period is no whole number of ns (R62). -/
def frameShifts (v : View) : List Int :=
  let p : Int := pminOf v
  if v .ftPeriodNum 0 % v .ftPeriodDen 0 = 0 then [0, p, -p] else [0, p, -p, p + 1, -p - 1]

/-- A sub-update is probe-allowed: widened by m, it meets the span of no enabled window (R262). -/
def probeAllowed (v : View) (a : Nat) : Bool :=
  (windowsOn v).all (fun w => (frameShifts v).all (fun sh => !meetsWindow v a w sh))

/-! ### The checks of Table 7.1 -/

/-- Every scan-out field lies within its range (check 1). -/
def scanRanges (v : View) : Bool :=
  decide (1 ≤ v .scnMux 0) && decide (v .scnMux 0 ≤ 64) && decide (2 ≤ v .scnBlank 0) && decide (v .scnBlank 0 ≤ 255) &&
  (List.range 96).all (fun n => decide (v .scnLaneDrivers n ≤ 16) && decide (1 ≤ v .scnLaneCpd n) &&
    decide (v .scnLaneCpd n ≤ 48))

/-- Emitters of a pixel (Table 6.8). -/
def emittersOf (v : View) : Nat := if v .colEmitters4 0 = 1 then 4 else 3

/-- Layers, of V0 to V3, G0 to G3 and P, enabled and with feed `k` in their mask (R126); `only` selects among the indices. -/
def layersIn (v : View) (k : Nat) : List Nat :=
  ((List.range 4).filter (fun n => v .layVEnable n == 1 && bit (v .layVFeedMask n) k)) ++
  (((List.range 4).filter (fun n => v .layGEnable n == 1 && bit (v .layGFeedMask n) k)).map (· + 4)) ++
  (if v .layPEnable 0 = 1 ∧ bit (v .layPFeedMask 0) k then [8] else [])

/-- Window pixels times layers, summed over the enabled feeds: 57.6 times R26's time in ns. -/
def composeWork (v : View) : Nat :=
  ((feedsOn v).map (fun k => v .layWinW 0 * v .layWinH 0 * (layersIn v k).length)).sum

/-- The commit guard meets R25. -/
def guardOk (v : View) : Bool :=
  let ns := 1000 * v .layGuard 0
  decide (16000 ≤ ns) && decide (10 * composeWork v + 8000 * 576 ≤ ns * 576)

/-- Every budget of Table 1.11 holds, with the lamp counts of R243; string capacity holds where the ranges of check 1 do. -/
def budgetsOk (v : View) : Bool :=
  let w := v .layWinW 0
  let h := v .layWinH 0
  let f := (feedsOn v).length
  let n := v .ftPeriodNum 0
  let d := v .ftPeriodDen 0
  decide (w ≤ 2048) && decide (h ≤ 2048) && decide (w * h ≤ 262144) && decide (w * h * emittersOf v ≤ 1048576) &&
  decide (f ≤ 8) && decide (f * d * giga ≤ 960 * n) && decide (f * subsOf v * d * giga ≤ 7680 * n) &&
  decide (slotLamps v ≤ 1048576) && decide (4 * f * slotLamps v ≤ 25165824) &&
  (List.range 96).all (fun i => decide (laneLamps v i * 16 * f * subsOf v * d * giga ≤ 1600000000 * n)) &&
  guardOk v

/-- Differences of the sorted starts, the first one plus Pmin appended, that are too small: the later of the first pair (check 6). -/
def crowded (gap : Nat) : List Start → Option Start
  | x :: y :: r => if y.1 < x.1 + gap then some y else crowded gap (y :: r)
  | _ => none

/-- A failing check: code, feed, sub-update and window. -/
abbrev ScanFault := Nat × Nat × Nat × Nat

/-- The first of some starts that a test selects, as a failure of a check. -/
def startFault (code w : Nat) (bad : Start → Bool) (l : List Start) : Option ScanFault :=
  (l.find? bad).map (fun x => (code, x.2.1, x.2.2, w))

/-- The first check of Table 7.1 that fails. `mapOk` is check 3; `show_` gives the view before the set while the node is in
Show (check 11). -/
def scanFault (v : View) (mapOk : Bool) (show_ : Option View) : Option ScanFault :=
  let l := startsOf v
  let p := pminOf v
  if !scanRanges v || !budgetsOk v then some (1, 0, 0, 0)
  else if feedsOn v = [] ∨ feedsOn v ≠ List.range (feedsOn v).length then some (2, 0, 0, 0)
  else if !mapOk then some (3, 0, 0, 0)
  else if v .scnScanDelay 0 < tLoad v then some (4, 0, 0, 0)
  else
    (startFault 5 0 (fun x => decide (p < x.1) || decide (p + v .scnScanDelay 0 < x.1 + tSub v)) l).or <|
    ((crowded (max (tSub v) (tLoad v)) (l ++ (l.head?.map (fun x => (x.1 + p, x.2))).toList)).map
      (fun x => (6, x.2.1, x.2.2, 0))).or <|
    (startFault 7 0 (fun x => v .scnFeedConfine x.2.1 == 1 &&
      !(windowsOn v).any (fun w => bit (v .winFeedMask w) x.2.1 && insideWindow v x.1 w)) l).or <|
    (((windowsOn v).filter (fun w => v .winExclusive w == 1)).findSome? (fun w =>
      startFault 8 w (fun x => !bit (v .winFeedMask w) x.2.1 && (windowShifts v).any (meetsWindow v x.1 w)) l)).or <|
    (((windowsOn v).find? (fun w => decide (p ≤ v .winOffset w) || v .winLength w == 0 || decide (p < v .winLength w) ||
      decide (v .winDivM1 w < v .winPhase w))).map (fun w => (9, 0, 0, w))).or <|
    (if ffOn v && !ffFits v then some (10, 0, 0, 0) else none).or <|
    (match show_, l.head? with
     | some old, some x =>
       (match (startsOf old).getLast? with
        | some z => if x.1 + pminOf old < z.1 + max (tSub old) (tLoad v) then some (11, 0, 0, 0) else none
        | none => none)
     | _, _ => none)

end Sys2Proof.Machine
end

