-- ==== Sys2Proof/Config.lean ====
section
/-! DEFINITION. What one part fixes and the spec does not give, and the values the spec leaves open. Each is an opaque
constant: no proof can see its value, so a claim about it holds whatever it is. The log entry that explains each is named. -/

namespace Sys2Proof.Config

/-- A free value drawn from the counter the state carries (log entry 3): the n-th value the spec leaves open. -/
opaque freeValue : Nat → Nat

/-- The unit ID in OTP, 16 bytes as one number (R500; log entry 4). -/
opaque unitId : Nat

/-- The hardware-type ID in OTP (R500; log entry 4). -/
opaque hardwareType : Nat

/-- The manufacturer identity of the JTAG IDCODE, bits [11:1] (R589; log entry 4). -/
opaque manufacturer : Nat

/-- Whether the debug_disable fuse is blown (R591; log entry 4). -/
opaque debugFused : Bool

/-- Tap `t` of phase `ph` of the scaler set of band `b` (vertical when `v`), S1.14 (R157, R158; log entry 5): the spec
says the sets are windowed sincs built in and readable with LAYER_GET_COEF, and gives no tap. Its 16 bits are those of
R212, two's complement. -/
opaque scalerTap : (b : Nat) → (v : Bool) → (ph : Nat) → (t : Nat) → BitVec 16

/-- Tap of the upper (`t` 1) or lower stored line at phase `ph` of a layer decimated by `d` (R165; log entry 5): two taps
between stored lines, whose values the spec does not give; in the format of a scaler tap. -/
opaque decimatedTap : (d : Nat) → (ph : Nat) → (t : Nat) → BitVec 16

/-- SHA-384 of a byte string, as 48 bytes (R545, R591; log entry 6). -/
opaque sha384 : List Byte → List Byte

/-- Whether the 96-byte ECDSA P-384 signature of the digest verifies under boot ROM key `k` (R546; log entry 6). -/
opaque imageSignatureOk : (k : Nat) → (digest : List Byte) → (sig : List Byte) → Bool

/-- Whether a debug response verifies under the debug key (R591; log entry 6). -/
opaque debugSignatureOk : (digest : List Byte) → (sig : List Byte) → Bool

/-- Boot ROM signature expected of LBIST run `test` on `index` (Table 16.1; log entry 8). -/
opaque lbistExpected : (test : Nat) → (index : Nat) → Nat

/-- The offer nonce of a port, drawn from the unit ID and the port number (Table 9.5; log entry 9). -/
opaque offerNonce : (port : Nat) → Nat

/-- The time servo (R47, R58): the increment it chooses from the increment in effect and the measured offset
(2^-16 ns). The spec fixes its limits and not its law (log entry 10). -/
opaque servo : (incr : Nat) → (offset : Int) → Nat

/-- The receiver's equaliser of a lane after adaptation, from the window (R343; log entry 11). -/
opaque adapted : (port : Nat) → (lane : Nat) → (window : Nat) → Nat

/-- Whether the ring of this node is the one the wall settings name as the time ring (R50): the spec lays those settings
out nowhere (log entry 24). -/
opaque onTimeRing : Bool

end Sys2Proof.Config
end

