-- ==== Sys2Proof/Machine/State.lean ====
section
/-! DEFINITION. The state of the node. What BAR0 shows is in `regs` (one entry per register field, Machine/Fields.lean) and
nowhere else, but for the few read-only fields that Machine/Regs.lean computes from the state they show. All other state
the spec names or implies is in the structures below, each field with the rule that gives it. A field is plain data. -/

namespace Sys2Proof.Machine

/-- Why a command ends in a fault. No command of this block does: the spec gives every one an effect, so the type is
empty (nobody raises one: safe, there is nothing to stop on). -/
inductive Fault where
  deriving DecidableEq, Repr

/-- Why a command is refused. -/
inductive Refusal where
  /-- Raised by a dispatch arm whose command has no meaning yet (safe: nothing is claimed of it). -/
  | notModelled (mnemonic : String)
  deriving DecidableEq, Repr

/-- A store of bytes: strictly rising addresses, no entry equal to what an unlisted address reads as. -/
abbrev Mem := List Host.Cell

/-- A store of numbers under the same canonical form. -/
abbrev Store := List (Nat × Nat)

/-- The supplies of Table 1.9: nothing, VBAK alone, or every rail. -/
inductive Supply where
  | off | backup | on
  deriving DecidableEq, Repr

/-! ### What a step shows outside the node -/

/-- What stands on the line of a port between two words: an ordered set of code groups (true for a K code), the bytes of data blocks, a
control block with its block type first, or the PRBS31 pattern of a loop. -/
inductive LineItem where
  | set (codes : List (Bool × Byte))
  | data (bytes : List Byte)
  | control (bytes : List Byte)
  | pattern
  deriving DecidableEq, Repr

/-- What a port sends while nothing else is sent (Table 9.8): nothing, IDLE at rate 0, training frames, the IDLE control blocks and
alignment markers of ALIGN, fill data blocks, or what it receives, turned around. -/
inductive LineFill where
  | silence | idle | frames | aligning | blocks | turned
  deriving DecidableEq, Repr

/-- What leaves the node in a step: interrupts, host-memory writes, datagrams, packets on ports and lanes, pin levels. -/
inductive Out where
  /-- An MSI-X vector (Table 12.5). -/
  | msix (vector : Nat)
  /-- A write of host memory. -/
  | hostWrite (addr : Nat) (bytes : List Byte)
  /-- A read of BAR0, BAR2 or BAR4 completes with these bytes. -/
  | readData (bytes : List Byte)
  /-- A PCIe completion that carries no data: completer abort, unsupported request or poisoned. -/
  | pcieError (kind : Nat)
  /-- A datagram to a requester (R457). -/
  | datagram (ip sport : Nat) (bytes : List Byte)
  /-- An offer, a packet, fill or a resync block on the line of a fabric port (R325, R342, R355 to R358). -/
  | line (port : Nat) (item : LineItem)
  /-- What a near loop turns back inside the port, before the FEC or after it (Table 9.12). -/
  | turned (port : Nat) (pastFec : Bool) (item : LineItem)
  /-- From now on a port sends this, with these lanes' transmitters and receivers on and the others in electrical idle (R318, R351). -/
  | fill (port : Nat) (what : LineFill) (tx rx : Nat)
  /-- A training frame on a lane, as the code of each UI (Table 9.6). -/
  | frame (port lane : Nat) (codes : List Nat)
  /-- A packet on a lamp lane: symbol code of Table 8.2 and bytes after it. -/
  | lane (lane : Nat) (start : Nat) (bytes : List Byte)
  /-- A packet handed to its handler. -/
  | delivered (pkt : Pkt)
  /-- Rising edge m of GCLK group g (R248), and whether it starts a marked cycle (R283). -/
  | gclk (group m : Nat) (marked : Bool)
  /-- A looped lamp lane sends PRBS31 as 8b/10b data with an IDLE every 64 symbols (R583), turned before its output driver or at its ball. -/
  | lanePattern (lane : Nat) (ball : Bool)
  /-- Lanes and GCLK outputs go to electrical idle. -/
  | laneIdle
  /-- Level of a SHUTTER ball. -/
  | shutter (output : Nat) (level : Bool)
  /-- A monitor frame's completion posted to the host: its target boundary, and the nodes missing (R175; log entry 35). -/
  | monitor (target missing : Nat)
  /-- A burst of 64-byte units granted on a CXL link. -/
  | cxlBurst (link : Nat) (req : ArbReq) (first : Nat)
  /-- A reset of the node with this cause mask (Table 13.1). -/
  | reset (cause : Nat)
  deriving DecidableEq, Repr

/-! ### Registers and staging -/

/-- One staged field: its key in the register file and the session that staged it, 0 for none (R128, R468). -/
structure Staged where
  key : Nat
  session : Nat
  deriving DecidableEq, Repr

/-- Coefficient data staged in Show and not yet captured (R235), or captured with a set (R236). -/
structure CoefLoad where
  offset : Nat
  bytes : List Byte
  save : Bool
  session : Nat
  deriving DecidableEq, Repr

/-- Protected-store data staged (R171). -/
structure PLoad where
  offset : Nat
  bytes : List Byte
  session : Nat
  deriving DecidableEq, Repr

/-- Where a commit set stands (R131, R140): accepted for a planned frame, or prepared and awaiting its seal. -/
inductive SetState where
  | accepted | prepared
  deriving DecidableEq, Repr

/-- A commit set that has not applied (R131). -/
structure CommitSet where
  id : Nat
  mode : Nat
  state : SetState
  fields : Store
  /-- It changes a footprint, stream or lane-layout field, so its cutoff of F is B(F−1) (R132). -/
  early : Bool
  /-- Stream fields it has put into effect at B(Fa−1), with the values before (R134). -/
  undo : Store
  coef : List CoefLoad
  pdata : List PLoad
  /-- Frame planned, and whether it has become late (R135, R142, R619). -/
  fa : Nat
  late : Bool
  /-- Layers rejected (R138, R163), and the line-store units allocated to the video layers it changes. -/
  reject : Nat
  units : List (Option Nat)
  /-- When it was captured, reference ns (R145). -/
  at_ : Nat
  /-- Head that prepared it. -/
  origin : Nat
  deriving DecidableEq, Repr

/-- The sealed commit that the active head runs (Table 4.6). -/
structure SealRun where
  id : Nat
  /-- The holder of another ring it works for, whose vote it owes (R415); 0 for its own. -/
  origin : Nat
  scope : Nat
  group : Nat
  ft : Nat
  started : Nat
  /-- Nodes whose vote is awaited; 0x1000 plus a ring's label stands for that ring's one vote (R415). -/
  waiting : List Nat
  nodes : Nat
  refusing : Nat
  reject : Nat
  deriving DecidableEq, Repr

/-! ### The command interface -/

/-- An open session (R463, R467). -/
structure Session where
  id : Nat
  areas : Nat
  owner : Requester
  /-- End of its lease (R467), reference ns. -/
  expiry : Nat
  /-- A mirrored wall session whose owner is the first requester to name it after a takeover (R472). -/
  rebind : Bool
  deriving DecidableEq, Repr

/-- A session-log entry (Table 12.9). -/
structure SessionLog where
  session : Nat
  reason : Nat
  path : Nat
  owner : Nat
  ft : Nat
  deriving DecidableEq, Repr

/-- A response (Table 12.4). -/
structure Response where
  opcode : Nat
  node : Nat
  session : Nat
  seq : Nat
  status : Nat
  final : Bool
  combined : Bool
  list : Bool
  slot : Nat
  answered : Nat
  failed : Nat
  acted : Nat
  data : List Byte
  deriving DecidableEq, Repr

/-- What a deferred command waits for. -/
inductive Waits where
  /-- The commit set of this ID has applied or been discarded (R621). -/
  | commit (id : Nat)
  /-- A deferred CLIP_FREE of this handle (R110). -/
  | clipFree (handle : Nat)
  /-- PWR_SET to Show at this frame (R516). -/
  | show_ (frame : Nat)
  /-- RST_BLOCK at the next boundary (R497). -/
  | block
  /-- FENCE_DONE of this fence (R397). -/
  | fence (id : Nat)
  /-- The reply to the return-pair request of this number (R300). -/
  | reply (id : Nat)
  /-- A calibration run, a test or loop, a spread, a handover or takeover, a flash write. -/
  | cal | test | spread | handover | takeover | flash
  /-- A write of the flash that runs, and what the command answers once it is done (R551, R570). -/
  | write (status : Nat) (data : List Byte)
  /-- FW_CONFIRM: its selection record is to be written; the floor fuses are blown (R565). -/
  | confirm | fuses
  /-- A relay of this tag (R399). -/
  | relay (tag : Nat)
  /-- A commit that the seal run of this ID carries. -/
  | seal (id : Nat)
  deriving DecidableEq, Repr

/-- A command that has posted its first response and owes a final one, or that waits for an answer. -/
structure Deferred where
  cmd : HostCmd
  waits : Waits
  posted : Bool
  deriving DecidableEq, Repr

/-- A relay outstanding on a head (R399, R400). -/
structure Relay where
  tag : Nat
  cmd : HostCmd
  nodes : List Nat
  /-- A node that the open, renewal or closing of a wall session is mirrored to, outside the scope (R470). -/
  mirrorTo : List Nat
  started : Nat
  finals : Bool
  responses : List (Nat × Response)
  deriving DecidableEq, Repr

/-- The final responses kept for a UDP requester (R458). -/
structure Kept where
  ip : Nat
  sport : Nat
  responses : List Response
  deriving DecidableEq, Repr

/-- The mailbox unit. -/
structure Mbx where
  /-- BAR0 0x8000 to 0x8FFF: 32 slots of 128 bytes, and the MSI-X structures at 0xE000 (Table 12.16). -/
  slots : Mem
  /-- Commands posted and not yet carried out, oldest first (R451, R459). -/
  posted : List HostCmd
  /-- Commands waiting behind a fence, oldest first (R460). -/
  fenced : List HostCmd
  /-- Scheduled commands queued, in order of arrival (R401). -/
  scheduled : List HostCmd
  /-- Commands with a response outstanding. -/
  deferred : List Deferred
  /-- Final responses held while the completion ring is full (R456). -/
  heldFinals : List Response
  sessions : List Session
  /-- The last 64 session-log entries, oldest first (R469). -/
  log : List SessionLog
  relays : List Relay
  /-- Next relay tag, next local session, next wall session, next commit ID. -/
  nextTag : Nat
  nextLocal : Nat
  nextWall : Nat
  nextCommit : Nat
  kept : List Kept
  /-- Datagrams and MBX_CMD packets discarded (R457, R561), and late responses (R399). -/
  discarded : Nat
  lateResponses : Nat
  /-- Paths that boot step 0x0E has brought up (R622). -/
  pathsUp : Bool
  /-- Doorbells held during a firmware restart (R561). -/
  heldBells : Nat
  /-- High words latched by reads of low words: BAR0 offset of the low word and the high word (R49, Table 2.8). -/
  latched : Store
  /-- Whole FT latched by a read of FT_NOW (R49). -/
  ftLatch : Nat
  deriving DecidableEq, Repr

/-! ### Fabric time -/

/-- What a port knows of time (R54, R57, R58). -/
structure TimePort where
  /-- Hops of the port: the hops field of its last valid TIME_SYNC plus 1. -/
  hops : Nat
  /-- When its last valid TIME_SYNC came, reference ns. -/
  lastSync : Option Nat
  /-- The last 16 delay samples, 2^-16 ns, newest first. -/
  samples : List Int
  /-- The PDELAY_REQ outstanding: seq and egress stamp t1. -/
  asked : Option (Nat × Nat)
  /-- Lane-0 deskew delay measured at link-up, 2^-16 ns (R60). -/
  deskew : Nat
  deriving DecidableEq, Repr

/-- Fabric time beside its registers. -/
structure TimeSt where
  /-- FT in units of 2^-32 ns (R46). -/
  ft : Nat
  ports : List TimePort
  /-- Sequence number of the next TIME_SYNC as time root, and of PDELAY_REQ. -/
  syncSeq : Nat
  pdelaySeq : Nat
  /-- root_id and root_state of the last TIME_SYNC taken (Table 2.5). -/
  rootId : Nat
  rootState : Nat
  /-- Consecutive offsets within ±20 ns, and outside ±100 ns (R67). -/
  inside : Nat
  outside : Nat
  /-- When HOLDOVER, align, LOCKED and a reference disagreement began, reference ns (R73 to R78). -/
  holdSince : Option Nat
  alignSince : Option Nat
  lockedSince : Option Nat
  disagreeSince : Option Nat
  /-- Show was left for time and may return (R76). -/
  returnShow : Bool
  /-- genlock_offset, PTP domain, outlying and missing edges in a row (R53). -/
  genlockOffset : Int
  ptpDomain : Nat
  outliers : Nat
  missing : Nat
  /-- Whether the reference of the time source is present. -/
  refPresent : Bool
  /-- The increment held at a takeover while the new root steers at no more than 10 ppm from it (R77). -/
  steer : Option Nat
  /-- Last GENLOCK edge taken as reference, 0.5 ns of FT (R53). -/
  refEdge : Option Nat
  deriving DecidableEq, Repr

/-! ### Ingest and the clip store -/

/-- What a sink port advertises in its DPCD (R81, Table 3.1): link rate and lane-count codes of Table 3.2, MST, FEC at the UHBR
rates, DSC, HDCP and panel replay. -/
structure Dpcd where
  rates : List Nat
  lanes : List Nat
  mst : Bool
  fecUhbr : Bool
  dsc : Bool
  hdcp : Bool
  replay : Bool
  deriving DecidableEq, Repr

/-- A complete frame of a capture ring: buffer, completion stamp (FT, ns), source frame counter, and the mode it came in. -/
structure DpFrame where
  buf : Nat
  stamp : Nat
  seq : Nat
  width : Nat
  height : Nat
  format : Nat
  colour : Nat
  deriving DecidableEq, Repr

/-- A DisplayPort sink port's capture ring (R83). -/
structure DpRing where
  /-- Ring buffer named by DP_SET (0 for none), its CSA and frame buffers. -/
  handle : Nat
  csa : Nat
  bufs : Nat
  /-- Buffer being written; one past the last while the incoming frame is dropped. -/
  writing : Option Nat
  /-- Complete frames still in the ring, newest first. -/
  frames : List DpFrame
  seq : Nat
  /-- Whether the newest frame has been sent (R85); source counter of the one before it where it counted as skipped; when the port was
  lost, reference ns (R87). -/
  sent : Bool
  skipped : Option Nat
  lostSince : Option Nat
  /-- dp_hold has expired: nothing is sent until a new frame is complete (R87). -/
  silent : Bool
  /-- Refresh of the mode received, Hz (R94), and a DisplayPort PHY loop of the port (R584). -/
  refresh : Nat
  phy : Bool
  deriving DecidableEq, Repr

/-- Clip playback on a stream (R107). -/
structure Playback where
  first : Nat
  stride : Nat
  count : Nat
  divider : Nat
  loop : Bool
  start : Nat
  deriving DecidableEq, Repr

/-- A source stream of a head (R93 to R107). -/
structure StreamSt where
  /-- Frame address latched, and when (R104); address and playback staged for a later latch. -/
  latched : Nat
  latchStamp : Nat
  stagedAddr : Option Nat
  stagedPlay : Option Playback
  play : Option Playback
  /-- The frame in whose window the latch point came last, plus one (R104, R105). -/
  latchPast : Nat
  /-- Frame whose window is or was open; what is sent in it: CSA, size, format, colorimetry, feeds and group. -/
  frame : Nat
  current : Nat
  width : Nat
  height : Nat
  format : Nat
  colour : Nat
  feeds : Nat
  group : Nat
  /-- FT in ns from which the window's line slots are paced (R99, R431). -/
  opened : Nat
  /-- Line slots and packets sent; a packet was not sent for poison, for want of memory or of a way out (R92, R103). -/
  slots : Nat
  packets : Nat
  poisoned : Bool
  /-- Source stamp, sequence number and repeat flag of the frame being sent; wall frame, address and counter sent last (R86). -/
  stamp : Nat
  seq : Nat
  isRepeat : Bool
  lastSent : Option (Nat × Nat × Nat)
  framesSent : Nat
  stop : Bool
  /-- What HEAD_PICK named for this stream (R431): stamp, seq, csa, repeat. -/
  pick : Option (Nat × Nat × Nat × Bool)
  deriving DecidableEq, Repr

/-- A clip-store buffer of the allocation table (R90, R110). -/
structure ClipBuf where
  handle : Nat
  csa : Nat
  length : Nat
  owner : Nat
  deferred : Bool
  deriving DecidableEq, Repr

/-- A burst of the CXL arbiter (R115 to R118). -/
structure Burst where
  req : ArbReq
  /-- Unit at which it started. -/
  first : Nat
  /-- It cannot be preempted (R118). -/
  guarded : Bool
  /-- Units it has moved. -/
  moved : Nat
  deriving DecidableEq, Repr

/-- The arbiter of one CXL link. -/
structure ArbSt where
  pointer : Nat
  burst : Option Burst
  /-- Times each requester's burst has been preempted in a row, by requester index; a burst preempted 4 times is protected. -/
  preempted : List Nat
  /-- Where each requester's cut burst resumes. -/
  resume_ : List Nat
  /-- The burst cut last, with the cycle it was cut in, reference ns (R117). -/
  cut : Option (Burst × Nat)
  deriving DecidableEq, Repr

/-- A node's image in a monitor frame (R175): the node's window as the head takes it to be, and the pixels of it that have come. -/
structure WbNode where
  node : Nat
  x : Int
  y : Int
  w : Nat
  h : Nat
  got : Nat
  deriving DecidableEq, Repr

/-- A monitor frame being assembled: its target boundary, the ring buffer it lies in, and the nodes heard. -/
structure WbFrame where
  target : Nat
  buf : Nat
  nodes : List WbNode
  deriving DecidableEq, Repr

/-- A monitor ring of a head (R175). -/
structure WbRing where
  handle : Nat
  csa : Nat
  bufs : Nat
  scale : Nat
  x0 : Int
  y0 : Int
  pitch : Nat
  /-- Frames being assembled, oldest first; the buffer of the next one; the target of the last one completed. -/
  frames : List WbFrame
  next : Nat
  ended : Nat
  deriving DecidableEq, Repr

/-- Ingest and the clip store. -/
structure IngSt where
  rings : List DpRing
  streams : List StreamSt
  /-- What each port advertises (R81). -/
  dpcd : List Dpcd
  /-- Installed size of each CXL device, 0 for none (R88, R89). -/
  devices : List Nat
  /-- Contents of the devices: device l holds its byte d at l × 2^41 + d. -/
  clip : Mem
  /-- Units of 64 bytes that read as poison, by that address div 64 (R92). -/
  poison : List Nat
  /-- Bytes that the stream former has read ahead of its line slots (R116). -/
  ahead : Nat
  bufs : List ClipBuf
  nextHandle : Nat
  /-- The upload area, 15 MiB of clip store (R488). -/
  upload : Mem
  arb : List ArbSt
  wbRing : Option WbRing
  /-- A CXL loop-back runs on this link (R585). -/
  loopLink : Option Nat
  deriving DecidableEq, Repr

/-! ### Layers -/

/-- A FRAME_COMPLETE marker a tile holds (Table 3.8). -/
structure Marker where
  stream : Nat
  src : Nat
  format : Nat
  colorimetry : Nat
  rep : Bool
  width : Nat
  height : Nat
  frame : Nat
  packets : Nat
  stamp : Nat
  seq : Nat
  feeds : Nat
  /-- FT in ns when it reached the node. -/
  arrived : Nat
  deriving DecidableEq, Repr

/-- Packets counted for a stream and sending head in the frame being received (R149, R428). -/
structure PktCount where
  stream : Nat
  src : Nat
  count : Nat
  deriving DecidableEq, Repr

/-- The last Frost report of a node's feed that a head holds (R179): its 16 bytes, the signature of the one before, and how many
have come that were neither held nor missed. -/
structure FrostReport where
  node : Nat
  feed : Nat
  bytes : List Byte
  previous : Nat
  counted : Nat
  deriving DecidableEq, Repr

/-- Layers and composition beside their registers. -/
structure LaySt where
  markers : List Marker
  counts : List PktCount
  /-- Line stores: stream, feed, line and pixel packed into one key (Machine/Layers.lean), and one more than the pixel. -/
  lines : Store
  /-- Frame whose packets are being received, 0 before the first boundary (R151), and packets discarded for a wrong target. -/
  receiving : Nat
  wrongTarget : Nat
  /-- One more than the frame whose latch point came last. -/
  latched : Nat
  /-- Format and colorimetry of the last marker of each stream (R162, R217), and the format in effect in this frame (R149). -/
  formats : List Nat
  colours : List Nat
  fmtHeld : List Nat
  /-- Size a marker reported, in effect for each video layer (R165), and one that takes effect at the next boundary. -/
  sizes : List (Option (Nat × Nat))
  nextSizes : List (Option (Nat × Nat))
  /-- Scan-out fields of applied sets that take effect at the next boundary (R257). -/
  due : Store
  /-- Words of the graphic and protected stores with an uncorrectable error, until written again (Table 1.5). -/
  graphicBad : List Nat
  pBad : List Nat
  /-- Not-ready frames under HOLD, per layer and feed: entry 8 × layer + feed; 256 once hold_max has been reached (R155). -/
  holdCount : List Nat
  /-- Ready layers, layers left out, per feed, and feeds held, of the frame latched last (Table 4.8). -/
  ready : List Nat
  leftOut : List Nat
  heldFeeds : Nat
  /-- Commit sets not yet applied, in order of acceptance (R131). -/
  sets : List CommitSet
  /-- Staged, uncaptured coefficient and P data (R128). -/
  coefStaged : List CoefLoad
  pStaged : List PLoad
  /-- Outcome of the last commits: ID, state of COMMIT_STATUS, frame. -/
  history : List (Nat × Nat × Nat)
  sealRun : Option SealRun
  /-- Commits this head sealed whose final response is owed: ID, Fa, nodes in scope, reject mask (R621). -/
  owed : List (Nat × Nat × Nat × Nat)
  /-- Commit IDs recorded as sealed (Table 4.6 step 4) or already acted on (R141). -/
  sealed : List Nat
  acted : List Nat
  graphic : Mem
  pstore : Mem
  pKey : Nat
  /-- P data being written since the latch point (R171). -/
  pWriting : List PLoad
  /-- Write-back: frames since the last image, image of the frame (line, pixels), its frame, whether unsent data waits. -/
  wbCount : Nat
  wbImage : List (Nat × Nat × List Nat)
  /-- Write-back is on, as of this boundary (Table 4.10). -/
  wbActive : Bool
  /-- Frost: signature so far and of the previous frame, counted frames, run of equal signatures, ready mask, per feed. -/
  frostNow : List Nat
  frostPrev : List Nat
  frostCounted : List Nat
  frostRun : List Nat
  frostReady : List Nat
  frostUnder : List Nat
  frostTarget : Nat
  /-- Input signature of each video layer, now and in the previous frame (R177). -/
  inputNow : List Nat
  inputPrev : List Nat
  /-- The signature of each feed before the one its register shows (Table 4.12), and on a head what each node reported last of each
  feed (R179). -/
  frostLast : List Nat
  reports : List FrostReport
  /-- Video layers whose serving marker has repeat 0 and whose input signature differs from the previous frame's (R178). -/
  fresh : Nat
  /-- Layers that leave degraded mode when the set of this frame applies (R166). -/
  undegrade : Nat
  deriving DecidableEq, Repr

/-! ### Clover -/

/-- Slice states (Table 5.2). -/
inductive SliceState where
  | waiting | ready | prefetched | running | done | final | cancelled
  deriving DecidableEq, Repr

/-- What the composition of one unit of a slice gives the sign stage (R185): the CRC register of each row of the unit started from 0,
the video layers that contributed, and the unit's rows of the write-back image. -/
structure UnitSign where
  unit : Nat
  crcs : List Nat
  used : Nat
  rows : List (List Nat)
  deriving DecidableEq, Repr

/-- A slice token (R187). -/
structure Slice where
  feed : Nat
  slice : Nat
  state : SliceState
  /-- Marked stale, with the reason of Table 5.6 (0 for not stale). -/
  stale : Nat
  /-- Inputs complete, and group of Table 5.3 while listed. -/
  inputs : Bool
  group : Nat
  readyAt : Nat
  /-- It has left its list for an engine in this frame (R195). -/
  dispatched : Bool
  /-- Units of it still to be composed by the plan. -/
  left : Nat
  /-- Results of the units composed so far (R185). -/
  signs : List UnitSign
  /-- What its composition gave (R186): CRC of R176, video layers that contributed (R178), and write-back rows. -/
  crc : Nat
  used : Nat
  rows : List (List Nat)
  deriving DecidableEq, Repr

/-- A run of units of the plan on an engine (R198): feed, slice, first unit, units. -/
structure PlanRun where
  feed : Nat
  slice : Nat
  first : Nat
  units : Nat
  deriving DecidableEq, Repr

/-- A pixel slice engine. -/
structure Engine where
  awake : Bool
  /-- Task in progress and its prefetch slot (feed, slice), a service task in progress, or its share of the plan. -/
  task : Option (Nat × Nat)
  prefetch : Option (Nat × Nat)
  service : Option Nat
  plan : List PlanRun
  /-- The plan share has started. -/
  planning : Bool
  /-- When the task started and when the engine became idle, reference ns; when it woke. -/
  started : Nat
  idleSince : Nat
  wokeAt : Nat
  /-- ns spent out of Lull before it last woke (Table 5.10). -/
  outNs : Nat
  deriving DecidableEq, Repr

/-- Clover beside its registers. -/
structure ClvSt where
  frame : Nat
  slices : List Slice
  engines : List Engine
  /-- Ready lists of groups 1 and 2, first in first out, as (feed, slice) (R190); group 3 holds service tasks by
  number, with the time each became ready, reference ns (R203). -/
  list1 : List (Nat × Nat)
  list2 : List (Nat × Nat)
  list3 : List (Nat × Nat)
  /-- Rotation: group being served and tasks taken from it (R191). -/
  rotGroup : Nat
  rotTaken : Nat
  /-- The plan waits for the P write (R197), for the slot clear (R247), or the frame for a coefficient copy (R236). -/
  waitP : Bool
  waitClear : Bool
  waitCopy : Bool
  latchAt : Nat
  /-- Trace ring contents, number of records in it, and whether recording was lost (R209). -/
  trace : Mem
  traceCount : Nat
  /-- Records lost since the last one written, and records waiting to fill a packet of 32 (R209). -/
  traceLost : Nat
  traceOut : List Byte
  deriving DecidableEq, Repr

/-! ### Colour, stores, scan-out -/

/-- The coefficient store and its flash copy. -/
structure ColSt where
  store : Mem
  /-- 64-byte blocks marked dirty by a load without the save flag (R238); with an uncorrectable error and not written since; and of those, reloading (R30). -/
  dirty : List Nat
  bad : List Nat
  reloading : List Nat
  /-- Staged loads being copied at B(Fa) (R236). -/
  copying : List CoefLoad
  /-- Data being written to the flash copy, whose blocks are dirty meanwhile, and whether a COEF_SAVE runs, with the number of blocks
  it writes (R238). -/
  saving : List CoefLoad
  saveRun : Option Nat
  /-- ECC counters, corrected and uncorrectable, of the nine memories of Table 1.4 (R29, R30). -/
  corrected : List Nat
  uncorrectable : List Nat
  /-- When an uncorrectable on-chip error last occurred, reference ns (Table 11.7 bit 2). -/
  lastUncorr : Option Nat
  /-- When the last scrub pass over each of these memories ended, reference ns (R31). -/
  scrubbed : List (Option Nat)
  /-- The lamp frame store: 16-bit values by position; slot h of feed k at (2k + h) × slot lamps (R245). -/
  lamps : Store
  /-- Zone temperatures held for the frame, S12.4 (R227, R228). -/
  temps : List Nat
  /-- A lamp map has been loaded, and tables (R624, R231). -/
  mapLoaded : Bool
  tablesLoaded : Bool
  /-- The whole store is still to be reloaded from the flash copy after MEM_MARCH (R580). -/
  wholeReload : Bool
  deriving DecidableEq, Repr

/-- A GENLOCK input beside its registers. -/
structure Genlock where
  /-- Stamp of the last edge and the last 8 intervals, newest first, in 0.5 ns (R264, R265). -/
  last : Option Nat
  intervals : List Nat
  /-- From when the next 1.5 periods are counted (R265). -/
  from_ : Nat
  deriving DecidableEq, Repr

/-- A SHUTTER output: the instance fixed at its assert edge (R267). -/
structure Shutter where
  asserted : Bool
  endNs : Nat
  /-- Asserted level low, as fixed; frame of the last instance fixed. -/
  lowLevel : Bool
  lastFrame : Option Nat
  deriving DecidableEq, Repr

/-- A sub-update scheduled (R253): its frame, feed and index, FT of its schedule, of its load and of its end, its GCLK target
edge, and whether it is dark (R260), probed in (R311), loaded and sent. -/
structure Sub where
  frame : Nat
  feed : Nat
  index : Nat
  start : Nat
  loadAt : Nat
  end_ : Nat
  dark : Bool
  probe : Bool
  loaded : Bool
  bank : Nat
  /-- gen of the settings of its frame (R291, R292). -/
  gen : Nat
  deriving DecidableEq, Repr

/-- The LINE marks of a sub-update (R280): FT of slot 0, ns from one slot to the next, the first slot whose mark is still to be sent, and
the slots there are. -/
structure MarkRun where
  start : Nat
  step : Nat
  next : Nat
  slots : Nat
  deriving DecidableEq, Repr

/-- Scan-out beside its registers. -/
structure ScnSt where
  /-- LINE marks still to be sent for a sub-update that runs past the boundary (R280). -/
  marks : Option MarkRun
  /-- Sub-updates scheduled and not started, in order, and the schedule time of the last one scheduled. -/
  subs : List Sub
  lastStart : Option Nat
  /-- Bank each load writes (R289), and when the last probe-allowed sub-update started, reference ns (R262). -/
  bank : Nat
  lastProbeOk : Nat
  /-- Edges in a row more than 100 ns off, per window (R266). -/
  glSlips : List Nat
  genlocks : List Genlock
  shutters : List Shutter
  /-- gclk_trim in effect per group (R257). -/
  trims : List Nat
  /-- SHUTTER balls are high-impedance (R610). -/
  highZ : Bool
  /-- When they left that state, reference ns: an assert edge of that cycle drives nothing (R614). -/
  drivenAt : Option Nat
  /-- Window instances of the frame before and of this one: start and end, FT in ns (R311). -/
  spansOld : List (Nat × Nat)
  spans : List (Nat × Nat)
  deriving DecidableEq, Repr

/-! ### Lamp lanes -/

/-- A request outstanding on a return pair (R300). -/
structure RetReq where
  lane : Nat
  driver : Nat
  /-- 0 ENUM read, 1 SCAN read of CONFIG, 2 temperature, 3 command, 4 diagnosis, 5 echo. -/
  kind : Nat
  arg : Nat
  lines : Nat
  tag : Nat
  sentAt : Nat
  resent : Bool
  /-- Lamp-map generation when it was sent (R308), and the number a waiting command knows it by. -/
  mapGen : Nat
  id : Nat
  deriving DecidableEq, Repr

/-- A lamp lane beside its registers. -/
structure LaneSt where
  attempts : Nat
  /-- Address of the ENUM or CONFIG read in progress, and addresses found. -/
  addr : Nat
  foundMask : Nat
  /-- Consecutive failed requests per driver (R300). -/
  failed : List Nat
  /-- When the state was entered, reference ns; waiting for the 1 ms retry. -/
  since : Nat
  retry : Bool
  /-- crc_errors and late_data last reported, per driver, drivers obeying port B, stage_stale (Table 8.10). -/
  crcs : List Nat
  lates : List Nat
  obeyB : Nat
  staleMask : Nat
  /-- Settings sent by STAGE in CONFIG or last, as SCAN word and current (R292). -/
  staged : Nat
  /-- Lamp probed last on each line (R310). -/
  probed : Store
  /-- A loop holds the lane OFF (R582). -/
  loop : Bool
  deriving DecidableEq, Repr

/-- Lamp lanes and diagnosis. -/
structure LanSt where
  lanes : List LaneSt
  /-- One request outstanding per return pair, and those queued: temperature, commands, diagnosis (R300, R301). -/
  requests : List (Option RetReq)
  waiting : List (List RetReq)
  /-- Lamp status, 2 bits per lamp, by lamp (R306); unlisted lamps are UNMEASURED. -/
  status : Store
  /-- Lamp fault events queued, oldest first: lamp and new status (R309). -/
  events : List (Nat × Nat)
  mapGen : Nat
  nextTag : Nat
  nextId : Nat
  /-- Round of diagnosis reads of each group: driver next read, when the round began, and µs of the last whole one. -/
  rounds : List (Nat × Nat × Nat)
  /-- The thresholds have been written since they were last sent (Table 8.8). -/
  cfgDue : Bool
  /-- Receiver settings of each return pair in effect, and the seed of its next TRAIN (R539): ctle and phase. -/
  retEq : List (List Byte)
  retSeed : List (Option (List Byte))
  deriving DecidableEq, Repr

/-! ### The fabric -/

/-- What an offer said (Table 9.5). -/
structure Offer where
  flags : Nat
  node : Nat
  port : Nat
  rates : Nat
  lanes : Nat
  target : Nat
  nonce : Nat
  at_ : Nat
  deriving DecidableEq, Repr

/-- Stages of TRAIN and ALIGN (Table 9.9). -/
inductive Stage where
  | lock | request | equalise | done
  deriving DecidableEq, Repr

/-- A Palist port beside its registers. -/
structure PortSt where
  partner : Option Offer
  /-- Consecutive valid offers with ack and the same target (R327). -/
  acks : Nat
  target : Nat
  /-- Highest rate still proposed after fall backs (R336). -/
  cap : Nat
  seq : Nat
  /-- When the state or stage was entered, reference ns. -/
  since : Nat
  stage : Stage
  trainLanes : Nat
  lockLanes : Nat
  readyLanes : Nat
  /-- Consecutive frames with the partner's ready, per lane. -/
  partnerReady : List Nat
  /-- Per lane: status its transmitter reports and the request it answers (R330); its receiver's request as control-word bits and since
  when it stands, and frames until it may ask again (R331). -/
  txStatus : List Nat
  txAsked : List Nat
  rxRequest : List Nat
  askedAt : List Nat
  quiet : List Nat
  /-- Per lane: register of the training pattern (R328) and code sent last, y_(n-1) (R322); frames sent since TRAIN began, and when
  that was. -/
  patterns : List Nat
  codes : List Nat
  frames : Nat
  trainAt : Nat
  /-- Skew of each lane against lane 0, ps, as ALIGN found it (R320); lanes excluded until the port next leaves UP (R334). -/
  skews : List Nat
  banned : Nat
  /-- When the last offer left (R325); when the port was last restarted or unplugged (R341); lowest rate it proposes after a
  rate step (R348). -/
  lastOffer : Option Nat
  resetAt : Option Nat
  floor : Nat
  /-- The loop in use of Table 9.12, own request and partner's. -/
  loop : Nat
  farTurned : Bool
  /-- When the need fell to 80 % of the lower rate's payload (R348). -/
  lowSince : Option Nat
  /-- An adaptation window is open (R343), and when the last one was triggered. -/
  adapting : Bool
  lastAdapt : Nat
  /-- Seed of each lane (R539): rate, nonce and values. -/
  seeds : List (Option (Nat × Nat × List Byte))
  /-- Held in DISABLED until step 0x0E or a clock failure (R622, Table 13.3). -/
  heldDown : Bool
  deriving DecidableEq, Repr

/-- Receive-buffer units that a forwarded packet holds (R364): ingress port, VC and class, units, and which packet of that port. -/
structure Release where
  port : Nat
  cls : Nat
  units : Nat
  packet : Nat
  deriving DecidableEq, Repr

/-- A packet queued at an egress port: its class and when it was queued. -/
structure Queued where
  pkt : Pkt
  at_ : Nat
  /-- Port it came in by, 4 for the node's own (R394). -/
  ingress : Nat
  /-- The receive-buffer units freed once the last copy has left (R364). -/
  frees : Option Release
  deriving DecidableEq, Repr

/-- The link layer of a port (R362 to R373). -/
structure LinkSt where
  queue : List Queued
  /-- Packets sent and not acknowledged, with lseq; next lseq; packets still to be sent again. -/
  unacked : List (Nat × Pkt)
  nextSeq : Nat
  replay : List (Nat × Pkt)
  /-- Receiver: expected lseq, discarding after a nak, framing lost, when the nak was last sent, ack to send. -/
  expected : Nat
  naking : Bool
  lostFraming : Bool
  lastNak : Nat
  /-- Packets accepted since the port entered UP. -/
  taken : Nat
  /-- Units debited and freed count last received per VC and class (R366); units freed, and held, here (R364). -/
  debited : List Nat
  freedRx : List Nat
  freed : List Nat
  held : List Nat
  linkDue : Bool
  lastLink : Nat
  /-- Replays in a row, and when the ack last advanced (R372, R373). -/
  replays : Nat
  lastAck : Nat
  deriving DecidableEq, Repr

/-- A node in the discovery master's map (R377 to R379). -/
structure MapNode where
  unit : Nat
  node : Nat
  role : Nat
  up : Nat
  preferred : Nat
  reported : Nat
  nonces : List Nat
  partners : List Nat
  /-- Groups the node has joined, as this head has seen its FAB_GROUP_SET answered (log entry 18). -/
  groups : List Nat
  /-- Path from the master, and whether this discovery found it, in discovery order. -/
  path : List Nat
  found : Bool
  deriving DecidableEq, Repr

/-- A discovery query outstanding (R377). -/
structure Query where
  tag : Nat
  path : List Nat
  sentAt : Nat
  tries : Nat
  deriving DecidableEq, Repr

/-- A fence an origin waits for (R397). -/
structure Fence where
  id : Nat
  dst : Nat
  mask : Nat
  sentAt : Nat
  held : List Pkt
  deriving DecidableEq, Repr

/-- A bulk transfer being received (Table 10.2): kind, ID, the bytes so far, and for a readback the host address that the
relayed command named (R479). -/
structure Transfer where
  kind : Nat
  id : Nat
  src : Nat
  addr : Nat
  bytes : Mem
  /-- Ranges of the transfer that have arrived. -/
  got : List (Nat × Nat)
  deriving DecidableEq, Repr

/-- The network beside its registers. -/
structure NetSt where
  /-- Route tables in effect and the shadow (Table 10.8). -/
  unicast : Mem
  broadcast : List Nat
  multicast : Mem
  shadow : Mem
  /-- Multicast part waiting for B(Fa) (R390): Fa and entries, with port attributes. -/
  dueRoutes : Option (Nat × Mem)
  /-- The master's map, queries outstanding, paths still to query, tag and epoch of the next. -/
  map : List MapNode
  queries : List Query
  toQuery : List (List Nat)
  nextTag : Nat
  epoch : Nat
  discoverAt : Option Nat
  discovering : Bool
  fences : List Fence
  nextFence : Nat
  /-- Fences arriving: origin, ID, VCs that have seen it (R397). -/
  fencesIn : List (Nat × Nat × Nat)
  /-- Last seq acted on, per origin and type (R405). -/
  seen : Store
  transfers : List Transfer
  nextTransfer : Nat
  /-- Relayed commands held until the transfer they name has arrived in full (R479). -/
  awaiting : List HostCmd
  /-- Rates of the stream routes that leave each port for streams this node does not send, in Mb/s (R346; log entry 23). -/
  routed : List Nat
  deriving DecidableEq, Repr

/-! ### Redundancy -/

/-- A head's claim as a tile holds it (R425): pair, select, apply frame, frame when it last came. -/
structure HeadClaim where
  epoch : Nat
  claim : Nat
  select : Nat
  apply : Nat
  /-- The claim in effect before a newer one applies. -/
  oldEpoch : Nat
  oldClaim : Nat
  oldSelect : Nat
  lastFrame : Nat
  live : Bool
  deriving DecidableEq, Repr

/-- Redundancy beside its registers. -/
structure RedSt where
  /-- Expiries recorded: the head (true for head B) and the expiry in ns (R408). -/
  expiries : List (Bool × Nat)
  /-- End of the lease held: the latest expiry granted (R406). -/
  leaseEnd : Nat
  seq : Nat
  /-- The last LEASE of the twin: when, state, term, claim, epoch, lapsed flag. -/
  twinAt : Option Nat
  twinState : Nat
  /-- State and health word of the twin's last ACK (R418). -/
  ackState : Nat
  ackHealth : Nat
  twinTerm : Nat
  twinClaim : Nat
  twinEpoch : Nat
  /-- When the last RENEW of any head came, its term (R410, R427), and when its origin's control began. -/
  renewAt : Option Nat
  heardTerm : Nat
  heardHolder : Bool
  /-- RENEW outstanding: its expiry, witness, tiles that acked (R407). -/
  asked : Option Nat
  witness : Bool
  ackers : List Nat
  candidateAt : Nat
  granted : Bool
  /-- Yield in progress: Fy (R419); takeover requested (R420); takeover without grant (R413). -/
  yieldFrame : Option Nat
  takeReq : Bool
  takeFree : Bool
  /-- Frames since the head left INIT (R424); frames in a row for each bit of the health word (R418). -/
  frames : Nat
  dwells : List Nat
  /-- A tile's record of both heads' claims (R425). -/
  claims : List HeadClaim
  claimKnown : Bool
  /-- A claim of the twin has been heard since reset (R423, R424). -/
  twinHeard : Bool
  /-- When the lease last lapsed, reference ns (Table 11.9). -/
  lapsedAt : Option Nat
  /-- When a deassertion of PWR_GOOD_IN was last taken, reference ns: a LEASE of that cycle carries the bit as it was (R614). -/
  powerFell : Option Nat
  /-- A pair controller stands down until a later HEAD_CLAIM (R440): frame of its stand-down. -/
  standdownAt : Option Nat
  /-- When the head left INIT, reference ns (R412); silence noted, so that it takes the lease at guard end (R410), not eligible
  (R411); when its last RENEW went; it holds without a grant (R413); highest epoch heard (R423). -/
  begunAt : Option Nat
  taking : Bool
  degraded : Bool
  sentAt : Nat
  freeHold : Bool
  heardEpoch : Nat
  /-- Resilver: dirty granules, listed poison, table in place, queued mirrored commands. -/
  dirty : List Nat
  listed : List Nat
  tableIn : Bool
  /-- On the holder: the twin's resilver is being read, so writes mark granules dirty (R442). -/
  reading : Bool
  /-- The granule that is being read to be sent to the twin (R108). -/
  readNow : Option Nat
  mirrored : List HostCmd
  /-- One more than the frame whose HEAD_PICK came last or was done without (R431, R432); entries are in the streams. -/
  pickFrame : Nat
  /-- Node IDs of head A and head B, from the packets that name their origin (R405). -/
  headIds : List Nat
  deriving DecidableEq, Repr

/-! ### Thermal, calibration, test -/

/-- A temperature sensor (R519 to R528). -/
structure Sensor where
  /-- Last raw sample and when it came; identical samples in a row and the neighbours' mean at the first of them. -/
  raw : Int
  at_ : Nat
  same : Nat
  base : Option Int
  samples : Nat
  failures : Nat
  good : Nat
  /-- Levels it is in (bit k), and entry and exit counts of levels 1 to 4 (R526). -/
  levels : Nat
  entry : List Nat
  exit : List Nat
  interval : Nat
  /-- FAILED only for want of a sample, of trims or of a lane in RUN (R525). -/
  fresh : Bool
  deriving DecidableEq, Repr

/-- A sensor class as it was before its set points or enables changed: when, and its counts, enables and set points then (Table 14.7). -/
structure OldLevels where
  at_ : Nat
  cls : Nat
  sensors : List Sensor
  enables : List Nat
  sets : List Nat
  deriving DecidableEq, Repr

/-- A calibration run (R535), or a test or loop (R576). -/
structure Run where
  isLoop : Bool
  kind : Nat
  index : Nat
  code : Nat
  when_ : Nat
  at_ : Nat
  duration : Nat
  driver : Nat
  cmd : Option HostCmd
  /-- Started: FT of the first chunk, reference ns of it, chunks done. -/
  start : Option Nat
  startClk : Nat
  chunks : Nat
  late : Bool
  aborting : Bool
  /-- Errors and details of the chunks so far (Table 16.3). -/
  errors : Nat
  detailA : Nat
  detailB : Nat
  deriving DecidableEq, Repr

/-- The record of a calibrated item (Table 14.6). -/
structure CalRec where
  kind : Nat
  index : Nat
  rate : Nat
  valid : Bool
  seed : Bool
  temp : Nat
  ft : Nat
  nonce : Nat
  values : List Byte
  deriving DecidableEq, Repr

/-- A test result record (Table 16.3). -/
structure TestRec where
  kind : Nat
  number : Nat
  index : Nat
  code : Nat
  outcome : Nat
  start : Nat
  duration : Nat
  errors : Nat
  detailA : Nat
  detailB : Nat
  deriving DecidableEq, Repr

/-- Thermal, calibration and test. -/
structure ThmSt where
  die : List Sensor
  zone : List Sensor
  cals : List Run
  records : List CalRec
  running : Option Run
  tests : List Run
  /-- The tests and loops in progress, oldest first. -/
  testing : List Run
  results : List TestRec
  /-- A failed CLV_LBIST or a bad memory keeps the node out of Show (Table 16.1). -/
  noShow : Bool
  /-- Debug port: challenge nonce counter, wrong responses, CP halted (R591, R592). -/
  challenges : Nat
  wrong : Nat
  cpHalted : Bool
  jtag : Jtag
  /-- The class whose levels were changed last, as it was before. -/
  before : Option OldLevels
  deriving DecidableEq, Repr

/-! ### Firmware and settings -/

/-- A spread of an image by a head (R554 to R557). -/
structure Spread where
  scope : Nat
  node : Nat
  xfer : Nat
  started : Nat
  /-- When the nodes were last polled, reference ns. -/
  polled : Nat
  /-- Node, bank state and blocks_done last read of each node. -/
  seen : List (Nat × Nat × Nat)
  deriving DecidableEq, Repr

/-- The request that the flash controller serves: none, the reload of a coefficient block, an image or settings write, a coefficient save
(R544). -/
inductive FlashJob where
  | idle | reload | write | save
  deriving DecidableEq, Repr

/-- Firmware update beside its registers, and the flash. -/
structure FwSt where
  /-- The xSPI flash below its coefficient copy (Table 15.1); an unlisted byte reads 0xFF, erased. -/
  flash : Mem
  /-- The coefficient copy of the flash by store offset (Table 15.1, R238); an unlisted byte reads 0 (log entry 14). -/
  copy : Mem
  /-- Transfer open: image length, and ranges of image bytes written in the receiving bank. -/
  isOpen : Bool
  length : Nat
  written : List (Nat × Nat)
  /-- CRC failures of each block (R552), and the status recorded of a failure. -/
  fails : Store
  status : Nat
  /-- Selection record in force: seq and confirmed bank (R543). -/
  selSeq : Nat
  confirmed : Nat
  /-- Settings: records in effect (tag and value), slot in use, its seq, and whether a save runs. -/
  records : List (Nat × List Byte)
  slot : Nat
  slotSeq : Nat
  /-- The request in progress at the flash controller. -/
  job : FlashJob
  /-- When the next floor fuse is blown (R565), reference ns. -/
  fuseAt : Option Nat
  /-- When FW_BEGIN last closed an open transfer, and its ID (Table 15.7). -/
  closed : Option (Nat × Nat)
  /-- A firmware restart in progress since, into the trial bank or back; since when one waits for a flash write or
  relays (R562). -/
  restartAt : Option Nat
  restartDue : Option Nat
  toTrial : Bool
  /-- Fallback request outstanding: its tag and when it was sent (R571); transfers already reverted for (R572). -/
  fallback : Option (Nat × Nat)
  reverted : List Nat
  spread : Option Spread
  deriving DecidableEq, Repr

/-! ### Reset, boot and power -/

/-- Reset, boot and power beside their registers. -/
structure BootSt where
  supply : Supply
  /-- The retained memory (Table 13.6). -/
  retained : Mem
  /-- Boot-log entries appended since VBAK was applied. -/
  logCount : Nat
  /-- Newest boot log entry's step (R505). -/
  logStep : Nat
  /-- When the step in progress began, and when reset was released, reference ns. -/
  stepAt : Nat
  /-- Highest boot step completed, boot halted (R511), a late step awaiting its retry (R507). -/
  reached : Nat
  halted : Bool
  retrying : Bool
  /-- Pending releases: block and when it was made (R493). -/
  pendings : List (Nat × Nat)
  /-- Block bits that take effect at the next boundary (R497). -/
  blockDue : Nat
  /-- OTP load: in progress, from the redundant copy (R501, R502). -/
  otpLoading : Bool
  otpCopy : Nat
  otpFailed : Bool
  /-- When the load of that copy began, reference ns (R500). -/
  otpAt : Nat
  /-- The alteration of fail_step was set by its last failure: the next counts afresh (R508); kept as the AON fields are. -/
  afresh : Bool
  /-- BOOT_CLEAR waits for the next reset (Table 13.12). -/
  clearDue : Bool
  /-- When the last reset asserted, reference ns: sources of one cycle make one reset (R490). -/
  resetAt : Option Nat
  /-- Failed domains, and when each failed or its source was last tried, reference ns (R496). -/
  tries : List (Nat × Nat)
  /-- A reset due 1 ms after RST_NODE: kind and when (R489). -/
  rstDue : Option (Nat × Nat)
  /-- The watchdog was last serviced, reference ns (R491). -/
  serviced : Nat
  /-- Leave Show at the next boundary (R36), enter Show at a boundary. -/
  leaveShow : Bool
  /-- When that was decided, FT in ns: a boundary within 256 GCLK cycles after it is too soon (R258). -/
  leaveSince : Nat
  /-- RST_BLOCK bits alone are the cause (R497), so that an abort of them keeps Show (Table 12.10). -/
  leaveBlock : Bool
  /-- Show is left for minimum service (PWR_SET). -/
  toMin : Bool
  enterShow : Option Nat
  /-- When Standby was entered and a role-set domain was lost, reference ns (R515, R35). -/
  standbySince : Nat
  roleLost : Option Nat
  lastChange : Nat
  /-- VBAK lies within its operating range; it has fallen since the last power-on (R15). -/
  vbakUp : Bool
  vbakLost : Bool
  /-- Status-monitored rails that have been low since the reset (R603; log entry 55). -/
  railsLow : Nat
  deriving DecidableEq, Repr

/-! ### The node -/

/-- The state of the node, with the queue of commands that wait. -/
structure State where
  /-- Register fields in effect, by key; an unlisted field holds its reset value. -/
  regs : Store
  /-- Staged values of RWS fields, by key; equal to the value in effect at reset (R15). -/
  shadow : Store
  /-- Fields staged since the last capture (R128), and the session of each. -/
  staged : List Staged
  /-- Reference time since power-on reset, ns: what the node's timers count. -/
  clk : Nat
  /-- Reference time of the last reset release. -/
  upSince : Nat
  /-- The model's counter of values the spec leaves open (log entry 3). -/
  free : Nat
  /-- Flag bits that the node has set since the last TB tick: a mask by register key (R12). -/
  hot : Store
  time : TimeSt
  ing : IngSt
  lay : LaySt
  clv : ClvSt
  col : ColSt
  scn : ScnSt
  lan : LanSt
  ports : List PortSt
  links : List LinkSt
  net : NetSt
  red : RedSt
  thm : ThmSt
  fw : FwSt
  mbx : Mbx
  boot : BootSt
  /-- What the last command let out of the node. -/
  out : List Out
  /-- The commands that wait, first in first out. -/
  pending : List Instr
  deriving DecidableEq, Repr

/-! ### Reset

The machine right after the release of a power-on reset with every rail up (R602, R622): boot at step 0x01, minimum
service not yet complete, no path up. Register fields are at the Reset columns of their tables, but for the cause and count
of that reset (R490, Table 13.5). Values the spec gives no number for are the ones log entries 12 to 16 name. -/

namespace State

/-- A DisplayPort port with no ring. -/
def ring0 : DpRing :=
  { handle := 0, csa := 0, bufs := 0, writing := none, frames := [], seq := 0, sent := false, lostSince := none,
    silent := false, skipped := none, refresh := 0, phy := false }

/-- A stream that has sent nothing. -/
def stream0 : StreamSt :=
  { latched := 0, latchStamp := 0, stagedAddr := none, stagedPlay := none, play := none, latchPast := 0, frame := 0,
    current := 0, width := 0, height := 0, format := 0, colour := 0, feeds := 0, group := 0, opened := 0, slots := 0, packets := 0,
    poisoned := false, stamp := 0, seq := 0, isRepeat := false, lastSent := none, framesSent := 0, stop := false,
    pick := none }

/-- An arbiter with no burst. -/
def arb0 : ArbSt := { pointer := 0, burst := none, preempted := List.replicate 8 0, resume_ := List.replicate 8 0, cut := none }

/-- An engine in Lull (R37): it wakes for a Gust. -/
def engine0 : Engine :=
  { awake := false, task := none, prefetch := none, service := none, plan := [], planning := false, started := 0, idleSince := 0, wokeAt := 0, outNs := 0 }

/-- A GENLOCK input with no edge. -/
def genlock0 : Genlock := { last := none, intervals := [], from_ := 0 }

/-- A SHUTTER output at rest. -/
def shutter0 : Shutter := { asserted := false, endNs := 0, lowLevel := false, lastFrame := none }

/-- A lane that is OFF (Table 8.5). -/
def lane0 : LaneSt :=
  { attempts := 0, addr := 0, foundMask := 0, failed := List.replicate 16 0, since := 0, retry := false, crcs := List.replicate 16 0,
    lates := List.replicate 16 0, obeyB := 0, staleMask := 0, staged := 0, probed := [], loop := false }

/-- A fabric port held in DISABLED until boot step 0x0E (R622). -/
def port0 : PortSt :=
  { partner := none, acks := 0, target := 0, cap := 3, seq := 0, since := 0, stage := .lock, trainLanes := 0,
    lockLanes := 0, readyLanes := 0, partnerReady := List.replicate 4 0, txStatus := List.replicate 4 0, txAsked := List.replicate 4 0,
    rxRequest := List.replicate 4 0, askedAt := List.replicate 4 0, quiet := List.replicate 4 0, patterns := List.replicate 4 0,
    codes := List.replicate 4 0, frames := 0, trainAt := 0, skews := List.replicate 4 0, banned := 0, lastOffer := none, resetAt := none,
    floor := 0, loop := 0, farTurned := false, lowSince := none, adapting := false,
    lastAdapt := 0, seeds := List.replicate 4 none, heldDown := true }

/-- A link with nothing sent (R367). -/
def link0 : LinkSt :=
  { queue := [], unacked := [], nextSeq := 0, replay := [], expected := 0, naking := false, lostFraming := false,
    lastNak := 0, taken := 0, debited := List.replicate 8 0, freedRx := List.replicate 8 0, freed := List.replicate 8 0,
    held := List.replicate 8 0, linkDue := false, lastLink := 0, replays := 0, lastAck := 0 }

/-- What a port knows of time before any packet (R58). -/
def timePort0 : TimePort := { hops := 255, lastSync := none, samples := [], asked := none, deskew := 0 }

/-- Fabric time after reset: FT 0 and FREE (Table 13.2). -/
def time0 : TimeSt :=
  { ft := 0, ports := List.replicate 4 timePort0, syncSeq := 0, pdelaySeq := 0, rootId := 0, rootState := 0, inside := 0,
    outside := 0, holdSince := none, alignSince := none, lockedSince := none, disagreeSince := none, returnShow := false,
    genlockOffset := 0, ptpDomain := 127, outliers := 0, missing := 0, refPresent := false, steer := none, refEdge := none }

/-- The capabilities of Table 3.1. -/
def dpcd0 : Dpcd :=
  { rates := [1, 2, 3, 4], lanes := [1, 2, 3], mst := false, fecUhbr := true, dsc := false, hdcp := false, replay := false }

/-- Ingest with no device and an empty clip store. -/
def ing0 : IngSt :=
  { rings := List.replicate 4 ring0, streams := List.replicate 16 stream0, dpcd := List.replicate 4 dpcd0, devices := [0, 0], clip := [],
    poison := [], ahead := 0,
    bufs := [], nextHandle := 1, upload := [], arb := [arb0, arb0], wbRing := none, loopLink := none }

/-- Layers with nothing received, staged or captured. -/
def lay0 : LaySt :=
  { markers := [], counts := [], lines := [], receiving := 0, wrongTarget := 0, formats := List.replicate 16 3,
    colours := List.replicate 16 0, fmtHeld := List.replicate 16 3, sizes := List.replicate 4 none, latched := 0,
    nextSizes := List.replicate 4 none, due := [], graphicBad := [], pBad := [],
    holdCount := List.replicate 32 0, ready := List.replicate 8 0, leftOut := List.replicate 8 0, heldFeeds := 0,
    sets := [], coefStaged := [], pStaged := [], history := [], sealRun := none, owed := [], sealed := [], acted := [], graphic := [],
    pstore := [], pKey := 0, pWriting := [], wbCount := 0, wbImage := [], wbActive := false,
    frostNow := List.replicate 8 0, frostPrev := List.replicate 8 0, frostCounted := List.replicate 8 0,
    frostRun := List.replicate 8 0, frostReady := List.replicate 8 0, frostUnder := List.replicate 8 0, frostTarget := 0,
    frostLast := List.replicate 8 0, reports := [], inputNow := List.replicate 4 0, inputPrev := List.replicate 4 0, fresh := 0, undegrade := 0 }

/-- Clover with no slice and every engine in Lull. -/
def clv0 : ClvSt :=
  { frame := 0, slices := [], engines := List.replicate 12 engine0, list1 := [], list2 := [], list3 := [], rotGroup := 0,
    rotTaken := 0, waitP := false, waitClear := false, waitCopy := false, latchAt := 0, trace := [], traceCount := 0,
    traceLost := 0, traceOut := [] }

/-- An empty coefficient store (R233) and zone factors at 1 (Table 6.9). -/
def col0 : ColSt :=
  { store := [], dirty := [], bad := [], reloading := [], copying := [], saving := [], saveRun := none, corrected := List.replicate 9 0,
    uncorrectable := List.replicate 9 0, lastUncorr := none, scrubbed := List.replicate 9 none, lamps := [], temps := List.replicate 96 0, mapLoaded := false, tablesLoaded := false, wholeReload := false }

/-- Scan-out with no sub-update; SHUTTER balls high-impedance (R610). -/
def scn0 : ScnSt :=
  { subs := [], lastStart := none, bank := 0, lastProbeOk := 0, glSlips := List.replicate 8 0, genlocks := List.replicate 4 genlock0,
    shutters := List.replicate 4 shutter0, trims := List.replicate 12 0, highZ := true, drivenAt := none,
    spansOld := [], spans := [], marks := none }

/-- Lamp lanes OFF; every lamp UNMEASURED (R308). -/
def lan0 : LanSt :=
  { lanes := List.replicate 96 lane0, requests := List.replicate 12 none, waiting := List.replicate 12 [], status := [],
    events := [], mapGen := 0, nextTag := 0, nextId := 0, rounds := List.replicate 12 (0, 0, 0), cfgDue := false,
    retEq := List.replicate 12 [], retSeed := List.replicate 12 none }

/-- No ID, no routes. -/
def net0 : NetSt :=
  { unicast := [], broadcast := List.replicate 5 0, multicast := [], shadow := [], dueRoutes := none, map := [],
    queries := [], toQuery := [], nextTag := 0, epoch := 0, discoverAt := none, discovering := false, fences := [],
    nextFence := 0, fencesIn := [], seen := [], transfers := [], nextTransfer := 0, awaiting := [], routed := List.replicate 4 0 }

/-- A claim not yet heard. -/
def claim0 : HeadClaim :=
  { epoch := 0, claim := 0, select := 0, apply := 0, oldEpoch := 0, oldClaim := 0, oldSelect := 0, lastFrame := 0,
    live := false }

/-- Redundancy with nothing heard. -/
def red0 : RedSt :=
  { expiries := [], leaseEnd := 0, seq := 0, twinAt := none, twinState := 0, ackState := 0, ackHealth := 0, twinTerm := 0, twinClaim := 0, twinEpoch := 0,
    renewAt := none, heardTerm := 0, heardHolder := false, asked := none, witness := false, ackers := [], candidateAt := 0,
    granted := false, yieldFrame := none, takeReq := false, takeFree := false, frames := 0, dwells := List.replicate 11 0,
    claims := [claim0, claim0], claimKnown := false, twinHeard := false, lapsedAt := none, powerFell := none, standdownAt := none, begunAt := none, taking := false, degraded := false,
    sentAt := 0, freeHold := false, heardEpoch := 0, dirty := [], listed := [], tableIn := false, reading := false, readNow := none, mirrored := [], pickFrame := 0, headIds := [0, 0] }

/-- A sensor with no sample. -/
def sensor0 : Sensor :=
  { raw := 0, at_ := 0, same := 0, base := none, samples := 0, failures := 0, good := 0, levels := 0,
    entry := [0, 0, 0, 0], exit := [0, 0, 0, 0], interval := 0, fresh := true }

/-- Thermal, calibration and test with nothing queued. -/
def thm0 : ThmSt :=
  { die := List.replicate 8 sensor0, zone := List.replicate 96 sensor0, cals := [], records := [], running := none,
    tests := [], testing := [], results := [], noShow := false, challenges := 0, wrong := 0, cpHalted := false,
    jtag := .tapReset, before := none }

/-- Firmware update with an erased flash. -/
def fw0 : FwSt :=
  { flash := [], copy := [], isOpen := false, length := 0, written := [], fails := [], status := 0, selSeq := 0, confirmed := 0,
    records := [], slot := 0, slotSeq := 0, job := .idle, fuseAt := none, closed := none, restartAt := none, restartDue := none, toTrial := false,
    fallback := none, reverted := [], spread := none }

/-- The mailbox unit with no command. -/
def mbx0 : Mbx :=
  { slots := [], posted := [], fenced := [], scheduled := [], deferred := [], heldFinals := [], sessions := [], log := [],
    relays := [], nextTag := 0, nextLocal := 1, nextWall := 0x8000, nextCommit := 1, kept := [], discarded := 0,
    lateResponses := 0, pathsUp := false, heldBells := 0, latched := [], ftLatch := 0 }

/-- Boot at step 0x01 with its rails up. -/
def boot0 : BootSt :=
  { supply := .on, retained := [], logCount := 0, logStep := 0, stepAt := 0, reached := 0, halted := false,
    retrying := false, pendings := [], blockDue := 0, otpLoading := false, otpCopy := 0, otpFailed := false,
    otpAt := 0, afresh := false, clearDue := false, resetAt := none, tries := [], toMin := false,
    rstDue := none, serviced := 0, leaveShow := false, leaveSince := 0, leaveBlock := false, enterShow := none, standbySince := 0, roleLost := none,
    lastChange := 0, vbakUp := true, vbakLost := false, railsLow := 0 }

/-- The machine right after reset: power-on reset has released with both ROLE_SEL balls low (a tile), VBAK has just been
applied, and boot is at step 0x01. -/
def reset : State :=
  { regs := rputs [] [(.rstCause, 1), (.aonLastCause, 1), (.aonResetCount, 1), (.aonBootStep, 1), (.fwuStateA, 4)] |> (List.range 4).foldl (fun g p => rput g .fabState p 0)
    shadow := [], staged := [], clk := 0, upSince := 0, free := 0, hot := [], time := time0, ing := ing0, lay := lay0, clv := clv0,
    col := col0, scn := scn0, lan := lan0, ports := List.replicate 4 port0, links := List.replicate 4 link0, net := net0,
    red := red0, thm := thm0, fw := fw0, mbx := mbx0, boot := boot0, out := [], pending := [] }

end State

end Sys2Proof.Machine
end

