-- ==== Sys2Proof/Machine/Regs.lean ====
section
/-! DEFINITION. Reading and writing the register fields: values in effect, staged values (R11, R128, R615), flags and the
event bits they raise (Table 12.6), and the field values that a write stores (the limits the register tables state). -/

namespace Sys2Proof.Machine

/-- The value of a field in effect. -/
def State.r (s : State) (f : FName) (i : Nat := 0) : Nat := rget s.regs f i

/-- A flag in effect. -/
def State.on (s : State) (f : FName) (i : Nat := 0) : Bool := s.r f i == 1

/-- The state with a field set in effect. -/
def State.w (s : State) (f : FName) (i v : Nat) : State := { s with regs := rput s.regs f i v }

/-- Several plain fields set in effect, in order. -/
def State.ws (s : State) (l : List (FName × Nat)) : State := l.foldl (fun s p => s.w p.1 0 p.2) s

/-- A counter field raised by `n`, wrapping at its width. -/
def State.count (s : State) (f : FName) (i : Nat := 0) (n : Nat := 1) : State := s.w f i (s.r f i + n)

/-- Adds an output. -/
def State.emit (s : State) (o : Out) : State := { s with out := s.out ++ [o] }

/-- Notes that the node sets bits of a flag field in this TB cycle: a write in the same cycle does not clear them (R12). -/
def State.heat (s : State) (f : FName) (i m : Nat) : State :=
  { s with hot := sput 0 s.hot (f.key i) (sget 0 s.hot (f.key i) ||| m) }

/-- Sets a bit of MBX_EVENTS; a bit that sets while enabled raises vector 0 (Tables 12.5 and 12.6). -/
def State.event (s : State) (b : Nat) : State :=
  let s := s.heat .mbxEvents 0 (2 ^ b)
  if bit (s.r .mbxEvents) b then s
  else
    let s := s.w .mbxEvents 0 (s.r .mbxEvents + 2 ^ b)
    if bit (s.r .mbxEventEn) b then s.emit (.msix 0) else s

/-- The event bit of the status register a flag lies in (Table 12.6), by its BAR0 offset. -/
def eventOf (f : FName) : Option Nat :=
  let o := f.desc.base
  if o = 0x454 then some 0
  else if 0x800 ≤ o ∧ o < 0xD00 then some 1
  else if 0x1000 ≤ o ∧ o < 0x1400 then some 2
  else if 0x1400 ≤ o ∧ o < 0x1500 then some 3
  else if o = 0x161C then some 4
  else if o = 0x2008 then some 5
  else if 0x2800 ≤ o ∧ o < 0x3000 then some 6
  else if 0x3000 ≤ o ∧ o < 0x3400 then some 7
  else if 0x3400 ≤ o ∧ o < 0x3800 then some 8
  else if 0x3800 ≤ o ∧ o < 0x3900 then some 9
  else if 0x5000 ≤ o ∧ o < 0x5800 then some 10
  else if 0x5800 ≤ o ∧ o < 0x5C00 then some 11
  else if o = 0x118 then some 12
  else if f = .mbxSessionLapsed then some 13
  else if f = .mbxRingFull then some 14
  else if 0x6000 ≤ o ∧ o < 0x6400 then some 15
  else none

/-- Sets bit `b` of a flag field; a flag that goes from 0 to 1 sets the event bit of its register. -/
def State.raiseBit (s : State) (f : FName) (i b : Nat) : State :=
  let s := s.heat f i (2 ^ b)
  if bit (s.r f i) b then s
  else
    let s := s.w f i (s.r f i + 2 ^ b)
    match eventOf f with
    | some e => s.event e
    | none => s

/-- Sets a one-bit flag. -/
def State.raise (s : State) (f : FName) (i : Nat := 0) : State := s.raiseBit f i 0

/-- Sets a flag when a condition holds. -/
def State.raiseIf (s : State) (c : Bool) (f : FName) (i : Nat := 0) : State := if c then s.raise f i else s

/-! ### Staged fields -/

/-- What BAR0 returns for a field: the staged value of an RWS field, else the value in effect (R11). -/
def State.seen (s : State) (f : FName) (i : Nat := 0) : Nat :=
  if f.desc.acc = .rws then rget s.shadow f i else s.r f i

/-- Stages a write to an RWS field under a session (R128, R468). -/
def State.stage (s : State) (session : Nat) (f : FName) (i v : Nat) : State :=
  { s with
    shadow := rput s.shadow f i v
    staged := s.staged.filter (fun t => t.key ≠ f.key i) ++ [⟨f.key i, session⟩] }

/-- Stages several fields. -/
def State.stages (s : State) (session : Nat) (l : List (FName × Nat × Nat)) : State :=
  l.foldl (fun s p => s.stage session p.1 p.2.1 p.2.2) s

/-- The node itself sets an RWS field: the value in effect, and the staged value unless a write staged since the last
capture holds the field (R615). -/
def State.nodeSet (s : State) (f : FName) (i v : Nat) : State :=
  let s := s.w f i v
  if s.staged.any (fun t => t.key = f.key i) then s else { s with shadow := rput s.shadow f i v }

/-- The field a key names. -/
def fieldOf (key : Nat) : Option (FName × Nat) := (FName.all[key / 128]?).map (fun f => (f, key % 128))

/-- A register file in canonical form: keys strictly rising, and each entry a value of its field, no more than its width holds,
that is not the reset value. -/
def regWf (g : Store) : Bool :=
  rising none g && g.all (fun e => match fieldOf e.1 with
    | some (f, i) => decide (e.2 ≠ resetVal f i) && decide (e.2 < 2 ^ f.width)
    | none => false)

/-- A value put into effect by key. -/
def State.wKey (s : State) (key v : Nat) : State :=
  match fieldOf key with
  | some (f, i) => s.w f i v
  | none => s

/-! ### What a field's write stores -/

/-- Whether a number is a power of two from 16 to 4,096. -/
def ringSize (v : Nat) : Bool := v ∈ [16, 32, 64, 128, 256, 512, 1024, 2048, 4096]

/-- Bytes of a node's reduced image of blocks of 2^b (R172), and whether it fits the limit of its divider (R173). -/
def imageBytes (v : View) (b : Nat) : Nat := ceilDiv (v .layWinW 0) (2 ^ b) * ceilDiv (v .layWinH 0) (2 ^ b) * 4
def imageFits (v : View) (b div : Nat) : Bool := decide (imageBytes v b ≤ if div = 1 then 0x20000 else 0x40000)

/-- The value a write of `v` to an RW field stores, by the limits its register table states; `none` is a write that is ignored. -/
def stored (s : State) (f : FName) (i v : Nat) : Option Nat :=
  match f with
  | .ftHoldLimit => some (min v 1000)
  | .dprDpHold => some (min v 10000)
  | .cxlHoldLimit => some (clampN 8 255 v)
  | .ingStreamMargin => if 2 ≤ v ∧ v ≤ 500 then some v else none
  | .ingFraddr => some (v / 4096 * 4096)
  | .layWbDiv | .layFrostFrames | .clvW1 | .clvW2 | .clvGustMin | .colDslew | .redClaimHold | .redDwell | .calDrift => some (max v 1)
  | .clvGustWait => some (clampN 1 1000 v)
  | .clvSizeKib => if 16 ≤ v ∧ v ≤ 256 ∧ v % 16 = 0 then some v else none
  | .clvClassMask => some (if bit v 7 then v else v + 128)
  | .genFilter => some (min v 1000)
  | .shuWidth => some (clampN 100 10000000 v)
  | .fabLanesAllowed => some (if bit v 0 then v else v + 1)
  | .fabInitPresetPam4 => some (if 1 ≤ v ∧ v ≤ 4 then v else 3)
  | .fabInitPresetNrz => some (if 1 ≤ v ∧ v ≤ 4 then v else 2)
  | .redLeaseUs => some (max v 2000)
  | .redRenewUs => some (clampN 250 (s.r .redLeaseUs / 3) v)
  | .redGuardUs => some (clampN 1000 10000 v)
  | .redPickWaitUs => some (clampN 5 500 v)
  | .mbxCqSize => if ringSize v ∧ s.r .mbxBusy = 0 ∧ s.mbx.heldFinals = [] then some v else none
  | .mbxCqBase => if s.r .mbxBusy = 0 ∧ s.mbx.heldFinals = [] then some (v / 4096 * 4096) else none
  | .mbxCqEnable => if s.r .mbxBusy = 0 ∧ s.mbx.heldFinals = [] then some v else none
  | .thmLevelEnable => if i = 1 ∨ i % 4 = 3 then none else some v
  | .thmLevelSet =>
    if toInt 16 v ≤ (if i < 4 then 1840 else 1760) then some v else some (if i < 4 then 1840 else 1760)
  | .llCurmap => if s.r .sysPstate = 4 then none else some v
  | .fwuSpreadLimit => some (clampN 10 3600 v)
  | .fwuRevertDelay => some (clampN 20 1000 v)
  | _ => some v

/-! ### Time and state of the node -/

/-- FT in whole ns. -/
def State.ftNs (s : State) : Nat := s.time.ft / 2 ^ 32

/-- Minimum service, Standby and Show (Table 1.10). -/
def State.inShow (s : State) : Bool := s.r .sysPstate == 4
def State.inStandby (s : State) : Bool := s.r .sysPstate == 3
def State.inMin (s : State) : Bool := s.r .sysPstate == 2

/-- Role straps (Table 0.2). -/
def State.isTile (s : State) : Bool := s.r .sysRoleStrap == 0
def State.isHead (s : State) : Bool := s.r .sysRoleStrap == 1 || s.r .sysRoleStrap == 2
def State.isHeadB (s : State) : Bool := s.r .sysRoleStrap == 2

/-- The node drives lamps: a tile, or a head whose settings assign it a lamp window (R7, R513). -/
def State.hasWindow (s : State) : Bool := s.isTile || (s.isHead && s.r .layWinW != 0 && s.r .layWinH != 0)

/-- The node runs: its rails are up, boot has not halted (R511), and no boundary-scan instruction holds it (R590). -/
def State.running (s : State) : Bool := s.boot.supply == .on && !s.boot.halted && !s.on .tstBscan

/-- The node will leave Show at its next boundary (R36, R258). -/
def State.leaveNext (s : State) : State :=
  if s.inShow then
    { s with boot := { s.boot with
      leaveShow := true, leaveSince := if s.boot.leaveShow then s.boot.leaveSince else s.ftNs, leaveBlock := false } }
  else s

/-- Boundary of frame `f` under an anchor and a period: A + floor((F − F0) × N / D) (R62). -/
def boundaryOf (a f0 n d f : Nat) : Nat := a + (f - f0) * n / d

/-- B(F) under the timing in effect; 0 for a frame before F0. -/
def State.bnd (s : State) (f : Nat) : Nat :=
  boundaryOf (s.r .ftAnchorFt) (s.r .ftAnchorFrame) (s.r .ftPeriodNum) (s.r .ftPeriodDen) f

/-- The current frame index: the largest F with B(F) ≤ FT, none before B(F0) (R63). -/
def State.frame? (s : State) : Option Nat :=
  if s.ftNs < s.r .ftAnchorFt then none
  else
    -- floor(k × N / D) ≤ x exactly when k × N < (x + 1) × D
    let x := s.ftNs - s.r .ftAnchorFt
    some (s.r .ftAnchorFrame + ((x + 1) * s.r .ftPeriodDen - 1) / s.r .ftPeriodNum)

/-- The commit guard that the latch point of frame `f` is computed with: that of the last set applied before it, so that the
latch point of Fa itself keeps the old one (Table 4.5a). A set that has applied leaves its guard in `due` until B(Fa). -/
def State.guardFor (s : State) (f : Nat) : Nat :=
  let key := FName.layGuard.key 0
  let base := if f < s.lay.latched then s.r .layGuard else (assoc s.lay.due key).getD (s.r .layGuard)
  let next (b : Nat × Nat) (c : CommitSet) : Nat × Nat := match assoc c.fields key with
    | some g => if c.state = .accepted ∧ c.fa < f ∧ b.1 ≤ c.fa then (c.fa, g) else b
    | none => b
  (s.lay.sets.foldl next (0, base)).2

/-- Latch point of frame `f`: its boundary less the commit guard (R23), in ns. -/
def State.latch (s : State) (f : Nat) : Nat := s.bnd f - 1000 * s.guardFor f

/-- Pmin: the shortest frame under the period in effect (R256). -/
def State.pmin (s : State) : Nat := s.r .ftPeriodNum / s.r .ftPeriodDen

/-- A short stamp extended against FT; `none` for one out of range (R61). -/
def extend (now stamp : Nat) : Option Nat :=
  let d := toInt 32 (stamp + 2 ^ 32 - now % 2 ^ 32)
  if d = -2147483648 ∨ 1000000000 < d ∨ d < -1000000000 then none else some ((now : Int) + d).toNat

/-- The short stamp of an FT value: its low 32 bits. -/
def shortStamp (ns : Nat) : Nat := ns % 2 ^ 32

/-- Draws a value the spec leaves open, below `2 ^ w`, and moves the state's counter of such values (log entry 3). -/
def State.draw (s : State) (w : Nat) : Nat × State :=
  (Config.freeValue s.free % 2 ^ w, { s with free := s.free + 1 })

/-! ### Fields that show other state -/

/-- A LEASE from the twin has come within lease_us (Table 11.11). -/
def State.twinSeen (s : State) : Bool :=
  match s.red.twinAt with
  | some t => decide (s.clk < t + 1000 * s.r .redLeaseUs)
  | none => false

/-- A tile's control head (R427): the head whose RENEW carried the highest term, while one has come within lease_us + guard_us;
0 for none. -/
def State.controlNow (s : State) : Nat :=
  match s.red.renewAt with
  | some t => if s.clk ≤ t + 1000 * (s.r .redLeaseUs + s.r .redGuardUs) then s.r .redControlHead else 0
  | none => 0

/-- The clock-good bits of domains 0 to 39 (R32, Tables 1.7 and 1.8). Those of a fabric port and of a DisplayPort sink follow
what is recovered on them: transmit while the port is not in DISABLED, receive while it is UP, a sink while its link is up
(log entry 43). -/
def State.clockGood (s : State) : Nat :=
  let base := s.r .clkGood310 % 2 ^ 20 + 2 ^ 32 * s.r .clkGood3932
  let port (p : Nat) : Nat := (if s.r .fabState p = 0 then 0 else 2 ^ (20 + p)) + (if s.r .fabState p = 5 then 2 ^ (24 + p) else 0) +
    (if s.on .dprLinkUp p then 2 ^ (28 + p) else 0)
  base + port 0 + port 1 + port 2 + port 3

/-- An ok bit of SYS_RAILS (Table 17.10), valid from 10 µs after the release of reset (log entry 55). -/
def State.railOk (s : State) (good : Bool) : Nat := b2n (decide (s.upSince + 10000 ≤ s.clk) && good)

/-- The value of a field in effect, with the read-only fields that show state held elsewhere computed from it. In no frame (R63) frame
reads 0 and next_boundary B(F0) (DESIGN CHOICE, log entry 64). -/
def State.live (s : State) (f : FName) (i : Nat) : Nat :=
  match f with
  | .ftNs => s.ftNs
  | .ftFrac => s.time.ft / 2 ^ 16 % 2 ^ 16
  | .ftFrame => s.frame?.getD 0
  | .ftNextBoundary => match s.frame? with | some f => s.bnd (f + 1) | none => s.bnd (s.r .ftAnchorFrame)
  | .mbxSessions => s.mbx.sessions.length
  | .mbxQueued => s.mbx.scheduled.length
  | .layPending => s.lay.sets.length
  | .layPrepared => b2n (s.lay.sets.any (fun c => c.state == .prepared))
  | .layPKeySet => b2n (s.lay.pKey != 0)
  | .clvReady0 => (s.clv.slices.filter (fun x => x.state == .ready && x.group == 0)).length
  | .clvGrantsFree => 16 - (s.clv.slices.filter (fun x => x.group == 1 && (x.state == .prefetched || x.state == .running))).length
  | .pseBusy => (s.clv.engines[i]?.map (fun e => (e.outNs + (if e.awake then s.clk - e.wokeAt else 0)) / 1000)).getD 0
  | .scnTSub => tSub (fun f i => s.r f i)
  | .scnTLoad => tLoad (fun f i => s.r f i)
  | .scnSlotLamps => slotLamps (fun f i => s.r f i)
  | .scnRefresh => refreshOf (fun f i => s.r f i)
  | .scnLaneBase => laneBase (fun f i => s.r f i) i
  | .clvReady1 => s.clv.list1.length
  | .clvReady2 => s.clv.list2.length
  | .clvReady3 => s.clv.list3.length
  | .colDirty => b2n (s.col.dirty != [] || s.col.saving != [])
  | .colStageUsed => ((s.lay.coefStaged ++ s.lay.sets.flatMap (·.coef) ++ s.col.copying).map (·.bytes.length)).sum
  | .dgnValid => b2n (s.lan.events != [])
  | .dgnStatus => (s.lan.events.headD (0, 0)).2
  | .dgnLamp => (s.lan.events.headD (0, 0)).1
  | .calQueued => s.thm.cals.length
  | .tstQueued => s.thm.tests.length
  | .tstRunning => b2n (s.thm.testing != [])
  | .tstDebugFused => b2n Config.debugFused
  | .fwuTrial => s.r .aonFwuTrial
  | .fwuFloorPending => b2n (decide (s.r .fwuFloor < s.r .fwuFloorTarget))
  | .redTwinSeen => b2n s.twinSeen
  | .clkGood310 => s.clockGood % 2 ^ 32
  | .sysPseAwake => (s.clv.engines.filter (·.awake)).length
  | .clvAwake => (s.clv.engines.zipIdx.map (fun e => if e.1.awake then 2 ^ e.2 else 0)).sum
  | .redControlHead => s.controlNow
  | .sysVbakOk => s.railOk s.boot.vbakUp
  | .sysAvdd085Ok => s.railOk (!bit s.boot.railsLow 0)
  | .sysAvdd12Ok => s.railOk (!bit s.boot.railsLow 1)
  | .sysVddllOk => s.railOk (!bit s.boot.railsLow 2)
  | .sysVdd33Ok => s.railOk (!bit s.boot.railsLow 3)
  | _ => s.r f i

/-! ### Words of BAR0 -/

/-- The index a word offset names in a field's array, and whether it is the field's high word. -/
def FDesc.at_ (d : FDesc) (off : Nat) : Option (Nat × Bool) :=
  let idx (rel : Nat) : Option Nat :=
    if d.stride = 0 then (if rel = 0 then some 0 else none)
    else
      let o := rel / d.stride
      let m := rel % d.stride
      if d.inner ≤ 1 then (if m = 0 ∧ o < d.cnt then some o else none)
      else if m % d.istride = 0 ∧ m / d.istride < d.inner ∧ o < d.cnt then some (o * d.inner + m / d.istride) else none
  let low := if d.base ≤ off ∧ d.lo < 32 then (idx (off - d.base)).map (fun i => (i, false)) else none
  match low with
  | some p => some p
  | none => if d.base + 4 ≤ off ∧ 32 ≤ d.hi then (idx (off - 4 - d.base)).map (fun i => (i, true)) else none

/-- Every field with bits in the word at an offset. -/
def fieldsAt (off : Nat) : List (FName × Nat × Bool) :=
  FName.all.filterMap (fun f => (f.desc.at_ off).map (fun p => (f, p.1, p.2)))

/-- The word at an offset, from a reading of the fields; reserved bits read as 0 (R14) and WO fields as 0. -/
def wordOf (get : FName → Nat → Nat) (off : Nat) : Nat :=
  ((fieldsAt off).map (fun p =>
    let v := (if p.1.desc.acc = .wo then 0 else get p.1 p.2.1) * 2 ^ p.1.desc.lo
    (if p.2.2 then v / 2 ^ 32 else v) % 2 ^ 32)).sum

/-- The word as BAR0 returns it: staged values of RWS fields (R11). -/
def State.bar0 (s : State) (off : Nat) : Nat :=
  wordOf (fun f i => if f.desc.acc = .rws then s.seen f i else s.live f i) off

/-- The word of the effect page of BAR2 (Table 12.19): values in effect. -/
def State.effect (s : State) (off : Nat) : Nat := wordOf s.live off

/-- The block of Table 13.4 whose registers hold a BAR0 offset. -/
def blockAt (off : Nat) : Option Nat :=
  if (0x800 ≤ off ∧ off < 0xB00) ∨ (0xC00 ≤ off ∧ off < 0xD00) then some 0
  else if 0xB00 ≤ off ∧ off < 0xC00 then some 1
  else if 0x300 ≤ off ∧ off < 0x400 then some 2
  else if 0x3000 ≤ off ∧ off < 0x3400 then some (4 + (off - 0x3000) / 0x100)
  else if 0x1400 ≤ off ∧ off < 0x1A00 then some 8
  else if 0x2000 ≤ off ∧ off < 0x2800 then some 9
  else if 0x2800 ≤ off ∧ off < 0x3000 then some 10
  else if 0x5000 ≤ off ∧ off < 0x5800 then some 11
  else if 0x3800 ≤ off ∧ off < 0x3900 then some 12
  else none

/-- A block is held in reset or its release is pending (R493, R494). -/
def State.held (s : State) (b : Nat) : Bool := bit (s.r .rstBlock) b || bit (s.r .rstPending) b

/-- The lock area of a BAR0 offset (Table 12.8). -/
def areaAt (off : Nat) : Option Nat :=
  if 0x1440 ≤ off ∧ off < 0x1460 then some 9
  else if 0x1000 ≤ off ∧ off < 0x1500 then some 0
  else if 0x800 ≤ off ∧ off < 0xD00 then some 1
  else if 0x1600 ≤ off ∧ off < 0x1A00 then some 2
  else if 0x2000 ≤ off ∧ off < 0x2800 then some 3
  else if 0x2800 ≤ off ∧ off < 0x3000 then some 4
  else if 0x3800 ≤ off ∧ off < 0x3900 then some 5
  else if (0x3000 ≤ off ∧ off < 0x3800) ∨ (0x400 ≤ off ∧ off < 0x500) then some 6
  else if 0x5000 ≤ off ∧ off < 0x5800 then some 7
  else if 0x5800 ≤ off ∧ off < 0x5C00 then some 8
  else if 0x6000 ≤ off ∧ off < 0x6400 then some 9
  else if 0x100 ≤ off ∧ off < 0x200 then some 10
  else none

/-- The PCIe function answers: its path is up, it is not held, and the node is a head or in minimum service (R5). -/
def State.pcieUp (s : State) : Bool := s.mbx.pathsUp && !s.held 2 && (s.isHead || s.inMin)

/-- The session that holds an area, if any (R463). -/
def State.holderOf (s : State) (area : Nat) : Option Session := s.mbx.sessions.find? (fun x => bit x.areas area)

end Sys2Proof.Machine
end

