-- ==== Sys2Proof/Machine/Operands.lean ====
section
/-! DEFINITION. The operands of a command and of a packet: fields of a payload by offset and size, least significant byte
first (R9), and the layouts of a command (Table 12.2), a response (Table 12.4) and a packet (Table 10.1). -/

namespace Sys2Proof.Machine

/-- The value of `n` bytes at an offset; bytes past the end read as 0. -/
def getLE (l : List Byte) (off n : Nat) : Nat := leVal ((l.drop off).take n)

/-- `n` bytes at an offset, 0 past the end. -/
def getBytes (l : List Byte) (off n : Nat) : List Byte :=
  let b := (l.drop off).take n
  b ++ List.replicate (n - b.length) 0

/-- A list cut or padded with 0 to `n` bytes. -/
def padTo (n : Nat) (l : List Byte) : List Byte := getBytes l 0 n

end Sys2Proof.Machine

namespace Sys2Proof

/-- The payload a command's offsets are read in: the DMA payload with dma set (R449). -/
def HostCmd.body (c : HostCmd) : List Byte := if bit c.flags 3 then c.dmaPayload else c.payload

/-- Payload fields of 1, 2, 4, 6 and 8 bytes. -/
def HostCmd.u8 (c : HostCmd) (off : Nat) : Nat := Machine.getLE c.body off 1
def HostCmd.u16 (c : HostCmd) (off : Nat) : Nat := Machine.getLE c.body off 2
def HostCmd.u32 (c : HostCmd) (off : Nat) : Nat := Machine.getLE c.body off 4
def HostCmd.u64 (c : HostCmd) (off : Nat) : Nat := Machine.getLE c.body off 8

/-- A signed 32-bit payload field. -/
def HostCmd.s32 (c : HostCmd) (off : Nat) : Int := toInt 32 (c.u32 off)

/-- The header flags of Table 12.2. -/
def HostCmd.fence (c : HostCmd) : Bool := bit c.flags 0
def HostCmd.isScheduled (c : HostCmd) : Bool := bit c.flags 1
def HostCmd.relay (c : HostCmd) : Bool := bit c.flags 2
def HostCmd.dma (c : HostCmd) : Bool := bit c.flags 3

/-- Target scope and node or group (Table 12.2). -/
def HostCmd.scope (c : HostCmd) : Nat := bits c.target 13 12
def HostCmd.node (c : HostCmd) : Nat := bits c.target 11 0

/-- The opcode's group. -/
def HostCmd.group (c : HostCmd) : Nat := c.opcode / 256

/-- Two commands are the same for duplicate detection and abort: requester, opcode, session and seq (R446, R458, R480). -/
def HostCmd.same (c d : HostCmd) : Bool :=
  c.req == d.req && c.opcode == d.opcode && c.session == d.session && c.seq == d.seq

/-- The slot has completed with an interim response, so the final one goes to the completion ring (R455). -/
def HostCmd.released (c : HostCmd) : HostCmd := { c with slot := c.slot % 256 + 256 }

/-- A command as its 64 bytes (Table 12.2). -/
def HostCmd.bytes (c : HostCmd) : List Byte :=
  leBytes 2 c.opcode ++ leBytes 2 c.target ++ leBytes 2 c.session ++ leBytes 2 c.seq ++ leBytes 2 c.flags ++
    leBytes 6 c.reserved ++ leBytes 8 c.activation ++ Machine.padTo 40 c.payload

/-- The command that 64 bytes spell, by the path it came. -/
def HostCmd.ofBytes (req : Requester) (slot tag : Nat) (l : List Byte) : HostCmd :=
  { req := req, slot := slot, tag := tag, opcode := Machine.getLE l 0 2, target := Machine.getLE l 2 2,
    session := Machine.getLE l 4 2, seq := Machine.getLE l 6 2, flags := Machine.getLE l 8 2,
    reserved := Machine.getLE l 10 6, activation := Machine.getLE l 16 8, payload := Machine.getBytes l 24 40,
    dmaPayload := [], data := [] }

/-- Payload fields of a packet. -/
def Pkt.u8 (p : Pkt) (off : Nat) : Nat := Machine.getLE p.payload off 1
def Pkt.u16 (p : Pkt) (off : Nat) : Nat := Machine.getLE p.payload off 2
def Pkt.u32 (p : Pkt) (off : Nat) : Nat := Machine.getLE p.payload off 4
def Pkt.u48 (p : Pkt) (off : Nat) : Nat := Machine.getLE p.payload off 6
def Pkt.u64 (p : Pkt) (off : Nat) : Nat := Machine.getLE p.payload off 8

end Sys2Proof

namespace Sys2Proof.Machine

/-! ### Status codes (Table 12.12) -/

namespace Status
abbrev ok : Nat := 0x0000
abbrev accepted : Nat := 0x0001
abbrev busy : Nat := 0x0101
abbrev denied : Nat := 0x0102
abbrev badArg : Nat := 0x0103
abbrev noNode : Nat := 0x0104
abbrev timeout : Nat := 0x0105
abbrev late : Nat := 0x0106
abbrev aborted : Nat := 0x0107
abbrev abortTooLate : Nat := 0x0108
abbrev pinned : Nat := 0x0109
abbrev locked : Nat := 0x010A
abbrev versionFloor : Nat := 0x010B
abbrev notBound : Nat := 0x010C
abbrev settingsIncompatible : Nat := 0x010D
abbrev unsupported : Nat := 0x010E
end Status

/-- Whether a status counts as failed in a combined response (Table 12.4). -/
def failedStatus (st : Nat) : Bool := !(st == Status.ok || st == Status.accepted || st == Status.late)

/-- A response as its 64 bytes (Table 12.4). -/
def Response.bytes (r : Response) : List Byte :=
  leBytes 2 r.opcode ++ leBytes 2 r.node ++ leBytes 2 r.session ++ leBytes 2 r.seq ++ leBytes 2 r.status ++
    [byte (b2n r.final + 2 * b2n r.combined + 4 * b2n r.list), byte r.slot] ++ leBytes 2 r.answered ++ leBytes 2 r.failed ++
    leBytes 8 r.acted ++ padTo 40 r.data

/-- The response that 64 bytes spell. -/
def Response.ofBytes (l : List Byte) : Response :=
  { opcode := getLE l 0 2, node := getLE l 2 2, session := getLE l 4 2, seq := getLE l 6 2, status := getLE l 8 2,
    final := bit (getLE l 10 1) 0, combined := bit (getLE l 10 1) 1, list := bit (getLE l 10 1) 2, slot := getLE l 11 1,
    answered := getLE l 12 2, failed := getLE l 14 2, acted := getLE l 16 8, data := getBytes l 24 40 }

/-! ### Checks -/

/-- One bit of a CRC-16 of polynomial 0x1021, most significant bit first (R275). -/
def crc16Bit (crc : Nat) : Nat := if bit crc 15 then (crc * 2 % 65536) ^^^ 0x1021 else crc * 2 % 65536

/-- CRC-16 of R275: initial value 0xFFFF, no reflection, no final XOR. -/
def crc16 (l : List Byte) : Nat :=
  l.foldl (fun c b => Nat.repeat crc16Bit 8 (c ^^^ (b.toNat * 256))) 0xFFFF

/-- One bit of CRC-32C, least significant bit first. -/
def crc32Bit (poly crc : Nat) : Nat := if bit crc 0 then (crc / 2) ^^^ poly else crc / 2

/-- The register of a reflected CRC-32 after some bytes. -/
def crc32Reg (poly init : Nat) (l : List Byte) : Nat :=
  l.foldl (fun c b => Nat.repeat (crc32Bit poly) 8 (c ^^^ b.toNat)) init

/-- A reflected CRC-32 with an initial value and a final XOR of all ones. -/
def crc32From (poly init : Nat) (l : List Byte) : Nat := crc32Reg poly init l ^^^ 0xFFFFFFFF

/-- A reflected CRC-32 with initial value and final XOR of all ones. -/
def crc32 (poly : Nat) (l : List Byte) : Nat := crc32From poly 0xFFFFFFFF l

/-- CRC-32C, the Castagnoli polynomial reflected (the spec names it and gives no polynomial: PRESUMED, log entry 17). -/
def crc32c (l : List Byte) : Nat := crc32 0x82F63B78 l

/-- CRC-32C with a given initial value (R176, R177). -/
def crc32cFrom (init : Nat) (l : List Byte) : Nat := crc32From 0x82F63B78 init l

/-- The CRC-32C register after `n` bytes more whose register from 0 is `part`: the CRC is linear, so the parts of a message can be
read apart and joined (R185). -/
def crc32cJoin (reg n part : Nat) : Nat := Nat.repeat (crc32Bit 0x82F63B78) (8 * n) reg ^^^ part

/-- Units of 64 bytes a packet costs (R362). -/
def pktCost (p : Pkt) : Nat := (16 + p.payload.length + 63) / 64

/-- The header of a packet, its first 10 bytes (Table 10.1). -/
def pktHead (p : Pkt) (lseq : Nat) : List Byte :=
  [byte p.ptype, byte (128 * b2n p.fence + 64 * b2n p.mcast + p.vc)] ++ leBytes 2 p.dst ++ leBytes 2 p.src ++
    leBytes 2 p.payload.length ++ [byte p.ttl, byte (128 * b2n p.dl + lseq % 128)]

/-- A packet as it leaves a port: header, hcrc, payload and CRC (R359). -/
def pktBytes (p : Pkt) (lseq : Nat) : List Byte :=
  let h := pktHead p lseq
  h ++ leBytes 2 (crc16 h) ++ p.payload ++ leBytes 4 (crc32c (h.take 8 ++ p.payload))

end Sys2Proof.Machine
end

