-- ==== Sys2Proof/Machine/Ops.lean ====
section
/-! DEFINITION. The operations that the families share: byte stores, sending packets over the fabric by the route tables
(R380 to R388), and moving the state's parts. -/

namespace Sys2Proof.Machine

/-- Number of the lowest `n` bits that are set. -/
def ones (n v : Nat) : Nat := ((List.range n).filter (bit v)).length

/-- The commands in the queue that belong to the cycle in progress, which the next FT_TICK ends (log entry 86). -/
def State.sameCycle (s : State) : List Instr := s.pending.takeWhile (· ≠ .ftTick)

/-! ### Byte stores -/

/-- The byte at an address of a store whose unlisted bytes read as `d`. -/
def mget (d : Byte) (m : Mem) (a : Nat) : Byte := sget d m a

/-- `n` bytes from an address. -/
def mread (d : Byte) (m : Mem) : (a n : Nat) → List Byte
  | _, 0 => []
  | a, n + 1 => mget d m a :: mread d m (a + 1) n

/-- A store with bytes written from an address. -/
def mwrite (d : Byte) (m : Mem) : (a : Nat) → List Byte → Mem
  | _, [] => m
  | a, b :: r => mwrite d (sput d m a b) (a + 1) r

/-- A little-endian value of `n` bytes. -/
def mval (d : Byte) (m : Mem) (a n : Nat) : Nat := leVal (mread d m a n)

/-- Canonical form of a byte store. -/
def Memory.wf (d : Byte) (m : Mem) : Bool := swf d m

/-- The value of an erased flash byte. -/
abbrev erased : Byte := 0xFF

/-! ### Parts of the state -/

/-- The state of port `p`, its link, its time, and changes of each. -/
def State.port (s : State) (p : Nat) : PortSt := s.ports.getD p State.port0
def State.link (s : State) (p : Nat) : LinkSt := s.links.getD p State.link0
def State.setPort (s : State) (p : Nat) (f : PortSt → PortSt) : State := { s with ports := updAt s.ports p f }
def State.setLink (s : State) (p : Nat) (f : LinkSt → LinkSt) : State := { s with links := updAt s.links p f }
def State.setTimePort (s : State) (p : Nat) (f : TimePort → TimePort) : State :=
  { s with time := { s.time with ports := updAt s.time.ports p f } }
def State.stream (s : State) (i : Nat) : StreamSt := s.ing.streams.getD i State.stream0
def State.setStream (s : State) (i : Nat) (f : StreamSt → StreamSt) : State :=
  { s with ing := { s.ing with streams := updAt s.ing.streams i f } }
def State.ring (s : State) (i : Nat) : DpRing := s.ing.rings.getD i State.ring0
def State.setRing (s : State) (i : Nat) (f : DpRing → DpRing) : State :=
  { s with ing := { s.ing with rings := updAt s.ing.rings i f } }
def State.lane (s : State) (n : Nat) : LaneSt := s.lan.lanes.getD n State.lane0
def State.setLane (s : State) (n : Nat) (f : LaneSt → LaneSt) : State :=
  { s with lan := { s.lan with lanes := updAt s.lan.lanes n f } }
def State.engine (s : State) (e : Nat) : Engine := s.clv.engines.getD e State.engine0
def State.setEngine (s : State) (e : Nat) (f : Engine → Engine) : State :=
  { s with clv := { s.clv with engines := updAt s.clv.engines e f } }

/-- The node's ID, 0x000 before it has one (Table 10.12). -/
def State.id (s : State) : Nat := s.r .netNodeId

/-- A port carries traffic (Table 9.8). -/
def State.up (s : State) (p : Nat) : Bool := s.r .fabState p == 5

/-- The time a short stamp of a packet names; one out of range sets stamp_range and names none (R61). -/
def State.takeStamp (s : State) (stamp : Nat) : Option Nat × State :=
  match extend s.ftNs stamp with
  | some t => (some t, s)
  | none => (none, s.raise .ftStampRange)

/-! ### Packets -/

/-- The VC a packet type travels on (Table 10.2); none for a reserved type. FENCE travels on any. -/
def vcOf (ptype : Nat) : Option Nat :=
  if ptype ∈ [0x20, 0x21] then some 1
  else if ptype = 0x28 then some 2
  else if ptype ∈ [0x30, 0x31, 0x32] then some 3
  else if ptype ∈ [0x01, 0x02, 0x03, 0x04, 0x05, 0x06, 0x07, 0x08, 0x09, 0x0A, 0x10, 0x11, 0x12, 0x13, 0x18, 0x19, 0x1A, 0x1B,
      0x1C, 0x1D, 0x1E, 0x1F] then some 0
  else none

/-- A packet the node originates (R360). -/
def State.packet (s : State) (ptype vc dst : Nat) (payload : List Byte) (fence mcast : Bool := false) : Pkt :=
  { ptype := ptype, fence := fence, mcast := mcast, vc := vc, dst := dst, src := s.id, ttl := 255, dl := false,
    payload := payload }

/-- Queues a packet on an egress port; a port not in UP discards and counts it (Tables 10.5 and 10.6). -/
def State.egress (s : State) (p : Nat) (k : Pkt) (frees : Option Release := none) : State :=
  if s.up p then s.setLink p (fun l => { l with queue := l.queue ++ [⟨k, s.clk, (frees.map (·.port)).getD 4, frees⟩] })
  else s.count .fabDroppedDown p

/-- Units of a receive buffer freed, to be reported (R364, R365). -/
def State.freeUnits (s : State) (p k n : Nat) : State :=
  s.setLink p (fun l => { l with
    held := updAt l.held k (fun h => h - n), freed := updAt l.freed k (fun f => (f + n) % 65536), linkDue := true })

/-- A copy of a forwarded packet is gone: the packet's units are freed where no port still queues a copy of it (R364). -/
def State.release (s : State) (r : Release) : State :=
  if s.links.any (fun l => l.queue.any (fun q => q.frees == some r)) then s else s.freeUnits r.port r.cls r.units

/-- The ports named by an egress mask, in ascending order. -/
def portsOf (mask : Nat) : List Nat := (List.range 4).filter (bit mask)

/-- The unicast entry for a node (Table 10.8): the port, if the entry is valid. -/
def State.routeTo (s : State) (dst : Nat) : Option Nat :=
  let e := (mget 0 s.net.unicast dst).toNat
  if bit e 7 && dst != 0 then some (e % 4) else none

/-- The multicast entry of a group for an ingress (R387). -/
def State.groupEntry (s : State) (g ingress : Nat) : Nat := (mget 0 s.net.multicast (8 * g + ingress)).toNat

/-- The broadcast ports for an ingress (R385). -/
def State.broadcastPorts (s : State) (ingress : Nat) : List Nat := portsOf (s.net.broadcast.getD ingress 0)

/-- The egress ports of a routed packet from an ingress (4 for the node itself), or none where no valid entry names it. -/
def State.egressPorts (s : State) (k : Pkt) (ingress : Nat) : Option (List Nat) :=
  if k.mcast then
    let e := s.groupEntry (k.dst % 256) ingress
    if bit e 7 then some (portsOf e) else none
  else if k.dst = 0xFFF then some (s.broadcastPorts ingress)
  else (s.routeTo k.dst).map (fun p => [p])

/-- A fence of the node that holds packets of a VC to a destination (R397). -/
def State.fenceFor (s : State) (dst vc : Nat) : Option Fence :=
  s.net.fences.find? (fun f => f.dst == dst && bit f.mask vc)

/-- Sends a packet the node originates by the route tables: a node without an ID sends none (R380), a fence to its
destination holds it (R397), one to itself reaches its own handler, and a destination without a valid entry sets no_route (Table 10.5). -/
def State.route (s : State) (k : Pkt) : State :=
  if s.id = 0 then s
  else if !k.mcast && k.dst == s.id then s.emit (.delivered k)
  else
    match (if k.mcast then none else s.fenceFor k.dst k.vc) with
    | some f =>
      let fs := s.net.fences.map (fun g => if g.id = f.id then { g with held := g.held ++ [k] } else g)
      { s with net := { s.net with fences := fs } }
    | none =>
      match s.egressPorts k 4 with
      | some ps => ps.foldl (fun s p => s.egress p k) s
      | none => s.raise .netNoRoute

/-- Sends a unicast packet on the VC of its type. -/
def State.sendTo (s : State) (ptype dst : Nat) (payload : List Byte) (fence : Bool := false) : State :=
  s.route (s.packet ptype ((vcOf ptype).getD 0) dst payload fence)

/-- Sends a packet to a multicast group. -/
def State.sendGroup (s : State) (ptype g : Nat) (payload : List Byte) (fence : Bool := false) : State :=
  s.route (s.packet ptype ((vcOf ptype).getD 0) g payload fence true)

/-- Sends a packet to every node (R385). -/
def State.broadcast (s : State) (ptype : Nat) (payload : List Byte) : State :=
  s.route (s.packet ptype ((vcOf ptype).getD 0) 0xFFF payload)

/-- Sends a hop-local packet on one port (Table 10.2). -/
def State.sendPort (s : State) (p ptype : Nat) (payload : List Byte) : State :=
  s.egress p (s.packet ptype 0 0 payload)

/-- A head sends a redundancy packet with dst 0xFFF out of its ports on its own ring: those that carry traffic and are not
boundary ports (R382, R405). -/
def State.sendRing (s : State) (ptype : Nat) (payload : List Byte) : State :=
  ((List.range 4).filter (fun p => s.up p && !bit (s.r .netBoundary) p)).foldl (fun s p =>
    s.egress p (s.packet ptype 0 0xFFF payload)) s

/-- A RESILVER packet (Table 11.8); a head sends it only once it has an ID (R405). -/
def State.sendResilver (s : State) (op count csa transfer : Nat) : State :=
  if s.id = 0 then s
  else s.sendRing 0x1E ([byte op, 0, 0, 0] ++ leBytes 4 count ++ leBytes 8 csa ++ leBytes 4 transfer ++ leBytes 4 0)

/-- Cuts a transfer into BULK_DATA packets (Table 10.2): 496 data bytes each, of kind, transfer ID and offset. -/
def bulkPayloads (kind id base : Nat) : (fuel : Nat) → (off : Nat) → List Byte → List (List Byte)
  | 0, _, _ => []
  | fuel + 1, off, l =>
    if l = [] then []
    else ([byte kind, 0, 0, 0] ++ leBytes 4 id ++ leBytes 8 (base + off) ++ l.take 496) ::
      bulkPayloads kind id base fuel (off + 496) (l.drop 496)

/-- Sends data as BULK_DATA to a node. -/
def State.sendBulk (s : State) (dst kind id base : Nat) (l : List Byte) : State :=
  (bulkPayloads kind id base l.length 0 l).foldl (fun s b => s.sendTo 0x28 dst b) s

end Sys2Proof.Machine
end

