-- ==== Sys2Proof/Machine/Coding.lean ====
section
/-! DEFINITION. What a Palist port puts on its lanes: rates and codings (R317), PAM4 symbols and their precoding (R321, R322),
training frames (R328), and packets, fill and control blocks (R342, R355 to R358). Items stand as they are before the scrambler or the
8b/10b coder, whose own bits the spec does not give (log entry 85). -/

namespace Sys2Proof.Machine

/-! ### Rates (Table 9.1) -/

/-- How a lane signals. -/
inductive Modulation where
  | nrz | pam4
  deriving DecidableEq, Repr

/-- How bytes become the bits of the lanes. -/
inductive Coding where
  | b8b10 | b64b66 | b64b66fec
  deriving DecidableEq, Repr

/-- A rate: symbols in kBd and how they are coded. -/
structure RateRow where
  symbols : Nat
  modulation : Modulation
  coding : Coding
  deriving DecidableEq, Repr

/-- The rates of Table 9.1 by code (R317). -/
def rateRow (rate : Nat) : RateRow :=
  nth [⟨1250000, .nrz, .b8b10⟩, ⟨10312500, .nrz, .b64b66⟩, ⟨13281250, .pam4, .b64b66fec⟩, ⟨26562500, .pam4, .b64b66fec⟩] rate
    ⟨1250000, .nrz, .b8b10⟩

/-- Bits of a symbol. -/
def Modulation.bitsEach : Modulation → Nat
  | .nrz => 1
  | .pam4 => 2

/-- An RS(544,514) codeword: symbols in all, symbols of data, bits of a symbol, and symbols it corrects (R317, R320). -/
abbrev fecSymbols : Nat := 544
abbrev fecData : Nat := 514
abbrev fecSymbolBits : Nat := 10
abbrev fecCorrects : Nat := 15

/-- Bits of payload, and bits on the lanes that carry them: 8 in 10; 64 in 66; or four 66-bit blocks transcoded into 257 bits and sent in
codewords of RS(544,514) (R317). -/
def Coding.payload : Coding → Nat × Nat
  | .b8b10 => (8, 10)
  | .b64b66 => (64, 66)
  | .b64b66fec => (4 * 64 * fecData, 257 * fecSymbols)

/-- Lane rate in kb/s (Table 9.1). -/
def laneRate (rate : Nat) : Nat := (rateRow rate).symbols * (rateRow rate).modulation.bitsEach

/-- Payload per lane in Mb/s (Table 9.1). -/
def lanePayload (rate : Nat) : Nat :=
  laneRate rate * (rateRow rate).coding.payload.1 / ((rateRow rate).coding.payload.2 * 1000)

/-- The widest width whose lanes are all there, as a mask of lanes (R319, R334). -/
def widest (lanes : Nat) : Nat := if lanes % 16 = 15 then 15 else if lanes % 4 = 3 then 3 else 1

/-- Number of lanes in a width. -/
def widthOf (lanes : Nat) : Nat := if lanes = 15 then 4 else if lanes = 3 then 2 else 1

/-- The lane that carries FEC symbol `i` of a port: symbols go round-robin over the active lanes (R317). -/
def fecLane (i lanes : Nat) : Nat := i % widthOf lanes

/-- FEC codewords of 5,440 bits in `us` µs at a rate and width. -/
def codewords (rate lanes us : Nat) : Nat := laneRate rate * widthOf lanes * us / 1000 / (fecSymbols * fecSymbolBits)

/-! ### PAM4 symbols (R321, R322) -/

/-- The Gray code of a bit pair, the first bit sent first (Table 9.3). -/
def grayCode (first second : Bool) : Nat := if first then (if second then 2 else 3) else (if second then 1 else 0)

/-- The level of a code (Table 9.3). -/
def levelOf (code : Nat) : Int := 2 * (code : Int) - 3

/-- The code sent for Gray code `g` after code `prev` (R322). -/
def precode (g prev : Nat) : Nat := (g + 4 - prev % 4) % 4

/-- The Gray code that a receiver recovers from code `y` after code `prev` (R322). -/
def recoverGray (y prev : Nat) : Nat := (y + prev) % 4

/-! ### Training frames (R328, Table 9.6) -/

/-- The next bit of PRBS13, x^13 + x^12 + x^2 + x + 1, and the register after it: bit i of the register is the bit i + 1 before. -/
def prbs13 (reg : Nat) : Bool × Nat :=
  let b := (reg / 4096 + reg / 2048 + reg / 2 + reg) % 2 == 1
  (b, reg * 2 % 8192 + b2n b)

/-- `n` UI of the training pattern as codes, with the register and the code sent last: plain bits at NRZ, Gray-mapped and precoded at
PAM4. -/
def patternUi (m : Modulation) : (n reg last : Nat) → List Nat × Nat × Nat
  | 0, reg, last => ([], reg, last)
  | n + 1, reg, last =>
    let a := prbs13 reg
    match m with
    | .nrz =>
      let r := patternUi m n a.2 (b2n a.1)
      (b2n a.1 :: r.1, r.2)
    | .pam4 =>
      let b := prbs13 a.2
      let y := precode (grayCode a.1 b.1) last
      let r := patternUi m n b.2 y
      (y :: r.1, r.2)

/-- The top level as a code. -/
def Modulation.top : Modulation → Nat
  | .nrz => 1
  | .pam4 => 3

/-- A word of a training frame, bit 15 first, each bit held for 8 UI. -/
def wordUi (m : Modulation) (w : Nat) : List Nat :=
  (List.range 16).flatMap (fun i => List.replicate 8 (if bit w (15 - i) then m.top else 0))

/-- A training frame of 4,384 UI as codes: marker, control word, status word and pattern, with the pattern's register and the code sent
last. -/
def trainingFrame (m : Modulation) (control status reg : Nat) : List Nat × Nat × Nat :=
  let head := List.replicate 16 m.top ++ List.replicate 16 0 ++ wordUi m control ++ wordUi m status
  let r := patternUi m 4096 reg (head.getLastD 0)
  (head ++ r.1, r.2)

/-- When frame `n` of a lane starts, ns after TRAIN began. -/
def frameStart (rate n : Nat) : Nat := n * 4384 * 1000000 / (rateRow rate).symbols

/-- A word of Table 9.7 has even parity over all its bits. -/
def parityOk (w : Nat) : Bool := (ones 16 w) % 2 == 0

/-- A word with its parity bit. -/
def withParity (w : Nat) : Nat := if (ones 15 w) % 2 = 1 then w % 32768 + 32768 else w % 32768

/-! ### Ordered sets and blocks (R342, R355 to R358) -/

/-- A code group Kx.y, and bytes as data. -/
def kCode (x y : Nat) : Bool × Byte := (true, byte (32 * y + x))
def dCodes (l : List Byte) : List (Bool × Byte) := l.map (fun b => (false, b))

/-- IDLE at rate 0: K28.5 and D5.6. -/
def idleSet : LineItem := .set [kCode 28 5, (false, byte (32 * 6 + 5))]

/-- An offer block: K27.7, the offer, K29.7. -/
def offerSet (l : List Byte) : LineItem := .set (kCode 27 7 :: dCodes l ++ [kCode 29 7])

/-- Bytes padded with 0x00 to a multiple of 8 (R356). -/
def padded (l : List Byte) : List Byte := l ++ List.replicate ((8 - l.length % 8) % 8) 0

/-- A packet on the line: between K28.2 and K29.7 at rate 0 (R357), in whole data blocks at rates 1 to 3 (R355, R356). -/
def packetItem (rate : Nat) (l : List Byte) : LineItem :=
  if rate = 0 then .set (kCode 28 2 :: dCodes l ++ [kCode 29 7]) else .data (padded l)

/-- What fills the line where no packet stands: IDLE at rate 0 (R357), else a fill word (R342, R355). -/
def fillItem (rate : Nat) : LineItem := if rate = 0 then idleSet else .data (List.replicate 8 0)

/-- The resync block: a control block of block type 0x4B, its first byte 0x5A, the others 0x00 (R358). -/
def resyncBlock : List Byte := [0x4B, 0x5A, 0, 0, 0, 0, 0, 0]

/-- The data of a receiver from the first word that is not fill (R356). -/
def skipFill : (fuel : Nat) → List Byte → List Byte
  | 0, l => l
  | fuel + 1, l => if 8 ≤ l.length ∧ getLE l 0 1 = 0 then skipFill fuel (l.drop 8) else l

end Sys2Proof.Machine
end

