-- ==== Sys2Proof/Machine/Mailbox.lean ====
section
/-! DEFINITION. Carrying out a host command: the checks made before it, its response on the path it came by, fences,
scheduling, relay and mirroring (R435 to R437, R446 to R488, R398 to R402). The action of each opcode is in its family. -/

namespace Sys2Proof.Machine

/-- What an action answers: the state it leaves, the status, the response data, and, for a command that completes later,
what it waits for. `silent` marks one that posts no interim response; `opened` the session of a SESSION_OPEN. -/
structure Ack where
  s : State
  status : Nat
  data : List Byte
  waits : Option Waits
  silent : Bool
  opened : Option Nat

/-- OK with data. -/
def done (s : State) (data : List Byte := []) : Ack := ⟨s, Status.ok, data, none, false, none⟩

/-- A refusal: the command has changed no state (R483). -/
def refuse (s : State) (status : Nat) (data : List Byte := []) : Ack := ⟨s, status, data, none, false, none⟩

/-- An interim response, with a final one to follow. -/
def accept (s : State) (w : Waits) (status : Nat := Status.accepted) (data : List Byte := []) : Ack :=
  ⟨s, status, data, some w, false, none⟩

/-- No response yet: the command completes when what it waits for comes. -/
def await (s : State) (w : Waits) : Ack := ⟨s, Status.ok, [], some w, true, none⟩

/-- An action: what a command does. -/
abbrev Action := HostCmd → State → Ack

/-! ### Responses -/

/-- A response of this node to a command. -/
def State.response (s : State) (c : HostCmd) (status : Nat) (final : Bool) (data : List Byte) (acted : Nat)
    (session : Nat) : Response :=
  { opcode := c.opcode, node := s.id, session := session, seq := c.seq, status := status, final := final,
    combined := false, list := false, slot := c.slot % 256, answered := 1, failed := b2n (failedStatus status),
    acted := acted, data := data }

/-- The response half of slot `n` written (R454). -/
def State.slotWrite (s : State) (n : Nat) (r : Response) : State :=
  { s with mbx := { s.mbx with slots := mwrite 0 s.mbx.slots (0x80 * n + 0x40) r.bytes } }

/-- Slot `n` completed: its done bit set, its busy bit cleared, its vector sent (R454, Table 12.5). -/
def State.slotComplete (s : State) (n : Nat) : State :=
  let s := (s.w .mbxDone 0 (setBit (s.r .mbxDone) n true)).heat .mbxDone 0 (2 ^ n)
  let s := s.w .mbxBusy 0 (setBit (s.r .mbxBusy) n false)
  s.emit (.msix (2 + n % 30))

/-- The completion ring is full (R456). -/
def State.ringFull (s : State) : Bool := (s.r .mbxCqTail + 1) % s.r .mbxCqSize == s.r .mbxCqHead % s.r .mbxCqSize

/-- An entry written at cq_tail (R456). -/
def State.ringWrite (s : State) (r : Response) : State :=
  let s := s.emit (.hostWrite (s.r .mbxCqBase + 64 * s.r .mbxCqTail) r.bytes)
  let s := s.w .mbxCqTail 0 ((s.r .mbxCqTail + 1) % s.r .mbxCqSize)
  s.emit (.msix 1)

/-- A final response to the ring; while it is full the node holds responses in order (R456). -/
def State.ringPost (s : State) (r : Response) : State :=
  if s.mbx.heldFinals ≠ [] ∨ s.ringFull then
    { s with mbx := { s.mbx with heldFinals := s.mbx.heldFinals ++ [r] } }.raise .mbxRingFull
  else s.ringWrite r

/-- A Calfiond datagram with one response (Table 12.7). -/
def datagramOf (r : Response) : List Byte := [0x4D, 0x58, 0x55, 0x31, 1, 1, 0, 0] ++ r.bytes

/-- A final response kept for its UDP requester, the last 64 (R458). -/
def keepFinal (l : List Kept) (ip sport : Nat) (r : Response) : List Kept :=
  if l.any (fun k => k.ip = ip ∧ k.sport = sport) then
    l.map (fun k => if k.ip = ip ∧ k.sport = sport then { k with responses := (r :: k.responses).take 64 } else k)
  else l ++ [⟨ip, sport, [r]⟩]

/-- A response sent on the path of its command, and the command, marked where its slot has completed (R454 to R457, R399). -/
def State.post (s : State) (c : HostCmd) (r : Response) : State × HostCmd :=
  match c.req with
  | .pcie =>
    if c.slot ≥ 256 then (s.ringPost r, c)
    else if r.final then ((s.slotWrite c.slot r).slotComplete c.slot, c)
    else if s.on .mbxCqEnable then ((s.slotWrite c.slot r).slotComplete c.slot, c.released)
    else (s.slotWrite c.slot r, c)
  | .udp ip sport =>
    let s := s.emit (.datagram ip sport (datagramOf r))
    if r.final then ({ s with mbx := { s.mbx with kept := keepFinal s.mbx.kept ip sport r } }, c) else (s, c)
  | .fabric n =>
    -- a command of this node's own has nobody to answer
    if n = s.id then (s, c)
    else (s.sendTo 0x11 n (r.bytes ++ leBytes 4 c.tag ++ leBytes 2 s.id ++ [0, 0]), c)

/-- A command's slot marked as released in every place that holds the command. -/
def State.markReleased (s : State) (c d : HostCmd) : State :=
  let f (x : HostCmd) : HostCmd := if x = c then d else x
  let ds := s.mbx.deferred.map (fun e => { e with cmd := f e.cmd })
  let rs := s.mbx.relays.map (fun e => { e with cmd := f e.cmd })
  { s with mbx := { s.mbx with deferred := ds, scheduled := s.mbx.scheduled.map f, relays := rs } }

/-- A response posted, the command's copies marked. -/
def State.postMark (s : State) (c : HostCmd) (r : Response) : State :=
  let p := s.post c r
  if p.2 = c then p.1 else p.1.markReleased c p.2

/-! ### Relay results (R399, R400, R476 to R478) -/

/-- The nodes of a relay whose response fails, answers LATE, is missing. -/
def Relay.failed (r : Relay) : List (Nat × Response) := r.responses.filter (fun p => failedStatus p.2.status)
def Relay.missing (r : Relay) : List Nat := r.nodes.filter (fun n => !r.responses.any (fun p => p.1 = n))

/-- The response of the lowest node ID among some. -/
def lowest : List (Nat × Response) → Option (Nat × Response)
  | [] => none
  | p :: r => match lowest r with
    | none => some p
    | some q => if q.1 < p.1 then some q else some p

/-- The combined response of a relay (R476, Table 12.4). -/
def Relay.combined (r : Relay) : Response :=
  let failed := r.failed
  let lateN := (r.responses.filter (fun p => p.2.status = Status.late)).length
  let queued := r.responses.any (fun p => p.2.status = Status.accepted && !p.2.final)
  let ff := lowest failed
  let status :=
    match ff with
    | some q => q.2.status
    | none =>
      if r.missing ≠ [] then Status.timeout
      else if lateN ≠ 0 then Status.late
      else if queued then Status.accepted
      else Status.ok
  let src := match lowest (r.responses.filter (fun p => !failedStatus p.2.status)) with
    | some q => some q
    | none => ff
  { opcode := r.cmd.opcode, node := 0xFFF, session := if r.cmd.opcode = 0x0100 ∧ status = Status.ok then getLE r.cmd.payload 2 2 else r.cmd.session, seq := r.cmd.seq, status := status,
    final := !(r.responses.any (fun p => !p.2.final)), combined := true, list := false, slot := r.cmd.slot % 256,
    answered := r.responses.length, failed := failed.length,
    acted := (ff.map (fun q => q.1)).getD 0 + 2 ^ 16 * (ff.map (fun q => q.2.status)).getD 0 + 2 ^ 32 * lateN +
      2 ^ 48 * r.missing.length,
    data :=
      let d := (src.map (fun q => q.2.data)).getD []
      -- a COMMIT counts its nodes in scope, late and refusing (Table 4.12)
      if r.cmd.opcode = 0x0407 then
        let d := padTo 20 d
        d.take 12 ++ leBytes 2 r.nodes.length ++ leBytes 2 lateN ++ leBytes 2 failed.length ++ d.drop 18
      else d }

/-- Responses in ascending node ID. -/
def insertNode (p : Nat × Response) : List (Nat × Response) → List (Nat × Response)
  | [] => [p]
  | q :: r => if p.1 < q.1 then p :: q :: r else if p.1 = q.1 then p :: r else q :: insertNode p r

/-- The list of responses written to host memory when the descriptor gives an address (R477). -/
def State.writeList (s : State) (r : Relay) : State × Bool :=
  let addr := getLE r.cmd.payload 16 8
  if r.cmd.dma ∧ addr ≠ 0 then
    (s.emit (.hostWrite addr ((r.responses.take (getLE r.cmd.payload 24 2)).flatMap (fun p => p.2.bytes))), true)
  else (s, false)

/-- The mirror of a command is a relay whose command has no relay flag (R435). -/
def Relay.isMirror (r : Relay) : Bool := !r.cmd.relay

/-- A mirror ends with its first answers; one of a scheduled command, with the final ones. -/
def Relay.endsNow (r : Relay) : Bool := r.isMirror && !r.cmd.isScheduled

/-- Removes the relay of a tag. -/
def State.dropRelay (s : State) (tag : Nat) : State :=
  { s with mbx := { s.mbx with relays := s.mbx.relays.filter (fun r => r.tag ≠ tag) } }

/-- A session-log entry, the last 64 kept (Table 12.9). -/
def State.logSession (s : State) (x : Session) (reason : Nat) : State :=
  let path := match x.owner with | .pcie => 0 | .udp _ _ => 1 | .fabric _ => 2
  let owner := match x.owner with | .pcie => 0 | .udp ip _ => ip | .fabric n => n
  let l := s.mbx.log ++ [⟨x.id, reason, path, owner, s.ftNs⟩]
  { s with mbx := { s.mbx with log := l.drop (l.length - 64) } }

/-- Nodes on which a refused wall session opened close it with discard (R471); nothing has been staged or queued under it yet. -/
def State.closeOpened (s : State) (r : Relay) : State :=
  let sid := getLE r.cmd.payload 2 2
  let s := match s.mbx.sessions.find? (fun x => x.id = sid) with
    | some x => (s.logSession x 2).raise .mbxSessionLapsed
    | none => s
  let cmd (n : Nat) : HostCmd := { r.cmd with opcode := 0x0101, target := n, flags := 4, payload := leBytes 2 sid ++ [1] }
  let s := (r.responses.filter (fun p => !failedStatus p.2.status && p.1 ≠ s.id)).foldl (fun s p =>
    s.sendTo 0x10 p.1 ((cmd p.1).bytes ++ leBytes 4 s.mbx.nextTag ++ leBytes 2 s.id ++ [0, 0])) s
  { s with mbx := { s.mbx with sessions := s.mbx.sessions.filter (fun x => x.id ≠ sid), nextTag := s.mbx.nextTag + 1 } }

/-- The twin has diverged: the holder sets mirror_diverged and tells it to resilver (R435; log entry 44). -/
def State.diverged (s : State) : State :=
  { s with net := { s.net with nextTransfer := s.net.nextTransfer + 1 } }.raise .redMirrorDiverged |>.sendResilver 0 0 0 s.net.nextTransfer

/-- A relay at its end: once an interim response has gone out, only final responses count (R478). -/
def Relay.settled (r : Relay) : Relay :=
  if r.finals then { r with responses := r.responses.filter (fun p => p.2.final) } else r

/-- The nodes in scope of a relay and their responses, without the node that a wall session is only mirrored to (R470). -/
def Relay.inScope (r : Relay) : Relay :=
  { r with nodes := r.nodes.filter (· ∉ r.mirrorTo), responses := r.responses.filter (fun p => p.1 ∉ r.mirrorTo) }

/-- A node that a wall session is mirrored to has not answered, or answers otherwise than the holder's command ends (R435, R470). -/
def Relay.mirrorFails (r : Relay) : Bool :=
  r.mirrorTo.any (fun n => match r.responses.find? (fun p => p.1 = n) with
    | some p => p.2.status != r.inScope.combined.status
    | none => true)

/-- A relay completes with what it holds: one target's own response, a combined one, or, for a mirrored command, the
holder's own, with the twin sent to RESILVER where it differs (R399, R400, R435, R471). -/
def State.finishRelay (s : State) (r : Relay) : State :=
  let s := s.dropRelay r.tag
  let r := r.settled
  let s := if r.mirrorFails then s.diverged else s
  let r := r.inScope
  if r.isMirror then
    match r.responses.find? (fun p => p.1 = s.id), r.responses.find? (fun p => p.1 ≠ s.id) with
    | some own, some twin =>
      let s := if own.2.status = twin.2.status then s else s.diverged
      s.postMark r.cmd { own.2 with slot := r.cmd.slot % 256 }
    | some own, none => s.diverged.postMark r.cmd { own.2 with slot := r.cmd.slot % 256 }
    | none, _ => s
  else if r.cmd.scope = 0 then
    match r.responses with
    | p :: _ => s.postMark r.cmd { p.2 with session := r.cmd.session, seq := r.cmd.seq, slot := r.cmd.slot % 256 }
    | [] => s.postMark r.cmd (s.response r.cmd Status.timeout true [] s.ftNs r.cmd.session)
  else
    let s := if r.cmd.opcode = 0x0100 ∧ (r.failed ≠ [] ∨ r.missing ≠ []) then s.closeOpened r else s
    let w := s.writeList r
    w.1.postMark r.cmd { r.combined with final := true, list := w.2 }

/-- The interim response of a relay whose nodes have all answered, some with a final response to follow (R478). -/
def State.interimRelay (s : State) (r : Relay) : State :=
  let rs := s.mbx.relays.map (fun (q : Relay) => if q.tag = r.tag then { q with finals := true, started := s.clk } else q)
  let s := { s with mbx := { s.mbx with relays := rs } }
  let first := if r.isMirror then r.responses.filter (fun p => p.1 = s.id) else r.responses
  match r.cmd.scope, first with
  | 0, p :: _ => s.postMark r.cmd { p.2 with session := r.cmd.session, seq := r.cmd.seq, slot := r.cmd.slot % 256, final := false }
  | _, _ => s.postMark r.cmd { r.inScope.combined with final := false }

/-- What an answer to a FAB_GROUP_SET tells the head of the node's groups (log entry 18). -/
def State.learnGroup (s : State) (c : HostCmd) (node : Nat) (r : Response) : State :=
  if c.opcode = 0x0209 ∧ r.status = Status.ok then
    let g := c.u8 0
    let upd (m : MapNode) : MapNode :=
      if m.node = node then
        { m with groups := if c.u8 1 = 1 then (if g ∈ m.groups then m.groups else g :: m.groups) else m.groups.filter (· ≠ g) }
      else m
    { s with net := { s.net with map := s.net.map.map upd } }
  else s

/-- What an answer to FW_GET tells a spreading head of a node (R557): the state of the bank that is not CONFIRMED or TRIAL, and
blocks_done. -/
def State.learnSpread (s : State) (c : HostCmd) (node : Nat) (r : Response) : State :=
  match s.fw.spread with
  | some sp =>
    if c.opcode = 0x0C00 ∧ r.status = Status.ok ∧ getLE r.data 16 4 = sp.xfer then
      let w := getLE r.data 0 4
      let a := bits w 31 29
      let st := if a = 4 ∨ a = 5 then bits w 28 26 else a
      let seen := sp.seen.filter (fun e => e.1 ≠ node) ++ [(node, st, getLE r.data 20 8)]
      { s with fw := { s.fw with spread := some { sp with seen := seen } } }
    else s
  | none => s

/-- An answer of a node to a relay (R399, R400); one that comes after the relay has completed is discarded and counted. -/
def State.relayAnswer (s : State) (tag node : Nat) (resp : Response) : State :=
  match s.mbx.relays.find? (fun r => r.tag = tag) with
  | none => { s with mbx := { s.mbx with lateResponses := s.mbx.lateResponses + 1 } }
  | some r =>
    let r := { r with responses := insertNode (node, resp) r.responses }
    let s := { s with mbx := { s.mbx with relays := s.mbx.relays.map (fun (q : Relay) => if q.tag = tag then r else q) } }
    let s := (s.learnGroup r.cmd node resp).learnSpread r.cmd node resp
    if r.missing ≠ [] then s
    else if r.endsNow || !r.responses.any (fun p => !p.2.final) then s.finishRelay r
    else if r.finals then s
    else s.interimRelay r

/-- A response: a local share of a relay is counted like any node's (R475); any other goes out on its path. -/
def State.respond (s : State) (c : HostCmd) (r : Response) : State × HostCmd :=
  if c.req = .fabric s.id then (s.relayAnswer c.tag s.id r, c) else s.post c r

/-- The final response of a command. -/
def State.final (s : State) (c : HostCmd) (status : Nat) (data : List Byte := []) : State :=
  (s.respond c (s.response c status true data s.ftNs c.session)).1

/-- Commands waiting for `w` complete with a status and data. -/
def State.complete (s : State) (w : Waits) (status : Nat) (data : List Byte := []) : State :=
  let ready := s.mbx.deferred.filter (fun d => d.waits == w)
  let s := { s with mbx := { s.mbx with deferred := s.mbx.deferred.filter (fun d => !(d.waits == w)) } }
  ready.foldl (fun s d => s.final d.cmd status data) s

/-- Every command waiting for something a test selects completes with a status. -/
def State.completeAll (s : State) (f : Waits → Bool) (status : Nat) : State :=
  let ready := s.mbx.deferred.filter (fun d => f d.waits)
  let s := { s with mbx := { s.mbx with deferred := s.mbx.deferred.filter (fun d => !f d.waits) } }
  ready.foldl (fun s d => s.final d.cmd status) s

/-! ### Checks before a command -/

/-- Opcodes that only read (R486, R518, R541, R575, R594, R210); THM_SENSOR reads with op 0. -/
def readsOnly (op : Nat) (c : HostCmd) : Bool :=
  op ∈ [0x0000, 0x0001, 0x0002, 0x0003, 0x0007, 0x0103, 0x0200, 0x0204, 0x0205, 0x0208, 0x020A, 0x020B, 0x020C, 0x0300, 0x0400,
    0x0408, 0x040E, 0x0410, 0x0412, 0x0500, 0x0506, 0x0600, 0x0604, 0x0605, 0x0700, 0x0703, 0x0705, 0x0706, 0x0800, 0x0805,
    0x0807, 0x0900, 0x0906, 0x0907, 0x0A00, 0x0B00, 0x0B05, 0x0C00, 0x0C09, 0x0D02, 0x0D03, 0x0D41, 0x0E00, 0x0F00, 0x0F03]
  || (op == 0x0B02 && c.u8 2 == 0)

/-- The lock area of an opcode's group (Table 12.8); REG_WRITE falls in the area of the block it writes. -/
def areaOf (op : Nat) (c : HostCmd) : Option Nat :=
  if op = 0x0004 then areaAt (c.u32 0)
  else
    match op / 256 with
    | 2 | 3 => some 6
    | 4 => some 0
    | 5 | 6 => some 1
    | 7 => some 2
    | 8 => some 3
    | 9 => some 4
    | 0x0A => some 5
    | 0x0B => some 7
    | 0x0C => some 8
    | 0x0D => some 9
    | 0x0E | 0x0F => some 10
    | _ => none

/-- The block of Table 13.4 whose state a command changes (R494). -/
def blockOf (op : Nat) (c : HostCmd) : Option Nat :=
  if op = 0x0004 then blockAt (c.u32 0)
  else if op ∈ [0x0201, 0x0202, 0x0203] then some (4 + c.u8 0 % 4)
  else if op = 0x0411 ∨ op = 0x0D42 ∨ op = 0x0D40 then some 8
  else
    match op / 256 with
    | 5 => some 0
    | 6 => some 1
    | 7 => some 8
    | 8 => some 9
    | 9 => some 10
    | 0x0A => some 12
    | 0x0B => some 11
    | 0x0C => some 13
    | _ => none

/-- A header that Table 12.2 does not allow (R448 to R450, R462). -/
def State.headerBad (s : State) (c : HostCmd) : Bool :=
  c.reserved != 0 || decide (16 ≤ c.flags) || decide (0x4000 ≤ c.target) || c.scope == 3 ||
  (c.dma && (c.req != .pcie || getLE c.payload 8 2 == 0 || decide (512 < getLE c.payload 8 2) ||
    (c.relay && decide (40 < getLE c.payload 8 2)))) ||
  (!c.relay && (match c.req with
    | .fabric _ => false
    | _ => c.scope != 0 || !(c.node == 0 || c.node == s.id))) ||
  (c.isScheduled && c.group == 1)

/-- A tile carries out no command of groups 0x05 and 0x06, and relays none (R122, R474). -/
def State.roleBad (s : State) (c : HostCmd) : Bool :=
  !s.isHead && ((c.group == 5 || c.group == 6) ||
    (c.relay && (match c.req with | .fabric _ => false | _ => true)))

/-- The refusal a session gives (R466). -/
def State.sessionBad (s : State) (c : HostCmd) : Option Nat :=
  if c.session = 0 then none
  else
    match s.mbx.sessions.find? (fun x => x.id = c.session) with
    | none => some Status.notBound
    | some x => if x.owner = c.req ∨ x.rebind ∨ c.req = .fabric s.id then none else some Status.denied

/-- The command is of a group that minimum service does not carry out (R485). -/
def State.serviceBad (s : State) (c : HostCmd) : Bool :=
  s.inMin && !(c.group ∈ [0, 1, 2, 3, 0x0B, 0x0C, 0x0D, 0x0E, 0x0F])

/-- A relayed command that changes state from a head that is not the tile's control head (R427). -/
def State.controlBad (s : State) (op : Nat) (c : HostCmd) : Bool :=
  match c.req with
  | .fabric n => !s.isHead && !readsOnly op c && n != s.controlNow
  | _ => false

/-- A host command that a head without the lease does not carry out (R437). -/
def State.holderBad (s : State) (op : Nat) (c : HostCmd) : Bool :=
  match c.req with
  | .fabric _ => false
  | _ => s.isHead && !s.on .redHolder && (c.group ∈ [4, 5, 6]) &&
    (!readsOnly op c || (c.relay && !(c.scope == 0 && (c.node == 0 || c.node == s.id))))

/-- The status with which a command is refused before it is carried out; none where it is carried out. -/
def State.refusal (s : State) (op : Nat) (c : HostCmd) : Option Nat :=
  if s.roleBad c then some Status.unsupported
  else if s.serviceBad c then some Status.busy
  else
    match s.sessionBad c with
    | some st => some st
    | none =>
      if s.controlBad op c || s.holderBad op c then some Status.notBound
      else if readsOnly op c then none
      else if (match areaOf op c with
        | some a => (match s.holderOf a with
          | some x => x.id != c.session
          | none => false)
        | none => false) then some Status.locked
      else if (match blockOf op c with
        | some b => s.held b
        | none => false) then some Status.busy
      else none

/-- A refusal for a held block sets rst_retry (R494). -/
def State.noteHeld (s : State) (op : Nat) (c : HostCmd) : State :=
  s.raiseIf (!readsOnly op c && (match blockOf op c with | some b => s.held b | none => false)) .rstRetry

/-- The command carried out at this node, after its checks. -/
def State.carry (s : State) (op : Nat) (act : Action) (c : HostCmd) : Ack :=
  match s.refusal op c with
  | some st => refuse (s.noteHeld op c) st
  | none => act c s

/-- The response of a command just carried out: final, or interim with the command deferred (R455). LATE in place of OK
for a scheduled command that came after its activation (R402). -/
def conclude (c : HostCmd) (first late : Bool) (a : Ack) : State :=
  let status := if late ∧ (a.status = Status.ok) then Status.late else a.status
  let session := a.opened.getD c.session
  match a.waits with
  | none => if a.silent then a.s else (a.s.respond c (a.s.response c status true a.data a.s.ftNs session)).1
  | some w =>
    let put (s : State) (d : HostCmd) (posted : Bool) : State :=
      { s with mbx := { s.mbx with deferred := s.mbx.deferred ++ [⟨d, w, posted⟩] } }
    if a.silent then put a.s c (!first)
    else if first then
      let p := a.s.respond c (a.s.response c status false a.data a.s.ftNs session)
      put p.1 p.2 true
    else put a.s c true

/-! ### Scheduling and relay -/

/-- A scheduled command on arrival (R401, R402): queued, or carried out at once when its activation has passed. -/
def State.schedule (s : State) (op : Nat) (act : Action) (c : HostCmd) : State :=
  if c.activation ≤ s.ftNs then conclude c true true (s.carry op act c)
  else if s.ftNs + 600000000000 < c.activation then s.final c Status.badArg
  else if 64 ≤ s.mbx.scheduled.length then s.final c Status.busy
  else
    -- FW_ACTIVATE makes its checks on arrival, too (R558)
    let dry := s.carry op act c
    if op = 0x0C05 ∧ failedStatus dry.status then conclude c true false dry
    else
    let p := s.respond c (s.response c Status.accepted false [] s.ftNs c.session)
    { p.1 with mbx := { p.1.mbx with scheduled := p.1.mbx.scheduled ++ [p.2] } }

/-- The command carried out or queued at this node. -/
def State.here (s : State) (op : Nat) (act : Action) (c : HostCmd) : State :=
  if c.isScheduled then
    match s.sessionBad c with
    | some st => s.final c st
    | none => s.schedule op act c
  else conclude c true false (s.carry op act c)

/-- Where an opcode's payload names host memory: offset of the address, offset of the length or 0, BULK_DATA kind, and
whether the command writes host memory (R479). -/
def hostField (op : Nat) : Option (Nat × Nat × Bool) :=
  match op with
  | 0x0403 => some (16, 2, false)
  | 0x040A => some (16, 2, false)
  | 0x0702 => some (0, 1, false)
  | 0x0C02 => some (16, 0, false)
  | 0x0C0A => some (0, 0, false)
  | 0x0007 | 0x0208 | 0x0410 | 0x0908 | 0x0C09 | 0x0D03 | 0x0D41 => some (0, 4, true)
  | 0x0604 | 0x0703 | 0x0907 => some (8, 4, true)
  | _ => none

/-- The bytes that a command writes to host memory, by its own length or count field (R479); 0 where the node sizes the answer itself. -/
def readbackLength (op : Nat) (c : HostCmd) : Nat :=
  match op with
  | 0x0007 => 16 * c.u16 10
  | 0x0604 => c.u64 16
  | 0x0703 => c.u32 16
  | 0x0208 | 0x0410 | 0x0C09 | 0x0D03 | 0x0D41 => c.u32 8
  | _ => 0

/-- The bytes of a payload with 8 bytes replaced. -/
def setLE8 (l : List Byte) (off v : Nat) : List Byte := l.take off ++ leBytes 8 v ++ l.drop (off + 8)

/-- The nodes in scope of a relay, in the head's map (R400), without the head itself. -/
def State.scopeNodes (s : State) (c : HostCmd) : List Nat :=
  let map := (s.net.map.filter (fun m => m.node ≠ 0 ∧ m.node ≠ s.id))
  if c.scope = 0 then [c.node]
  else if c.scope = 1 then (map.filter (fun m => c.node % 256 ∈ m.groups)).map (fun m => m.node)
  else map.map (fun m => m.node)

/-- Whether a scope includes the head itself (R475). -/
def State.scopeSelf (s : State) (c : HostCmd) : Bool :=
  if c.scope = 0 then c.node == 0 || c.node == s.id
  else if c.scope = 1 then bit (s.r .netMember (c.node % 256 / 32)) (c.node % 32)
  else true

/-- MBX_CMD packets of a relay (R398): unicast, to a group, or as a broadcast. -/
def State.sendRelay (s : State) (c : HostCmd) (tag : Nat) (nodes : List Nat) : State :=
  let body := c.bytes ++ leBytes 4 tag ++ leBytes 2 s.id ++ [0, 0]
  if nodes = [] then s
  else if c.scope = 0 then s.sendTo 0x10 c.node body c.fence
  else if c.scope = 1 then s.route (s.packet 0x10 0 (c.node % 256) body c.fence true)
  else s.route (s.packet 0x10 0 0xFFF body c.fence)

/-- The data of a relayed command moved as BULK_DATA, and the command with the transfer named in its host address field
(R479); none where the transfer is refused. -/
def State.moveData (s : State) (op : Nat) (c : HostCmd) (nodes : List Nat) : Option (State × HostCmd) :=
  match hostField op with
  | none => some (s, c)
  | some (off, kind, writes) =>
    if nodes = [] then some (s, c)
    else if writes && c.scope != 0 then none
    else if 0x1000000 < c.data.length ∨ (writes ∧ 0x1000000 < readbackLength op c) then none
    else
      let id := s.net.nextTransfer
      let c' := { c with payload := setLE8 c.payload off (2 ^ 62 + id % 2 ^ 32), data := [] }
      let s := { s with net := { s.net with nextTransfer := id + 1 } }
      if writes then
        let t : Transfer := ⟨kind, id, c.node, getLE c.payload off 8, [], []⟩
        some ({ s with net := { s.net with transfers := s.net.transfers ++ [t] } }, c')
      else some (nodes.foldl (fun s n => s.sendBulk n kind id 0 c.data) s, c')

/-- The next wall session ID that is not open (R470). -/
def State.wallId (s : State) : Nat :=
  let from_ := if s.mbx.nextWall < 0x8000 ∨ 0xFFFE < s.mbx.nextWall then 0x8000 else s.mbx.nextWall
  ((List.range 32).map (fun k => 0x8000 + (from_ - 0x8000 + k) % 0x7FFF)).find?
    (fun i => !s.mbx.sessions.any (fun x => x.id = i)) |>.getD from_

/-- A command that is forwarded to the nodes of a relay, its DMA payload placed inline (R449), its relay flag cleared. -/
def inlined (c : HostCmd) : HostCmd :=
  { c with payload := padTo 40 c.body, flags := setBit (setBit c.flags 3 false) 2 false }

/-- The refusal of a relay by the relaying head itself (R437, R466, R485); locks and blocks are each target's own. -/
def State.relayRefusal (s : State) (op : Nat) (c : HostCmd) : Option Nat :=
  if s.serviceBad c then some Status.busy
  else
    match s.sessionBad c with
    | some st => some st
    | none => if s.holderBad op c then some Status.notBound else none

/-- A relayed command on a head (R398, R474, R475): sent to the scope, carried out here where the scope includes the head. -/
def State.relayOut (s : State) (op : Nat) (act : Action) (c : HostCmd) : State :=
  match s.relayRefusal op c with
  | some st => s.final c st
  | none =>
    if op = 0x0100 ∧ (0x7FF < c.u16 0 ∨ (c.u16 2 ≠ 0 ∧ ¬(0x8000 ≤ c.u16 2 ∧ c.u16 2 ≤ 0xFFFE))) then s.final c Status.badArg
    else if op = 0x0100 ∧ c.u16 2 ≠ 0 then s.final c Status.denied
    else if op = 0x0100 ∧ !s.on .redHolder then s.final c Status.denied
    else
      let wid := s.wallId
      let c := if op = 0x0100 then
        { c with payload := c.payload.take 2 ++ leBytes 2 wid ++ c.payload.drop 4 } else c
      let s := if op = 0x0100 then { s with mbx := { s.mbx with nextWall := wid + 1 } } else s
      let self := s.scopeSelf c
      let wall := (op = 0x0100 ∨ ((op = 0x0101 ∨ op = 0x0102) ∧ 0x8000 ≤ c.u16 0))
      let twin := s.r .redTwin
      let nodes := s.scopeNodes c
      let nodes := if self ∧ c.scope = 0 then [] else nodes
      let extra := if wall ∧ s.on .redHolder ∧ twin ≠ 0 ∧ !(twin ∈ nodes) then [twin] else []
      if nodes ≠ [] ∧ c.scope = 0 ∧ (s.id = 0 ∨ !(s.net.map.any (fun m => m.node = c.node)) ∨ s.routeTo c.node = none) then
        s.final c Status.noNode
      else
        let f := inlined c
        match s.moveData op f nodes with
        | none => s.final c Status.badArg
        | some (s, f) =>
          let tag := s.mbx.nextTag
          let own := if self then [s.id] else []
          let relay : Relay := ⟨tag, c, own ++ nodes ++ extra, extra, s.clk, false, []⟩
          let s := { s with mbx := { s.mbx with nextTag := tag + 1, relays := s.mbx.relays ++ [relay] } }
          let s := s.sendRelay f tag nodes
          let s := extra.foldl (fun s n => s.sendTo 0x10 n (f.bytes ++ leBytes 4 tag ++ leBytes 2 s.id ++ [0, 0]) f.fence) s
          if self then s.here op act { f with req := .fabric s.id, tag := tag, slot := 0xFF, data := c.data } else s

/-- The holder forwards a host command of groups 0x05 and 0x06 that changes state to its twin (R435). -/
def State.mirrors (s : State) (op : Nat) (c : HostCmd) : Bool :=
  s.isHead && s.on .redHolder && (c.group ∈ [5, 6]) && !readsOnly op c && s.r .redTwin != 0 && s.id != 0 &&
    (match c.req with | .fabric _ => false | _ => true)

/-- A mirrored CLIP_ALLOC names the CSA and handle the holder took, in payload bytes 8 to 19 (R436; log entry 19). -/
def mirrored (op : Nat) (c : HostCmd) (data : List Byte) : HostCmd :=
  let f := inlined c
  if op = 0x0601 then { f with payload := padTo 40 (f.payload.take 8 ++ getBytes data 8 8 ++ getBytes data 0 4) } else f

/-- A scheduled command that is mirrored: queued here and at the twin, and carried out by each at its activation (R401, R435). -/
def State.mirrorScheduled (s : State) (op : Nat) (act : Action) (c : HostCmd) : State :=
  let tag := s.mbx.nextTag
  let relay : Relay := ⟨tag, c, [s.id, s.r .redTwin], [], s.clk, false, []⟩
  let s := { s with mbx := { s.mbx with nextTag := tag + 1, relays := s.mbx.relays ++ [relay] } }
  let s := s.sendTo 0x10 (s.r .redTwin) ((inlined c).bytes ++ leBytes 4 tag ++ leBytes 2 s.id ++ [0, 0]) c.fence
  s.here op act { inlined c with req := .fabric s.id, tag := tag, slot := 0xFF, data := c.data }

/-- A mirrored command: carried out here, forwarded to the twin, and answered once the twin answers (R435). -/
def State.mirror (s : State) (op : Nat) (act : Action) (c : HostCmd) : State :=
  let a := s.carry op act c
  let tag := a.s.mbx.nextTag
  let own := a.s.response c a.status (a.waits.isNone) a.data a.s.ftNs c.session
  let relay : Relay := ⟨tag, c, [a.s.id, a.s.r .redTwin], [], a.s.clk, false, [(a.s.id, own)]⟩
  let put (s : State) : State := match a.waits with
    | none => s
    | some w => { s with mbx := { s.mbx with deferred := s.mbx.deferred ++ [⟨c, w, true⟩] } }
  let s := put a.s
  let s := { s with mbx := { s.mbx with nextTag := tag + 1, relays := s.mbx.relays ++ [relay] } }
  s.sendTo 0x10 (s.r .redTwin) ((mirrored op c a.data).bytes ++ leBytes 4 tag ++ leBytes 2 s.id ++ [0, 0]) c.fence

/-! ### COMMIT to a scope -/

/-- The value of a field that will be in effect once the pending commit sets that a test selects have applied. -/
def State.pendingVal (s : State) (keep : CommitSet → Bool) (key : Nat) : Nat :=
  match ((s.lay.sets.filter keep).filterMap (fun x => assoc x.fields key)).getLast? with
  | some v => v
  | none => match fieldOf key with
    | some (f, i) => s.r f i
    | none => 0

/-- The value of a field that will be in effect once every pending commit set has applied (R468). -/
def State.afterSets (s : State) (key : Nat) : Nat := s.pendingVal (fun _ => true) key

/-- What is staged changes N or D, so that the set is sealed whatever its mode (R65, R146). -/
def State.periodStaged (s : State) : Bool :=
  [FName.ftPeriodNum, FName.ftPeriodDen].any (fun f => s.staged.any (fun t => t.key = f.key 0) &&
    (rget s.shadow f 0 != s.afterSets (f.key 0) || rget s.shadow f 0 != s.pendingVal (fun c => c.state != .prepared) (f.key 0)))

/-- A timed COMMIT of a scope on a head: the COMMIT of scope 0 that it relays to every node in the scope (R135). -/
def State.commitForm (s : State) (op : Nat) (c : HostCmd) : Option HostCmd :=
  let scope := c.u8 1
  if op = 0x0407 ∧ s.isHead ∧ !c.relay ∧ c.req ≠ .fabric s.id ∧ c.u8 0 = 0 ∧ (scope = 1 ∨ scope = 2) ∧ !s.periodStaged then
    let p (l : List Byte) : List Byte := l.take 1 ++ [0] ++ l.drop 2
    some { c with target := if scope = 1 then 0x2000 else 0x1000 + c.u8 2, flags := setBit c.flags 2 true,
                  payload := if c.dma then c.payload else p c.payload,
                  dmaPayload := if c.dma then p c.dmaPayload else c.dmaPayload }
  else none

/-- A command starts (R459): its header checked, then relayed, mirrored, queued or carried out. -/
def State.start (s : State) (op : Nat) (act : Action) (c : HostCmd) : State :=
  if s.headerBad c then s.final c Status.badArg
  else if s.roleBad c then s.final c Status.unsupported
  else if c.relay && (match c.req with | .fabric _ => false | _ => true) then s.relayOut op act c
  else
    match s.commitForm op c with
    | some d => s.relayOut op act d
    | none =>
      if !s.mirrors op c || (if c.isScheduled then s.sessionBad c else s.refusal op c).isSome then s.here op act c
      else if c.isScheduled then s.mirrorScheduled op act c else s.mirror op act c

/-! ### The end of a session (R467, R468) -/

/-- The staged value of a key set. -/
def State.setShadow (s : State) (key v : Nat) : State :=
  match fieldOf key with
  | some (f, i) => { s with shadow := rput s.shadow f i v }
  | none => s

/-- A session ends with its staged work discarded (R468): staged fields go back to the value in effect after the pending
sets, uncaptured data goes, queued scheduled commands end ABORTED, areas are freed, the log and the flag are set. -/
def State.lapse (s : State) (x : Session) (reason : Nat) : State :=
  let mine := s.staged.filter (fun t => t.session = x.id)
  let s := mine.foldl (fun s t => s.setShadow t.key (s.afterSets t.key)) s
  let s := { s with staged := s.staged.filter (fun t => t.session ≠ x.id) }
  let s := { s with lay := { s.lay with
    coefStaged := s.lay.coefStaged.filter (fun d => d.session ≠ x.id)
    pStaged := s.lay.pStaged.filter (fun d => d.session ≠ x.id) } }
  let gone := s.mbx.scheduled.filter (fun d => d.session = x.id)
  let s := { s with mbx := { s.mbx with
    scheduled := s.mbx.scheduled.filter (fun d => d.session ≠ x.id)
    sessions := s.mbx.sessions.filter (fun y => y.id ≠ x.id) } }
  let s := gone.foldl (fun s d => s.final d Status.aborted) s
  (s.logSession x reason).raise .mbxSessionLapsed

/-- A session's lease ends (R467): it lapses in the first cycle at or after its end. -/
def doSessionLapse (id : Nat) (s : State) : State :=
  match s.mbx.sessions.find? (fun x => x.id = id) with
  | some x => if x.expiry ≤ s.clk then s.lapse x 1 else s
  | none => s

/-- The open sessions whose lease has ended (R467). -/
def State.lapsing (s : State) : List Session := s.mbx.sessions.filter (fun x => decide (x.expiry ≤ s.clk))

/-- The sessions whose lease ends in this cycle lapse before a command that arrives or a capture in it (R467, R468). -/
def State.lapseDue (s : State) : State := s.lapsing.foldl (fun s x => s.lapse x 1) s

/-! ### Arrival -/

/-- A path answers (R622, Table 12.1, R510): the paths of boot step 0x0E are up; PCIe on a tile in minimum service only and
while block 2 is not held; management Ethernet while block 3 is not held; the fabric while the node has an ID. -/
def State.hears (s : State) (c : HostCmd) : Bool :=
  s.mbx.pathsUp && (match c.req with
    | .pcie => !s.held 2 && (s.isHead || s.inMin)
    | .udp _ _ => !s.held 3
    | .fabric _ => s.id != 0)

/-- A command naming a session arrives from its owner and renews it (R467, R472). -/
def State.renew (s : State) (c : HostCmd) : State :=
  let upd (x : Session) : Session :=
    if x.id = c.session ∧ (x.owner = c.req ∨ x.rebind) then
      { x with owner := c.req, rebind := false, expiry := s.clk + 500000000 }
    else x
  if c.session = 0 then s else { s with mbx := { s.mbx with sessions := s.mbx.sessions.map upd } }

/-- Two records are of the same posted command. -/
def samePost (c d : HostCmd) : Bool := c.same d && c.slot == d.slot && c.tag == d.tag

/-- Commands of the same requester posted earlier that have not posted their first response (R460). -/
def State.earlier (s : State) (c : HostCmd) : Bool :=
  (s.mbx.posted.takeWhile (fun d => !samePost c d)).any (fun d => d.req = c.req) ||
  s.mbx.deferred.any (fun d => d.cmd.req = c.req && !d.posted) ||
  s.mbx.relays.any (fun r => r.cmd.req = c.req && !r.finals)

/-- The command is fenced (R460, R461). -/
def isFenced (c : HostCmd) : Bool := c.fence || c.opcode == 0x0407

/-- A fenced command of the requester has started and not posted its first response (R460). -/
def State.fenceOpen (s : State) (req : Requester) : Bool :=
  s.mbx.deferred.any (fun d => d.cmd.req = req && !d.posted && isFenced d.cmd) ||
  s.mbx.relays.any (fun r => r.cmd.req = req && !r.finals && isFenced r.cmd)

/-- The command waits behind a fence: a fenced one of its requester waits or has not answered, or it is fenced itself and earlier ones
are open (R460, R461). -/
def State.mustWait (s : State) (op : Nat) (c : HostCmd) : Bool :=
  s.mbx.fenced.any (fun d => d.req = c.req) || s.fenceOpen c.req || ((c.fence || op == 0x0407) && s.earlier c)

/-- A command taken from those posted; its session renewed. -/
def State.arrive (s : State) (c : HostCmd) : State :=
  { s with mbx := { s.mbx with posted := s.mbx.posted.filter (fun d => !samePost c d) } }.renew c

/-- A host command as it reaches the node. While a firmware restart is in progress, PCIe commands wait and others are
discarded and counted (R561). -/
def State.receive (s : State) (op : Nat) (act : Action) (c : HostCmd) : State :=
  let c := { c with opcode := op }
  if !s.running || !s.hears c then s
  else if s.fw.restartAt.isSome then
    match c.req with
    | .pcie => { s with mbx := { s.mbx with posted := s.mbx.posted.filter (fun d => !samePost c d) ++ [c] } }
    | _ => { s with mbx := { s.mbx with discarded := s.mbx.discarded + 1 } }
  else
    let s := s.lapseDue
    let wait := s.mustWait op c
    let s := s.arrive c
    if wait then { s with mbx := { s.mbx with fenced := s.mbx.fenced ++ [c] } } else s.start op act c

/-- The meaning every opcode's row shares: the command reaches the node, and the state's outputs are this step's. -/
def runHost (op : Nat) (act : Action) (c : HostCmd) (s : State) : State := State.receive { s with out := [] } op act c

/-! ### Host memory -/

/-- The upload area's offset of a host address with bit 63 set (R488): byte (address & 0xFF_FFFF) of BAR2. -/
def uploadAt (addr : Nat) : Option Nat :=
  let a := addr % 0x1000000
  if bit addr 63 then (if 0x100000 ≤ a then some (a - 0x100000) else none) else none

/-- The node has a clip store: a head with a CXL device (R488). -/
def State.hasClip (s : State) : Bool := s.isHead && s.ing.devices.any (· != 0)

/-- The bytes a payload names: the upload area, a relayed transfer, or what the node reads of host memory; none where the
upload area is not there. -/
def State.hostRead (s : State) (c : HostCmd) (addr len : Nat) : Option (List Byte) :=
  if bit addr 63 then
    if s.hasClip then (uploadAt addr).map (fun a => mread 0 s.ing.upload a len) else none
  else
    match c.req with
    | .fabric n =>
      if addr / 2 ^ 62 = 1 ∧ n ≠ s.id then
        match s.net.transfers.find? (fun t => t.id = addr % 2 ^ 32 ∧ t.src = n) with
        | some t => some (mread 0 t.bytes 0 len)
        | none => some (padTo len c.data)
      else some (padTo len c.data)
    | _ => some (padTo len c.data)

/-- A host address the node can write for this command. -/
def State.hostOk (s : State) (addr : Nat) : Bool := !bit addr 63 || (s.hasClip && (uploadAt addr).isSome)

/-- Bytes written where a payload names host memory: the upload area, a readback to the relaying head (R479), or host memory. -/
def State.hostWrite (s : State) (c : HostCmd) (addr : Nat) (l : List Byte) : State :=
  match uploadAt addr with
  | some a => { s with ing := { s.ing with upload := mwrite 0 s.ing.upload a l } }
  | none =>
    match c.req with
    | .fabric n => if addr / 2 ^ 62 = 1 ∧ n ≠ s.id then s.sendBulk n 4 (addr % 2 ^ 32) 0 l else s.emit (.hostWrite addr l)
    | _ => s.emit (.hostWrite addr l)

end Sys2Proof.Machine
end

