-- ==== Sys2Proof/Machine/System.lean ====
section
/-! DEFINITION. System and session commands (Table 12.14), the mailbox slots and the completion ring, management Ethernet,
and the lapse of sessions (R446 to R473, R484 to R488). -/

namespace Sys2Proof.Machine

/-! ### System commands -/

/-- SYS_IDENT: SYS_ID, SYS_ROLE, the IDs of OTP, the running firmware, the node's place in boot. -/
def actSysIdent : Action := fun _ s =>
  let bank := s.r .fwuRunning
  done s (leBytes 4 (s.bar0 0) ++ leBytes 4 (s.bar0 4) ++ leBytes 16 Config.unitId ++ leBytes 4 Config.hardwareType ++
    leBytes 4 (if bank = 0 then s.r .fwuSecA else s.r .fwuSecB) ++ leBytes 2 s.id ++
    [byte (s.r .aonBootStep), byte bank, byte (s.r .sysPstate), 0, 0, 0])
def execSysIdent (c : HostCmd) (s : State) : Host.Outcome State Fault Refusal := .next (runHost 0x0000 actSysIdent c s)

/-- SYS_STATUS. -/
def actSysStatus : Action := fun _ s =>
  done s (leBytes 4 (s.r .mbxEvents) ++ leBytes 4 (s.bar0 0x4014) ++ leBytes 8 s.ftNs ++
    leBytes 4 ((s.clk - s.upSince) / 1000000000) ++ leBytes 2 (s.r .rstCause) ++ [byte (ones 32 (s.r .mbxBusy)), 0])
def execSysStatus (c : HostCmd) (s : State) : Host.Outcome State Fault Refusal := .next (runHost 0x0001 actSysStatus c s)

/-- SYS_PING: the pattern, and FT at arrival. -/
def actSysPing : Action := fun c s => done s (getBytes c.body 0 8 ++ leBytes 8 s.ftNs)
def execSysPing (c : HostCmd) (s : State) : Host.Outcome State Fault Refusal := .next (runHost 0x0002 actSysPing c s)

/-- EVENT_SET: MBX_EVENT_EN. -/
def actEventSet : Action := fun c s => done (s.w .mbxEventEn 0 (c.u16 0))
def execEventSet (c : HostCmd) (s : State) : Host.Outcome State Fault Refusal := .next (runHost 0x0005 actEventSet c s)

/-- Size of the upload area, 15 MiB (R488). -/
abbrev uploadSize : Nat := 0xF00000

/-- UPLOAD_WRITE: up to 32 bytes into the upload area. -/
def actUploadWrite : Action := fun c s =>
  if !s.isHead then refuse s Status.unsupported
  else if c.u8 4 = 0 ∨ 32 < c.u8 4 ∨ uploadSize < c.u32 0 + c.u8 4 ∨ !s.hasClip then refuse s Status.badArg
  else done { s with ing := { s.ing with upload := mwrite 0 s.ing.upload (c.u32 0) (getBytes c.body 8 (c.u8 4)) } }
def execUploadWrite (c : HostCmd) (s : State) : Host.Outcome State Fault Refusal := .next (runHost 0x0006 actUploadWrite c s)

/-- A session-log entry as its 16 bytes (Table 12.9). -/
def SessionLog.bytes (e : SessionLog) : List Byte :=
  leBytes 2 e.session ++ [byte e.reason, byte e.path] ++ leBytes 4 e.owner ++ leBytes 8 e.ft

/-- LOG_READ: entries of the session log, the oldest kept first (log entry 20). -/
def actLogRead : Action := fun c s =>
  if 64 < c.u16 10 ∨ !s.hostOk (c.u64 0) then refuse s Status.badArg
  else
    let es := (s.mbx.log.drop (c.u16 8)).take (c.u16 10)
    done (s.hostWrite c (c.u64 0) (es.flatMap SessionLog.bytes)) (leBytes 2 es.length)
def execLogRead (c : HostCmd) (s : State) : Host.Outcome State Fault Refusal := .next (runHost 0x0007 actLogRead c s)

/-! ### Sessions -/

/-- The node whose relays open wall sessions here (R427, R470): a tile's control head; on a head, the lease holder. -/
def State.controlHead (s : State) : Nat :=
  if s.isHead then (if s.on .redHolder then s.id else s.r .redTwin) else s.controlNow

/-- The areas of a mask that open sessions hold. -/
def State.heldAreas (s : State) : Nat := s.mbx.sessions.foldl (fun m x => m ||| x.areas) 0

/-- The first area of a mask that a session holds, and its session. -/
def State.conflict (s : State) (areas : Nat) : Option Session :=
  ((List.range 11).filter (bit areas)).findSome? s.holderOf

/-- Who owns a session opened by this command: the requester, and for a share of this head's own relay, the relay's. -/
def State.ownerOf (s : State) (c : HostCmd) : Requester :=
  if c.req = .fabric s.id then
    match s.mbx.relays.find? (fun r => r.tag = c.tag) with
    | some r => r.cmd.req
    | none => c.req
  else c.req

/-- The next local session ID that is not open. -/
def State.localId (s : State) : Nat :=
  (((List.range 17).map (fun k => 1 + (s.mbx.nextLocal - 1 + k) % 0x7FFF)).find?
    (fun i => !s.mbx.sessions.any (fun x => x.id = i))).getD s.mbx.nextLocal

/-- SESSION_OPEN (R463, R470). -/
def actSessionOpen : Action := fun c s =>
  let areas := c.u16 0
  let id := c.u16 2
  if 0x7FF < areas ∨ (id ≠ 0 ∧ ¬(0x8000 ≤ id ∧ id ≤ 0xFFFE)) then refuse s Status.badArg
  else if id ≠ 0 ∧ c.req ≠ .fabric s.controlHead ∧ c.req ≠ .fabric s.id then refuse s Status.denied
  else if id ≠ 0 ∧ s.mbx.sessions.any (fun x => x.id = id) then refuse s Status.busy
  else if 16 ≤ s.mbx.sessions.length then refuse s Status.busy
  else
    match s.conflict areas with
    | some x => refuse s Status.locked (leBytes 2 0 ++ leBytes 2 areas ++ leBytes 2 x.id)
    | none =>
      let sid := if id = 0 then s.localId else id
      let new : Session := ⟨sid, areas, s.ownerOf c, s.clk + 500000000, false⟩
      let s := { s with mbx := { s.mbx with
        sessions := s.mbx.sessions ++ [new]
        nextLocal := if id = 0 then sid % 0x7FFF + 1 else s.mbx.nextLocal } }
      { done s (leBytes 2 sid ++ leBytes 2 areas ++ leBytes 2 0 ++ leBytes 2 0 ++ leBytes 8 (s.ftNs + 500000000)) with opened := some sid }
def execSessionOpen (c : HostCmd) (s : State) : Host.Outcome State Fault Refusal := .next (runHost 0x0100 actSessionOpen c s)

/-- A session closes without discard (R469): what it staged stays staged, untagged; its scheduled commands stay queued. -/
def State.closeKeep (s : State) (x : Session) : State :=
  let s := { s with staged := s.staged.map (fun (t : Staged) => if t.session = x.id then { t with session := 0 } else t) }
  let s := { s with lay := { s.lay with
    coefStaged := s.lay.coefStaged.map (fun (d : CoefLoad) => if d.session = x.id then { d with session := 0 } else d)
    pStaged := s.lay.pStaged.map (fun (d : PLoad) => if d.session = x.id then { d with session := 0 } else d) } }
  let s := { s with mbx := { s.mbx with
    scheduled := s.mbx.scheduled.map (fun (d : HostCmd) => if d.session = x.id then { d with session := 0 } else d)
    sessions := s.mbx.sessions.filter (fun y => y.id ≠ x.id) } }
  s.logSession x 5

/-- A session a command names in its payload: NOT_BOUND where it is not open, DENIED where another requester owns it (R466). -/
def State.ownSession (s : State) (c : HostCmd) (id : Nat) : Except Nat Session :=
  match s.mbx.sessions.find? (fun x => x.id = id) with
  | none => .error Status.notBound
  | some x => if x.owner = c.req ∨ x.rebind ∨ x.owner = s.ownerOf c then .ok x else .error Status.denied

/-- SESSION_CLOSE. -/
def actSessionClose : Action := fun c s =>
  match s.ownSession c (c.u16 0) with
  | .error st => refuse s st
  | .ok x => done (if c.u8 2 = 0 then s.closeKeep x else s.lapse x 2)
def execSessionClose (c : HostCmd) (s : State) : Host.Outcome State Fault Refusal := .next (runHost 0x0101 actSessionClose c s)

/-- SESSION_RENEW (R467). -/
def actSessionRenew : Action := fun c s =>
  match s.ownSession c (c.u16 0) with
  | .error st => refuse s st
  | .ok x =>
    let l := s.mbx.sessions.map (fun y => if y.id = x.id then { y with expiry := s.clk + 500000000, owner := s.ownerOf c, rebind := false } else y)
    done { s with mbx := { s.mbx with sessions := l } } (leBytes 8 (s.ftNs + 500000000))
def execSessionRenew (c : HostCmd) (s : State) : Host.Outcome State Fault Refusal := .next (runHost 0x0102 actSessionRenew c s)

/-- SESSION_GET: the areas held and who holds each. -/
def actSessionGet : Action := fun _ s =>
  done s (leBytes 2 s.heldAreas ++
    (List.range 11).flatMap (fun a => leBytes 2 ((s.holderOf a).map (fun x => x.id)|>.getD 0)) ++
    [byte s.mbx.sessions.length])
def execSessionGet (c : HostCmd) (s : State) : Host.Outcome State Fault Refusal := .next (runHost 0x0103 actSessionGet c s)

/-! ### Slots, ring and datagrams -/

/-- What every event starts with: this step's outputs are empty; a node that is unpowered, halted or under boundary scan
does nothing (R511, R590). -/
def event (f : State → State) (s : State) : Host.Outcome State Fault Refusal :=
  let s := { s with out := [] }
  .next (if s.running then f s else s)

def execSessionLapse (id : Nat) (s : State) : Host.Outcome State Fault Refusal := event (doSessionLapse id) s

/-- A slot posted (R451): its busy bit set and its command taken; a doorbell for a busy slot is ignored. -/
def State.postSlot (s : State) (n : Nat) : State :=
  if bit (s.r .mbxBusy) n then s.raise .mbxDoorbellBusy
  else
    let c := HostCmd.ofBytes .pcie n 0 (mread 0 s.mbx.slots (0x80 * n) 64)
    let s := s.w .mbxBusy 0 (setBit (s.r .mbxBusy) n true)
    { s with mbx := { s.mbx with posted := s.mbx.posted ++ [c] } }

/-- An opcode that the spec names (Table 12.13 and the tables it points to): in each group the opcodes from 0x00 on, and in group 0x0D
0x40 to 0x42, too. -/
def opcodeNamed (op : Nat) : Bool :=
  decide (op % 256 < nth [8, 5, 14, 7, 19, 7, 7, 7, 10, 10, 7, 8, 12, 5, 2, 6] (op / 256) 0) || (decide (0x0D40 ≤ op) && decide (op ≤ 0x0D42))

/-- What a command of an opcode not named gets: UNSUPPORTED (R484, Table 12.12). -/
def actUnknown : Action := fun _ s => refuse s Status.unsupported

/-- Posted commands of opcodes not named: no row of the table carries them out, so they are answered as they are posted (R484). -/
def State.answerUnknown (s : State) : State :=
  (s.mbx.posted.filter (fun c => !opcodeNamed c.opcode)).foldl (fun s c => s.receive c.opcode actUnknown c) s

/-- The bits of a 32-bit mask, ascending. -/
def bits32 (mask : Nat) : List Nat := (List.range 32).filter (bit mask)

/-- MBX_DOORBELL (R451, R452): slots taken in ascending order; held during a firmware restart and taken after it (R561). -/
def doMbxDoorbell (mask : Nat) (s : State) : State :=
  if s.held 2 then s.raise .rstRetry
  else if !s.mbx.pathsUp || !(s.isHead || s.inMin) then s
  else if s.fw.restartAt.isSome then { s with mbx := { s.mbx with heldBells := s.mbx.heldBells ||| mask % 2 ^ 32 } }
  else ((bits32 mask).foldl (fun s n => s.postSlot n) s).answerUnknown
def execMbxDoorbell (mask : Nat) (s : State) : Host.Outcome State Fault Refusal := event (doMbxDoorbell mask) s

/-- Held final responses written while the ring has room (R456). -/
def State.drain : Nat → State → State
  | 0, s => s
  | n + 1, s =>
    match s.mbx.heldFinals with
    | [] => s
    | r :: rest =>
      if s.ringFull then s
      else State.drain n ({ s with mbx := { s.mbx with heldFinals := rest } }.ringWrite r)

/-- CQ_HEAD_WRITE: the host advances cq_head. -/
def doCqHeadWrite (v : Nat) (s : State) : State :=
  if !s.pcieUp then s
  else
  let s := s.w .mbxCqHead 0 v
  State.drain s.mbx.heldFinals.length s
def execCqHeadWrite (v : Nat) (s : State) : Host.Outcome State Fault Refusal := event (doCqHeadWrite v) s

/-- A settings record in effect. -/
def State.setting (s : State) (tag : Nat) : Option (List Byte) := (s.fw.records.find? (fun r => r.1 = tag)).map (·.2)

/-- The source address is in the settings allow list of up to 8 entries (R457, Table 15.6); an address is its four bytes
as a little-endian number (R9). -/
def State.allowed (s : State) (ip : Nat) : Bool :=
  match s.setting 2 with
  | some l => (List.range (min 8 (l.length / 4))).any (fun k => getLE l (4 * k) 4 == ip)
  | none => false

/-- A command of this requester that is still in progress (R458). -/
def State.inProgress (s : State) (c : HostCmd) : Bool :=
  s.mbx.posted.any c.same || s.mbx.fenced.any c.same || s.mbx.scheduled.any c.same ||
    s.mbx.deferred.any (fun d => c.same d.cmd) || s.mbx.relays.any (fun r => c.same r.cmd)

/-- One command of a datagram: a repeat of a kept response is answered, a repeat in progress is discarded, any other is
posted (R458). -/
def State.takeUdp (s : State) (ip sport : Nat) (l : List Byte) : State :=
  let c := HostCmd.ofBytes (.udp ip sport) 0xFF 0 l
  let kept := ((s.mbx.kept.find? (fun k => k.ip = ip ∧ k.sport = sport)).map (·.responses)).getD []
  match kept.find? (fun r => r.opcode = c.opcode ∧ r.session = c.session ∧ r.seq = c.seq) with
  | some r => s.emit (.datagram ip sport (datagramOf r))
  | none => if s.inProgress c then s else { s with mbx := { s.mbx with posted := s.mbx.posted ++ [c] } }

/-- A datagram on UDP port 19,796 (R457, Table 12.7). -/
def doUdpDatagramRx (ip sport : Nat) (l : List Byte) (s : State) : State :=
  let drop (s : State) : State := { s with mbx := { s.mbx with discarded := s.mbx.discarded + 1 } }
  if !s.mbx.pathsUp || s.held 3 || !s.allowed ip then s
  else if s.fw.restartAt.isSome then drop s
  else
    let n := getLE l 4 1
    if l.take 4 = [0x4D, 0x58, 0x55, 0x31] ∧ 1 ≤ n ∧ n ≤ 8 ∧ getLE l 5 1 = 0 ∧ l.length = 8 + 64 * n then
      ((List.range n).foldl (fun s k => s.takeUdp ip sport (getBytes l (8 + 64 * k) 64)) s).answerUnknown
    else drop s
def execUdpDatagramRx (ip sport : Nat) (l : List Byte) (s : State) : Host.Outcome State Fault Refusal :=
  event (doUdpDatagramRx ip sport l) s

/-- The PCIe link goes down: the PCIe requester's sessions end with reason 3, owner lost (R468, Table 12.9), link_up and
speed read down (Table 12.17), and on a head health bit pcie sets (Table 11.7). -/
def doPcieLinkDown (s : State) : State :=
  let s := (s.mbx.sessions.filter (fun x => x.owner = .pcie)).foldl (fun s x => s.lapse x 3) s
  let s := s.ws [(.pcieLinkUp, 0), (.pcieSpeed, 0), (.pcieWidth, 0)]
  if s.isHead then s.w .redHealth 0 (setBit (s.r .redHealth) 8 true) else s
def execPcieLinkDown (s : State) : Host.Outcome State Fault Refusal := event doPcieLinkDown s

end Sys2Proof.Machine
end

