-- ==== Sys2Proof/Machine/Ports.lean ====
section
/-! DEFINITION. Palist ports from the balls to UP: offers, training, alignment, fall back, SILENT, loops, adaptation and
rate stepping (R317 to R354, R539). -/

namespace Sys2Proof.Machine

/-! ### Port states (Table 9.8) and rates (Table 9.1) -/

namespace Port
abbrev disabled : Nat := 0
abbrev listen : Nat := 1
abbrev base : Nat := 2
abbrev train : Nat := 3
abbrev align : Nat := 4
abbrev up : Nat := 5
abbrev silent : Nat := 6
abbrev loop : Nat := 7
end Port

/-- Codes of a transmit preset: pre and post (Table 9.4). -/
def presetCodes (n : Nat) : Nat × Nat := nth [(0, 0), (0, 0), (0, 8), (4, 12), (8, 20)] n (0, 0)

/-- Key of a per-lane register: 4 × port + lane. -/
def pl (p l : Nat) : Nat := 4 * p + l

/-- Rates as a mask of those at or below `r`. -/
def ratesUpTo (r : Nat) : Nat := 2 ^ (r + 1) - 1

/-- The highest rate in a mask. -/
def highest (m : Nat) : Nat := if bit m 3 then 3 else if bit m 2 then 2 else if bit m 1 then 1 else 0

/-- Bits per pixel of a format code (Table 3.6); none for a code outside the table. -/
def bppOf (f : Nat) : Option Nat :=
  match f with
  | 0x01 | 0x11 => some 24
  | 0x02 | 0x12 => some 30
  | 0x03 | 0x13 => some 36
  | 0x21 => some 16
  | 0x22 => some 20
  | 0x23 => some 24
  | _ => none

/-- A stream's width, height and bits per pixel from a reading of the fields; a DP stream's are its port's, and 0 × 0 while the port has no
valid video (DESIGN CHOICE, log entry 67). -/
def State.streamShape (s : State) (get : FName → Nat → Nat) (i : Nat) : Nat × Nat × Nat :=
  if get .ingKind i = 1 then
    let p := get .ingDpPort i
    if s.on .dprVideoValid p then (s.r .dprHActive p, s.r .dprVActive p, (bppOf (s.r .dprFormat p)).getD 0) else (0, 0, 0)
  else (get .ingWidth i, get .ingHeight i, (bppOf (get .ingFormat i)).getD 0)

/-- Copies a feed mask asks for. -/
def copiesOf (mask : Nat) : Nat := ((List.range 8).filter (bit mask)).length

/-- Bits of one frame of a stream, all copies; 0 for one that is not enabled. -/
def State.streamLoad (s : State) (get : FName → Nat → Nat) (i : Nat) : Nat :=
  let (w, h, b) := s.streamShape get i
  if get .ingEnable i = 1 ∧ get .ingKind i ≠ 0 then w * h * b * copiesOf (get .ingFeedMask i) else 0

/-- The ring is dual: some group leaves this node on both pairs of ports (R391; log entry 29). -/
def State.dualRing (s : State) : Bool :=
  (List.range 256).any (fun g => let e := s.groupEntry g 4; bit e 7 && e % 4 != 0 && e / 4 % 4 != 0)

/-- Stream routes of a group that leave a port: the ingresses whose valid entry names it (R387). -/
def State.routesBy (s : State) (g p : Nat) : Nat :=
  ((List.range 5).filter (fun i => bit (s.groupEntry g i) 7 && bit (s.groupEntry g i) p)).length

/-- A stream route leaves a port: a valid multicast entry names it (R387). -/
def State.carriesStreams (s : State) (p : Nat) : Bool := s.net.multicast.any (fun e => bit e.2.toNat 7 && bit e.2.toNat p)

/-- What a head knows of the stream routes that leave a port: its own streams by R42's formula over the wall period, in Mb/s, half of each
on a dual ring (R346, R391). -/
def State.ownRouted (s : State) (p : Nat) : Nat :=
  if s.isHead then
    let sum := ((List.range 16).map (fun i => s.streamLoad (fun f j => s.r f j) i * s.routesBy (s.r .ingGroup i) p)).sum
    17 * sum * s.r .ftPeriodDen * 1000 / (16 * max 1 (s.r .ftPeriodNum) * (if s.dualRing then 2 else 1))
  else 0

/-- The need of a port in Mb/s (R346): what it knows of its stream routes, the rates of routes that no table carries (log entry 23), and
5 Gb/s. -/
def State.need (s : State) (p : Nat) : Nat := s.ownRouted p + s.net.routed.getD p 0 + 5000

/-- The node has a parent port. -/
def State.hasParent (s : State) : Bool := s.r .ftHops != 255

/-- The rate that policy targets (R347), held at rate 0 while trims are not valid (R503). -/
def State.policyTarget (s : State) (p : Nat) : Nat :=
  if !s.on .rstTrimsValid then 0
  else
    let top := s.r .fabMaxRate p
    let step := if s.need p ≤ 40000 then 1 else if s.need p ≤ 100000 then 2 else 3
    let t := if s.on .fabRatePolicy p then min step top else top
    if s.inShow || s.inStandby then max 1 t else t

/-- The rates a port offers: those it can run and max_rate allows (Table 9.5). -/
def State.ownRates (s : State) (p : Nat) : Nat := ratesUpTo (if s.on .rstTrimsValid then s.r .fabMaxRate p else 0)

/-- The highest rate in both rates fields, or in its own while no partner is heard (R327). -/
def State.commonRate (s : State) (p : Nat) : Nat :=
  match (s.port p).partner with
  | some o => highest (s.ownRates p &&& o.rates)
  | none => highest (s.ownRates p)

/-- The target a port proposes: the highest rate in both rates fields (R327), no higher than policy targets (R347) or a rate step asks
for (R348), or than fall backs left (R336). -/
def State.proposed (s : State) (p : Nat) : Nat :=
  min (s.commonRate p) (min (max (s.policyTarget p) (s.port p).floor) (s.port p).cap)

/-! ### What the line carries (Table 9.8) -/

/-- What a port sends while nothing else is sent, with the lanes whose transmitters and whose receivers are on; the others are in
electrical idle and powered down (R318, R319). In SILENT the lane-0 receiver stays on (R338); a near loop idles the transmitters (R351). -/
def State.lineFill (s : State) (p : Nat) : LineFill × Nat × Nat :=
  let q := s.port p
  let up := s.r .fabLanesUp p
  match s.r .fabState p with
  | 1 | 2 => (.idle, 1, 1)
  | 3 => (.frames, q.trainLanes, q.trainLanes)
  | 4 => (.aligning, q.trainLanes, q.trainLanes)
  | 5 => (if s.r .fabRate p = 0 then .idle else .blocks, up, up)
  | 6 => if s.clk < q.since then (.idle, 1, 1) else (.silence, 0, 1)
  | 7 => if q.farTurned then (.turned, up, up) else if q.loop = 3 then (.blocks, up, up) else (.silence, 0, 0)
  | _ => (.silence, 0, 0)

/-- The port sends what its state asks for from now on. -/
def State.showLine (s : State) (p : Nat) : State :=
  let f := s.lineFill p
  s.emit (.fill p f.1 f.2.1 f.2.2)

/-- A port whose partner asked for a FAR loop sends what it receives (Table 9.12, R352). -/
def State.turnBack (s : State) (p : Nat) (i : LineItem) : State :=
  if s.r .fabState p = Port.loop ∧ (s.port p).farTurned then s.emit (.line p i) else s

/-! ### Leaving and entering states -/

/-- Transmit codes of a lane set; main is 64 − pre − post (R323). -/
def State.setTx (s : State) (p l pre post : Nat) : State :=
  ((s.w .fabLanePre (pl p l) pre).w .fabLanePost (pl p l) post).w .fabLaneMain (pl p l) (64 - pre - post)

/-- Equaliser settings and adaptation results of a port discarded (R335, R336). -/
def State.clearEq (s : State) (p : Nat) : State :=
  (List.range 4).foldl (fun s l =>
    ((((s.setTx p l 0 0).w .fabLaneDfe1 (pl p l) 0).w .fabLaneCtle (pl p l) 0).w .fabLaneEyeWidth (pl p l) 0).w
      .fabLaneEyeHeight (pl p l) 0) s

/-- Discovery is due within 1 ms, or sooner where it already was (R375). -/
def State.discoverSoon (s : State) : State :=
  let at_ := s.clk + 1000000
  { s with net := { s.net with discoverAt := some (match s.net.discoverAt with | some a => min a at_ | none => at_) } }

/-- LINK_EVENT to the master (R374); the master itself schedules discovery (R375). -/
def State.linkEvent (s : State) (p ev : Nat) : State :=
  let nonce := match (s.port p).partner with | some o => o.nonce | none => 0
  if s.on .netMaster then s.discoverSoon
  else if s.r .netMasterId = 0 then s
  else s.sendTo 0x05 (s.r .netMasterId) ([byte p, byte ev, 0, 0] ++ leBytes 4 nonce)

/-- Adaptation results of a port's lanes that a test selects are dropped; seeds stay (R335, Table 9.10). -/
def State.dropResults (s : State) (p : Nat) (f : CalRec → Bool) : State :=
  { s with thm := { s.thm with records := s.thm.records.filter (fun r => !(r.kind == 0 && r.index / 4 == p && !r.seed && f r)) } }

/-- The link layer of a port that leaves UP starts anew: nothing is to be freed in its receive buffer any more, and the packets it had
queued for other ports' ingress are gone (R364, R367). -/
def State.dropLink (s : State) (p : Nat) : State :=
  let gone := (s.link p).queue.filterMap (·.frees)
  let s := s.setLink p (fun _ => State.link0)
  let kept (q : Queued) : Queued := { q with frees := q.frees.filter (fun r => r.port != p) }
  let s : State := { s with links := s.links.map (fun l => { l with queue := l.queue.map kept }) }
  (gone.filter (fun r => r.port != p)).foldl State.release s

/-- A port leaves UP: packets queued or unacknowledged are discarded and counted (Table 10.5), an adaptation result of this very cycle
goes too (Table 9.10), excluded lanes may take part again (R334), the master hears (R374). -/
def State.leaveUp (s : State) (p : Nat) : State :=
  if s.up p then
    let n := (s.link p).queue.length + (s.link p).unacked.length
    let s := (s.count .fabDroppedDown p n).dropLink p
    let s := (s.w .fabState p Port.listen).dropResults p (fun r => r.ft == s.ftNs)
    (s.setPort p (fun q => { q with adapting := false, lowSince := none, banned := 0 })).linkEvent p 0
  else s

/-- A port put into a state of bring-up, its stage starting now. -/
def State.enterPort (s : State) (p state : Nat) : State :=
  let s := s.leaveUp p
  let s := s.w .fabState p state
  let s := if state = Port.up ∨ state = Port.loop then s else s.w .fabLanesUp p 0
  s.setPort p (fun q => { q with since := s.clk })

/-- Nothing of a training attempt. -/
def PortSt.untrained (q : PortSt) : PortSt :=
  { q with
    stage := .lock, trainLanes := 0, lockLanes := 0, readyLanes := 0, partnerReady := List.replicate 4 0,
    txStatus := List.replicate 4 0, txAsked := List.replicate 4 0, rxRequest := List.replicate 4 0, askedAt := List.replicate 4 0,
    quiet := List.replicate 4 0, codes := List.replicate 4 0, frames := 0, skews := List.replicate 4 0 }

/-- LISTEN at rate 0 with nothing known of a partner (R335). -/
def State.listen (s : State) (p : Nat) : State :=
  let s := s.enterPort p Port.listen
  let s := (s.clearEq p).w .fabRate p 0
  (s.setPort p (fun q => { q.untrained with partner := none, acks := 0, cap := 3, farTurned := false })).showLine p

/-- A port held in DISABLED: enable clear, its block held, or boot not there yet (Table 9.8, Table 13.4, R622). -/
def State.portOff (s : State) (p : Nat) : Bool := !s.on .fabEnable p || s.held (4 + p) || (s.port p).heldDown

/-- A restart (R333, R341): the loop field takes effect (Table 9.13); a near loop puts the port in LOOP with its
transmitters idle (R351), a FAR loop is asked for in the offers (R352). -/
def State.restartPort (s : State) (p : Nat) : State :=
  let code := s.r .fabLoop p
  let s := s.listen p
  let s := (s.w .fabAttempts p 0).setPort p (fun q => { q with loop := code, floor := 0, resetAt := some s.clk })
  if s.portOff p then (s.enterPort p Port.disabled).showLine p
  else if code = 1 ∨ code = 2 then (s.enterPort p Port.loop).showLine p
  else s

/-- The port follows its enable (Table 9.8). -/
def State.followEnable (s : State) (p : Nat) : State :=
  if s.portOff p then (if s.r .fabState p = Port.disabled then s else ((s.listen p).enterPort p Port.disabled).showLine p)
  else if s.r .fabState p = Port.disabled then s.restartPort p else s

/-- TRAIN at the agreed rate (R327, R332, R539) on the lanes both allow but for those excluded since the port last left UP (R334):
receivers ask for the initial preset, and a lane's seed of the same rate and partner nonce starts its receiver. Precoding starts
with y = 0 (R322); where the pattern starts the spec does not say (a free value: log entry 85). -/
def State.enterTrain (s : State) (p rate : Nat) : State :=
  let s := s.enterPort p Port.train
  let s := (s.w .fabRate p rate).count .fabRetrains p
  let preset := if rate = 1 then s.r .fabInitPresetNrz p else s.r .fabInitPresetPam4 p
  let o := (s.port p).partner.getD ⟨0, 0, 0, 0, 1, 0, 0, 0⟩
  let lanes := (List.range 4).filter (fun l => bit (s.r .fabLanesAllowed p) l && bit o.lanes l && !bit (s.port p).banned l)
  let s := s.clearEq p
  let mine (x : Nat × Nat × List Byte) : Bool := x.1 == rate && x.2.1 == o.nonce
  let s := (s.port p).seeds.zipIdx.foldl (fun s q => match q.1.filter mine with
    | some (_, _, v) => (s.w .fabLaneCtle (pl p q.2) (getLE v 0 1)).w .fabLaneDfe1 (pl p q.2) (getLE v 2 1)
    | none => s) s
  let d := s.draw 52
  let s := d.2.setPort p (fun q => { q.untrained with
    trainLanes := setBit ((lanes.map (2 ^ ·)).sum) 0 true, rxRequest := List.replicate 4 (4096 * preset),
    patterns := (List.range 4).map (fun l => d.1 / 8192 ^ l % 8191 + 1), trainAt := s.clk, seeds := q.seeds.map (·.filter mine) })
  s.showLine p

/-- The largest lane-0 deskew, 40 ns in units of 2^-16 ns (R320). -/
abbrev maxDeskew : Nat := 2621440

/-- Units of the receive buffer by VC and class: VC0 class 0, VC0 class 1, and so on (Table 10.3). -/
def allocation : List Nat := [64, 64, 320, 320, 64, 64, 64, 64]

/-- The credit fields of a port shown from what it has debited and heard freed (R366). -/
def State.showCredit (s : State) (p : Nat) : State :=
  let l := s.link p
  let credit (k : Nat) : Nat := allocation.getD k 0 - (l.debited.getD k 0 + 65536 - l.freedRx.getD k 0) % 65536
  (List.range 4).foldl (fun s v => (s.w .fabCredit0 (pl p v) (credit (2 * v))).w .fabCredit1 (pl p v) (credit (2 * v + 1))) s

/-- UP at a rate and width: credits at their allocation, freed counts 0 (R367), the lane-0 deskew measured (R60, a free
value: log entry 3), the master told (R374). -/
def State.enterUp (s : State) (p rate lanes : Nat) : State :=
  let s := s.enterPort p Port.up
  let s := (s.w .fabRate p rate).w .fabLanesUp p lanes
  let s := if rate = 0 ∧ (s.port p).cap = 0 then s.raise .fabFallback p else s
  let s := s.setLink p (fun _ => { State.link0 with lastAck := s.clk, lastLink := s.clk })
  let s := s.showCredit p
  let d := s.draw 32
  let s := d.2.setTimePort p (fun t => { t with deskew := if rate = 0 then 0 else d.1 % (maxDeskew + 1) })
  let s := s.setPort p (fun q => { q with lastAdapt := s.clk, adapting := false, lowSince := none })
  (s.showLine p).linkEvent p 1

/-- Fall back (R336): BASE, the target it had proposed lowered by one, the equaliser settings of the failed rate discarded. -/
def State.fallBack (s : State) (p : Nat) : State :=
  let target := s.proposed p
  let s := s.enterPort p Port.base
  let s := (s.clearEq p).w .fabRate p 0
  (s.setPort p (fun q => { q.untrained with cap := target - 1, acks := 0 })).showLine p

/-- An attempt fails: LISTEN again, or SILENT after the third (Table 9.9, R337). -/
def State.failAttempt (s : State) (p : Nat) : State :=
  let n := min 3 (s.r .fabAttempts p + 1)
  let s := (s.listen p).w .fabAttempts p n
  if n = 3 then (((s.enterPort p Port.silent).w .fabBackoff p 250).raise .fabSilentEntered p).showLine p else s

/-- Lanes excluded from TRAIN, until the port next leaves UP (R329, R334); without lane 0 the port falls back. -/
def State.exclude (s : State) (p mask : Nat) : State :=
  if mask &&& (s.port p).trainLanes = 0 then s
  else
    let s := s.raise .fabLaneExcluded p
    let s := s.setPort p (fun q => { q with
      trainLanes := q.trainLanes - (q.trainLanes &&& mask), banned := q.banned ||| (q.trainLanes &&& mask) })
    if bit mask 0 then s.fallBack p else s.showLine p

/-! ### Restart and loss of signal -/

/-- SIGNAL_LOSS (R335): unplugged, from BASE onward; equaliser settings and adaptation results go. A port in a near loop listens to itself. -/
def doSignalLoss (p : Nat) (s : State) : State :=
  let st := s.r .fabState p
  if st = Port.base ∨ st = Port.train ∨ st = Port.align ∨ st = Port.up ∨ (st = Port.loop ∧ (s.port p).loop ∉ [1, 2]) then
    let s := ((s.dropResults p (fun _ => true)).listen p).w .fabAttempts p 0
    (s.setPort p (fun q => { q with floor := 0, resetAt := some s.clk })).raise .fabUnplugged p
  else s
def execSignalLoss (p : Nat) (s : State) : Host.Outcome State Fault Refusal := event (doSignalLoss p) s

/-- A write of 1 to a port's restart bit (Table 9.13), refused while area 6 is held by a session (R465) or the block is
held (R494). -/
def doRestart (p : Nat) (s : State) : State :=
  if 4 ≤ p ∨ !s.pcieUp then s
  else if s.held (4 + p) then s.raise .rstRetry
  else if (s.holderOf 6).isSome then s.raise .mbxBarLocked
  else s.restartPort p
def execRestart (p : Nat) (s : State) : Host.Outcome State Fault Refusal := event (doRestart p) s

/-- FAB_RESTART: DENIED for the parent port while the node is in Show. -/
def actFabRestart : Action := fun c s =>
  if s.inShow ∧ s.hasParent ∧ bit (c.u8 0) (s.r .ftParentPort) then refuse s Status.denied
  else done ((portsOf (c.u8 0)).foldl (fun s p => s.restartPort p) s)
def execFabRestart (c : HostCmd) (s : State) : Host.Outcome State Fault Refusal := .next (runHost 0x0202 actFabRestart c s)

/-- A restart or a loss of signal reaches the port in this cycle: no stage of its bring-up completes (Table 9.10). -/
def State.overtaken (s : State) (p : Nat) : Bool :=
  s.sameCycle.any (fun i => match i with
    | .signalLoss q => q == p && ((doSignalLoss q s).port p).resetAt == some s.clk
    | .restart q => q == p && ((doRestart q s).port p).resetAt == some s.clk
    | .fabRestart c => ((runHost 0x0202 actFabRestart c s).port p).resetAt == some s.clk
    | _ => false)

/-! ### Offers -/

/-- The nonce a port sends in its offers, 32 bits (Table 9.5; log entry 9). -/
def ownNonce (p : Nat) : Nat := Config.offerNonce p % 2 ^ 32

/-- The offer block a port sends (Table 9.5). -/
def State.offerBytes (s : State) (p : Nat) : List Byte :=
  let q := s.port p
  let fresh := match q.partner with | some o => decide (s.clk ≤ o.at_ + 100000) | none => false
  let b := [1, byte (b2n fresh + 2 * b2n (q.loop == 3) + 4 * s.r .fabLoopAllow p)] ++ leBytes 2 s.id ++
    [byte p, byte (s.ownRates p), byte (s.r .fabLanesAllowed p), byte (s.proposed p), byte (s.r .fabAttempts p), byte q.seq] ++
    leBytes 4 (ownNonce p) ++ [0, 0]
  b ++ leBytes 4 (crc32c b)

/-- 10 µs have passed since the last offer (R325). -/
def State.offerDue (s : State) (p : Nat) : Bool :=
  match (s.port p).lastOffer with
  | some t => decide (t + 10000 ≤ s.clk)
  | none => true

/-- OFFER_SEND (R325): every 10 µs in LISTEN, BASE and a SILENT burst; a port in BASE that has met R327 enters TRAIN, or UP at rate 0,
at its offer time instead, but where a restart or a loss of signal comes in the same cycle (Table 9.10). -/
def doOfferSend (p : Nat) (s : State) : State :=
  let st := s.r .fabState p
  let q := s.port p
  if !s.offerDue p then s
  else if st = Port.base ∧ 3 ≤ q.acks ∧ !s.overtaken p then
    let rate := min (s.proposed p) (q.partner.map (·.target) |>.getD 0)
    if rate = 0 then s.enterUp p 0 1 else s.enterTrain p rate
  else if st = Port.listen ∨ st = Port.base ∨ (st = Port.silent ∧ s.clk < q.since) then
    (s.emit (.line p (offerSet (s.offerBytes p)))).setPort p (fun q => { q with seq := (q.seq + 1) % 256, lastOffer := some s.clk })
  else s
def execOfferSend (p : Nat) (s : State) : Host.Outcome State Fault Refusal := event (doOfferSend p) s

/-- A valid offer (R326): version 1, a correct CRC. -/
def offerOf (l : List Byte) (now : Nat) : Option Offer :=
  if l.length = 20 ∧ getLE l 0 1 = 1 ∧ getLE l 16 4 = crc32c (l.take 16) then
    some ⟨getLE l 1 1, getLE l 2 2 % 4096, getLE l 4 1, getLE l 5 1, getLE l 6 1, getLE l 7 1, getLE l 10 4, now⟩
  else none

/-- OFFER_RX (R326, R327, R338): own nonce is a looped cable; from LISTEN or SILENT the port enters BASE with no failed
attempts; in BASE three in a row with ack and one target meet R327. An offer in the cycle of a restart or of an unplug does not count
(Table 9.10). -/
def doOfferRx (p : Nat) (l : List Byte) (s : State) : State :=
  match offerOf l s.clk with
  | none => s
  | some o =>
    let st := s.r .fabState p
    if (st ≠ Port.listen ∧ st ≠ Port.base ∧ st ≠ Port.silent) ∨ (s.port p).resetAt = some s.clk ∨ s.overtaken p then s
    else if o.nonce = ownNonce p then s.raise .fabLoopedCable p
    else
      let s := if st = Port.base then s else s.enterPort p Port.base
      let s := s.w .fabAttempts p 0
      s.setPort p (fun q =>
        let same := match q.partner with | some o' => o'.target == o.target | none => false
        { q with partner := some o, acks := if bit o.flags 0 then (if same then q.acks + 1 else 1) else 0 })
def execOfferRx (p : Nat) (l : List Byte) (s : State) : Host.Outcome State Fault Refusal := event (doOfferRx p l) s

/-- SILENT_BURST (R337): an interval ends and a burst of 1 ms begins; the next interval doubles, up to 2,000 ms. -/
def doSilentBurst (p : Nat) (s : State) : State :=
  if s.r .fabState p = Port.silent ∧ (s.port p).since + 1000000 * s.r .fabBackoff p ≤ s.clk then
    ((s.w .fabBackoff p (min 2000 (2 * s.r .fabBackoff p))).setPort p (fun q => { q with since := s.clk + 1000000 })).showLine p
  else s
def execSilentBurst (p : Nat) (s : State) : Host.Outcome State Fault Refusal := event (doSilentBurst p) s

/-! ### Training -/

/-- One tap's request applied to a code: the new code and the outcome, 1 updated, 2 at minimum, 3 at maximum (R323, R330). -/
def tapStep (req code other top : Nat) : Nat × Nat :=
  match req with
  | 1 => if code < top ∧ code + other < 32 then (code + 1, 1) else (code, 3)
  | 2 => if 0 < code then (code - 1, 1) else (code, 2)
  | _ => (code, 0)

/-- What a control word asks a transmitter for: a preset of Table 9.4 as 16 times its number, else the taps' requests with the reserved code
taken as hold (R331, Table 9.7). -/
def requestOf (control : Nat) : Nat :=
  let preset := bits control 14 12
  let tap (r : Nat) : Nat := if r = 3 then 0 else r
  if 1 ≤ preset ∧ preset ≤ 4 then 16 * preset else 4 * tap (bits control 3 2) + tap (bits control 1 0)

/-- A transmitter answers the control word of its partner (R330): a new preset, or a new request of a tap, is applied once; its outcome
stays until that request returns to hold. -/
def State.answerControl (s : State) (p l control : Nat) : State :=
  let q := s.port p
  let req := requestOf control
  let old := q.txAsked.getD l 0
  let st := q.txStatus.getD l 0
  let note (s : State) (v : Nat) : State := s.setPort p (fun q => { q with
    txStatus := updAt q.txStatus l (fun _ => v), txAsked := updAt q.txAsked l (fun _ => req) })
  if req = old then s
  else if 16 ≤ req then
    let c := presetCodes (req / 16)
    note (s.setTx p l c.1 c.2) 5
  else
    let fresh (now was : Nat) : Bool := now != 0 && (decide (16 ≤ old) || now != was)
    let pre := s.r .fabLanePre (pl p l)
    let post := s.r .fabLanePost (pl p l)
    let a := if fresh (req % 4) (old % 4) then tapStep (req % 4) pre post 16 else (pre, if req % 4 = 0 then 0 else st % 4)
    let b := if fresh (req / 4) (old / 4) then tapStep (req / 4) post a.1 32 else (post, if req / 4 = 0 then 0 else st / 4)
    note (s.setTx p l a.1 b.1) (4 * b.2 + a.2)

/-- The words a lane sends in its training frames (Table 9.7). -/
def State.trainingWords (s : State) (p l : Nat) : Nat × Nat :=
  let q := s.port p
  (withParity (q.rxRequest.getD l 0 + 1024 * l),
    withParity (16384 * b2n (bit q.readyLanes l) + 8192 * b2n (bit q.lockLanes l) + q.txStatus.getD l 0))

/-- A lane sends its next training frame; the pattern runs on across frames (R328), and the precoder goes on from the last code sent
(R322; DEDUCED: log entry 85). -/
def State.sendFrame (s : State) (p l : Nat) : State :=
  let w := s.trainingWords p l
  let f := trainingFrame (rateRow (s.r .fabRate p)).modulation w.1 w.2 ((s.port p).patterns.getD l 0)
  (s.emit (.frame p l f.1)).setPort p (fun q => { q with
    patterns := updAt q.patterns l (fun _ => f.2.1), codes := updAt q.codes l (fun _ => f.2.2) })

/-- A port in TRAIN sends training frames on its lanes one after another (R328): the next ones once their time has come. -/
def State.sendFrames (s : State) (p : Nat) : State :=
  let q := s.port p
  if s.r .fabState p = Port.train ∧ q.trainAt + frameStart (s.r .fabRate p) q.frames ≤ s.clk then
    ((portsOf q.trainLanes).foldl (fun s l => s.sendFrame p l) s).setPort p (fun q => { q with frames := q.frames + 1 })
  else s

/-- A receiver reads its partner's status (R331): an outcome returns its request to hold, and 64 frames pass before it asks again; frames
with the partner's ready are counted. -/
def State.seeStatus (s : State) (p l status : Nat) : State :=
  s.setPort p (fun q =>
    let answered := status % 16 != 0 && q.rxRequest.getD l 0 != 0
    { q with
      rxRequest := if answered then updAt q.rxRequest l (fun _ => 0) else q.rxRequest
      quiet := updAt q.quiet l (fun n => if answered then 64 else n - 1)
      partnerReady := updAt q.partnerReady l (fun n => if bit status 14 then n + 1 else 0) })

/-- A receiver asks anew (R331): only with its request at hold and 64 frames after the last outcome. -/
def State.askAgain (s : State) (p l want : Nat) : State :=
  let q := s.port p
  let req := if 16 ≤ requestOf want then 256 * requestOf want else requestOf want
  if req ≠ 0 ∧ q.rxRequest.getD l 0 = 0 ∧ q.quiet.getD l 0 = 0 ∧ !bit q.readyLanes l then
    s.setPort p (fun q => { q with rxRequest := updAt q.rxRequest l (fun _ => req), askedAt := updAt q.askedAt l (fun _ => s.clk) })
  else s

/-- Every lane of a mask is in another. -/
def covers (big small : Nat) : Bool := small &&& big == small

/-- The stage of TRAIN moves on when what it waits for is there on every remaining lane (Table 9.9). -/
def State.advance (s : State) (p : Nat) : State :=
  let q := s.port p
  let go (st : Stage) (s : State) : State := s.setPort p (fun q => { q with stage := st, since := s.clk })
  if s.r .fabState p ≠ Port.train then s
  else
    match q.stage with
    | .lock => if covers q.lockLanes q.trainLanes then go .request s else s
    | .request =>
      if (List.range 4).all (fun l => !bit q.trainLanes l || q.rxRequest.getD l 0 == 0) then go .equalise s else s
    | .equalise => if covers q.readyLanes q.trainLanes then go .done s else s
    | .done =>
      if (List.range 4).all (fun l => !bit q.trainLanes l || decide (8 ≤ q.partnerReady.getD l 0)) then
        (s.enterPort p Port.align).showLine p
      else s

/-- TRAINING_WORD_RX (R329 to R331): words with wrong parity are ignored; a wrong lane number excludes the lane. `rxReady`
is whether this lane's receiver has finished, and `want` the request it would make next, as control-word bits: how a receiver chooses
is outside the spec. -/
def doTrainingWordRx (p l control status want : Nat) (rxReady : Bool) (s : State) : State :=
  if s.r .fabState p ≠ Port.train ∨ !bit (s.port p).trainLanes l ∨ s.overtaken p then s
  else if parityOk control ∧ bits control 11 10 ≠ l then s.exclude p (2 ^ l)
  else
    let s := s.setPort p (fun q => { q with lockLanes := setBit q.lockLanes l true })
    let s := if parityOk control then s.answerControl p l control else s
    let s := if parityOk status then s.seeStatus p l status else s
    let s := if rxReady then s.setPort p (fun q => { q with readyLanes := setBit q.readyLanes l true }) else s.askAgain p l want
    s.advance p
def execTrainingWordRx (p l control status : Nat) (rx : RxFinding) (s : State) : Host.Outcome State Fault Refusal :=
  event (doTrainingWordRx p l control status rx.want rx.ready) s

/-- Timeout of the stage a port is in, in ns (Table 9.9); none in a state without one. -/
def State.stageLimit (s : State) (p : Nat) : Option Nat :=
  match s.r .fabState p with
  | 1 => some 100000000
  | 2 => some 10000000
  | 3 => match (s.port p).stage with
    | .lock => some 5000000
    | .request => some 1000000
    | .equalise => some (if s.r .fabRate p = 1 then 20000000 else 50000000)
    | .done => some 10000000
  | 4 => some 5000000
  | _ => none

/-- The lanes a stage of TRAIN has waited for too long (Table 9.9): without lock, with a request not answered, or whose receiver is not
ready. -/
def State.lateLanes (s : State) (p : Nat) : Nat :=
  let q := s.port p
  let past (t limit : Nat) : Bool := decide (t + limit ≤ s.clk)
  let whole := match s.stageLimit p with | some limit => past q.since limit | none => false
  let late (l : Nat) : Bool := match q.stage with
    | .lock => whole && !bit q.lockLanes l
    | .request => whole && q.rxRequest.getD l 0 != 0
    | .equalise => (whole && !bit q.readyLanes l) || (q.rxRequest.getD l 0 != 0 && past (q.askedAt.getD l 0) 1000000)
    | .done => false
  (((portsOf q.trainLanes).filter late).map (2 ^ ·)).sum

/-- TRAIN_STAGE_TIMEOUT (R334): what Table 9.9 gives for the stage. -/
def doTrainStageTimeout (p : Nat) (s : State) : State :=
  match (if s.overtaken p then none else s.stageLimit p) with
  | none => s
  | some limit =>
    let late := s.lateLanes p
    if s.r .fabState p = Port.train ∧ (s.port p).stage ≠ .done then
      (if late = 0 then s else ((s.raise .fabTrainTimeout p).exclude p late).advance p)
    else if s.clk < (s.port p).since + limit then s
    else if s.r .fabState p = Port.listen ∨ s.r .fabState p = Port.base then (s.raise .fabTrainTimeout p).failAttempt p
    else (s.raise .fabTrainTimeout p).fallBack p
def execTrainStageTimeout (p : Nat) (s : State) : Host.Outcome State Fault Refusal := event (doTrainStageTimeout p) s

/-- LANE0_LOCK_LOSS (R336): a port in TRAIN or ALIGN falls back. -/
def doLane0LockLoss (p : Nat) (s : State) : State :=
  if (s.r .fabState p = Port.train ∨ s.r .fabState p = Port.align) ∧ !s.overtaken p then s.fallBack p else s
def execLane0LockLoss (p : Nat) (s : State) : Host.Outcome State Fault Refusal := event (doLane0LockLoss p) s

/-- The lanes that hold block, marker and FEC lock and lie within 40 ns of lane 0 (R320): `skews` gives each lane's skew in ps, none
without lock. -/
def deskewed (skews : List (Option Nat)) : Nat :=
  (((List.range 4).filter (fun l => match skews.getD l none with | some d => decide (d ≤ 40000) | none => false)).map (2 ^ ·)).sum

/-- ALIGN_CHECK (R339, R352): the 1 ms check of ALIGN. A lane outside the deskew range is excluded from the width (R320). With
a FAR loop the partner turns its port around and the asking port stays in LOOP; where both asked, neither loops. -/
def doAlignCheck (p corrected uncorrectable badSync : Nat) (skews : List (Option Nat)) (s : State) : State :=
  let q := s.port p
  let rate := s.r .fabRate p
  let lanes := q.trainLanes &&& deskewed skews
  let ok := widest lanes
  let pass := bit lanes 0 &&
    (if rate = 1 then badSync == 0 else uncorrectable == 0 && decide (corrected ≤ 2 * codewords rate ok 1000))
  if s.r .fabState p ≠ Port.align ∨ !pass ∨ s.overtaken p then s
  else
    let s := s.setPort p (fun q => { q with skews := (List.range 4).map (fun l => (skews.getD l none).getD 0) })
    let theirs := match q.partner with | some o => bit o.flags 1 | none => false
    let allow := match q.partner with | some o => bit o.flags 2 | none => false
    let mine := q.loop == 3
    let loop (turned : Bool) : State :=
      (((s.enterPort p Port.loop).w .fabLanesUp p ok).setPort p (fun q => { q with farTurned := turned })).showLine p
    if mine && theirs then (s.enterUp p rate ok).raise .fabLoopRefused p
    else if theirs && s.on .fabLoopAllow p then loop true
    else if mine && allow then loop false
    else s.enterUp p rate ok
def execAlignCheck (p corrected uncorrectable badSync : Nat) (skews : List (Option Nat)) (s : State) :
    Host.Outcome State Fault Refusal := event (doAlignCheck p corrected uncorrectable badSync skews) s

/-! ### Service -/

/-- FEC_WINDOW (R340): counts of a 10 ms window, and the most uncorrectable codewords in 1 ms of it. -/
def doFecWindow (p corrected uncorrectable burst : Nat) (s : State) : State :=
  if s.up p ∧ 2 ≤ s.r .fabRate p then
    let s := (s.count .fabFecCorrected p corrected).count .fabFecUncorrectable p uncorrectable
    if 16 < burst then (s.raise .fabFecDegrade p).restartPort p
    else if 0 < uncorrectable ∨ 6 * codewords (s.r .fabRate p) (s.r .fabLanesUp p) 10000 < corrected then
      (s.raise .fabFecDegrade p).setPort p (fun q => { q with adapting := true })
    else s
  else s
def execFecWindow (p corrected uncorrectable burst : Nat) (s : State) : Host.Outcome State Fault Refusal :=
  event (doFecWindow p corrected uncorrectable burst) s

/-- ADAPT_TRIGGER (R343): every 1 s in UP, a window of 2^20 symbols opens on every active lane. -/
def doAdaptTrigger (p : Nat) (s : State) : State :=
  if s.up p ∧ 1 ≤ s.r .fabRate p ∧ (s.port p).lastAdapt + 1000000000 ≤ s.clk then
    s.setPort p (fun q => { q with adapting := true, lastAdapt := s.clk })
  else s
def execAdaptTrigger (p : Nat) (s : State) : Host.Outcome State Fault Refusal := event (doAdaptTrigger p) s

/-- Symbols of an adaptation window (R343). -/
abbrev windowSymbols : Nat := 1048576

/-- `n` lies from `lo` to `hi` per cent of a window's symbols. -/
def share (n lo hi : Nat) : Bool := decide (lo * windowSymbols ≤ 100 * n ∧ 100 * n ≤ hi * windowSymbols)

/-- The checks of Table 9.11 on one lane's window (R344). -/
def windowOk (w : AdaptWindow) (rate : Nat) : Bool :=
  decide (w.blocks ≤ 2 * w.dataBlocks) &&
  (if rate = 1 then share w.transitions 40 60 && decide (w.run ≤ 66)
   else share w.transitions 70 80 && decide (w.run ≤ 33) && w.levels.length == 4 && w.levels.all (share · 22 28))

/-- A calibration record of an item stored in place of its last one (Table 14.6). -/
def State.putRecord (s : State) (r : CalRec) : State :=
  let keep := s.thm.records.filter (fun x => !(x.kind == r.kind && x.index == r.index && x.seed == r.seed))
  { s with thm := { s.thm with records := keep ++ [r] } }

/-- A discarded result of a calibration kind (R534). -/
def State.calDefer (s : State) (kind : Nat) : State :=
  ((s.raise .thmCalDeferred).raiseBit .calDeferred 0 kind).count .calDeferrals

/-- The settings a receiver takes from a result; how it computes them is outside the spec (R343; log entry 11). -/
def State.applyAdapt (s : State) (p l n : Nat) : State :=
  let v := Config.adapted p l n
  let k := pl p l
  let s := (s.w .fabLaneCtle k (v % 16)).w .fabLaneDfe1 k (v / 16)
  let s := (s.w .fabLaneEyeWidth k (v / 2 ^ 16)).w .fabLaneEyeHeight k (v / 2 ^ 32)
  let nonce := match (s.port p).partner with | some o => o.nonce | none => 0
  s.putRecord ⟨0, 4 * p + l, s.r .fabRate p, true, false, s.r .thmDieTemp p, s.ftNs, nonce,
    [byte v, byte (v / 2 ^ 24), byte (v / 16)] ++ leBytes 4 (v / 2 ^ 64) ++ List.replicate 5 0⟩

/-- A port that carries time as parent, or has heard a valid TIME_SYNC within the last 1 ms (R54, R71). -/
def State.timePort (s : State) (p : Nat) : Bool :=
  match (s.time.ports.getD p State.timePort0).lastSync with
  | some t => decide (s.clk ≤ t + 1000000)
  | none => false

/-- The next lower rate holds the need at 80 % of its payload (R348). -/
def State.lowNeed (s : State) (p : Nat) : Bool :=
  decide (2 ≤ s.r .fabRate p) && decide (10 * s.need p ≤ 8 * (lanePayload (s.r .fabRate p - 1) * widthOf (s.r .fabLanesUp p)))

/-- The need fields of the ports, and since when a lower rate would do (R346, R348). -/
def State.noteNeed (s : State) : State :=
  (List.range 4).foldl (fun s p =>
    let s := s.w .fabNeed p (s.need p)
    let low := s.up p && s.lowNeed p
    let since := (s.port p).lowSince.getD s.clk
    s.setPort p (fun q => { q with lowSince := if low then some since else none })) s

/-- The need of a port exceeds the payload of its current rate and width (R348). -/
def State.isShort (s : State) (p : Nat) : Bool :=
  decide (lanePayload (s.r .fabRate p) * widthOf (s.r .fabLanesUp p) < s.need p)

/-- The rate a step of the rate goes to: the lowest whose payload at the width in use holds the need, never above max_rate (R347, R348;
the width is DEDUCED: log entry 87). -/
def State.stepRate (s : State) (p : Nat) : Nat :=
  let fits (r : Nat) : Bool := decide (s.need p ≤ lanePayload r * widthOf (s.r .fabLanesUp p))
  min (s.r .fabMaxRate p) (([1, 2].find? fits).getD 3)

/-- A port that may change its rate in Show: it carries no stream route and is neither parent nor alternate port for time (R349). -/
def State.rateFree (s : State) (p : Nat) : Bool :=
  !s.carriesStreams p && !s.timePort p && !(s.hasParent && s.r .ftParentPort == p)

/-- A rate change is due (R348, R349): up as soon as the need exceeds the payload in use and both ends can go higher; with STEP, down
after 10 s, in Show only on a port that may. -/
def State.rateDue (s : State) (p : Nat) : Bool :=
  s.up p && ((s.isShort p && decide (s.r .fabRate p < min (s.stepRate p) (s.commonRate p))) ||
    (s.on .fabRatePolicy p && (match (s.port p).lowSince with | some t => decide (t + 10000000000 ≤ s.clk) | none => false) &&
      decide (s.stepRate p < s.r .fabRate p) && (!s.inShow || s.rateFree p)))

/-- RATE_STEP (R348, R349): a change that is due restarts the port with the new target; a port short of payload in Show says so. -/
def doRateStep (p : Nat) (s : State) : State :=
  let s := s.noteNeed
  let t := if s.up p ∧ s.isShort p ∧ s.inShow then s.raise .fabRateShort p else s
  if s.rateDue p then (t.restartPort p).setPort p (fun q => { q with floor := s.stepRate p }) else t
def execRateStep (p : Nat) (s : State) : Host.Outcome State Fault Refusal := event (doRateStep p) s

/-- The port leaves UP in this cycle (Tables 9.10, 10.6). -/
def State.leavesUp (s : State) (p : Nat) : Bool :=
  s.overtaken p || s.sameCycle.any (fun i => match i with
    | .fecWindow q _ _ b => q == p && decide (2 ≤ s.r .fabRate p) && decide (16 < b)
    | .rateStep q => q == p && s.noteNeed.rateDue p
    | _ => false)

/-- ADAPT_RESULT (R344, R345): applied only if every lane's window passes every check; discarded uncounted if the port has
left UP or leaves it in this cycle (Table 9.10). -/
def doAdaptResult (p : Nat) (ws : List AdaptWindow) (s : State) : State :=
  if !s.up p ∨ !(s.port p).adapting ∨ s.leavesUp p then s
  else
    let lanes := widthOf (s.r .fabLanesUp p)
    let s := s.setPort p (fun q => { q with adapting := false })
    if ws.length = lanes ∧ ws.all (fun w => windowOk w (s.r .fabRate p)) then
      let s := { s with free := s.free + 1 }
      (List.range lanes).foldl (fun s l => s.applyAdapt p l s.free) s
    else (((s.raise .fabCalDeferred p).count .fabCalDeferrals p)).calDefer 0
def execAdaptResult (p : Nat) (ws : List AdaptWindow) (s : State) : Host.Outcome State Fault Refusal :=
  event (doAdaptResult p ws) s

/-! ### Commands (Table 9.16) -/

/-- The words of a port's block as BAR0 shows them. -/
def State.portWord (s : State) (p off : Nat) : List Byte := leBytes 4 (s.bar0 (0x3000 + 0x100 * p + off))

/-- FAB_PORT_GET. -/
def actFabPortGet : Action := fun c s =>
  let p := c.u8 0
  if 3 < p then refuse s Status.badArg
  else done s (s.portWord p 0 ++ s.portWord p 4 ++ leBytes 2 (s.r .fabBackoff p) ++ [0, 0] ++
    [0x0C, 0x10, 0x14, 0x18, 0x1C].flatMap (s.portWord p))
def execFabPortGet (c : HostCmd) (s : State) : Host.Outcome State Fault Refusal := .next (runHost 0x0200 actFabPortGet c s)

/-- FAB_PORT_SET: a max_rate below the rate in use restarts the port. -/
def actFabPortSet : Action := fun c s =>
  let p := c.u8 0
  if 3 < p ∨ 1 < c.u8 1 ∨ 1 < c.u8 2 ∨ 3 < c.u8 3 ∨ 15 < c.u8 4 ∨ 1 < c.u8 5 ∨ ¬(1 ≤ c.u8 6 ∧ c.u8 6 ≤ 4) ∨
      ¬(1 ≤ c.u8 7 ∧ c.u8 7 ≤ 4) then refuse s Status.badArg
  else
    let s := (((s.w .fabEnable p (c.u8 1)).w .fabRatePolicy p (c.u8 2)).w .fabMaxRate p (c.u8 3)).w .fabLanesAllowed p
      (setBit (c.u8 4) 0 true)
    let s := ((s.w .fabLoopAllow p (c.u8 5)).w .fabInitPresetPam4 p (c.u8 6)).w .fabInitPresetNrz p (c.u8 7)
    let s := s.followEnable p
    done (if s.up p ∧ c.u8 3 < s.r .fabRate p then s.restartPort p else s)
def execFabPortSet (c : HostCmd) (s : State) : Host.Outcome State Fault Refusal := .next (runHost 0x0201 actFabPortSet c s)

/-- The partner's offers carry loop_allow. -/
def State.partnerAllows (s : State) (p : Nat) : Bool := match (s.port p).partner with | some o => bit o.flags 2 | none => false

/-- A rate change has restarted the port in this cycle. -/
def State.steppedNow (s : State) (p : Nat) : Bool := decide (0 < (s.port p).floor) && (s.port p).resetAt == some s.clk

/-- FAB_LOOP (R353): the loop code is set and the port restarts with it; BUSY in UP in Show, and where a rate change is due (Table 9.10). -/
def actFabLoop : Action := fun c s =>
  let p := c.u8 0
  if 3 < p ∨ 3 < c.u8 1 then refuse s Status.badArg
  else if (s.up p ∧ s.inShow) ∨ s.rateDue p ∨ s.steppedNow p then refuse s Status.busy
  else if c.u8 1 = 3 ∧ !s.partnerAllows p then refuse s Status.denied
  else done ((s.w .fabLoop p (c.u8 1)).restartPort p)
def execFabLoop (c : HostCmd) (s : State) : Host.Outcome State Fault Refusal := .next (runHost 0x0203 actFabLoop c s)

/-- FAB_LANE_GET. -/
def actFabLaneGet : Action := fun c s =>
  if 3 < c.u8 0 ∨ 3 < c.u8 1 then refuse s Status.badArg
  else done s ([0x40, 0x44, 0x48].flatMap (fun o => s.portWord (c.u8 0) (o + 0x10 * c.u8 1)))
def execFabLaneGet (c : HostCmd) (s : State) : Host.Outcome State Fault Refusal := .next (runHost 0x0204 actFabLaneGet c s)

end Sys2Proof.Machine
end

