-- ==== Sys2Proof/Machine/Settings.lean ====
section
/-! DEFINITION. The flash as a store, and the settings slots in it: their layout (Tables 15.1, 15.5 and 15.6), reading the
slot in use, writing the next copy, the register image (R567 to R570). -/

namespace Sys2Proof.Machine

/-- Flash bytes from an address. -/
def State.flashRead (s : State) (a n : Nat) : List Byte := mread erased s.fw.flash a n

/-- Flash written at an address; sectors are erased before (R550, R568). -/
def State.flashWrite (s : State) (a : Nat) (l : List Byte) : State :=
  { s with fw := { s.fw with flash := mwrite erased s.fw.flash a l } }

/-- A range of the flash erased: its bytes read 0xFF. -/
def State.flashErase (s : State) (a n : Nat) : State :=
  { s with fw := { s.fw with flash := s.fw.flash.filter (fun e => e.1 < a || decide (a + n ≤ e.1)) } }

/-- Base and size of a settings slot (Table 15.1). -/
def slotBase (k : Nat) : Nat := 0x810000 + 0x40000 * k
abbrev slotSize : Nat := 0x40000

/-- Bytes padded with 0 to a multiple of 4 (R567). -/
def pad4 (l : List Byte) : List Byte := padTo ((l.length + 3) / 4 * 4) l

/-- A settings record as its bytes (R567). -/
def recordBytes (r : Nat × List Byte) : List Byte := leBytes 2 r.1 ++ leBytes 2 r.2.length ++ pad4 r.2

/-- Records of a slot's record bytes; the fuel bounds their number. -/
def parseRecords : Nat → List Byte → List (Nat × List Byte)
  | 0, _ => []
  | n + 1, l =>
    if l.length < 4 then []
    else
      let len := getLE l 2 2
      (getLE l 0 2, getBytes l 4 len) :: parseRecords n (l.drop (4 + (len + 3) / 4 * 4))

/-- The settings tag of the protection key (Table 15.6). -/
abbrev keyTag : Nat := 0x8002

/-- Record bytes with the value of every protection key read as 0: no command returns it (R170). -/
def hideRecords : Nat → List Byte → List Byte
  | 0, l => l
  | fuel + 1, l =>
    if l.length < 4 then l
    else
      let n := 4 + (getLE l 2 2 + 3) / 4 * 4
      let r := l.take n
      (if getLE l 0 2 = keyTag then r.take 4 ++ List.replicate (r.length - 4) 0 else r) ++ hideRecords fuel (l.drop n)

/-- A settings slot as a command returns it: its bytes, but for the protection key (R170; log entry 76). -/
def hideKey (l : List Byte) : List Byte := l.take 32 ++ hideRecords l.length (l.drop 32)

/-- A settings slot as it stands in flash (Table 15.5). -/
structure Slot where
  format : Nat
  confirmed : Bool
  seq : Nat
  records : List (Nat × List Byte)

/-- A slot's bytes read as Table 15.5 lays them out; none where the magic, the state, the length or the CRC is wrong. -/
def parseSlot (l : List Byte) : Option Slot :=
  let st := getLE l 6 1
  let len := getLE l 12 4
  if l.take 4 = [0x4D, 0x53, 0x45, 0x54] ∧ (st = 1 ∨ st = 3) ∧ 32 + len ≤ slotSize then
    let body := getBytes l 32 len
    if getLE l 16 4 = crc32c body then some ⟨getLE l 4 2, st == 1, getLE l 8 4, parseRecords len body⟩ else none
  else none

/-- A slot of the flash. -/
def State.slotAt (s : State) (k : Nat) : Option Slot := parseSlot (s.flashRead (slotBase k) slotSize)

/-- The bytes of a settings slot. -/
def slotBytes (format seq : Nat) (trial : Bool) (records : List (Nat × List Byte)) : List Byte :=
  let body := records.flatMap recordBytes
  [0x4D, 0x53, 0x45, 0x54] ++ leBytes 2 format ++ [if trial then 3 else 1, 0xFF] ++ leBytes 4 seq ++
    leBytes 4 body.length ++ leBytes 4 (crc32c body) ++ List.replicate 12 0xFF ++ body

/-- A new copy of the settings with these records, into the slot that is not the confirmed one in use (R568). -/
def State.writeSlot (s : State) (records : List (Nat × List Byte)) : State :=
  let trial := s.on .aonFwuTrial
  let k := 1 - s.fw.slot % 2
  let l := slotBytes (s.r .fwuSettingsFormat) (s.fw.slotSeq + 1) trial records
  let s := (s.flashErase (slotBase k) slotSize).flashWrite (slotBase k) l
  let s := { s with fw := { s.fw with records := records } }
  if trial then s else { s with fw := { s.fw with slot := k, slotSeq := s.fw.slotSeq + 1 } }

/-- Records with one replaced or added. -/
def putRecords (l : List (Nat × List Byte)) (tag : Nat) (v : List Byte) : List (Nat × List Byte) :=
  if l.any (fun r => r.1 = tag) then l.map (fun r => if r.1 = tag then (tag, v) else r) else l ++ [(tag, v)]

/-- A record saved in the settings. -/
def State.putSetting (s : State) (tag : Nat) (v : List Byte) : State := s.writeSlot (putRecords s.fw.records tag v)

/-- A field is part of the register image: RW or RWS, in a block of lock areas 0 to 7 (R570). -/
def inImage (f : FName) (off : Nat) : Bool :=
  (f.desc.acc == .rw || f.desc.acc == .rws) && (match areaAt off with | some a => decide (a ≤ 7) | none => false)

/-- Offsets of the words of the register image. -/
def imageWords : List Nat :=
  ((List.range 0x2000).map (4 * ·)).filter (fun off => (fieldsAt off).any (fun p => inImage p.1 off))

/-- The register image in effect: pairs of BAR0 offset and value (Table 15.6). -/
def State.registerImage (s : State) : List Byte :=
  imageWords.flatMap (fun off =>
    leBytes 4 off ++ leBytes 4 (wordOf (fun f i => if inImage f off then s.r f i else 0) off))

/-- A word of the register image put into effect: each RW or RWS field takes its value, in effect and staged (R570). -/
def State.applyImageWord (s : State) (off v : Nat) : State :=
  (fieldsAt off).foldl (fun s p =>
    let f := p.1
    if inImage f off then
      let old := s.r f p.2.1
      let part := if f.desc.hi < 32 then bits v f.desc.hi f.desc.lo
        else if p.2.2 then old % 2 ^ (32 - f.desc.lo) + bits v (f.desc.hi - 32) 0 * 2 ^ (32 - f.desc.lo)
        else old / 2 ^ (32 - f.desc.lo) * 2 ^ (32 - f.desc.lo) + bits v 31 f.desc.lo
      match stored s f p.2.1 part with
      | some x =>
        let s := s.w f p.2.1 x
        if f.desc.acc = .rws then { s with shadow := rput s.shadow f p.2.1 x } else s
      | none => s
    else s) s

/-- The pairs of a register image applied in order. -/
def State.applyImage : Nat → List Byte → State → State
  | 0, _, s => s
  | n + 1, l, s => if l.length < 8 then s else State.applyImage n (l.drop 8) (s.applyImageWord (getLE l 0 4) (getLE l 4 4))

end Sys2Proof.Machine
end

