-- ==== Sys2Proof/Machine/Link.lean ====
section
/-! DEFINITION. The link layer of a port: packets received and sent, credits, acknowledgement, retry and framing
(R355 to R373, R380, R383 to R386, R392, R394). -/

namespace Sys2Proof.Machine

/-- Index of a VC and class in a port's counts. -/
def vcClass (k : Pkt) : Nat := 2 * k.vc + b2n k.dl

/-- Credit of a VC and class (R366). -/
def LinkSt.credit (l : LinkSt) (k : Nat) : Nat :=
  allocation.getD k 0 - (l.debited.getD k 0 + 65536 - l.freedRx.getD k 0) % 65536

/-- A packet put on the line of a port, with its lseq, in the form of the port's rate (R355 to R357, R359). -/
def State.putLine (s : State) (p : Nat) (k : Pkt) (lseq : Nat) : State :=
  s.emit (.line p (packetItem (s.r .fabRate p) (pktBytes k lseq)))

/-- The LINK packet of a port: ack, nak and freed counts (Table 10.4). -/
def State.linkPacket (s : State) (p : Nat) : Pkt :=
  let l := s.link p
  s.packet 0x01 0 0 ([byte ((l.expected + 127) % 128), byte (b2n l.naking), 0, 0] ++ l.freed.flatMap (leBytes 2) ++ [0, 0, 0, 0])

/-- A LINK packet goes out: it carries lseq 0 and costs no credit (R365). -/
def State.sendLink (s : State) (p : Nat) : State :=
  let s := s.putLine p (s.linkPacket p) 0
  s.setLink p (fun l => { l with linkDue := false, lastLink := s.clk, lastNak := if l.naking then s.clk else l.lastNak })

/-- LINK_SEND (R365): within 128 ns of a change, and at least once every 1 µs. -/
def doLinkSend (p : Nat) (s : State) : State :=
  if s.up p ∧ ((s.link p).linkDue ∨ (s.link p).lastLink + 1000 ≤ s.clk) then s.sendLink p else s
def execLinkSend (p : Nat) (s : State) : Host.Outcome State Fault Refusal := event (doLinkSend p) s

/-- NAK_REPEAT (R371). -/
def doNakRepeat (p : Nat) (s : State) : State :=
  if s.up p ∧ (s.link p).naking ∧ (s.link p).lastNak + 2000 ≤ s.clk then s.sendLink p else s
def execNakRepeat (p : Nat) (s : State) : Host.Outcome State Fault Refusal := event (doNakRepeat p) s

/-- RESYNC_BLOCK_RX (R358): a receiver that has lost framing then expects a packet start; any other control block is none. A port turned
around by a FAR loop sends the block back (R352). -/
def doResyncBlockRx (p : Nat) (b : List Byte) (s : State) : State :=
  if s.up p ∧ 1 ≤ s.r .fabRate p ∧ b = resyncBlock then s.setLink p (fun l => { l with lostFraming := false })
  else s.turnBack p (.control b)
def execResyncBlockRx (b : PortBlock) (s : State) : Host.Outcome State Fault Refusal := event (doResyncBlockRx b.port b.bytes) s

/-! ### Sending -/

/-- The first queued packet of a kind that is ready, and the queue without it; one that is not ready holds back the later ones of its
kind from its ingress (R394). -/
def takeFirst (kind ready : Queued → Bool) (blocked : List Nat) : List Queued → Option (Queued × List Queued)
  | [] => none
  | q :: r =>
    let go (blocked : List Nat) := (takeFirst kind ready blocked r).map (fun p => (p.1, q :: p.2))
    if !kind q || q.ingress ∈ blocked then go blocked
    else if ready q then some (q, r)
    else go (q.ingress :: blocked)

/-- The oldest packet of a VC with credit, class 1 before class 0 (R369); `old` asks that it has waited 10 µs. -/
def LinkSt.pick (l : LinkSt) (now vc : Nat) (old : Bool) : Option (Queued × List Queued) :=
  let kind (c : Bool) (q : Queued) : Bool := q.pkt.vc == vc && q.pkt.dl == c
  let ready (q : Queued) : Bool := decide (pktCost q.pkt ≤ l.credit (vcClass q.pkt)) && (!old || decide (q.at_ + 10000 ≤ now))
  match takeFirst (kind true) ready [] l.queue with
  | some r => some r
  | none => takeFirst (kind false) ready [] l.queue

/-- The packet an egress port chooses (R369), in the order of the rule. -/
def LinkSt.choose (l : LinkSt) (now : Nat) : Option (Queued × List Queued) :=
  [(0, false), (2, true), (3, true), (1, false), (2, false), (3, false)].findSome? (fun v => l.pick now v.1 v.2)

/-- What a port in LOOP sends at a packet boundary (Table 9.12, R583): a near loop turns the PRBS31 pattern back inside, before the FEC
for PCS and after it for LINK; the end that asked for a FAR loop sends fill, the end that turns nothing of its own (R352). -/
def State.loopSend (s : State) (p : Nat) : State :=
  let q := s.port p
  if q.farTurned then s
  else if q.loop = 3 then s.emit (.line p (fillItem (s.r .fabRate p)))
  else s.emit (.turned p (q.loop == 2) .pattern)

/-- EGRESS_SELECT (R363, R369, R370): a LINK packet that is due, then packets to be sent again, then the first new packet with
credit while fewer than 63 are unacknowledged; with nothing to send, fill or IDLE (R342, R357). A new packet's units are debited, and
where it was forwarded and this was its last copy, its receive buffer is freed (R364). A port that leaves UP in this cycle sends nothing
more: the packet is discarded with the others (Table 10.6). -/
def doEgressSelect (p : Nat) (s : State) : State :=
  let l := s.link p
  if s.r .fabState p = Port.loop then s.loopSend p
  else if !s.up p ∨ s.leavesUp p then s
  else if l.linkDue then s.sendLink p
  else
    match l.replay, (if 63 ≤ l.unacked.length then none else l.choose s.clk) with
    | q :: rest, _ => (s.putLine p q.2 q.1).setLink p (fun l => { l with replay := rest })
    | [], none => s.emit (.line p (fillItem (s.r .fabRate p)))
    | [], some (q, rest) =>
      let s := s.putLine p q.pkt l.nextSeq
      let s := s.setLink p (fun l => { l with
        queue := rest, unacked := l.unacked ++ [(l.nextSeq, q.pkt)], nextSeq := (l.nextSeq + 1) % 128
        debited := updAt l.debited (vcClass q.pkt) (fun d => (d + pktCost q.pkt) % 65536)
        lastAck := if l.unacked = [] then s.clk else l.lastAck })
      let s := s.showCredit p
      match q.frees with
      | some r => s.release r
      | none => s
def execEgressSelect (p : Nat) (s : State) : Host.Outcome State Fault Refusal := event (doEgressSelect p) s

/-- A replay of every unacknowledged packet (R372); the eighth in a row without progress restarts the port (R373). -/
def State.startReplay (s : State) (p : Nat) : State :=
  let l := s.link p
  if l.unacked = [] then s
  else
    let s := s.count .fabReplays p
    if 8 ≤ l.replays + 1 then (s.raise .fabRetryFail p).restartPort p
    else
      let s := if 1 ≤ s.r .fabRate p then s.emit (.line p (.control resyncBlock)) else s
      s.setLink p (fun l => { l with replay := l.unacked, replays := l.replays + 1, lastAck := s.clk })

/-- Unacknowledged packets after those an ack covers. -/
def afterAck (ack : Nat) (l : List (Nat × Pkt)) : List (Nat × Pkt) :=
  if l.any (fun q => q.1 = ack) then (l.dropWhile (fun q => q.1 ≠ ack)).drop 1 else l

/-- LINK_PACKET_RX (R358, R366, R370 to R373): the freed counts and the ack are taken; a nak replays what is still unacknowledged, but for
one that an ack of the same cycle passes (Table 10.6). -/
def doLinkPacketRx (p : Nat) (k : Pkt) (s : State) : State :=
  if !s.up p then s.turnBack p (packetItem (s.r .fabRate p) (pktBytes k 0))
  else if (s.link p).lostFraming then s
  else
    let l := s.link p
    let ack := k.u8 0 % 128
    let un := afterAck ack l.unacked
    let progress := decide (un.length < l.unacked.length)
    let passed := !progress && decide (ack ≠ s.r .fabAckRx p ∧ l.lastAck = s.clk)
    let s := s.setLink p (fun l => { l with
      unacked := un, replay := afterAck ack l.replay
      replays := if progress then 0 else l.replays, lastAck := if progress then s.clk else l.lastAck
      freedRx := (List.range 8).map (fun i => k.u16 (4 + 2 * i)) })
    let s := (s.w .fabAckRx p ack).showCredit p
    if bit (k.u8 1) 0 ∧ !passed then s.startReplay p else s
def execLinkPacketRx (p : Nat) (k : Pkt) (s : State) : Host.Outcome State Fault Refusal := event (doLinkPacketRx p k) s

/-- The ack of a port advances in this cycle. -/
def State.ackNow (s : State) (p : Nat) : Bool :=
  s.sameCycle.any (fun i => match i with
    | .linkPacketRx q k => q == p && (afterAck (k.u8 0 % 128) (s.link p).unacked).length != (s.link p).unacked.length && !(s.link p).lostFraming
    | _ => false)

/-- REPLAY_TIMEOUT (R372): 10 µs without ack progress; an ack that advances in the same cycle counts (Table 10.6). -/
def doReplayTimeout (p : Nat) (s : State) : State :=
  if s.up p ∧ (s.link p).unacked ≠ [] ∧ (s.link p).lastAck + 10000 ≤ s.clk ∧ !s.ackNow p then s.startReplay p else s
def execReplayTimeout (p : Nat) (s : State) : Host.Outcome State Fault Refusal := event (doReplayTimeout p) s

/-! ### Receiving -/

/-- The packet that bytes spell. -/
def pktOf (l : List Byte) : Pkt :=
  { ptype := getLE l 0 1, fence := bit (getLE l 1 1) 7, mcast := bit (getLE l 1 1) 6, vc := getLE l 1 1 % 4,
    dst := getLE l 2 2 % 4096, src := getLE l 4 2 % 4096, ttl := getLE l 8 1, dl := bit (getLE l 9 1) 7,
    payload := getBytes l 12 (getLE l 6 2 % 1024) }

/-- A packet passes its CRC, and is of a type of Table 10.2 on its VC and no longer than 512 (Table 10.5). -/
def pktGood (l : List Byte) : Bool :=
  let k := pktOf l
  decide (k.payload.length ≤ 512) && decide (16 + k.payload.length ≤ l.length) &&
  getLE l (12 + k.payload.length) 4 == crc32c (l.take 8 ++ k.payload) &&
  (match vcOf k.ptype with
    | some v => k.vc == v || k.ptype == 0x12
    | none => false)

/-- A receiver asks for what it misses: nak set, repeated until the expected lseq comes (R371). -/
def State.sendNak (s : State) (p : Nat) : State :=
  s.setLink p (fun l => { l with naking := true, linkDue := true, lastNak := s.clk })

/-- A Frost report that has reached a head: the last of each node and feed is held for FROST_GET (R179, Table 4.12). -/
def State.noteReport (s : State) (k : Pkt) : State :=
  let feed := k.u8 4
  let mine (x : FrostReport) : Bool := x.node == k.src && x.feed == feed
  let old := s.lay.reports.find? mine
  let counted := (old.map (·.counted)).getD 0 + (if k.u8 5 % 4 = 0 then 1 else 0)
  let x : FrostReport := ⟨k.src, feed, padTo 16 k.payload, (old.map (fun o => getLE o.bytes 8 4)).getD 0, counted⟩
  { s with lay := { s.lay with reports := s.lay.reports.filter (fun o => !mine o) ++ [x] } }

/-- A packet handed to its handler (R396); a head keeps a Frost report itself. -/
def State.deliver (s : State) (k : Pkt) : State :=
  (if k.ptype = 0x31 ∧ s.isHead then s.noteReport k else s).emit (.delivered k)

/-- A packet for this node among others: a VC1 packet that its sink cannot take is dropped here and counted, and forwarded all the same
(R386, Table 10.5). The sink takes every packet but while Clover and the line stores are held in reset (DESIGN CHOICE, log entry 88). -/
def State.deliverCopy (s : State) (p : Nat) (k : Pkt) : State :=
  if k.vc = 1 ∧ s.held 8 then (s.count .fabLocalDrops p).raise .netLocalDrop else s.deliver k

/-- A packet that no valid entry routes: discarded and counted; one of VC0 other than NO_ROUTE tells its origin (Table 10.5). -/
def State.noRoute (s : State) (p : Nat) (k : Pkt) (head : List Byte) : State :=
  let s := (s.count .fabNoRoute p).raise .netNoRoute
  if k.vc = 0 ∧ k.ptype ≠ 0x07 ∧ k.src ≠ 0 then s.sendTo 0x07 k.src (padTo 12 head) else s

/-- A packet forwarded on egress ports (R360, R394): ttl lowered, discarded at 0; its receive buffer is freed once its last
copy has left, or at once where no port takes one (R364). -/
def State.forward (s : State) (p : Nat) (k : Pkt) (cls : Nat) (ports : List Nat) : State :=
  let r : Release := ⟨p, cls, pktCost k, (s.link p).taken⟩
  if ports ≠ [] ∧ k.ttl ≤ 1 then ((s.count .fabTtlDrops p).raise .netTtlDrop).release r
  else (ports.foldl (fun s q => s.egress q { k with ttl := k.ttl - 1 } (some r)) s).release r

/-- The other port of the ring that a port is on: its pair's other port (R391), or, where that is down, another port in UP whose
pair is not whole (log entry 41). -/
def State.ringPartner (s : State) (p : Nat) : List Nat :=
  let q := p + 1 - 2 * (p % 2)
  if s.up q then [q]
  else ((List.range 4).filter (fun r => r ≠ p && s.up r && !s.up (r + 1 - 2 * (r % 2)))).take 1

/-- An accepted packet delivered or forwarded (R380, R383 to R387): hop-local, hop-by-hop and source-routed packets go to
their handlers; a node without an ID forwards nothing else. A tile forwards redundancy packets on along their ring, a head
forwards none (R405). -/
def State.accepted (s : State) (p : Nat) (k0 : Pkt) (head : List Byte) : State :=
  let cls := vcClass k0
  let cost := pktCost k0
  let dl := if bit (s.r .netDateline) p then true else if bit (s.r .netBoundary) p then false else k0.dl
  let k := { k0 with dl := dl }
  let free (s : State) : State := s.freeUnits p cls cost
  if k.ptype ∈ [0x02, 0x03, 0x04, 0x08, 0x09, 0x0A] then free (s.deliver k)
  else if k.ptype ∈ [0x1C, 0x1D, 0x1E, 0x1F] then
    (s.deliver k).forward p k cls (if s.isHead then [] else s.ringPartner p)
  else if s.id = 0 then free (s.noRoute p k head)
  else if k.mcast then
    let g := k.dst % 256
    let e := s.groupEntry g p
    if bit e 7 then
      let member := bit (s.r .netMember (g / 32)) (g % 32)
      let s := if bit e 4 && member then s.deliverCopy p k else s
      s.forward p k cls (portsOf e)
    else free (s.noRoute p k head)
  else if k.dst = 0xFFF then (s.deliver k).forward p k cls (s.broadcastPorts p)
  else if k.dst = s.id then free (s.deliver k)
  else
    match s.routeTo k.dst with
    | some q => s.forward p k cls [q]
    | none => free (s.noRoute p k head)

/-- What has come at a packet boundary: at rates 1 to 3 the data from the first word that is not fill (R356). -/
def State.arrived (s : State) (p : Nat) (data : List Byte) : List Byte :=
  if s.r .fabRate p = 0 then data else skipFill data.length data

/-- PACKET_RX (R356, R358, R359, R364, R368, R371, Table 10.5): what stands at a packet boundary, without the fill before it. At rate 0
ordered sets frame packets, so a bad header loses no framing there (R357). A port turned around by a FAR loop sends it back (R352). -/
def doPacketRx (p : Nat) (data : List Byte) (s : State) : State :=
  let l := s.link p
  let bytes := s.arrived p data
  if !s.up p then s.turnBack p (packetItem (s.r .fabRate p) data)
  else if l.lostFraming ∨ (bytes = [] ∧ data ≠ []) then s
  else if bytes.length < 12 ∨ getLE bytes 10 2 ≠ crc16 (bytes.take 10) then
    let s := s.count .fabHdrErrors p
    (s.setLink p (fun l => { l with lostFraming := decide (1 ≤ s.r .fabRate p) })).sendNak p
  else if !pktGood bytes then (s.count .fabCrcErrors p).sendNak p
  else
    let k := pktOf bytes
    if k.ptype = 0x01 then s.deliver k
    else
      let lseq := getLE bytes 9 1 % 128
      if lseq ≠ l.expected then
        if (l.expected + 128 - lseq) % 128 ≤ 63 then s else s.sendNak p
      else
        let s := s.setLink p (fun l => { l with expected := (l.expected + 1) % 128, naking := false, linkDue := true, taken := l.taken + 1 })
        let cls := vcClass k
        if allocation.getD cls 0 < l.held.getD cls 0 + pktCost k then (s.raise .fabCreditError p).restartPort p
        else
          let s := s.setLink p (fun l => { l with held := updAt l.held cls (fun h => h + pktCost k) })
          s.accepted p k (bytes.take 12)
def execPacketRx (p : Nat) (bytes : List Byte) (s : State) : Host.Outcome State Fault Refusal := event (doPacketRx p bytes) s

end Sys2Proof.Machine
end

