-- ==== Sys2Proof/Machine/Routes.lean ====
section
/-! DEFINITION. The tables the discovery master computes from its map (R381 to R388): unicast, broadcast and multicast
entries, dateline and boundary ports, rings and positions. Nodes are numbered by their place in discovery order, the master
at 0. -/

namespace Sys2Proof.Machine

/-- A head, head A and head B by role (Table 0.2). -/
def MapNode.isHead (m : MapNode) : Bool := m.role % 4 == 1 || m.role % 4 == 2
def MapNode.isHeadA (m : MapNode) : Bool := m.role % 4 == 1

/-- The far end of a port: node and port, by the nonce pair at the ends of the link (R377). -/
def peer (ns : List MapNode) (i p : Nat) : Option (Nat × Nat) :=
  match ns[i]? with
  | none => none
  | some m =>
    if !bit m.up p then none
    else
      let want := m.partners.getD p 0
      let mine := m.nonces.getD p 0
      (List.range ns.length).findSome? (fun j =>
        (List.range 4).findSome? (fun q =>
          match ns[j]? with
          | some n => if bit n.up q ∧ n.nonces.getD q 0 = want ∧ n.partners.getD q 0 = mine then some (j, q) else none
          | none => none))

/-- Every node's neighbours by port. -/
def graph (ns : List MapNode) : List (List (Option (Nat × Nat))) :=
  (List.range ns.length).map (fun i => (List.range 4).map (fun p => peer ns i p))

/-- The neighbour of a node at a port. -/
def at_ (g : List (List (Option (Nat × Nat)))) (i p : Nat) : Option (Nat × Nat) := ((g.getD i []).getD p none)

/-- One round of spreading the least label over links that `ok` admits. -/
def spreadOnce (g : List (List (Option (Nat × Nat)))) (ok : Nat → Nat → Bool) (lab : List Nat) : List Nat :=
  lab.zipIdx.map (fun p => (List.range 4).foldl (fun m q =>
    match at_ g p.2 q with
    | some (j, _) => if ok p.2 j then min m (lab.getD j m) else m
    | none => m) p.1)

/-- Rings as components of the fabric without head-to-head links (R382): the label of a ring is its least node. -/
def ringLabels (ns : List MapNode) (g : List (List (Option (Nat × Nat)))) : List Nat :=
  let head (i : Nat) : Bool := ((ns[i]?).map MapNode.isHead).getD false
  Nat.repeat (spreadOnce g (fun i j => !(head i && head j))) ns.length (List.range ns.length)

/-- A link joins two rings (R382). -/
def crosses (rings : List Nat) (i j : Nat) : Bool := rings.getD i 0 != rings.getD j 0

/-- One round of distances in links that `w` counts, from the labels so far; 65,535 stands for not reached. -/
def distOnce (g : List (List (Option (Nat × Nat)))) (ok : Nat → Nat → Bool) (d : List Nat) : List Nat :=
  d.zipIdx.map (fun p => (List.range 4).foldl (fun m q =>
    match at_ g p.2 q with
    | some (j, _) => if ok p.2 j then min m (d.getD j 65535 + 1) else m
    | none => m) p.1)

/-- Distance of every ring from the time ring over head-to-head links, by node (R384): nodes of a ring share it. -/
def ringDepth (g : List (List (Option (Nat × Nat)))) (rings : List Nat) : List Nat :=
  let start := rings.map (fun r => if r = rings.getD 0 0 then 0 else 65535)
  let round (d : List Nat) : List Nat :=
    let e := d.zipIdx.map (fun p => (List.range 4).foldl (fun m q =>
      match at_ g p.2 q with
      | some (j, _) => if crosses rings p.2 j then min m (d.getD j 65535 + 1) else m
      | none => m) p.1)
    rings.map (fun r => (rings.zip e).foldl (fun m x => if x.1 = r then min m x.2 else m) 65535)
  Nat.repeat round rings.length start

/-- Hops to a destination by a route that meets R384, in two phases: before and after it has crossed away from the time ring.
`up` holds the hops of a route that may still cross towards it, `down` those of one that may not. -/
def hops (g : List (List (Option (Nat × Nat)))) (rings depth : List Nat) (dst : Nat) : List Nat × List Nat :=
  let n := rings.length
  let start := (List.range n).map (fun i => if i = dst then 0 else 65535)
  let inside (i j : Nat) : Bool := !crosses rings i j
  let toward (i j : Nat) : Bool := crosses rings i j && decide (depth.getD j 0 + 1 = depth.getD i 0)
  let away (i j : Nat) : Bool := crosses rings i j && decide (depth.getD i 0 + 1 = depth.getD j 0)
  let step (d : List Nat × List Nat) : List Nat × List Nat :=
    let down := distOnce g (fun i j => inside i j || away i j) d.2
    let up := d.1.zipIdx.map (fun p => (List.range 4).foldl (fun m q =>
      match at_ g p.2 q with
      | some (j, _) =>
        if inside p.2 j || toward p.2 j then min m (d.1.getD j 65535 + 1)
        else if away p.2 j then min m (d.2.getD j 65535 + 1) else m
      | none => m) p.1)
    (up, down)
  Nat.repeat step n (start, start)

/-- The port of a node towards a destination: fewest hops, the lower-numbered port of a tie (R381). -/
def unicastPort (g : List (List (Option (Nat × Nat)))) (rings depth : List Nat) (h : List Nat × List Nat) (i : Nat) :
    Option Nat :=
  let cost (q : Nat) : Nat :=
    match at_ g i q with
    | some (j, _) =>
      if !crosses rings i j then h.1.getD j 65535
      else if depth.getD j 0 + 1 = depth.getD i 0 then h.1.getD j 65535
      else if depth.getD i 0 + 1 = depth.getD j 0 then h.2.getD j 65535 else 65535
    | none => 65535
  let best := (List.range 4).foldl (fun m q => min m (cost q)) 65535
  if best = 65535 then none else (List.range 4).find? (fun q => cost q = best)

/-- Distances from the master, for the spanning tree (R385). -/
def treeDist (g : List (List (Option (Nat × Nat)))) (n : Nat) : List Nat :=
  Nat.repeat (distOnce g (fun _ _ => true)) n ((List.range n).map (fun i => if i = 0 then 0 else 65535))

/-- The port by which a node hangs on the tree, breadth first from the master: the neighbour one nearer, lowest port first. -/
def treeParent (g : List (List (Option (Nat × Nat)))) (d : List Nat) (i : Nat) : Option Nat :=
  if i = 0 then none
  else (List.range 4).find? (fun q => match at_ g i q with | some (j, _) => d.getD j 65535 + 1 == d.getD i 65535 | none => false)

/-- The tree ports of a node: its own upward port, and those by which others hang on it. -/
def treePorts (g : List (List (Option (Nat × Nat)))) (d : List Nat) (i : Nat) : Nat :=
  ((List.range 4).filter (fun q => treeParent g d i == some q || (match at_ g i q with
    | some (j, r) => treeParent g d j == some r
    | none => false))).foldl (fun m q => m + 2 ^ q) 0

/-- The ports of a node on its own ring, in ascending order. -/
def ringPorts (g : List (List (Option (Nat × Nat)))) (rings : List Nat) (i : Nat) : List Nat :=
  (List.range 4).filter (fun q => match at_ g i q with | some (j, _) => !crosses rings i j | none => false)

/-- The ring walked in direction 0 from head A: each node with the port it is entered by (4 at the start) and left by. -/
def walk (g : List (List (Option (Nat × Nat)))) (rings : List Nat) : Nat → Nat → Nat → Nat → List (Nat × Nat × Nat)
  | 0, _, _, _ => []
  | fuel + 1, start, i, entry =>
    let outs := (ringPorts g rings i).filter (fun q => q ≠ entry)
    match outs with
    | [] => [(i, entry, 4)]
    | q :: _ =>
      match at_ g i q with
      | some (j, r) => (i, entry, q) :: (if j = start then [] else walk g rings fuel start j r)
      | none => [(i, entry, 4)]

/-- Head A of a ring. -/
def headAOf (ns : List MapNode) (rings : List Nat) (r : Nat) : Option Nat :=
  (List.range ns.length).find? (fun i => rings.getD i 0 = r ∧ ((ns[i]?).map MapNode.isHeadA).getD false)

/-- A ring in direction 0 from its head A. -/
def ringWalk (ns : List MapNode) (g : List (List (Option (Nat × Nat)))) (rings : List Nat) (r : Nat) :
    List (Nat × Nat × Nat) :=
  match headAOf ns rings r with
  | some a => walk g rings ns.length a a 4
  | none => []

/-- Dateline ports: both of head A's ports on its ring; boundary ports: those of head-to-head links (R382). -/
def portAttr (ns : List MapNode) (g : List (List (Option (Nat × Nat)))) (rings : List Nat) (i : Nat) : Nat :=
  let date := if ((ns[i]?).map MapNode.isHeadA).getD false then (ringPorts g rings i).foldl (fun m q => m + 2 ^ q) 0 else 0
  let bound := ((List.range 4).filter (fun q => match at_ g i q with
    | some (j, _) => crosses rings i j
    | none => false)).foldl (fun m q => m + 2 ^ q) 0
  date + 16 * bound

/-- A node has joined a group, as the master's map has it (log entry 18). -/
def joined (ns : List MapNode) (g i : Nat) : Bool := ((ns[i]?).map (fun m => decide (g ∈ m.groups))).getD false

/-- Multicast entries of a group at a node, ingress 0 to 4 (R387, R388). In direction 0 a copy travels from head A and no
further than the last member, in direction 1 from head B. A group with members in other rings also leaves, at each head of
this ring, by its boundary ports; a copy that enters by one goes on in that head's own direction. -/
def groupEntries (ns : List MapNode) (g : List (List (Option (Nat × Nat)))) (rings : List Nat) (grp i : Nat) : List Nat :=
  let w := ringWalk ns g rings (rings.getD i 0)
  let pos := w.findIdx (fun x => x.1 = i)
  if pos = w.length then [0, 0, 0, 0, 0]
  else
    let n := w.length
    let x := w.getD pos (0, 4, 4)
    let first := w.getD (n - 1) (0, 4, 4)
    let inPort := if pos = 0 then (match at_ g first.1 first.2.2 with | some (_, r) => r | none => 4) else x.2.1
    let outPort := x.2.2
    let memberAt (k : Nat) : Bool := joined ns grp ((w.getD (k % n) (0, 4, 4)).1)
    let bPos := w.findIdx (fun y => ((ns[y.1]?).map (fun m => m.role % 4 == 2)).getD false)
    let later0 := (List.range (n - 1 - pos)).any (fun k => memberAt (pos + 1 + k))
    let d1 (p : Nat) : Nat := (bPos + n - p) % n
    let later1 := (List.range n).any (fun k => memberAt k && decide (d1 pos < d1 k))
    let others := (List.range ns.length).any (fun j => crosses rings i j && joined ns grp j)
    let isHead := ((ns[i]?).map MapNode.isHead).getD false
    let bound := if others && isHead then portAttr ns g rings i / 16 else 0
    let loc := if joined ns grp i then 16 else 0
    let out0 := if later0 ∧ outPort < 4 then 2 ^ outPort else 0
    let out1 := if later1 ∧ inPort < 4 then 2 ^ inPort else 0
    let isA := ((ns[i]?).map MapNode.isHeadA).getD false
    let own := (if isA then out0 else if isHead then out1 else 0)
    let valid (m : Nat) : Nat := if m = 0 then 0 else 128 + m
    (List.range 4).map (fun q =>
      if q = inPort then valid (loc + out0 + bound)
      else if q = outPort then valid (loc + out1 + bound)
      else if isHead && bit (portAttr ns g rings i / 16) q then valid (loc + own)
      else 0) ++ [valid (own + bound)]

/-- The route shadow of a node (Table 10.8). -/
def shadowOf (ns : List MapNode) (i : Nat) : List Byte :=
  let g := graph ns
  let rings := ringLabels ns g
  let depth := ringDepth g rings
  let ids := ns.map (fun m => m.node)
  let entry (id : Nat) : Byte :=
    match ids.findIdx? (· = id) with
    | some d =>
      if d = i ∨ id = 0 then 0
      else match unicastPort g rings depth (hops g rings depth d) i with
        | some q => byte (128 + q)
        | none => 0
    | none => 0
  let tree := treePorts g (treeDist g ns.length) i
  let bcast (k : Nat) : Byte := if k ≤ 4 then byte (setBit tree k false % 16) else 0
  let groups := (List.range 256).flatMap (fun grp =>
    let es := if ns.any (fun m => grp ∈ m.groups) then groupEntries ns g rings grp i else [0, 0, 0, 0, 0]
    es.map byte ++ [0, 0, 0])
  (List.range 4096).map entry ++ (List.range 8).map bcast ++ groups ++ [byte (portAttr ns g rings i)]

end Sys2Proof.Machine
end

