-- ==== Sys2Proof/Machine/Network.lean ====
section
/-! DEFINITION. Discovery, node IDs, route tables in effect, fences and relays across the fabric (R374 to R379, R389 to R391,
R393, R397 to R400, R403). -/

namespace Sys2Proof.Machine

/-! ### Source routing (R376) -/

/-- The path a discovery packet carries, 2 bits a hop (Table 10.7). -/
def pathHop (k : Pkt) (i : Nat) : Nat := bits (k.u8 (2 + i / 4)) (2 * (i % 4) + 1) (2 * (i % 4))

/-- A path of ports as 16 bytes. -/
def pathBytes (l : List Nat) : List Byte :=
  (List.range 16).map (fun b => byte ((List.range 4).foldl (fun m j => m + l.getD (4 * b + j) 0 * 4 ^ j) 0))

/-- The path of a packet as a list. -/
def pathOf (k : Pkt) : List Nat := (List.range (min 64 (k.u8 0))).map (pathHop k)

/-- The packet has further hops to go. -/
def hopsLeft (k : Pkt) : Bool := decide (getLE k.payload 1 1 < getLE k.payload 0 1)

/-- A source-routed packet sent on: the port named at ptr replaced by the ingress port, ptr raised; discarded where that port
is not in UP (R376), and counted where ttl reaches 0 (R360). -/
def State.sourceForward (s : State) (p : Nat) (k : Pkt) : State :=
  let ptr := k.u8 1
  let out := pathHop k ptr
  let path := updAt (pathOf k) ptr (fun _ => p)
  let payload := k.payload.take 1 ++ [byte (ptr + 1)] ++ pathBytes path ++ k.payload.drop 18
  if k.ttl ≤ 1 then (s.count .fabTtlDrops p).raise .netTtlDrop
  else if s.up out then s.egress out { k with payload := payload, ttl := k.ttl - 1 }
  else s

/-- A discovery payload: hops, ptr 0, path, tag. -/
def discHead (path : List Nat) (tag : Nat) : List Byte := [byte path.length, 0] ++ pathBytes path ++ leBytes 2 tag

/-- A packet the master sends along a path of ports, its own egress port first (log entry 21). -/
def State.sendPath (s : State) (ptype : Nat) (path : List Nat) (tag : Nat) (rest : List Byte) : State :=
  match path with
  | [] => s
  | p :: hops => s.egress p (s.packet ptype 0 0 (discHead hops tag ++ rest))

/-- Mask of the ports in UP. -/
def State.upMask (s : State) : Nat := ((List.range 4).filter s.up).foldl (fun m p => m + 2 ^ p) 0

/-- The nonce of a port's partner, 0 where it is not in UP (Table 10.7). -/
def State.partnerNonce (s : State) (p : Nat) : Nat :=
  if s.up p then (match (s.port p).partner with | some o => o.nonce | none => 0) else 0

/-- The part of DISC_REPLY that names the node (Table 10.7). -/
def State.selfDescription (s : State) : List Byte :=
  leBytes 16 Config.unitId ++ [byte (s.r .sysRoleStrap + 4 * s.r .sysRoleActive), byte s.upMask] ++
    leBytes 2 (s.r .netPreferred) ++ leBytes 2 s.id ++ (List.range 4).flatMap (fun p => leBytes 4 (ownNonce p)) ++
    (List.range 4).flatMap (fun p => leBytes 4 (s.partnerNonce p))

/-- DISC_QUERY_RX (R376): sent on, or answered along the trip's ingress ports in reverse. -/
def doDiscQueryRx (p : Nat) (k : Pkt) (s : State) : State :=
  if hopsLeft k then s.sourceForward p k
  else s.egress p (s.packet 0x03 0 0 (discHead (pathOf k).reverse (k.u16 18) ++ s.selfDescription))
def execDiscQueryRx (p : Nat) (k : Pkt) (s : State) : Host.Outcome State Fault Refusal := event (doDiscQueryRx p k) s

/-! ### Discovery (R375, R377) -/

/-- A node's own description as a map entry. -/
def State.selfNode (s : State) : MapNode :=
  { unit := Config.unitId % 2 ^ 128, node := s.id, role := s.r .sysRoleStrap + 4 * s.r .sysRoleActive, up := s.upMask,
    preferred := s.r .netPreferred, reported := s.id, nonces := (List.range 4).map ownNonce,
    partners := (List.range 4).map s.partnerNonce,
    groups := (List.range 256).filter (fun g => bit (s.r .netMember (g / 32)) (g % 32)), path := [], found := true }

/-- Map entries that this discovery has found, in discovery order. -/
def State.foundNodes (s : State) : List MapNode := s.net.map.filter (·.found)

/-- Queries sent while fewer than 64 are outstanding, in the order they were made (R377). -/
def State.sendQueries : Nat → State → State
  | 0, s => s
  | n + 1, s =>
    if 64 ≤ s.net.queries.length then s
    else
      match s.net.toQuery with
      | [] => s
      | path :: rest =>
        let tag := s.net.nextTag % 65536
        let q : Query := ⟨tag, path, s.clk, 1⟩
        let s := { s with net := { s.net with toQuery := rest, queries := s.net.queries ++ [q], nextTag := tag + 1 } }
        State.sendQueries n (s.sendPath 0x02 path tag [])

/-- The paths to query beyond a node: its ports in ascending order whose partner is not found yet; a node more than 64 hops
away is not reached, and the master sets wall_limit (R377). -/
def State.addQueries (s : State) (m : MapNode) : State :=
  let known (nonce : Nat) : Bool := s.foundNodes.any (fun x => nonce ∈ x.nonces)
  let new := (List.range 4).filter (fun p => bit m.up p && !known (m.partners.getD p 0))
  if new = [] then s
  else if 64 ≤ m.path.length then s.raise .netWallLimit
  else { s with net := { s.net with toQuery := s.net.toQuery ++ new.map (fun p => m.path ++ [p]) } }

/-- DISCOVERY_START (R375, R377): the master begins breadth first from itself, anew where a discovery was under way, which could not end
within the 1 ms. -/
def doDiscoveryStart (s : State) : State :=
  if !s.on .netMaster ∨ s.net.discoverAt.isNone then s
  else
    let self := s.selfNode
    let old := (s.net.map.filter (fun m => m.unit ≠ self.unit)).map (fun (m : MapNode) => { m with found := false })
    let s := { s with net := { s.net with
      map := old ++ [self], queries := [], toQuery := [], epoch := (s.net.epoch + 1) % 256, discoverAt := none,
      discovering := true } }
    State.sendQueries 64 (s.addQueries self)
def execDiscoveryStart (s : State) : Host.Outcome State Fault Refusal := event doDiscoveryStart s

/-- The lowest free ID from 0x001. -/
def freeId (taken : List Nat) : Option Nat := (List.range 4094).map (· + 1) |>.find? (fun i => !(i ∈ taken))

/-- IDs of the found nodes, in discovery order (R378): a reported ID kept unless another reports it too and the map does not
bind it here; then the mapped ID; then the preferred one if free, or the lowest free. 0 is no ID, past 4,094. -/
def assignIds (ns : List MapNode) : List Nat :=
  let reports (id : Nat) : Nat := (ns.filter (fun m => m.reported = id)).length
  let keeps (m : MapNode) : Nat :=
    if m.reported ≠ 0 ∧ (reports m.reported = 1 ∨ m.node = m.reported) then m.reported else 0
  let first := ns.map keeps
  let second := ns.zip first |>.map (fun p => if p.2 ≠ 0 then p.2
    else if p.1.node ≠ 0 ∧ p.1.reported = 0 ∧ !(p.1.node ∈ first) then p.1.node else 0)
  (ns.zip second).foldl (fun (acc : List Nat) (p : MapNode × Nat) =>
    let taken := second ++ acc
    let id := if p.2 ≠ 0 then p.2
      else if p.1.preferred ≠ 0 ∧ p.1.preferred ≤ 4094 ∧ p.1.preferred ∉ taken then p.1.preferred
      else (freeId taken).getD 0
    acc ++ [id]) []

/-- The node takes an ID, its master and its port attributes (Table 10.7), and saves the ID as preferred (R378, R379). How a
node learns its ring, position and direction ports the spec does not say: free values (log entry 22). -/
def State.takeId (s : State) (id master attr : Nat) : State :=
  let pref := s.r .netPreferred
  let s := s.ws [(.netNodeId, id), (.netMasterId, master), (.netAssigned, b2n (id != 0)), (.netDateline, attr % 16),
    (.netBoundary, attr / 16)]
  let s := if pref ≠ 0 ∧ pref ≠ id then s.raise .netIdChanged else s
  let d := s.draw 20
  let s := d.2.ws [(.netRing, d.1 % 256), (.netPosition, d.1 / 256), (.netDir0Port, d.1 / 2 ^ 16), (.netDir1Port, d.1 / 2 ^ 18)]
  if id = 0 then s else (s.w .netPreferred 0 id).putSetting 0x0001 (leBytes 2 id)

/-- The route shadow put into effect, by parts (R390, Table 10.8). -/
def State.useUnicast (s : State) : State :=
  let s := { s with net := { s.net with
    unicast := mwrite 0 [] 0 (mread 0 s.net.shadow 0 4096)
    broadcast := (mread 0 s.net.shadow 0x1000 5).map (fun (b : Byte) => b.toNat) } }
  let attr := mval 0 s.net.shadow 0x1808 1
  s.ws [(.netDateline, attr % 16), (.netBoundary, attr / 16)]

/-- A head's own enabled stream goes to this group. -/
def State.sendsTo (s : State) (g : Nat) : Bool :=
  s.isHead && (List.range 16).any (fun i => s.on .ingEnable i && s.r .ingGroup i == g)

/-- The multicast tables in effect (R387). The rates of the stream routes of groups that this node sends no stream to, which no table
carries, are free values for each port that a valid entry names (R346; log entry 23). -/
def State.useMulticast (s : State) (m : Mem) : State :=
  let s := { s with net := { s.net with multicast := m, dueRoutes := none } }
  let named (p : Nat) : Bool := m.any (fun e => bit e.2.toNat 7 && bit e.2.toNat p && !s.sendsTo (e.1 / 8))
  let s := (List.range 4).foldl (fun s p =>
    let d := s.draw 18
    { d.2 with net := { d.2.net with routed := updAt d.2.net.routed p (fun _ => if named p then d.1 else 0) } }) s
  s.noteNeed

/-- The multicast part of the shadow. -/
def State.shadowMulticast (s : State) : Mem := mwrite 0 [] 0 (mread 0 s.net.shadow 0x1008 2048)

/-- A route set carried out (R389, R390): a shadow that fails its CRC keeps the tables, sets route_crc and tells the master;
the unicast and broadcast parts take effect at once, the multicast part at B(Fa) in Show, else at once. -/
def State.routeSet (s : State) (epoch parts crc fa : Nat) : State :=
  if crc32c (mread 0 s.net.shadow 0 0x1809) ≠ crc then (s.raise .netRouteCrc).linkEvent 0 3
  else
    let s := s.w .netRouteEpoch 0 epoch
    let s := if bit parts 0 then s.useUnicast else s
    if !bit parts 1 then s
    else if !s.inShow then s.useMulticast s.shadowMulticast
    else
      let f := s.frame?.getD 0
      let lateBy := fa ≤ f
      let s := if lateBy then s.raise .netRouteLate else s
      { s with net := { s.net with dueRoutes := some (if lateBy then f + 1 else fa, s.shadowMulticast) } }

/-- ROUTE_SET_RX. -/
def doRouteSetRx (k : Pkt) (s : State) : State := s.routeSet (k.u8 0) (k.u8 1) (k.u32 4) (k.u48 8)
def execRouteSetRx (k : Pkt) (s : State) : Host.Outcome State Fault Refusal := event (doRouteSetRx k) s

/-- The first frame whose boundary lies at least 2 ms ahead (R390). -/
def State.frameAfter (s : State) (ns : Nat) : Nat :=
  match s.frame? with
  | none => s.r .ftAnchorFrame
  | some f =>
    let k := (ns * s.r .ftPeriodDen + s.r .ftPeriodNum - 1) / s.r .ftPeriodNum
    ((List.range (k + 2)).map (f + ·)).find? (fun g => s.ftNs + ns ≤ s.bnd g) |>.getD (f + k + 2)

/-- The master sends a node its tables: the shadow as BULK_DATA of kind 5, then ROUTE_SET (R389). -/
def State.sendTables (s : State) (ns : List MapNode) (i : Nat) : State :=
  let m := ns.getD i s.selfNode
  let sh := shadowOf ns i
  let fa := s.frameAfter 2000000
  let crc := crc32c sh
  if m.unit = Config.unitId % 2 ^ 128 then
    ({ s with net := { s.net with shadow := mwrite 0 [] 0 sh } }).routeSet s.net.epoch 3 crc fa
  else
    let id := s.net.nextTransfer
    let s := { s with net := { s.net with nextTransfer := id + 1 } }
    let s := s.sendBulk m.node 5 id 0 sh
    s.sendTo 0x06 m.node ([byte s.net.epoch, 3, 0, 0] ++ leBytes 4 crc ++ leBytes 8 fa) true

/-- A map entry as the settings keep it (Table 15.6). -/
def mapBytes (l : List MapNode) : List Byte := l.flatMap (fun m => leBytes 16 m.unit ++ leBytes 2 m.node ++ [0, 0])

/-- Where the map stands in a transfer of kind 5 to the twin head, past the route shadow. -/
abbrev mapOffset : Nat := 0x2000

/-- The map goes to the twin head (R379), in a transfer of kind 5 (the rule names no packet: DESIGN CHOICE, log entry 88). -/
def State.sendMap (s : State) : State :=
  let id := s.net.nextTransfer
  if s.r .redTwin = 0 then s
  else ({ s with net := { s.net with nextTransfer := id + 1 } }).sendBulk (s.r .redTwin) 5 id mapOffset (mapBytes s.net.map)

/-- A node's position on the ring walked from head A, 0xFF off it (Table 10.12). -/
def positionOf (w : List (Nat × Nat × Nat)) (i : Nat) : Nat := (w.findIdx? (fun x => x.1 = i)).getD 0xFF

/-- Discovery ends (R378, R379, R389): IDs are assigned and sent, the map saved and sent to the twin head, the tables sent to every node. -/
def State.finishDiscovery (s : State) : State :=
  let ids := assignIds s.foundNodes
  let map := (s.foundNodes.zip ids).map (fun (p : MapNode × Nat) => { p.1 with node := p.2 })
  let s := if 0 ∈ ids then s.raise .netWallLimit else s
  let s := { s with net := { s.net with map := map, discovering := false, queries := [], toQuery := [] } }
  let own := (map.headD s.selfNode).node
  let g := graph map
  let rings := ringLabels map g
  let attr (i : Nat) : Nat := portAttr map g rings i
  let s := map.zipIdx.foldl (fun s p =>
    if p.2 = 0 then s
    else s.sendPath 0x04 p.1.path s.net.nextTag (leBytes 2 p.1.node ++ leBytes 2 own ++ [byte (attr p.2), byte s.net.epoch])) s
  let s := s.takeId own own (attr 0)
  let w := ringWalk map g rings (rings.getD 0 0)
  let s := s.ws [(.netRing, rings.getD 0 0), (.netPosition, positionOf w 0)]
  let s := (s.putSetting 0x8004 (mapBytes map)).sendMap
  (List.range map.length).foldl (fun s i => s.sendTables map i) s

/-- Discovery goes on: further queries, or its end when none is outstanding. -/
def State.continueDiscovery (s : State) : State :=
  let s := State.sendQueries 64 s
  if s.net.discovering ∧ s.net.queries = [] ∧ s.net.toQuery = [] then s.finishDiscovery else s

/-- The node a DISC_REPLY describes. -/
def nodeOfReply (k : Pkt) (path : List Nat) : MapNode :=
  { unit := getLE k.payload 20 16, node := 0, role := k.u8 36, up := k.u8 37, preferred := k.u16 38, reported := k.u16 40,
    nonces := (List.range 4).map (fun p => k.u32 (42 + 4 * p)), partners := (List.range 4).map (fun p => k.u32 (58 + 4 * p)),
    groups := [], path := path, found := true }

/-- DISC_REPLY_RX (R377): the master records the node at the path of its query and queries further. -/
def doDiscReplyRx (p : Nat) (k : Pkt) (s : State) : State :=
  if hopsLeft k then s.sourceForward p k
  else if !s.on .netMaster ∨ !s.net.discovering then s
  else
    match s.net.queries.find? (fun q => q.tag = k.u16 18) with
    | none => s
    | some q =>
      let s := { s with net := { s.net with queries := s.net.queries.filter (fun (x : Query) => x.tag ≠ q.tag) } }
      let m := nodeOfReply k q.path
      if s.foundNodes.any (fun x => x.unit = m.unit) then s.continueDiscovery
      else
        let m := match s.net.map.find? (fun x => x.unit = m.unit) with
          | some o => { m with node := o.node, groups := o.groups }
          | none => m
        let s := { s with net := { s.net with map := s.net.map.filter (fun (x : MapNode) => x.unit ≠ m.unit) ++ [m] } }
        (s.addQueries m).continueDiscovery
def execDiscReplyRx (p : Nat) (k : Pkt) (s : State) : Host.Outcome State Fault Refusal := event (doDiscReplyRx p k) s

/-- DISC_QUERY_TIMEOUT (R377): a query unanswered for 1 ms is sent again, at most 3 times in all. -/
def doDiscQueryTimeout (tag : Nat) (s : State) : State :=
  match s.net.queries.find? (fun q => q.tag = tag) with
  | none => s
  | some q =>
    if s.clk < q.sentAt + 1000000 then s
    else if q.tries < 3 then
      let upd (x : Query) : Query := if x.tag = tag then { x with tries := x.tries + 1, sentAt := s.clk } else x
      ({ s with net := { s.net with queries := s.net.queries.map upd } }).sendPath 0x02 q.path tag []
    else
      ({ s with net := { s.net with queries := s.net.queries.filter (fun (x : Query) => x.tag ≠ tag) } }).continueDiscovery
def execDiscQueryTimeout (tag : Nat) (s : State) : Host.Outcome State Fault Refusal := event (doDiscQueryTimeout tag) s

/-- DISC_ASSIGN_RX (R378, R379). -/
def doDiscAssignRx (p : Nat) (k : Pkt) (s : State) : State :=
  if hopsLeft k then s.sourceForward p k
  else s.takeId (k.u16 20 % 4096) (k.u16 22 % 4096) (k.u8 24)
def execDiscAssignRx (p : Nat) (k : Pkt) (s : State) : Host.Outcome State Fault Refusal := event (doDiscAssignRx p k) s

/-- LINK_EVENT_RX (R375, R389): the master runs discovery within 1 ms of each; a node whose route check failed gets its tables again
at once as well. -/
def doLinkEventRx (k : Pkt) (s : State) : State :=
  if !s.on .netMaster then s
  else
    let s := s.discoverSoon
    if k.u8 1 ≠ 3 then s
    else
      match s.net.map.findIdx? (fun m => m.node = k.src) with
      | some i => s.sendTables s.net.map i
      | none => s
def execLinkEventRx (k : Pkt) (s : State) : Host.Outcome State Fault Refusal := event (doLinkEventRx k) s

/-! ### Fences (R397) -/

/-- The packets a fence held go out. -/
def State.releaseFence (s : State) (f : Fence) : State :=
  let s := { s with net := { s.net with fences := s.net.fences.filter (fun x => x.id ≠ f.id) } }
  f.held.foldl (fun s k => s.route k) s

/-- FENCE_RX: FENCE_DONE once the fence has taken effect on every VC of its mask. -/
def doFenceRx (k : Pkt) (s : State) : State :=
  let id := k.u16 0
  let mask := k.u8 2 % 16
  let seen := match s.net.fencesIn.find? (fun x => x.1 = k.src ∧ x.2.1 = id) with | some x => x.2.2 | none => 0
  let seen := setBit seen k.vc true
  let rest := s.net.fencesIn.filter (fun x => !(x.1 = k.src ∧ x.2.1 = id))
  if covers seen mask then
    ({ s with net := { s.net with fencesIn := rest } }).sendTo 0x13 k.src (leBytes 2 id ++ [byte mask, 0, 0, 0, 0, 0])
  else { s with net := { s.net with fencesIn := rest ++ [(k.src, id, seen)] } }
def execFenceRx (k : Pkt) (s : State) : Host.Outcome State Fault Refusal := event (doFenceRx k) s

/-- FENCE_DONE_RX: the origin releases what its fence held. -/
def doFenceDoneRx (k : Pkt) (s : State) : State :=
  match s.net.fences.find? (fun f => f.id = k.u16 0 ∧ f.dst = k.src) with
  | some f => (s.releaseFence f).complete (.fence f.id) Status.ok
  | none => s
def execFenceDoneRx (k : Pkt) (s : State) : Host.Outcome State Fault Refusal := event (doFenceDoneRx k) s

/-- The FENCE_DONE of a fence comes in this cycle. -/
def State.doneNow (s : State) (f : Fence) : Bool :=
  s.sameCycle.any (fun i => match i with | .fenceDoneRx k => k.u16 0 == f.id && k.src == f.dst | _ => false)

/-- FENCE_TIMEOUT: 10 ms without FENCE_DONE; one of the same cycle counts (Table 10.6). -/
def doFenceTimeout (id : Nat) (s : State) : State :=
  match s.net.fences.find? (fun f => f.id = id) with
  | some f =>
    if s.clk < f.sentAt + 10000000 ∨ s.doneNow f then s
    else ((s.releaseFence f).raise .netFenceTimeout).complete (.fence id) Status.timeout
  | none => s
def execFenceTimeout (id : Nat) (s : State) : Host.Outcome State Fault Refusal := event (doFenceTimeout id) s

/-! ### Relays (R399, R400) -/

/-- NO_ROUTE_RX: a unicast relay to the destination of a dropped MBX_CMD ends with NO_NODE. -/
def doNoRouteRx (k : Pkt) (s : State) : State :=
  let dst := k.u16 2 % 4096
  if k.u8 0 ≠ 0x10 ∨ bit (k.u8 1) 6 then s
  else
    let hit := s.mbx.relays.filter (fun r => r.cmd.relay ∧ r.cmd.scope = 0 ∧ r.cmd.node = dst)
    hit.foldl (fun s r => (s.dropRelay r.tag).postMark r.cmd (s.response r.cmd Status.noNode true [] s.ftNs r.cmd.session)) s
def execNoRouteRx (k : Pkt) (s : State) : Host.Outcome State Fault Refusal := event (doNoRouteRx k) s

/-- MBX_RSP_RX (R399, R400); OK to the node's own FW_FALLBACK_REQ ends its repeats (R571). -/
def doMbxRspRx (k : Pkt) (s : State) : State :=
  if s.fw.restartAt.isSome then s
  else if s.fw.fallback.any (fun f => f.1 == k.u32 64) then
    if k.u16 8 = Status.ok then
      { s.w .aonFwuFallbackSent 0 1 with fw := { s.fw with fallback := none } }
    else s
  else s.relayAnswer (k.u32 64) (k.u16 68) (Response.ofBytes (k.payload.take 64))
def execMbxRspRx (k : Pkt) (s : State) : Host.Outcome State Fault Refusal := event (doMbxRspRx k) s

/-- When a relay stops waiting: 100 ms after it went out; with final responses to come, 100 ms after the activation (R400,
R478); a deferred command without an activation has no limit. -/
def State.relayDue (s : State) (r : Relay) : Bool :=
  if !r.finals then decide (r.started + 100000000 ≤ s.clk)
  else r.cmd.isScheduled && decide (r.cmd.activation + 100000000 ≤ s.ftNs)

/-- RELAY_TIMEOUT: the head completes the relay with what it holds. -/
def doRelayTimeout (tag : Nat) (s : State) : State :=
  match s.mbx.relays.find? (fun r => r.tag = tag) with
  | some r =>
    if !s.relayDue r then s
    else if !r.finals ∧ r.responses.any (fun p => !p.2.final) ∧ !r.endsNow then s.interimRelay r
    else s.finishRelay r
  | none => s
def execRelayTimeout (tag : Nat) (s : State) : Host.Outcome State Fault Refusal := event (doRelayTimeout tag) s

/-! ### Commands (Table 10.14) -/

/-- FAB_NODE_GET. -/
def actFabNodeGet : Action := fun _ s =>
  done s (leBytes 2 s.id ++ leBytes 2 (s.r .netPreferred) ++ leBytes 2 (s.r .netMasterId) ++ [byte (s.r .netRouteEpoch), 0] ++
    leBytes 4 (s.bar0 0x3408) ++ (List.range 4).flatMap (fun p => leBytes 2 (match (s.port p).partner with
      | some o => o.node
      | none => 0)))
def execFabNodeGet (c : HostCmd) (s : State) : Host.Outcome State Fault Refusal := .next (runHost 0x0205 actFabNodeGet c s)

/-- FAB_SET_ID: the preferred ID, saved. -/
def actFabSetId : Action := fun c s =>
  if 0xFFF ≤ c.u16 0 then refuse s Status.badArg
  else done ((s.w .netPreferred 0 (c.u16 0)).putSetting 0x0001 (leBytes 2 (c.u16 0)))
def execFabSetId (c : HostCmd) (s : State) : Host.Outcome State Fault Refusal := .next (runHost 0x0206 actFabSetId c s)

/-- FAB_DISCOVER (R375). -/
def actFabDiscover : Action := fun _ s =>
  if s.on .netMaster then done { s with net := { s.net with discoverAt := some s.clk } } else refuse s Status.denied
def execFabDiscover (c : HostCmd) (s : State) : Host.Outcome State Fault Refusal := .next (runHost 0x0207 actFabDiscover c s)

/-- A map entry of no node. -/
def mapNode0 : MapNode :=
  { unit := 0, node := 0, role := 0, up := 0, preferred := 0, reported := 0, nonces := [], partners := [], groups := [],
    path := [], found := false }

/-- A topology record (R403). -/
def topoRecord (ns : List MapNode) (i : Nat) : List Byte :=
  let g := graph ns
  let rings := ringLabels ns g
  let w := ringWalk ns g rings (rings.getD i 0)
  let m := ns.getD i mapNode0
  let far (p : Nat) : Nat := ((at_ g i p).map (fun e => ((ns[e.1]?).map (·.node)).getD 0)).getD 0
  let farPort (p : Nat) : Nat := ((at_ g i p).map (·.2)).getD 0
  leBytes 2 m.node ++ [byte m.role, byte m.up] ++ (List.range 4).flatMap (fun p => leBytes 2 (far p)) ++
    [byte ((List.range 4).foldl (fun v p => v + farPort p * 4 ^ p) 0), byte m.path.length, byte (rings.getD i 0),
      byte (positionOf w i)] ++ leBytes 16 m.unit

/-- FAB_TOPO_READ: a 32-byte record for each node of the master's map, as many as the length holds. -/
def actFabTopoRead : Action := fun c s =>
  if !s.on .netMaster then refuse s Status.denied
  else if !s.hostOk (c.u64 0) then refuse s Status.badArg
  else
    let n := min s.net.map.length (c.u32 8 / 32)
    done (s.hostWrite c (c.u64 0) ((List.range n).flatMap (topoRecord s.net.map))) (leBytes 4 n)
def execFabTopoRead (c : HostCmd) (s : State) : Host.Outcome State Fault Refusal := .next (runHost 0x0208 actFabTopoRead c s)

/-- FAB_GROUP_SET: the group's bit of FAB_MEMBER; a change tells the master (R374, R386). -/
def actFabGroupSet : Action := fun c s =>
  let g := c.u8 0
  let old := s.r .netMember (g / 32)
  let new := setBit old (g % 32) (c.u8 1 != 0)
  done (if old = new then s else (s.w .netMember (g / 32) new).linkEvent 0 2)
def execFabGroupSet (c : HostCmd) (s : State) : Host.Outcome State Fault Refusal := .next (runHost 0x0209 actFabGroupSet c s)

/-- FAB_ROUTE_GET: the entry of a node, or of a group for ingress 0 to 4. -/
def actFabRouteGet : Action := fun c s =>
  if c.u8 2 = 0 ∧ c.u16 0 ≤ 0xFFF then done s [mget 0 s.net.unicast (c.u16 0)]
  else if c.u8 2 = 1 ∧ c.u16 0 ≤ 0xFF then done s ((List.range 5).map (fun i => byte (s.groupEntry (c.u16 0) i)))
  else refuse s Status.badArg
def execFabRouteGet (c : HostCmd) (s : State) : Host.Outcome State Fault Refusal := .next (runHost 0x020A actFabRouteGet c s)

/-- FAB_LINK_GET: words +0x80 to +0x9C of a port. -/
def actFabLinkGet : Action := fun c s =>
  if 3 < c.u8 0 then refuse s Status.badArg
  else done s ((List.range 8).flatMap (fun i => s.portWord (c.u8 0) (0x80 + 4 * i)))
def execFabLinkGet (c : HostCmd) (s : State) : Host.Outcome State Fault Refusal := .next (runHost 0x020B actFabLinkGet c s)

/-- FAB_TRANSIT_GET: the smallest slacks of a stream (R393), cleared when asked. -/
def actFabTransitGet : Action := fun c s =>
  let i := c.u8 0
  if 15 < i then refuse s Status.badArg
  else
    let d := leBytes 4 (s.r .netSlackA i) ++ leBytes 4 (s.r .netSlackB i)
    done (if c.u8 1 = 0 then s else (s.w .netSlackA i 0x7FFFFFFF).w .netSlackB i 0x7FFFFFFF) d
def execFabTransitGet (c : HostCmd) (s : State) : Host.Outcome State Fault Refusal := .next (runHost 0x020C actFabTransitGet c s)

/-- FAB_FENCE (R397): FENCE on each VC of the mask; the status comes at FENCE_DONE. -/
def actFabFence : Action := fun c s =>
  let dst := c.u16 0
  let mask := c.u8 2 % 16
  if s.id = 0 ∨ 0xFFE < dst ∨ s.routeTo dst = none then refuse s Status.noNode
  else if mask = 0 then done s
  else
    let id := s.net.nextFence % 65536
    let body := leBytes 2 id ++ [byte mask, 0, 0, 0, 0, 0]
    let s := (portsOf mask).foldl (fun s v => s.route (s.packet 0x12 v dst body true)) s
    let f : Fence := ⟨id, dst, mask, s.clk, []⟩
    await { s with net := { s.net with fences := s.net.fences ++ [f], nextFence := id + 1 } } (.fence id)
def execFabFence (c : HostCmd) (s : State) : Host.Outcome State Fault Refusal := .next (runHost 0x020D actFabFence c s)

end Sys2Proof.Machine
end

