-- ==== Sys2Proof/Machine/Time.lean ====
section
/-! DEFINITION. Fabric time: the counter, time packets and their stamps, lock states, holdover, the reference of a time root,
and the time commands (R46 to R80, R248, R283, R417, R531). -/

namespace Sys2Proof.Machine

/-! ### Stamps (R55, R56, R60) -/

/-- Transmit and receive latency of a rate, in 2^-16 ns (Table 2.7, rounded). -/
def txLatency (rate : Nat) : Nat := nth [3145728, 1677722, 2529690, 1461453] rate 0
def rxLatency (rate : Nat) : Nat := nth [5767168, 2713190, 7897088, 5367398] rate 0

/-- A stamp's resolution, 62.5 ps, in units of 2^-16 ns (R56). -/
def stampRes (t : Nat) : Nat := t / 4096 * 4096

/-- Egress and ingress stamps of a port from the ball time, as R60 words them (log entry 25). -/
def State.egressStamp (s : State) (p t : Nat) : Int := (stampRes t : Int) - txLatency (s.r .fabRate p)
def State.ingressStamp (s : State) (p t : Nat) : Int :=
  (stampRes t : Int) + rxLatency (s.r .fabRate p) + (s.time.ports.getD p State.timePort0).deskew

/-- FT in units of 2^-16 ns. -/
def State.ft16 (s : State) : Nat := s.time.ft / 2 ^ 16

/-- A port's trim in units of 2^-16 ns, from ps (R59). -/
def State.trim16 (s : State) (p : Nat) : Int := (toInt 16 (s.r .ftPortTrim p) * 65536).fdiv 1000

/-- port_delay: the mean of the last 16 delay samples and the trim (R58, R59), in units of 2^-16 ns. With fewer than 16 samples it is the
mean of those there are, rounded down, and 0 with none (DESIGN CHOICE, log entry 63). -/
def State.portDelay (s : State) (p : Nat) : Int :=
  let l := (s.time.ports.getD p State.timePort0).samples
  (if l = [] then 0 else l.sum.fdiv l.length) + s.trim16 p

/-- The port_delay register shown (Table 2.13). -/
def State.showDelay (s : State) (p : Nat) : State := s.w .ftPortDelay p (ofInt 32 (shr (s.portDelay p) 8))

/-! ### The increment (R46, R47) -/

/-- The increment in effect, in 2^-32 ns. -/
def State.incr (s : State) : Nat := s.r .ftIncrInt * 2 ^ 32 + s.r .ftIncrFrac

/-- Nominal increment, 4 ns, and a number of ppm of it. -/
abbrev nominalIncr : Nat := 0x400000000
def ppmOf (base ppm : Nat) : Nat := base * ppm / 1000000

/-- An increment within the limits of R47. -/
def State.limitIncr (s : State) (i : Int) : Nat :=
  let d := ppmOf nominalIncr (if s.inShow then 200 else 1000)
  clampI (nominalIncr - d) (nominalIncr + d) i

/-- The increment set, within R47 and, after a takeover, within 10 ppm of the one then held (R77). -/
def State.setIncr (s : State) (i : Int) : State :=
  let i := match s.time.steer with
    | some h => (clampI (h - ppmOf h 10) (h + ppmOf h 10) i : Int)
    | none => i
  let v := s.limitIncr i
  s.ws [(.ftIncrInt, v / 2 ^ 32), (.ftIncrFrac, v % 2 ^ 32)]

/-- The servo's step from an offset in 2^-16 ns (R58; its law is log entry 10). -/
def State.servo (s : State) (offset : Int) : State := s.setIncr (Config.servo s.incr offset)

/-- The REF compensation at D7's temperature, in 2^-8 ppm and 1/16 of an entry's step of 5 °C: linear between the entries at 0,
5, … 75 °C, the end entry outside (R531). A temperature is in 1/16 °C. -/
def State.refComp (s : State) : Int :=
  let t := toInt 16 (s.r .thmDieTemp 7)
  let e (j : Nat) : Int := toInt 16 (s.r .calRefComp j)
  if t ≤ 0 then e 0
  else if 1200 ≤ t then e 15
  else
    let j := t.toNat / 80
    let m := t.toNat % 80
    e j + ((e (j + 1) - e j) * m).fdiv 80

/-- The time root runs on FREE and follows REF with its compensation (Table 2.4, R531). -/
def State.freeRun (s : State) : State :=
  if s.on .ftIsRoot ∧ s.r .ftSource = 0 ∧ s.r .ftLockState = 0 then
    s.setIncr (nominalIncr + (nominalIncr * s.refComp).fdiv 256000000)
  else s

/-! ### Cutoffs and planned frames -/

/-- The next frame index. -/
def State.nextFrame (s : State) : Nat := match s.frame? with | some f => f + 1 | none => s.r .ftAnchorFrame

/-- The cutoff of frame `f` (R132); B(F0 − 1) does not exist. -/
def State.cutoff (s : State) (early : Bool) (f : Nat) : Option Nat :=
  if early then (if f ≤ s.r .ftAnchorFrame then none else some (s.bnd (f - 1)))
  else if f < s.r .ftAnchorFrame then none else some (s.latch f)

/-- The first frame from `from_` that a test on its cutoff selects. -/
def State.firstFrame (s : State) (early : Bool) (from_ : Nat) (ok : Nat → Bool) : Nat :=
  ((List.range 128).map (from_ + ·)).find? (fun f => match s.cutoff early f with
    | some c => ok c
    | none => false) |>.getD (from_ + 128)

/-- The first frame at or after `ft` whose cutoff falls after now (R135, R136). -/
def State.planTimed (s : State) (early : Bool) (ft : Nat) : Nat :=
  s.firstFrame early (max ft s.nextFrame) (fun c => decide (s.ftNs < c))

/-- Accepted sets that a test selects have missed the latch point of their planned frame: each is late, and planned for the first
frame whose cutoff falls after the moment it missed it (R619). -/
def State.lateSets (s : State) (missed : CommitSet → Bool) (moment : CommitSet → Nat) : State :=
  let gone (c : CommitSet) : Bool := c.state == .accepted && missed c
  let again (c : CommitSet) : CommitSet :=
    { c with late := true, fa := s.firstFrame c.early s.nextFrame (fun t => decide (moment c < t)) }
  let l := s.lay.sets.map (fun c => if gone c then again c else c)
  { s.raiseIf (s.lay.sets.any gone) .layLateCommit with lay := { s.lay with sets := l } }

/-- FT changed by a step (R48): step_done sets, and commit sets whose latch point it stepped past are late (R619). -/
def State.stepTo (s : State) (ft : Nat) : State :=
  let old := s.ftNs
  let s := ({ s with time := { s.time with ft := ft % 2 ^ 96 } }).raise .ftStepDone
  s.lateSets (fun c => decide (old < s.latch c.fa) && decide (s.latch c.fa ≤ s.ftNs)) (fun _ => s.ftNs)

/-- A lock state entered (Table 2.9); entry to HOLDOVER sets holdover_entered and starts its count (R72). -/
def State.setLock (s : State) (l : Nat) : State :=
  if s.r .ftLockState = l then s
  else
    let s := s.w .ftLockState 0 l
    let s := { s with time := { s.time with
      lockedSince := if l = 2 then some s.clk else none
      holdSince := if l = 3 then some s.clk else none
      inside := 0, outside := 0 } }
    s.raiseIf (l == 3) .ftHoldoverEntered

/-- The node leaves Show for time at its next boundary, and time_lost sets there (R73, R75). -/
def State.leaveForTime (s : State) : State :=
  if s.inShow then
    { s.leaveNext with time := { s.time with returnShow := true } }
  else s

/-! ### The tick -/

/-- Index of the last GCLK edge of group g at or before an FT (R248): trim in ps, FT in 2^-32 ns. -/
def gclkIndex (ft gdiv : Nat) (trim : Int) : Int := ((ft : Int) * 1000 + trim * 2 ^ 32).fdiv (4000 * gdiv * 2 ^ 32)

/-- GCLK edges that leave their balls between two FT values, in Standby and Show (R248, R283); a pair controller that stands down
holds its outputs idle (R440). -/
def State.gclkEdges (s : State) (old new : Nat) : State :=
  if (s.inStandby || s.inShow) && s.red.standdownAt.isNone then
    let gdiv := s.r .scnGdivM1 + 1
    (List.range 12).foldl (fun s g =>
      let trim := toInt 16 (s.scn.trims.getD g 0)
      let a := gclkIndex old gdiv trim
      let n := (gclkIndex new gdiv trim - a).toNat
      (List.range n).foldl (fun (s : State) (k : Nat) =>
        let m := (a + 1 + (k : Int)).toNat
        s.emit (.gclk g m (m % 65536 == 0))) s) s
  else s

/-- FT_TICK: a TB tick adds the increment (R46); a new TB cycle begins (R12); ports in TRAIN
send their next training frames when due (R328). -/
def doFtTick (s : State) : State :=
  let s := s.freeRun
  let old := s.time.ft
  let s := { s with time := { s.time with ft := (old + s.incr) % 2 ^ 96 }, clk := s.clk + 4, hot := [] }
  (List.range 4).foldl State.sendFrames (s.gclkEdges old (old + s.incr))

/-- FT_NOW_READ: a read of offset 0x0400 latches the whole value and its fraction (R49). -/
def doFtNowRead (s : State) : State :=
  if !s.pcieUp then s
  else
    let s : State := { s with mbx := { s.mbx with ftLatch := s.time.ft } }
    s.emit (.readData (leBytes 4 s.ftNs))
def execFtNowRead (s : State) : Host.Outcome State Fault Refusal := event doFtNowRead s

/-! ### Time packets (R57, R58) -/

/-- The takeover allowance of a time root: the fewest whole ms not below lease_us + guard_us + two wall periods (R74). -/
def State.allowance (s : State) : Nat :=
  let n := s.r .ftPeriodNum
  let d := max 1 (s.r .ftPeriodDen)
  ceilDiv ((s.r .redLeaseUs + s.r .redGuardUs) * 1000 * d + 2 * n) (d * 1000000)

/-- A TIME_SYNC payload (Table 2.5): origin and correction in 2^-16 ns. -/
def syncPayload (origin : Int) (seq : Nat) (corr : Int) (rootId hops state allow : Nat) : List Byte :=
  let o := ofInt 80 origin
  leBytes 8 (o / 65536) ++ leBytes 2 (o % 65536) ++ leBytes 2 seq ++ leBytes 8 (ofInt 64 corr) ++ leBytes 2 rootId ++
    [byte (min hops 255), byte state] ++ leBytes 2 allow ++ [0, 0, 0, 0, 0, 0]

/-- Ports in UP, the trained ports that carry packets. -/
def State.upPorts (s : State) : List Nat := (List.range 4).filter s.up

/-- TIME_SYNC_SEND: the time root sends on every port. -/
def doTimeSyncSend (s : State) : State :=
  if !s.on .ftIsRoot then s
  else
    let seq := s.time.syncSeq % 65536
    let body (p : Nat) := syncPayload (s.egressStamp p s.ft16) seq 0 (s.id + 4096 * s.r .ftSource) 0 (s.r .ftLockState) s.allowance
    let t := s.upPorts.foldl (fun t p => t.sendPort p 0x08 (body p)) s
    { t with time := { t.time with syncSeq := seq + 1 } }
def execTimeSyncSend (s : State) : Host.Outcome State Fault Refusal := event doTimeSyncSend s

/-- PDELAY_REQ_SEND: a request on every trained port; `tout` are the ball times of its copies, 2^-16 ns. -/
def doPdelayReqSend (tout : List Nat) (s : State) : State :=
  let seq := s.time.pdelaySeq % 65536
  let t := s.upPorts.foldl (fun t p =>
    let stamp := s.egressStamp p (tout.getD p 0)
    (t.setTimePort p (fun x => { x with asked := some (seq, ofInt 80 stamp) })).sendPort p 0x09
      (leBytes 2 seq ++ List.replicate 14 0)) s
  { t with time := { t.time with pdelaySeq := seq + 1 } }
def execPdelayReqSend (tout : List Nat) (s : State) : Host.Outcome State Fault Refusal := event (doPdelayReqSend tout) s

/-- PDELAY_REQ_RX: the answer carries the turnaround, egress stamp minus ingress stamp (Table 2.6). -/
def doPdelayReqRx (p : Nat) (k : Pkt) (tin tout : Nat) (s : State) : State :=
  let turn := s.egressStamp p tout - s.ingressStamp p tin
  s.sendPort p 0x0A (leBytes 2 (k.u16 0) ++ [0, 0, 0, 0, 0, 0] ++ leBytes 8 (ofInt 64 turn))
def execPdelayReqRx (p : Nat) (k : Pkt) (tin tout : Nat) (s : State) : Host.Outcome State Fault Refusal :=
  event (doPdelayReqRx p k tin tout) s

/-- PDELAY_RESP_RX: a delay sample, half of the round trip less the turnaround (R58). -/
def doPdelayRespRx (p : Nat) (k : Pkt) (tin : Nat) (s : State) : State :=
  match (s.time.ports.getD p State.timePort0).asked with
  | none => s
  | some (seq, t1) =>
    if seq ≠ k.u16 0 then s
    else
      let sample := ((s.ingressStamp p tin - t1) - toInt 64 (k.u64 8)).fdiv 2
      (s.setTimePort p (fun x => { x with asked := none, samples := (sample :: x.samples).take 16 })).showDelay p
def execPdelayRespRx (p : Nat) (k : Pkt) (tin : Nat) (s : State) : Host.Outcome State Fault Refusal :=
  event (doPdelayRespRx p k tin) s

/-! ### Following the root (R54, R67 to R71, R75, R417) -/

/-- Hops of a port that has received a valid TIME_SYNC within the last 1 ms. -/
def State.hopsOf (s : State) (p : Nat) : Option Nat :=
  if s.timePort p then some (s.time.ports.getD p State.timePort0).hops else none

/-- The port with the fewest hops among some, the lower number on a tie (R54). -/
def State.bestPort (s : State) (ps : List Nat) : Option Nat :=
  ps.foldl (fun b p =>
    match s.hopsOf p, b with
    | none, _ => b
    | some _, none => some p
    | some h, some q => if h < (s.hopsOf q).getD 256 then some p else b) none

/-- A port becomes the parent; a change of parent sets parent_changed (R54). -/
def State.setParent (s : State) (p : Nat) : State :=
  let moved := s.hasParent && s.r .ftParentPort != p
  (s.ws [(.ftParentPort, p), (.ftHops, min 254 (s.time.ports.getD p State.timePort0).hops)]).raiseIf moved .ftParentChanged

/-- Nanoseconds in units of 2^-16 ns. -/
abbrev ns16 (n : Nat) : Int := n * 65536

/-- Consecutive offsets inside ±20 ns and outside ±100 ns counted (R67). -/
def State.countOffset (s : State) (a : Int) : State :=
  { s with time := { s.time with
    inside := if a ≤ ns16 20 then s.time.inside + 1 else 0
    outside := if ns16 100 < a then s.time.outside + 1 else 0 } }

/-- What an offset does to the lock state of a node (R67 to R69, R417; log entry 26), and the step of R68 where the node may step. -/
def State.lockBy (s : State) (base mayStep : Bool) (offset : Int) : State :=
  let a : Int := offset.natAbs
  let st := s.r .ftLockState
  if base then s.setLock 4
  else if st = 3 then (if a ≤ ns16 100 then s.setLock 2 else s.setLock 1)
  else
    let s := if st = 2 then s else s.setLock 1
    let s := s.countOffset a
    if st = 2 then (if 8 ≤ s.time.outside then s.setLock 1 else s)
    else if mayStep ∧ !s.inShow ∧ ns16 10000 < a then
      let s := s.stepTo ((s.time.ft : Int) - offset * 65536).toNat
      { s with time := { s.time with inside := 0, outside := 0 } }
    else if 64 ≤ s.time.inside then s.setLock 2
    else s

/-- align: set in Show while the offset lies outside ±100 ns; past ±10 µs the node leaves Show (R75). -/
def State.alignBy (s : State) (offset : Int) : State :=
  let a : Int := offset.natAbs
  let set := s.inShow && decide (ns16 100 < a)
  let since := if set then some (s.time.alignSince.getD s.clk) else none
  let s := { s.w .ftAlign 0 (b2n set) with time := { s.time with alignSince := since } }
  if ns16 10000 < a then s.leaveForTime else s

/-- A TIME_SYNC on the parent port: the offset, the servo, the lock state, and the copies sent on (R58). -/
def State.follow (s : State) (p : Nat) (k : Pkt) (tin : Int) (offset : Int) (tout : List Nat) : State :=
  let s := (s.w .ftOffset 0 (ofInt 32 (shr offset 8))).w .ftSource 0 1
  let delay := s.portDelay p
  let out (t : State) (q : Nat) : State :=
    let corr := toInt 64 (k.u64 12) + delay + (s.egressStamp q (tout.getD q 0) - tin)
    t.sendPort q 0x08 (k.payload.take 12 ++ leBytes 8 (ofInt 64 corr) ++ getBytes k.payload 20 2 ++
      [byte (min 255 (k.u8 22 + 1))] ++ getBytes k.payload 23 9)
  let s := (s.upPorts.filter (· ≠ p)).foldl out s
  let s := s.servo offset
  (s.lockBy (s.r .fabRate p == 0) true offset).alignBy offset

/-- TIME_SYNC_RX: `tin` the ball time of its arrival, `tout` those of the copies forwarded, in 2^-16 ns. The time root takes no
time from the fabric (R51); a packet on another port measures the alternate offset only. -/
def doTimeSyncRx (p : Nat) (k : Pkt) (tin : Nat) (tout : List Nat) (s : State) : State :=
  if k.payload.length ≠ 32 ∨ s.on .ftIsRoot then s
  else
    let s := s.setTimePort p (fun x => { x with hops := min 255 (k.u8 22 + 1), lastSync := some s.clk })
    let s := { s with time := { s.time with rootId := k.u16 20, rootState := k.u8 23 } }
    let s := s.w .ftTakeoverAllow 0 (k.u16 24)
    let s := if s.bestPort (List.range 4) = some p then s.setParent p else s
    let stamp := s.ingressStamp p tin
    let origin : Int := k.u64 0 * 65536 + k.u16 8
    let offset := stamp - (origin + toInt 64 (k.u64 12) + s.portDelay p)
    if s.hasParent ∧ s.r .ftParentPort = p then s.follow p k stamp offset tout
    else s.w .ftAltOffset 0 (ofInt 32 (shr offset 8))
def execTimeSyncRx (p : Nat) (k : Pkt) (tin : Nat) (tout : List Nat) (s : State) : Host.Outcome State Fault Refusal :=
  event (doTimeSyncRx p k tin tout) s

/-- PARENT_TIMEOUT (R71, R72): 1 ms without a valid TIME_SYNC on the parent port; the best alternate becomes the parent, and
without one the node enters HOLDOVER. -/
def doParentTimeout (s : State) : State :=
  let p := s.r .ftParentPort
  let heard : Bool := match (s.time.ports.getD p State.timePort0).lastSync with
    | some t => decide (s.clk < t + 1000000)
    | none => false
  if s.on .ftIsRoot || !s.hasParent || heard then s
  else
    match s.bestPort ((List.range 4).filter (· ≠ p)) with
    | some q => s.setParent q
    | none => if s.r .ftLockState = 0 then s else s.setLock 3
def execParentTimeout (s : State) : Host.Outcome State Fault Refusal := event doParentTimeout s

/-- HOLD_LIMIT_EXPIRE (R73, R74): HOLDOVER past the takeover allowance for longer than the hold limit. -/
def doHoldLimitExpire (s : State) : State :=
  match s.time.holdSince with
  | some t =>
    if !s.on .ftIsRoot ∧ t + (s.r .ftTakeoverAllow + s.r .ftHoldLimit) * 1000000 < s.clk then s.leaveForTime else s
  | none => s
def execHoldLimitExpire (s : State) : Host.Outcome State Fault Refusal := event doHoldLimitExpire s

/-- ALIGN_LIMIT_EXPIRE (R75): align set for longer than the hold limit. -/
def doAlignLimitExpire (s : State) : State :=
  match s.time.alignSince with
  | some t => if t + s.r .ftHoldLimit * 1000000 < s.clk then s.leaveForTime else s
  | none => s
def execAlignLimitExpire (s : State) : Host.Outcome State Fault Refusal := event doAlignLimitExpire s


/-- TIME_RETURN_SHOW (R76): 100 ms in LOCKED, the node returns at the next boundary. -/
def doTimeReturnShow (s : State) : State :=
  match s.time.lockedSince with
  | some t =>
    if s.time.returnShow ∧ s.inStandby ∧ t + 100000000 ≤ s.clk then
      { s with boot := { s.boot with enterShow := some s.nextFrame } }
    else s
  | none => s
def execTimeReturnShow (s : State) : Host.Outcome State Fault Refusal := event doTimeReturnShow s

/-! ### The reference of a time root (R52, R53, R72, R77, R78) -/

/-- A health bit of a head (Table 11.7). -/
def State.setHealth (s : State) (b : Nat) (v : Bool) : State :=
  if s.isHead then s.w .redHealth 0 (setBit (s.r .redHealth) b v) else s

/-- The time root adjusts to its reference: the limits of R67 and R68 on its offset (log entry 26). It steps only to PTP, and not while it
steers after a takeover (R77); to GENLOCK it slews (R53). -/
def State.rootOffset (s : State) (offset : Int) : State :=
  let a : Int := offset.natAbs
  let mayStep := s.r .ftSource == 2 && s.time.steer.isNone
  let s := { s with time := { s.time with steer := if a ≤ ns16 20 then none else s.time.steer, refPresent := true } }
  ((s.setHealth 9 false).servo offset).lockBy false mayStep offset

/-- A head that is not the root measures its reference against FT (Table 2.13, R78): `diff` in ns. -/
def State.measureRef (s : State) (diff : Int) : State :=
  let d := if diff < -2147483648 then -2147483648 else if 2147483647 < diff then 2147483647 else diff
  let since := if 1000 < d.natAbs then some (s.time.disagreeSince.getD s.clk) else none
  { s.w .ftRefDiff 0 (ofInt 32 d) with time := { s.time with disagreeSince := since, refPresent := true } }

/-- The source of the time root that a node last heard of (Table 2.5). -/
def State.rootSource (s : State) : Nat := s.time.rootId / 4096

/-- PTP_MESSAGE_RX (R52): a message that gives PTP time now, in ns, in the domain used. -/
def doPtpMessageRx (ptp domain : Nat) (s : State) : State :=
  if !s.isHead ∨ domain ≠ s.time.ptpDomain ∨ s.held 3 then s
  else if s.on .ftIsRoot then
    if s.r .ftSource = 2 then s.rootOffset ((s.ft16 : Int) - ptp * 65536) else s
  else if s.rootSource = 2 then s.measureRef ((ptp : Int) - s.ftNs)
  else s
def execPtpMessageRx (ptp domain : Nat) (s : State) : Host.Outcome State Fault Refusal := event (doPtpMessageRx ptp domain) s

/-- The reference of a time root is lost (R72): HOLDOVER with the increment it has, ref_lost; a time root stays in it for any
length of time. A head shows it as time_ref (Table 11.7). -/
def doRefLost (s : State) : State :=
  if s.on .ftIsRoot ∧ (s.r .ftSource = 2 ∨ s.r .ftSource = 3) then
    let s := { s with time := { s.time with refPresent := false } }
    ((s.setLock 3).raise .ftRefLost).setHealth 9 true
  else { s with time := { s.time with refPresent := false } }
def execRefLost (s : State) : Host.Outcome State Fault Refusal := event doRefLost s

/-- REF_DISAGREE_TIMER (R78). -/
def doRefDisagreeTimer (s : State) : State :=
  match s.time.disagreeSince with
  | some t => s.raiseIf (s.isHead && !s.on .ftIsRoot && decide (t + 1000000000 ≤ s.clk)) .ftRefDisagree
  | none => s
def execRefDisagreeTimer (s : State) : Host.Outcome State Fault Refusal := event doRefDisagreeTimer s

/-- The boundary nearest to an FT in ns, of the frame that holds it or the next. -/
def State.nearBoundary (s : State) (t : Nat) : Nat :=
  match ({ s with time := { s.time with ft := t * 2 ^ 32 } }).frame? with
  | none => s.bnd (s.r .ftAnchorFrame)
  | some f => if t - s.bnd f ≤ s.bnd (f + 1) - t then s.bnd f else s.bnd (f + 1)

/-- M wall periods, in 0.5 ns: the interval of the edges (R53). -/
def State.edgeInterval (s : State) : Nat := 2 * (s.r .ftGenlockRatio * s.r .ftPeriodNum) / s.r .ftPeriodDen

/-- A captured edge as the root's reference (R53): `half` its stamp in 0.5 ns. One more than 1 µs from the predicted time, M periods after
the edge before it as taken or predicted, is ignored and counted, but the third in a row is a phase change. -/
def State.genlockServo (s : State) (half : Nat) : State :=
  let t : Int := (half / 2 : Nat) + s.time.genlockOffset
  let pred := s.time.refEdge.map (· + s.edgeInterval)
  let far : Bool := match pred with
    | some e => decide (2000 < ((half : Int) - e).natAbs)
    | none => false
  let s := { s with time := { s.time with missing := 0 } }
  if far ∧ s.time.outliers < 2 then { s with time := { s.time with outliers := s.time.outliers + 1, refEdge := pred } }
  else
    let s := { s with time := { s.time with outliers := 0, refEdge := some half } }
    if s.on .ftIsRoot then s.rootOffset (t * 65536 + (half % 2 : Nat) * 32768 - ns16 (s.nearBoundary t.toNat))
    else s.measureRef ((s.nearBoundary t.toNat : Int) - t)

/-- An edge of a GENLOCK input reaches the time servo where the root's source is that input (R53); on a standby head of a
GENLOCK wall it is measured (R77). -/
def State.genlockRef (s : State) (input half : Nat) : State :=
  if input ≠ s.r .ftGenlockInput then s
  else if s.on .ftIsRoot then (if s.r .ftSource = 3 then s.genlockServo half else s)
  else if s.isHead ∧ s.rootSource = 3 then s.genlockServo half
  else s

/-- A missed edge of the input used: the prediction goes on from where it should have come, and three in a row are loss of reference
(R53). -/
def State.genlockMiss (s : State) (input : Nat) : State :=
  let roots := s.on .ftIsRoot && s.r .ftSource == 3
  let stands := !s.on .ftIsRoot && s.isHead && s.rootSource == 3
  if input = s.r .ftGenlockInput ∧ (roots || stands) = true then
    let s := { s with time := { s.time with missing := s.time.missing + 1, refEdge := s.time.refEdge.map (· + s.edgeInterval) } }
    if 3 ≤ s.time.missing then doRefLost s else s
  else s

/-- The node becomes time root at a takeover boundary, without a step (R50, R77): it takes its predecessor's kind of source. One whose
reference is lost already enters HOLDOVER as any root does (R72). -/
def State.takeRoot (s : State) : State :=
  let src := if s.rootSource = 2 ∨ s.rootSource = 3 then s.rootSource else 0
  let st := s.r .ftLockState
  let s := s.ws [(.ftIsRoot, 1), (.ftSource, src), (.ftHops, 0), (.ftRefDiff, 0), (.ftAlign, 0)]
  let s := { s with time := { s.time with steer := some s.incr, disagreeSince := none, alignSince := none, outliers := 0, missing := 0 } }
  if src = 0 then s.setLock 0
  else if !s.time.refPresent then ((s.setLock 3).raise .ftRefLost).setHealth 9 true
  else if st = 2 ∨ st = 3 then s.setLock 2
  else s.setLock 1

/-- The node is time root no longer: it waits in HOLDOVER for its successor's TIME_SYNC. -/
def State.leaveRoot (s : State) : State :=
  if s.on .ftIsRoot then
    let s := { s with time := { s.time with steer := none } }
    let s := (s.ws [(.ftIsRoot, 0), (.ftSource, 1), (.ftHops, 255)]).setLock 3
    -- time spent in HOLDOVER as time root does not count (R74)
    { s with time := { s.time with holdSince := some s.clk } }
  else s

/-! ### Commands (Table 2.14) -/

/-- TIME_GET; in no frame (R63) its frame is 0 (DESIGN CHOICE, log entry 64). -/
def actTimeGet : Action := fun _ s =>
  done s (leBytes 8 s.ftNs ++ leBytes 8 (s.frame?.getD 0) ++ leBytes 4 (s.r .ftOffset) ++
    [byte (s.r .ftLockState), byte (s.r .ftSource), byte (s.r .ftHops), byte (s.r .ftParentPort)])
def execTimeGet (c : HostCmd) (s : State) : Host.Outcome State Fault Refusal := .next (runHost 0x0300 actTimeGet c s)

/-- The wall period times M equals the edge interval measured on an input, within 1,000 ppm (R53; log entry 27). -/
def State.genlockFits (s : State) (input m : Nat) : Bool :=
  let iv := s.r .genPeriod input
  let want := s.r .ftPeriodNum * m
  let have_ := iv * s.r .ftPeriodDen
  iv != 0 && decide (((want : Int) - have_).natAbs * 1000 ≤ have_)

/-- TIME_SET_SOURCE (R53): only on the time root; FABRIC is no source of one, and PTP needs head role (Table 2.4). -/
def actTimeSetSource : Action := fun c s =>
  let src := c.u8 0
  let input := c.u8 1
  let m := c.u8 2
  if !s.on .ftIsRoot then refuse s Status.denied
  else if !(src = 0 ∨ src = 2 ∨ src = 3) ∨ (src = 2 ∧ (!s.isHead ∨ 127 < c.u8 8)) ∨
      (src = 3 ∧ (3 < input ∨ m < 1 ∨ 40 < m ∨ !s.genlockFits input m)) then refuse s Status.badArg
  else
    let s := s.w .ftSource 0 src
    let s := if src = 3 then
      { s.ws [(.ftGenlockInput, input), (.ftGenlockRatio, m)] with
        time := { s.time with genlockOffset := c.s32 4, refEdge := none, outliers := 0, missing := 0, steer := none } }
      else if src = 2 then { s with time := { s.time with ptpDomain := c.u8 8, steer := none } }
      else { s with time := { s.time with steer := none } }
    done (s.setLock (if src = 0 then 0 else 1))
def execTimeSetSource (c : HostCmd) (s : State) : Host.Outcome State Fault Refusal :=
  .next (runHost 0x0301 actTimeSetSource c s)

/-- The node accepts a period: D from 1 to 65,535 and the rate from 24,000/1,001 Hz to 960 Hz (R64). -/
def periodOk (n d : Nat) : Bool :=
  decide (1 ≤ d) && decide (d ≤ 65535) && decide (24000 * n ≤ d * 1000000000 * 1001) && decide (d * 1000000000 ≤ 960 * n)

/-- TIME_SET_PERIOD: staged (R79). -/
def actTimeSetPeriod : Action := fun c s =>
  if !periodOk (c.u64 0) (c.u16 8) then refuse s Status.badArg
  else done (s.stages c.session [(.ftPeriodNum, 0, c.u64 0), (.ftPeriodDen, 0, c.u16 8)])
def execTimeSetPeriod (c : HostCmd) (s : State) : Host.Outcome State Fault Refusal :=
  .next (runHost 0x0302 actTimeSetPeriod c s)

/-- TIME_SET_ANCHOR: staged, in Standby or minimum service only (R66, R79). -/
def actTimeSetAnchor : Action := fun c s =>
  if s.inShow ∨ 2 ^ 48 ≤ c.u64 8 then refuse s Status.badArg
  else done (s.stages c.session [(.ftAnchorFt, 0, c.u64 0), (.ftAnchorFrame, 0, c.u64 8)])
def execTimeSetAnchor (c : HostCmd) (s : State) : Host.Outcome State Fault Refusal :=
  .next (runHost 0x0303 actTimeSetAnchor c s)

/-- TIME_STEP (R48, R80). -/
def actTimeStep : Action := fun c s =>
  if !s.on .ftIsRoot ∨ s.r .ftSource ≠ 0 then refuse s Status.denied
  else if s.inShow then refuse s Status.busy
  else done (s.stepTo (c.u64 0 * 2 ^ 32))
def execTimeStep (c : HostCmd) (s : State) : Host.Outcome State Fault Refusal := .next (runHost 0x0304 actTimeStep c s)

/-- TIME_SET_TRIM (R59). -/
def actTimeSetTrim : Action := fun c s =>
  if 3 < c.u8 0 then refuse s Status.badArg
  else done ((s.w .ftPortTrim (c.u8 0) (c.u16 2)).showDelay (c.u8 0))
def execTimeSetTrim (c : HostCmd) (s : State) : Host.Outcome State Fault Refusal := .next (runHost 0x0305 actTimeSetTrim c s)

/-- TIME_SET_HOLD (Table 2.13: no more than 1,000 ms). -/
def actTimeSetHold : Action := fun c s => done (s.w .ftHoldLimit 0 (min 1000 (c.u16 0)))
def execTimeSetHold (c : HostCmd) (s : State) : Host.Outcome State Fault Refusal := .next (runHost 0x0306 actTimeSetHold c s)

end Sys2Proof.Machine
end

