-- ==== Sys2Proof/Machine/Ingest.lean ====
section
/-! DEFINITION. Ingest on a head: DisplayPort capture rings, the clip store, pins and frees, the CXL arbiter, and the source
streams (R81 to R122, R42, R43, R388, R391, R584). -/

namespace Sys2Proof.Machine

/-! ### Formats and sizes -/

/-- Pixels of a full packet: the most whole pixels in 500 bytes, even for 4:2:2 (R101). -/
def pixelsPerPacket (f : Nat) : Nat :=
  let n := 4000 / (bppOf f).getD 4000
  if f / 16 = 2 then n / 2 * 2 else n

/-- Bytes of a packed line, and the pitch of lines in a frame (R91). -/
def lineBytes (w f : Nat) : Nat := (w * (bppOf f).getD 0 + 7) / 8
def pitchOf (w f : Nat) : Nat := (lineBytes w f + 63) / 64 * 64

/-- Bytes of a frame. -/
def frameBytes (w h f : Nat) : Nat := h * pitchOf w f

/-! ### The clip store (R88 to R92) -/

/-- The first 16 MiB hold the allocation table (R90). -/
abbrev tableEnd : Nat := 0x1000000

/-- The address space of a device: a CSA has 41 bits (R89). -/
abbrev csaSpace : Nat := 2 ^ 41

/-- Installed bytes of the clip store. -/
def State.capacity (s : State) : Nat := min s.ing.devices.sum csaSpace

/-- Two devices of equal size are interleaved (R89). -/
def State.interleaved (s : State) : Bool := s.ing.devices.getD 0 0 == s.ing.devices.getD 1 0 && s.ing.devices.getD 0 0 != 0

/-- The device of a CSA and its address there (R89): CSA[12] selects one of two equal devices, else device 1 follows device 0. The
address within an interleaved device is the CSA without bit 12 (DEDUCED, log entry 66). -/
def State.deviceAt (s : State) (csa : Nat) : Nat × Nat :=
  let d0 := s.ing.devices.getD 0 0
  if s.interleaved then (csa / 4096 % 2, csa / 8192 * 4096 + csa % 4096) else if csa < d0 then (0, csa) else (1, csa - d0)

/-- Where the contents of a CSA lie, and the CSA of such a place. -/
def State.clipKey (s : State) (csa : Nat) : Nat := (s.deviceAt csa).1 * csaSpace + (s.deviceAt csa).2
def State.csaOf (s : State) (key : Nat) : Nat :=
  let l := key / csaSpace
  let d := key % csaSpace
  if s.interleaved then d / 4096 * 8192 + l * 4096 + d % 4096 else if l = 0 then d else s.ing.devices.getD 0 0 + d

/-- The links that a range of CSA lies on. -/
def State.linksOf (s : State) (a n : Nat) : List Nat :=
  let first := (s.deviceAt a).1
  let last := (s.deviceAt (a + n - 1)).1
  if s.interleaved ∧ a / 4096 ≠ (a + n - 1) / 4096 then [0, 1] else if first = last then [first] else [first, last]

/-- Bytes that the node can reach: installed, with block 1 running, and every link of the range up with no loop on it. -/
def State.clipOk (s : State) (a n : Nat) : Bool :=
  decide (a + n ≤ s.capacity) && !s.held 1 &&
    (s.linksOf a n).all (fun l => bit (s.r .cxlLinkUp) l && s.ing.loopLink != some l)

/-- The first poisoned 64-byte unit of a range, as a CSA (R92). -/
def State.firstPoison (s : State) (a n : Nat) : Option Nat :=
  (((s.ing.poison.map (fun u => s.csaOf (u * 64))).filter (fun c => a < c + 64 && decide (c < a + n))).min?).map (max a)

/-- Bytes of the clip store. -/
def State.clipRead (s : State) (a n : Nat) : List Byte := (List.range n).map (fun k => mget 0 s.ing.clip (s.clipKey (a + k)))

/-- Bytes put into the store, one after another. -/
def State.clipPut (s : State) (a : Nat) (l : List Byte) : Mem :=
  l.zipIdx.foldl (fun m b => sput 0 m (s.clipKey (a + b.2)) b.1) s.ing.clip

/-- Bytes written: units wholly covered lose their poison, and a resilver in progress sees the granules as dirty (R442). -/
def State.clipWrite (s : State) (a : Nat) (l : List Byte) : State :=
  let covered (u : Nat) : Bool := decide (a ≤ s.csaOf (u * 64)) && decide (s.csaOf (u * 64) + 64 ≤ a + l.length)
  let s := { s with ing := { s.ing with
    clip := s.clipPut a l
    poison := s.ing.poison.filter (fun u => !covered u) } }
  if s.red.reading ∧ l ≠ [] then
    let gs := (List.range ((a + l.length - 1) / 4096 + 1 - a / 4096)).map (· + a / 4096)
    { s with red := { s.red with dirty := s.red.dirty ++ gs.filter (fun g => g ∉ s.red.dirty) } }
  else s

/-- The allocated buffer of a handle, and the buffer that holds a whole range. -/
def State.bufOf (s : State) (h : Nat) : Option ClipBuf := s.ing.bufs.find? (fun b => b.handle = h)
def State.bufAt (s : State) (a n : Nat) : Option ClipBuf :=
  s.ing.bufs.find? (fun b => decide (b.csa ≤ a) && decide (a + n ≤ b.csa + b.length))

/-! ### Pins (R108, R109) -/

/-- Bytes of a DP ring's frame buffer, 7680 × 4320 × 36 bits (DP_SET), and the CSA of a buffer. -/
abbrev ringFrame : Nat := 149299200
def DpRing.csaOf (r : DpRing) (b : Nat) : Nat := r.csa + b * ringFrame

/-- Frame size of a stream under the settings in effect. -/
def State.streamBytes (s : State) (i : Nat) : Nat := frameBytes (s.r .ingWidth i) (s.r .ingHeight i) (s.r .ingFormat i)

/-- The range of a clip in playback. -/
def Playback.range (p : Playback) (size : Nat) : Nat × Nat := (p.first, p.stride * (p.count - 1) + size)

/-- Ranges a stream pins: the frame being sent, its staged and latched addresses, its clip. -/
def State.streamPins (s : State) (i : Nat) : List (Nat × Nat) :=
  let x := s.stream i
  let size := s.streamBytes i
  (if s.on .ingSending i then [(x.current, frameBytes x.width x.height x.format)] else []) ++
  (if x.latched ≠ 0 then [(x.latched, size)] else []) ++
  (match x.stagedAddr with | some a => [(a, size)] | none => []) ++
  (match x.stagedPlay with | some p => [p.range size] | none => []) ++
  (match x.play with | some p => [p.range size] | none => [])

/-- Ranges a capture ring pins: the buffer of the latest complete frame and the one being written. -/
def State.ringPins (s : State) (p : Nat) : List (Nat × Nat) :=
  let r := s.ring p
  if r.handle = 0 then []
  else
    (match r.frames with | f :: _ => [(r.csaOf f.buf, ringFrame)] | [] => []) ++
    (match r.writing with | some b => if b < r.bufs then [(r.csaOf b, ringFrame)] else [] | none => [])

/-- Every pinned range. Pins follow from the state, so a new frame's pin stands before the old one's drops (R109). -/
def State.pins (s : State) : List (Nat × Nat) :=
  (List.range 16).flatMap s.streamPins ++ (List.range 4).flatMap s.ringPins ++
    (match s.red.readNow with | some g => [(4096 * g, 4096)] | none => [])

/-- Two ranges meet. -/
def meets (a n : Nat) (p : Nat × Nat) : Bool := decide (a < p.1 + p.2) && decide (p.1 < a + n)

/-- A range is pinned. -/
def State.pinned (s : State) (a n : Nat) : Bool := s.pins.any (meets a n)

/-- A buffer with a deferred free that a range lies in or meets (R110). -/
def State.freeing (s : State) (a n : Nat) : Bool := s.ing.bufs.any (fun b => b.deferred && meets a n (b.csa, b.length))

/-! ### DisplayPort capture -/

/-- The first buffer of a ring after `b` that is not pinned; one past the last where every one is (R83), or where the ring's buffer has a
deferred free and accepts no new pin (R110). -/
def State.nextBuffer (s : State) (p b : Nat) : Nat :=
  let r := s.ring p
  if s.freeing r.csa 1 then r.bufs
  else
    ((List.range r.bufs).map (fun k => (b + 1 + k) % r.bufs)).find? (fun k =>
      !(match r.frames with | f :: _ => f.buf == k | [] => false) &&
      !((List.range 16).flatMap s.streamPins).any (meets (r.csaOf k) ringFrame)) |>.getD r.bufs

/-- The lines of a received frame, written at the pitch of R91. -/
def State.putLines (s : State) (csa w f : Nat) : (h : Nat) → List Byte → State
  | 0, _ => s
  | h + 1, l =>
    let n := lineBytes w f
    (s.clipWrite csa (padTo n l)).putLines (csa + pitchOf w f) w f h (l.drop n)

/-- The buffer that the frame in progress is written to. -/
def State.writingIn (s : State) (p : Nat) : Nat :=
  let r := s.ring p
  r.writing.getD (s.nextBuffer p ((r.frames.head?.map (·.buf)).getD (r.bufs - 1)))

/-- The frame in progress as it enters the ring, complete now, in the mode received. -/
def State.newFrame (s : State) (p : Nat) : DpFrame :=
  { buf := s.writingIn p, stamp := s.ftNs, seq := (s.ring p).seq + 1, width := s.r .dprHActive p, height := s.r .dprVActive p,
    format := s.r .dprFormat p, colour := s.r .dprColorimetry p }

/-- A complete frame enters the ring: it becomes the newest, and the one before it counts as skipped where it was never sent (R85). -/
def State.ringFrameIn (s : State) (p : Nat) (x : DpFrame) : State :=
  let skip := (s.ring p).frames ≠ [] ∧ !(s.ring p).sent
  let s := if skip then s.count .dprSkipCount p else s
  s.setRing p (fun (r : DpRing) => { r with
    frames := x :: (r.frames.filter (fun f => f.buf ≠ x.buf)).take 7, seq := x.seq, sent := false,
    skipped := if skip then r.frames.head?.map (·.seq) else none, lostSince := none, silent := false })

/-- DP_FRAME_COMPLETE (R83, R84): the device has acknowledged the frame's last line, so that the frame in the buffer being written is
complete, and the next buffer is taken. With no device to acknowledge it, the frame never completes. -/
def doDpFrameComplete (p : Nat) (l : List Byte) (s : State) : State :=
  let r := s.ring p
  if !s.isHead || s.held 0 || r.handle == 0 || r.phy || !s.on .dprVideoValid p then s
  else
    let x := s.newFrame p
    if r.bufs ≤ x.buf then
      let s := s.raise .dprDpDrop p
      let n := s.nextBuffer p ((r.frames.head?.map (·.buf)).getD 0)
      s.setRing p (fun (r : DpRing) => { r with writing := some n })
    else if !s.clipOk (r.csaOf x.buf) (frameBytes x.width x.height x.format) then s
    else
      let s := (s.putLines (r.csaOf x.buf) x.width x.format x.height l).ringFrameIn p x
      let n := s.nextBuffer p x.buf
      s.setRing p (fun (r : DpRing) =>
        { r with writing := some n, frames := r.frames.take 1 ++ (r.frames.drop 1).filter (fun f => f.buf ≠ n) })
def execDpFrameComplete (p : Nat) (l : List Byte) (s : State) : Host.Outcome State Fault Refusal :=
  event (doDpFrameComplete p l) s

/-- A mode of Table 3.1, on a link that the port advertises. -/
def modeOk (d : Dpcd) (m : DpMode) : Bool :=
  d.rates.contains m.linkRate && d.lanes.contains m.lanes &&
  decide (64 ≤ m.width) && decide (m.width ≤ 7680) && decide (64 ≤ m.height) && decide (m.height ≤ 4320) &&
  (bppOf m.format).isSome && decide (m.pixelRate ≤ 2000000000) && decide (23 ≤ m.refresh) && decide (m.refresh ≤ 240) &&
  m.plainSst

/-- Video of a port is lost: the frame in progress never completes (R84), and dp_hold starts (R87). -/
def State.loseVideo (s : State) (p : Nat) : State :=
  let had := s.on .dprVideoValid p
  let s := s.w .dprVideoValid p 0
  if had then
    let now := s.clk
    (s.raise .dprLost p).setRing p (fun (r : DpRing) => { r with lostSince := some now })
  else s

/-- DP_MODE_RECEIVED (R82): a supported mode is captured; any other keeps the link trained, captures nothing and sets
unsupported. Frames complete in an earlier mode stay in the ring, and are sent as they are until a new one is complete (R85, R87). -/
def doDpModeReceived (p : Nat) (m : DpMode) (s : State) : State :=
  if !s.isHead || s.held 0 || (s.ring p).phy then s
  else
    let s := ((s.w .dprLinkUp p 1).w .dprLinkRate p m.linkRate).w .dprLanes p m.lanes
    if !modeOk (s.ing.dpcd.getD p State.dpcd0) m then (s.raise .dprUnsupported p).loseVideo p
    else
      let s := (((s.w .dprHActive p m.width).w .dprVActive p m.height).w .dprFormat p m.format).w .dprColorimetry p m.colorimetry
      let s := s.w .dprVideoValid p 1
      s.setRing p (fun (r : DpRing) => { r with refresh := m.refresh })
def execDpModeReceived (p : Nat) (m : DpMode) (s : State) : Host.Outcome State Fault Refusal := event (doDpModeReceived p m) s

/-- DP_LINK_LOSS (R84, R87). -/
def doDpLinkLoss (p : Nat) (linkUp : Bool) (s : State) : State :=
  if !s.isHead || s.held 0 then s
  else
    let s := s.w .dprLinkUp p (b2n linkUp)
    let s := if linkUp then s else (s.w .dprLinkRate p 0).w .dprLanes p 0
    s.loseVideo p
def execDpLinkLoss (p : Nat) (linkUp : Bool) (s : State) : Host.Outcome State Fault Refusal := event (doDpLinkLoss p linkUp) s

/-- The twin's health word shows its ports valid (R433): it has been heard, with bit dp clear. The word has one bit for every
port (log entry 42). -/
def State.twinVideo (s : State) (_p : Nat) : Bool := s.twinSeen && !bit (s.r .redTwinHealth) 6

/-- DP_HOLD_EXPIRE (R87, R433): dp_hold applies once both heads have lost the port. -/
def doDpHoldExpire (p : Nat) (s : State) : State :=
  match (s.ring p).lostSince with
  | some t =>
    if t + s.r .dprDpHold p * 1000000 ≤ s.clk ∧ !s.twinVideo p then s.setRing p (fun (r : DpRing) => { r with silent := true }) else s
  | none => s
def execDpHoldExpire (p : Nat) (s : State) : Host.Outcome State Fault Refusal := event (doDpHoldExpire p) s

/-! ### Bandwidth (R42, R98) -/

/-- Bits of one frame of every enabled stream, all copies. -/
def State.streamBits (s : State) (get : FName → Nat → Nat) : Nat :=
  ((List.range 16).map (s.streamLoad get)).sum

/-- The sums of R42 and R98 hold under a period, guard and margin: 17/16 of the bits against 200 or 400 Gb/s over the period
and over the send window, shortened on a head without the lease by pick_wait (R431). -/
def State.streamsFit (s : State) (get : FName → Nat → Nat) (n d guardUs : Nat) : Bool :=
  let bw := if s.dualRing then 400 else 200
  let b := 17 * s.streamBits get
  let wait := if s.on .redHolder then 0 else s.r .redPickWaitUs
  let cut := 1000 * (guardUs + s.r .ingStreamMargin + wait)
  decide (b * d ≤ 16 * bw * n) && decide (b * d + 16 * bw * cut * d ≤ 16 * bw * n)

/-! ### The send window -/

/-- E(F), where the send window of frame F ends (R96), in ns. -/
def State.sendEnd (s : State) (f : Nat) : Nat := s.bnd f - 1000 * (s.r .layGuard + s.r .ingStreamMargin)

/-- When slot k of n begins, paced evenly from a time to another (R99). -/
def pacedAt (from_ to_ k n : Nat) : Nat := from_ + k * (to_ - from_) / max 1 n

/-- The DP frame a stream sends by its own choice: the latest complete before this cycle (R85). -/
def State.pickDp (s : State) (p : Nat) : Option DpFrame := (s.ring p).frames.find? (fun f => f.stamp < s.ftNs)

/-- The DP frame that follows a named completion stamp: within half a source period of it (R94). -/
def State.followDp (s : State) (p stamp : Nat) : Option DpFrame :=
  let r := s.ring p
  r.frames.find? (fun f =>
    let d := (toInt 32 (f.stamp + 2 ^ 32 - stamp % 2 ^ 32)).natAbs
    decide (2 * d * r.refresh ≤ 1000000000))

/-- The clip frame of a playback for wall frame `f`: its address and its number (R107); none before the start. -/
def Playback.at_ (p : Playback) (f : Nat) : Option (Nat × Nat) :=
  if f < p.start then none
  else
    let k := (f - p.start) / max 1 p.divider
    let i := if p.loop then k % max 1 p.count else min k (p.count - 1)
    some (p.first + p.stride * i, if p.loop then k else min k (p.count - 1))

/-- What a stream sends in frame `f`: CSA, stamp and counter; none where it sends nothing (R85, R87, R104, R107, R432 to R434). -/
def State.choice (s : State) (i f : Nat) : Option (Nat × Nat × Nat) :=
  let x := s.stream i
  let kind := s.r .ingKind i
  if kind = 1 then
    let p := s.r .ingDpPort i
    let r := s.ring p
    let lost := !s.on .dprVideoValid p
    let gone : Bool := match r.lostSince with
      | some t => decide (t + s.r .dprDpHold p * 1000000 ≤ s.clk)
      | none => false
    if r.handle = 0 ∨ (lost ∧ s.twinVideo p) ∨ r.silent ∨ gone then none
    else
      let own := (s.pickDp p).map (fun q => (r.csaOf q.buf, q.stamp, q.seq))
      let named := match x.pick with
        | some (stamp, seq, _, _) => (s.followDp p stamp).map (fun q => (r.csaOf q.buf, stamp, seq))
        | none => own
      if s.on .redHolder then own else named
  else if !s.on .redMirrorComplete then none
  else
    match (if s.on .redHolder then none else x.pick) with
    | some (stamp, seq, csa, _) => some (csa, stamp, seq)
    | none =>
      if kind = 2 then some (x.latched, x.latchStamp, x.seq)
      else if kind = 3 then (x.play.bind (fun p => p.at_ f)).map (fun q => (q.1, x.latchStamp, q.2))
      else none

/-- A stream's stop takes effect (STREAM_STOP): the node itself clears enable (R615). -/
def State.stopStream (s : State) (i : Nat) : State :=
  if (s.stream i).stop then
    (s.nodeSet .ingEnable i 0).setStream i (fun (x : StreamSt) => { x with stop := false, play := none, stagedPlay := none })
  else s

/-- A stream would send in frame `f` what it sent in the frame before (R86). -/
def State.repeats (s : State) (i f csa seq : Nat) : Bool := (s.stream i).lastSent == some (f - 1, csa, seq)

/-- A ring's frame goes out: it is sent, and where it had counted as skipped in this very cycle, it has not been (R85). -/
def State.ringSends (s : State) (p csa : Nat) : State :=
  let r := s.ring p
  let newest := (r.frames.head?.map (fun f => r.csaOf f.buf)) == some csa
  let seq := (r.frames.find? (fun f => r.csaOf f.buf == csa)).map (·.seq)
  let s := if !newest ∧ seq.isSome ∧ seq = r.skipped then s.w .dprSkipCount p (s.r .dprSkipCount p + 65535) else s
  s.setRing p (fun (r : DpRing) => { r with sent := r.sent || newest, skipped := if seq = r.skipped then none else r.skipped })

/-- The send window of frame `f` opens for a stream (R96). A frame whose last packet had not left gets no marker (R103); a frame in a
buffer with a deferred free is sent only where a pin holds it already (R110). -/
def State.openStream (s : State) (f i : Nat) : State :=
  let s := s.stopStream i
  let s := s.raiseIf (s.on .ingSending i) .ingMarkerWithheld i
  let s := s.w .ingSending i 0
  if !s.on .ingEnable i ∨ s.r .ingKind i = 0 ∨ (s.stream i).frame = f ∨ s.sendEnd f ≤ s.ftNs then s
  else
    let dp := s.r .ingKind i == 1
    let p := s.r .ingDpPort i
    let s := if dp then s.nodeSet .ingFormat i (s.r .dprFormat p) else s
    match s.choice i f with
    | none => s
    | some (csa, stamp, seq) =>
      let q := if dp then (s.ring p).frames.find? (fun q => (s.ring p).csaOf q.buf == csa) else none
      let w := (q.map (·.width)).getD (s.r .ingWidth i)
      let h := (q.map (·.height)).getD (s.r .ingHeight i)
      let fmt := (q.map (·.format)).getD (s.r .ingFormat i)
      if s.freeing csa (frameBytes w h fmt) ∧ !s.pinned csa (frameBytes w h fmt) then s
      else
        let rep := match (if s.on .redHolder then none else (s.stream i).pick) with
          | some q => q.2.2.2
          | none => s.repeats i f csa seq
        let feeds := s.r .ingFeedMask i
        let group := s.r .ingGroup i
        let opened := if s.on .redHolder then s.bnd (f - 1) else s.ftNs
        let s := s.setStream i (fun (x : StreamSt) => { x with
          frame := f, current := csa, width := w, height := h, format := fmt, colour := (q.map (·.colour)).getD 0, feeds := feeds,
          group := group, opened := opened, slots := 0, packets := 0, poisoned := false, stamp := stamp, seq := seq, isRepeat := rep,
          lastSent := some (f, csa, seq) })
        let s := if dp then s.ringSends p csa else s
        (s.w .ingSending i 1).w .ingRepeat i (b2n rep)

/-- A lost port whose twin still shows video starts its dp_hold anew (R433). -/
def State.holdAnew (s : State) (p : Nat) : State :=
  if (s.ring p).lostSince.isSome ∧ s.twinVideo p then
    let now := s.clk
    s.setRing p (fun (r : DpRing) => { r with lostSince := some now })
  else s

/-- The windows of the next frame open for every stream. -/
def State.openWindows (s : State) : State :=
  match s.frame? with
  | none => s
  | some f =>
    let s := (List.range 4).foldl State.holdAnew s
    (List.range 16).foldl (fun s i => s.openStream (f + 1) i) s

/-- SEND_WINDOW_OPEN: at B(F−1), on the head that holds the lease; the other waits for HEAD_PICK (R431). -/
def doSendWindowOpen (s : State) : State :=
  if !s.isHead || s.inMin || s.held 0 || !s.on .redHolder then s else s.openWindows
def execSendWindowOpen (s : State) : Host.Outcome State Fault Refusal := event doSendWindowOpen s

/-- A packet of a source line, bits `first × bpp` on, packed from bit 0 (R91, R100). -/
def pixelBytes (line : Nat) (bpp first count : Nat) : List Byte :=
  leBytes ((count * bpp + 7) / 8) (line / 2 ^ (first * bpp) % 2 ^ (count * bpp))

/-- The ports a stream packet of a source line leaves by: on a dual ring, even lines on ring 0 and odd lines on ring 1 (R391). -/
def State.linePorts (s : State) (ports : List Nat) (line : Nat) : List Nat :=
  if s.dualRing then ports.filter (fun p => p / 2 == line % 2) else ports

/-- The ports a packet of a line leaves by: those of the stream's group (R388: the tables give the direction); none where the node has
no ID, the group no entry, or one of those ports carries no traffic, so that it cannot be sent in full (R103). -/
def State.streamWay (s : State) (group line : Nat) : Option (List Nat) :=
  match s.egressPorts (s.packet 0x20 1 group [] false true) 4 with
  | some ps =>
    let ps := s.linePorts ps line
    if s.id = 0 ∨ !ps.all s.up then none else some ps
  | none => none

/-- A stream packet sent to the stream's group. -/
def State.sendStream (s : State) (group line : Nat) (payload : List Byte) : State :=
  let k := s.packet 0x20 1 group payload false true
  if s.id = 0 then s
  else
    match s.egressPorts k 4 with
    | some ps => (s.linePorts ps line).foldl (fun s p => s.egress p k) s
    | none => s.raise .netNoRoute

/-- One packet of a line slot (R100, R101): read and sent, or left out where its bytes are poisoned or not there (R92). A frame of which a
packet is not sent in full gets no marker (R103). -/
def State.sendPixels (s : State) (i feed line first count target : Nat) : State :=
  let x := s.stream i
  let bpp := (bppOf x.format).getD 0
  let at_ := x.current + line * pitchOf x.width x.format
  let lo := at_ + first * bpp / 8
  let n := (first * bpp + count * bpp + 7) / 8 - first * bpp / 8
  let lack (s : State) : State := s.setStream i (fun (x : StreamSt) => { x with poisoned := true })
  if (s.firstPoison lo n).isSome then lack ((s.raise .ingPoison i).raise .cxlPoisonRead)
  else if !s.clipOk lo n then lack s
  else
    let v := leVal (s.clipRead at_ (lineBytes x.width x.format))
    let head := [byte (i + 16 * feed), byte x.format] ++ leBytes 2 line ++ leBytes 2 first ++ leBytes 2 count ++
      leBytes 4 (shortStamp target)
    let whole := (s.streamWay x.group line).isSome
    let s := s.sendStream x.group line (head ++ pixelBytes v bpp first count)
    if whole then s.setStream i (fun (x : StreamSt) => { x with packets := x.packets + 1 }) else lack s

/-- The packets of one line. -/
def State.sendLine (s : State) (i feed line target : Nat) : State :=
  let x := s.stream i
  let per := max 1 (pixelsPerPacket x.format)
  (List.range ((x.width + per - 1) / per)).foldl (fun s k =>
    s.sendPixels i feed line (k * per) (min per (x.width - k * per)) target) s

/-- The marker's payload (Table 3.8). -/
def markerBytes (i : Nat) (x : StreamSt) (target : Nat) : List Byte :=
  [byte i, byte x.format, byte x.colour, byte (b2n x.isRepeat)] ++ leBytes 2 x.width ++ leBytes 2 x.height ++
    leBytes 4 (shortStamp target) ++ leBytes 4 x.packets ++ leBytes 4 (shortStamp x.stamp) ++ leBytes 4 x.seq ++
    [byte x.feeds] ++ List.replicate 7 0

/-- The frame's last packet has left: the marker goes with the fence bit set, or is withheld (R102, R103). -/
def State.endFrame (s : State) (i target : Nat) : State :=
  let x := s.stream i
  let s := (s.w .ingSending i 0).setStream i (fun (x : StreamSt) => { x with framesSent := x.framesSent + 1 })
  if x.poisoned then s.raise .ingMarkerWithheld i
  else s.route (s.packet 0x21 1 x.group (markerBytes i x target) true true)

/-- Line slots of the frame a stream sends (R99). -/
def StreamSt.total (x : StreamSt) : Nat := x.height * copiesOf x.feeds

/-- One slot's line and, with the last, the marker; the line leaves the data read ahead (R116). -/
def State.runSlot (s : State) (i : Nat) : State :=
  let x := s.stream i
  let target := s.bnd x.frame
  let feeds := (List.range 8).filter (bit x.feeds)
  let s := if x.slots < x.total then s.sendLine i (feeds.getD (x.slots / x.height) 0) (x.slots % x.height) target else s
  let s := { s with ing := { s.ing with ahead := s.ing.ahead - pitchOf x.width x.format } }
  let s := s.setStream i (fun (x : StreamSt) => { x with slots := x.slots + 1 })
  if x.total ≤ x.slots + 1 then s.endFrame i target else s

/-- LINE_SLOT (R99): one line of one copy; copies in ascending feed order, each line by line (log entry 28). Slot k begins at its even share
of the window; a frame that has not gone out by E(F) gets no marker (R96, R103). -/
def doLineSlot (i : Nat) (s : State) : State :=
  let x := s.stream i
  if 15 < i ∨ !s.on .ingSending i ∨ s.held 0 then s
  else if s.sendEnd x.frame ≤ s.ftNs then (s.w .ingSending i 0).raise .ingMarkerWithheld i
  else if s.ftNs < pacedAt x.opened (s.sendEnd x.frame) x.slots x.total then s
  else s.runSlot i
def execLineSlot (i : Nat) (s : State) : Host.Outcome State Fault Refusal := event (doLineSlot i) s

/-! ### Frame addresses (R104 to R107) -/

/-- The latch point of a stream's next frame address in the current frame `f` (R104): the start of the last line slot of the window of
`f + 1`, of the frame it sends in it, or of one it would send. -/
def State.latchPoint (s : State) (i f : Nat) : Nat :=
  let x := s.stream i
  let n := if x.frame = f + 1 then x.total else s.r .ingHeight i * copiesOf (s.r .ingFeedMask i)
  pacedAt (if x.frame = f + 1 then x.opened else s.bnd f) (s.sendEnd (f + 1)) (n - 1) n

/-- The latch point in the current frame has passed (R105). -/
def State.latchDone (s : State) (i : Nat) : Bool :=
  match s.frame? with
  | some f => (s.stream i).latchPast == f + 1
  | none => false

/-- A staged playback starts where its start frame is the next to be latched or an earlier one (R107), and a staged address is latched. -/
def StreamSt.latch (x : StreamSt) (f now : Nat) : StreamSt :=
  let x := match x.stagedPlay with
    | some p => if p.start ≤ f + 2 then { x with play := some p, stagedPlay := none, latchStamp := now } else x
    | none => x
  let x := match x.stagedAddr with
    | some a =>
      { x with latched := a, stagedAddr := none, latchStamp := if a = x.latched then x.latchStamp else now,
               seq := if a = x.latched then x.seq else (x.seq + 1) % 2 ^ 32 }
    | none => x
  { x with latchPast := f + 1 }

/-- FRADDR_LATCH: the latch point of frame F+1, the start of the last line slot of frame F's window, once in each (R104). The counter of a
HOST stream's frames counts latched address changes, modulo 2^32 (DESIGN CHOICE, log entry 68). -/
def doFraddrLatch (i : Nat) (s : State) : State :=
  match s.frame? with
  | none => s
  | some f =>
    if 15 < i ∨ !s.isHead ∨ s.latchDone i ∨ s.ftNs < s.latchPoint i f then s
    else s.setStream i (fun (x : StreamSt) => x.latch f s.ftNs)
def execFraddrLatch (i : Nat) (s : State) : Host.Outcome State Fault Refusal := event (doFraddrLatch i) s

/-- A frame address staged; one at or after the latch point applies a frame later and says so (R105). One in a buffer with a deferred free
is not taken (R110). -/
def State.stageAddr (s : State) (i a : Nat) : State :=
  if s.freeing a (s.streamBytes i) then s
  else
    let s := s.w .ingFraddr i a
    (s.setStream i (fun (x : StreamSt) => { x with stagedAddr := some a })).raiseIf (s.latchDone i) .ingLateCommit i

/-! ### The CXL links and their arbiters -/

/-- Every buffer is free, the contents kept (R121). -/
def State.dropTable (s : State) : State :=
  { s.raise .cxlTableBad with ing := { s.ing with bufs := [], rings := s.ing.rings.map (fun (r : DpRing) => { State.ring0 with seq := r.seq, phy := r.phy }) } }

/-- The use of both devices (R89). -/
def State.showLinks (s : State) : State :=
  let d1 := s.ing.devices.getD 1 0
  let s := s.w .cxlInterleave 0 (b2n s.interleaved)
  if d1 ≠ 0 then s.w .cxlSplit 0 1 else s

/-- CXL_LINK_UP (R88, R121): only a Type 3 device with no switch between is used; the allocation table is read back and checked. -/
def doCxlLinkUp (l : Nat) (type3 switched : Bool) (size : Nat) (tableOk : Bool) (s : State) : State :=
  if !s.isHead || s.held 1 || decide (1 < l) then s
  else if !type3 || switched then
    (s.w .cxlLinkUp 0 (setBit (s.r .cxlLinkUp) l false)).raiseBit .cxlDevError 0 l
  else
    let s := s.w .cxlLinkUp 0 (setBit (s.r .cxlLinkUp) l true)
    let s := { s with ing := { s.ing with devices := updAt s.ing.devices l (fun _ => size) } }
    let s := s.showLinks
    if tableOk then s else s.dropTable
def execCxlLinkUp (l : Nat) (type3 switched : Bool) (size : Nat) (tableOk : Bool) (s : State) :
    Host.Outcome State Fault Refusal := event (doCxlLinkUp l type3 switched size tableOk) s

/-- A device error leaves a 64-byte unit of the device that reads as poison (R92): which one, the spec does not say, so it is a free value
(log entry 71). -/
def State.poisonDevice (s : State) (l : Nat) : State :=
  let d := s.draw 35
  let u := l * (csaSpace / 64) + d.1 % max 1 (s.ing.devices.getD l 0 / 64)
  { d.2 with ing := { d.2.ing with poison := d.2.ing.poison ++ [u] } }

/-- CXL_LINK_DOWN: the link is down, its device keeps its place (R89); dev_error for a device error (R88, Table 3.11), health bit cxl
(Table 11.7). -/
def doCxlLinkDown (l : Nat) (deviceError : Bool) (s : State) : State :=
  if !s.isHead || decide (1 < l) then s
  else
    let s := s.w .cxlLinkUp 0 (setBit (s.r .cxlLinkUp) l false)
    (if deviceError then (s.raiseBit .cxlDevError 0 l).poisonDevice l else s).setHealth 4 true
def execCxlLinkDown (l : Nat) (deviceError : Bool) (s : State) : Host.Outcome State Fault Refusal :=
  event (doCxlLinkDown l deviceError) s

/-- Place of a requester in the rotation (Table 3.10). -/
def reqIndex : ArbReq → Nat
  | .str => 0
  | .cap p => 1 + p % 4
  | .hst => 5
  | .rsv => 6
  | .cpu => 7

/-- The first requester at or after the pointer among those that ask (R115). -/
def rotate (ptr : Nat) (rs : List ArbReq) : Option ArbReq :=
  (List.range 8).findSome? (fun k => rs.find? (fun r => (reqIndex r) == (ptr + k) % 8))

/-- Numbers of a list by requester index. -/
def setNat (l : List Nat) (i v : Nat) : List Nat := updAt l i (fun _ => v)

/-- The arbiter of a link, and a change of it. -/
def State.arb (s : State) (l : Nat) : ArbSt := s.ing.arb.getD l State.arb0
def State.setArb (s : State) (l : Nat) (f : ArbSt → ArbSt) : State := { s with ing := { s.ing with arb := updAt s.ing.arb l f } }

/-- A grant: the burst starts at the unit the requester resumes from; one preempted 4 times in a row is protected (R118). -/
def State.grant (s : State) (l : Nat) (r : ArbReq) : State :=
  let a := s.arb l
  let first := a.resume_.getD (reqIndex r) 0
  let burst : Burst := ⟨r, first, decide (4 ≤ a.preempted.getD (reqIndex r) 0), 0⟩
  (s.setArb l (fun (a : ArbSt) => { a with burst := some burst, pointer := ((reqIndex r) + 1) % 8, cut := none })).emit (.cxlBurst l r first)

/-- STR is urgent (R116): what it has read ahead covers fewer than 8 line slots of the streams being sent (log entry 72). -/
def State.strUrgent (s : State) : Bool :=
  let slot := ((List.range 16).map (fun i =>
    if s.on .ingSending i then pitchOf (s.stream i).width (s.stream i).format else 0)).sum
  decide (s.ing.ahead < 8 * slot)

/-- The burst in progress has moved `units` units up to this cycle; what STR reads lies ahead of its line slots. -/
def State.moveUnits (s : State) (l units : Nat) : State :=
  match (s.arb l).burst with
  | none => s
  | some b =>
    let s := s.setArb l (fun (a : ArbSt) => { a with burst := some { b with moved := max b.moved units } })
    if b.req = .str then { s with ing := { s.ing with ahead := s.ing.ahead + 64 * (units - b.moved) } } else s

/-- An urgent STR takes the link: the burst it preempts restarts from its first unit at its next grant (R116). -/
def State.preempt (s : State) (l : Nat) (b : Burst) : State :=
  let s := s.setArb l (fun (a : ArbSt) => { a with
    preempted := updAt a.preempted (reqIndex b.req) (· + 1), resume_ := setNat a.resume_ (reqIndex b.req) b.first })
  (s.count .cxlPreemptions).grant l .str

/-- The rotation decides (R115). -/
def State.rotateLink (s : State) (l : Nat) (rs : List ArbReq) : State :=
  match rotate (s.arb l).pointer rs with
  | some r => s.grant l r
  | none => s

/-- ARBITER_GRANT (R115 to R118): the requests present in a cycle, and the units that the burst in progress has moved. An urgent STR
preempts that burst, or the one cut in this same cycle; otherwise the burst has ended, and the rotation decides. -/
def doArbiterGrant (l : Nat) (rs : List ArbReq) (units : Nat) (s : State) : State :=
  if !s.isHead || s.held 1 || decide (1 < l) then s
  else
    let s := s.moveUnits l units
    let urgent := s.strUrgent && rs.contains .str
    match (s.arb l).burst, (s.arb l).cut with
    | some b, _ =>
      if urgent ∧ b.req ≠ .str then (if b.guarded then s else s.preempt l b)
      else
        (s.setArb l (fun (a : ArbSt) => { a with
          burst := none, preempted := setNat a.preempted (reqIndex b.req) 0, resume_ := setNat a.resume_ (reqIndex b.req) 0 })).rotateLink l rs
    | none, some (b, t) => if urgent ∧ b.req ≠ .str ∧ !b.guarded ∧ t = s.clk then s.preempt l b else s.rotateLink l rs
    | none, none => s.rotateLink l rs
def execArbiterGrant (l : Nat) (rs : List ArbReq) (units : Nat) (s : State) : Host.Outcome State Fault Refusal :=
  event (doArbiterGrant l rs units) s

/-- BURST_CUT (R117): at hold_limit units of the burst in progress; the rest resumes where it was cut. -/
def doBurstCut (l units : Nat) (s : State) : State :=
  let s := s.moveUnits l units
  match (s.arb l).burst with
  | none => s
  | some b =>
    let n := s.r .cxlHoldLimit
    if b.moved < n then s
    else
      s.setArb l (fun (a : ArbSt) => { a with
        burst := none, preempted := setNat a.preempted (reqIndex b.req) 0, resume_ := setNat a.resume_ (reqIndex b.req) (b.first + n)
        cut := some ({ b with moved := n }, s.clk) })
def execBurstCut (c : BurstUnits) (s : State) : Host.Outcome State Fault Refusal := event (doBurstCut c.link c.units) s

/-! ### Stops (R119, Table 13.4) -/

/-- Streams and captures stop and pins drop. -/
def State.ingestStop (s : State) : State :=
  let s := (List.range 16).foldl (fun s i => s.w .ingSending i 0) s
  { s with ing := { s.ing with
    ahead := 0
    rings := s.ing.rings.map (fun (r : DpRing) => { r with writing := none, frames := [], lostSince := none, silent := false })
    streams := s.ing.streams.map (fun (x : StreamSt) => { State.stream0 with seq := x.seq, framesSent := x.framesSent }) } }

/-! ### BAR4 (R90, R92, R106, R113) -/

/-- A BAR4 range as a CSA, where an access is allowed: the node has a clip store there, outside the table (R90). -/
def State.bar4Csa (s : State) (off n : Nat) : Option Nat :=
  let csa := s.r .cxlWindow * 2 ^ 32 + off
  if s.isHead && s.clipOk csa n && decide (tableEnd ≤ csa) then some csa else none

/-- BAR4_WRITE: refused with an unsupported request outside the store, with a completer abort in a pinned range (R113). -/
def doBar4Write (off : Nat) (l : List Byte) (s : State) : State :=
  if !s.pcieUp then s
  else
    match s.bar4Csa off l.length with
    | none => s.emit (.pcieError 1)
    | some csa =>
      if s.pinned csa l.length then ((s.w .cxlPinLogCsa 0 csa).count .cxlPinRefusals).emit (.pcieError 0)
      else s.clipWrite csa l
def execBar4Write (off : Nat) (l : List Byte) (s : State) : Host.Outcome State Fault Refusal := event (doBar4Write off l) s

/-- BAR4_READ: a read that meets poison returns a poisoned completion, logged in AER (Table 3.4). -/
def doBar4Read (off n : Nat) (s : State) : State :=
  if !s.pcieUp then s
  else
    match s.bar4Csa off n with
    | none => s.emit (.pcieError 1)
    | some csa =>
      if (s.firstPoison csa n).isSome then ((s.raise .cxlPoisonRead).raise .pcieAerUncorrectable).emit (.pcieError 2)
      else s.emit (.readData (s.clipRead csa n))
def execBar4Read (off n : Nat) (s : State) : Host.Outcome State Fault Refusal := event (doBar4Read off n) s

/-! ### Commands (Table 3.14) -/

/-- STREAM_GET. -/
def actStreamGet : Action := fun c s =>
  let i := c.u8 0
  if 15 < i then refuse s Status.badArg
  else
    let o := 0x800 + 0x20 * i
    done s (leBytes 4 (s.bar0 o) ++ leBytes 4 (s.bar0 (o + 4)) ++ leBytes 8 (s.r .ingFraddr i) ++
      leBytes 4 (s.bar0 (o + 0x10)) ++ leBytes 4 (s.stream i).framesSent)
def execStreamGet (c : HostCmd) (s : State) : Host.Outcome State Fault Refusal := .next (runHost 0x0500 actStreamGet c s)

/-- STREAM_SETUP: staged; refused where the streams would break R42 or R98 (R43). A stream of a kind other than OFF is enabled. -/
def actStreamSetup : Action := fun c s =>
  let i := c.u8 0
  let kind := c.u8 1
  let fmt := c.u8 5
  if 15 < i ∨ 3 < kind ∨ 3 < c.u8 2 ∨ ((kind = 2 ∨ kind = 3) ∧ bppOf fmt = none) then refuse s Status.badArg
  else
    let format := if kind = 1 then s.r .dprFormat (c.u8 2) else fmt
    let t := s.stages c.session [(.ingEnable, i, b2n (kind != 0)), (.ingKind, i, kind), (.ingDpPort, i, c.u8 2),
      (.ingGroup, i, c.u8 3), (.ingFeedMask, i, c.u8 4), (.ingFormat, i, format), (.ingWidth, i, c.u16 6), (.ingHeight, i, c.u16 8)]
    if t.streamsFit (fun f i => t.seen f i) (t.seen .ftPeriodNum) (t.seen .ftPeriodDen) (t.seen .layGuard) then done t else refuse s Status.badArg
def execStreamSetup (c : HostCmd) (s : State) : Host.Outcome State Fault Refusal := .next (runHost 0x0501 actStreamSetup c s)

/-- STREAM_SET_FRAME (R104, R105, R110). -/
def actStreamSetFrame : Action := fun c s =>
  let i := c.u8 0
  let a := c.u64 8
  if 15 < i ∨ s.r .ingKind i ≠ 2 ∨ a % 4096 ≠ 0 ∨ 2 ^ 41 ≤ a then refuse s Status.badArg
  else if s.freeing a (s.streamBytes i) then refuse s Status.denied
  else done (s.stageAddr i a)
def execStreamSetFrame (c : HostCmd) (s : State) : Host.Outcome State Fault Refusal :=
  .next (runHost 0x0502 actStreamSetFrame c s)

/-- The earliest frame whose latch point has not passed (R104). -/
def State.latchFrame (s : State) (i : Nat) : Nat := s.frame?.getD 0 + (if s.latchDone i then 3 else 2)

/-- STREAM_PLAY_CLIP (R107): a command after the latch point of its start frame starts at the next and is flagged. -/
def actStreamPlayClip : Action := fun c s =>
  let i := c.u8 0
  let p : Playback := ⟨c.u64 8, c.u64 16, c.u32 4, c.u8 1, c.u8 2 != 0, c.u64 24⟩
  if 15 < i ∨ p.count = 0 ∨ p.divider = 0 ∨ p.stride < s.streamBytes i then refuse s Status.badArg
  else if s.freeing (p.range (s.streamBytes i)).1 (p.range (s.streamBytes i)).2 then refuse s Status.denied
  else
    let late := decide (p.start < s.latchFrame i)
    let p := if late then { p with start := max (p.start + 1) (s.latchFrame i) } else p
    done ((s.setStream i (fun (x : StreamSt) => { x with stagedPlay := some p })).raiseIf late .ingLateCommit i)
def execStreamPlayClip (c : HostCmd) (s : State) : Host.Outcome State Fault Refusal :=
  .next (runHost 0x0503 actStreamPlayClip c s)

/-- STREAM_STOP: takes effect at the next window opening. -/
def actStreamStop : Action := fun c s =>
  if 15 < c.u8 0 then refuse s Status.badArg
  else done (s.setStream (c.u8 0) (fun (x : StreamSt) => { x with stop := true }))
def execStreamStop (c : HostCmd) (s : State) : Host.Outcome State Fault Refusal := .next (runHost 0x0504 actStreamStop c s)

/-- DP_SET: the capture ring of a port (R83); a ring buffer with a deferred free answers DENIED (R110; DESIGN CHOICE, log entry 73). -/
def actDpSet : Action := fun c s =>
  let p := c.u8 0
  let n := c.u8 1
  match s.bufOf (c.u32 4) with
  | none => refuse s Status.badArg
  | some b =>
    if 3 < p ∨ n < 3 ∨ 8 < n ∨ b.length < n * ringFrame then refuse s Status.badArg
    else if b.deferred then refuse s Status.denied
    else
      let s := s.w .dprDpHold p (min 10000 (c.u16 2))
      let s := s.setRing p (fun (r : DpRing) => { State.ring0 with
        handle := b.handle, csa := b.csa, bufs := n, seq := r.seq, refresh := r.refresh, phy := r.phy })
      let w := s.nextBuffer p (n - 1)
      done (s.setRing p (fun (r : DpRing) => { r with writing := some w }))
def execDpSet (c : HostCmd) (s : State) : Host.Outcome State Fault Refusal := .next (runHost 0x0505 actDpSet c s)

/-- DP_GET. -/
def actDpGet : Action := fun c s =>
  let p := c.u8 0
  if 3 < p then refuse s Status.badArg
  else
    let o := 0xC00 + 0x40 * p
    done s (leBytes 4 (s.bar0 o) ++ leBytes 4 (s.bar0 (o + 4)) ++ leBytes 4 (s.bar0 (o + 8)))
def execDpGet (c : HostCmd) (s : State) : Host.Outcome State Fault Refusal := .next (runHost 0x0506 actDpGet c s)

/-- The end of what can be allocated: the node reserves the last 15 MiB of the store for the upload area (R488; log entry 70). -/
def State.allocEnd (s : State) : Nat := s.capacity - uploadSize

/-- CLIP_INFO: the upload area is excluded (R488). `links` is the number of links up (DESIGN CHOICE, log entry 69). -/
def actClipInfo : Action := fun _ s =>
  let free := s.allocEnd - tableEnd - (s.ing.bufs.map (·.length)).sum
  done s (leBytes 8 s.allocEnd ++ leBytes 8 free ++ [byte (ones 2 (s.r .cxlLinkUp)), byte (s.r .cxlSplit)])
def execClipInfo (c : HostCmd) (s : State) : Host.Outcome State Fault Refusal := .next (runHost 0x0600 actClipInfo c s)

/-- The lowest CSA from which a length is free, in whole granules past the table. -/
def State.freeRange (s : State) (n : Nat) : Option Nat :=
  let cands := tableEnd :: s.ing.bufs.map (fun b => b.csa + b.length)
  (cands.filter (fun a => decide (a + n ≤ s.allocEnd) && !s.ing.bufs.any (fun b => meets a n (b.csa, b.length)))).min?

/-- The command came from the holder's mirror (R435, R436). -/
def State.fromHolder (s : State) (c : HostCmd) : Bool :=
  match c.req with
  | .fabric n => s.isHead && !s.on .redHolder && n == s.r .redTwin && n != 0
  | _ => false

/-- CLIP_ALLOC: whole 4 KiB granules (R90); a mirrored one at the CSA the holder named (R436; log entry 19). -/
def actClipAlloc : Action := fun c s =>
  let n := max 1 (ceilDiv (c.u64 0) 4096) * 4096
  let owner := match c.req with | .pcie => 0 | .udp _ _ => 1 | .fabric _ => 2
  let put (a h : Nat) : Ack :=
    let b : ClipBuf := ⟨h, a, n, owner, false⟩
    done { s with ing := { s.ing with bufs := s.ing.bufs ++ [b], nextHandle := max s.ing.nextHandle (h + 1) } }
      (leBytes 4 h ++ leBytes 4 0 ++ leBytes 8 a)
  if s.fromHolder c then put (c.u64 8) (c.u32 16)
  else
    match s.freeRange n with
    | some a => put a s.ing.nextHandle
    | none => refuse s Status.busy
def execClipAlloc (c : HostCmd) (s : State) : Host.Outcome State Fault Refusal := .next (runHost 0x0601 actClipAlloc c s)

/-- A buffer freed; a ring or monitor ring in it ends. -/
def State.freeBuf (s : State) (h : Nat) : State :=
  { s with ing := { s.ing with
    bufs := s.ing.bufs.filter (fun (b : ClipBuf) => b.handle ≠ h)
    rings := s.ing.rings.map (fun (r : DpRing) =>
      if r.handle = h then { State.ring0 with seq := r.seq, refresh := r.refresh, phy := r.phy } else r)
    wbRing := match s.ing.wbRing with
      | some w => if w.handle = h then none else some w
      | none => none } }

/-- A buffer holds a pin. -/
def State.bufPinned (s : State) (b : ClipBuf) : Bool := s.pinned b.csa b.length

/-- A buffer serves as the monitor ring, until write-back is stopped: this node's is off, and no monitor frame is open (R175; log
entry 35). -/
def State.servesMonitor (s : State) (h : Nat) : Bool := match s.ing.wbRing with
  | some w => w.handle == h && (s.on .layWbOn || w.frames != [])
  | none => false

/-- CLIP_FREE (R110): deferred while the buffer holds a pin, answering PINNED; DENIED for a monitor ring in use (R175). -/
def actClipFree : Action := fun c s =>
  match s.bufOf (c.u32 0) with
  | none => refuse s Status.badArg
  | some b =>
    if s.servesMonitor b.handle then refuse s Status.denied
    else if s.bufPinned b then
      let bs := s.ing.bufs.map (fun (x : ClipBuf) => if x.handle = b.handle then { x with deferred := true } else x)
      accept { s with ing := { s.ing with bufs := bs } } (.clipFree b.handle) Status.pinned
    else done (s.freeBuf b.handle)
def execClipFree (c : HostCmd) (s : State) : Host.Outcome State Fault Refusal := .next (runHost 0x0602 actClipFree c s)

/-- CLIP_FREE_COMPLETE (R110): the last pin of a buffer with a deferred free has dropped. -/
def doClipFreeComplete (h : Nat) (s : State) : State :=
  match s.bufOf h with
  | some b => if b.deferred ∧ !s.bufPinned b then (s.freeBuf h).complete (.clipFree h) Status.ok else s
  | none => s
def execClipFreeComplete (h : Nat) (s : State) : Host.Outcome State Fault Refusal := event (doClipFreeComplete h) s

/-- CLIP_WRITE (R114). -/
def actClipWrite : Action := fun c s =>
  let a := c.u64 8
  let n := c.u32 16
  if (s.bufAt a n).isNone ∨ !s.clipOk a n then refuse s Status.badArg
  else if s.pinned a n then refuse s Status.pinned
  else
    match s.hostRead c (c.u64 0) n with
    | some l => done (s.clipWrite a l)
    | none => refuse s Status.badArg
def execClipWrite (c : HostCmd) (s : State) : Host.Outcome State Fault Refusal := .next (runHost 0x0603 actClipWrite c s)

/-- CLIP_READ: BAD_ARG with the first poisoned CSA (Table 3.4). -/
def actClipRead : Action := fun c s =>
  let a := c.u64 0
  let n := c.u32 16
  if !s.clipOk a n ∨ !s.hostOk (c.u64 8) then refuse s Status.badArg
  else
    match s.firstPoison a n with
    | some p => refuse (s.raise .cxlPoisonRead) Status.badArg (leBytes 8 p)
    | none => done (s.hostWrite c (c.u64 8) (s.clipRead a n))
def execClipRead (c : HostCmd) (s : State) : Host.Outcome State Fault Refusal := .next (runHost 0x0604 actClipRead c s)

/-- CLIP_PINS. -/
def actClipPins : Action := fun c s =>
  match s.bufOf (c.u32 0) with
  | none => refuse s Status.badArg
  | some b => done s (leBytes 4 (s.pins.filter (meets b.csa b.length)).length ++ leBytes 4 (b2n b.deferred))
def execClipPins (c : HostCmd) (s : State) : Host.Outcome State Fault Refusal := .next (runHost 0x0605 actClipPins c s)

/-- CLIP_SET_WINDOW. -/
def actClipSetWindow : Action := fun c s =>
  if 511 < c.u16 0 then refuse s Status.badArg else done (s.w .cxlWindow 0 (c.u16 0))
def execClipSetWindow (c : HostCmd) (s : State) : Host.Outcome State Fault Refusal :=
  .next (runHost 0x0606 actClipSetWindow c s)

end Sys2Proof.Machine
end

