-- ==== Sys2Proof/Machine/Colour.lean ====
section
/-! DEFINITION. The arithmetic of the colour pipeline over the coefficient store: decoding (R213 to R221), blending (R222),
correction and dither (R223), zone factors (R225, R226), the lamp map and table checks (R230, R231, R246). -/

namespace Sys2Proof.Machine

/-- Three components of a pixel. -/
structure Rgb where
  a : Nat
  b : Nat
  c : Nat
  deriving DecidableEq, Repr

/-- A working value of 1.0 (Table 6.1). -/
abbrev unity : Nat := 8388608

/-! ### The coefficient store (Tables 6.3 to 6.5) -/

/-- An unsigned value of the store; an unlisted byte reads 0 (log entry 13). -/
def coefGet (m : Mem) (off n : Nat) : Nat := mval 0 m off n

/-- A signed 16-bit coefficient. -/
def coefS (m : Mem) (off : Nat) : Int := toInt 16 (coefGet m off 2)

abbrev gainBase : Nat := 0x600000
abbrev offsetBase : Nat := 0x800000
abbrev mapBase : Nat := 0x900000
abbrev tableBase : Nat := 0xB00000
abbrev stagingBase : Nat := 0xB80000
abbrev coefEnd : Nat := 0xC00000

/-- The lamp-map entry of pixel `p` and its fields (Table 6.4). -/
def mapEntry (m : Mem) (p : Nat) : Nat := coefGet m (mapBase + 8 * p) 8
def entryLit (e : Nat) : Bool := bit e 48
def entryZone (e : Nat) : Nat := bits e 47 41
def entryChan (e k : Nat) : Nat := bits e (22 + 6 * k) (17 + 6 * k)
def entryLine (e : Nat) : Nat := bits e 16 11
def entryDriver (e : Nat) : Nat := bits e 10 7
def entryLane (e : Nat) : Nat := bits e 6 0

/-! ### Decoding -/

/-- A `b`-bit code widened to 12 bits (R213). -/
def widen (b x : Nat) : Nat := if 12 ≤ b then x else x * 2 ^ (12 - b) + x / 2 ^ (2 * b - 12)

/-- The sum of three products of a matrix row. -/
def row3 (m : Mem) (off : Nat) (x y z : Int) : Int := coefS m off * x + coefS m (off + 2) * y + coefS m (off + 4) * z

/-- R218: a pixel of a layer decoded under input profile `prof`. -/
def decodePixel (m : Mem) (prof : Nat) (x : Rgb) : Rgb :=
  let base := tableBase + 64 * (prof % 16)
  let ycc := bit (coefGet m base 1) 0
  let yo : Int := coefGet m (base + 2) 2
  let co : Int := if ycc then coefGet m (base + 4) 2 else coefGet m (base + 2) 2
  let d0 : Int := x.a - yo
  let d1 : Int := x.b - co
  let d2 : Int := x.c - co
  let lut := tableBase + 0x10000 + 0x4000 * (coefGet m (base + 1) 1)
  let lin (i : Nat) : Nat :=
    let n := clampI 0 4095 (shr (row3 m (base + 8 + 6 * i) d0 d1 d2 + 4096) 13)
    coefGet m (lut + 4 * n) 4 % 2 ^ 24
  let l0 := lin 0
  let l1 := lin 1
  let l2 := lin 2
  let w (i : Nat) : Nat := clampI 0 unity (shr (row3 m (base + 32 + 6 * i) l0 l1 l2 + 4096) 13)
  ⟨w 0, w 1, w 2⟩

/-- The background's working value of a 10-bit code (R220). -/
def backLevel (c : Nat) : Nat := (c * c * unity + 523264) / 1046529

/-- LAY_BG as a working value: R [29:20], G [19:10], B [9:0] (Table 4.4). -/
def background (bg : Nat) : Rgb := ⟨backLevel (bits bg 29 20), backLevel (bits bg 19 10), backLevel (bits bg 9 0)⟩

/-- The working code of the value `sum / n` (R221, exact for an average of R172): the largest c for which the condition holds,
found bit by bit from the top. -/
def workCode (sum n : Nat) : Nat :=
  [512, 256, 128, 64, 32, 16, 8, 4, 2, 1].foldl (fun c step =>
    let t := c + step
    if (2 * t - 1) * (2 * t - 1) * unity * n ≤ 4186116 * sum then t else c) 0

/-- Three codes as a 10:10:10 word, components as in LAY_BG (R172). -/
def word1010 (r g b : Nat) : Nat := r * 2 ^ 20 + g * 2 ^ 10 + b

/-- The working-space word of one composed pixel (R176). -/
def codeOf (w : Rgb) : Nat := word1010 (workCode w.a 1) (workCode w.b 1) (workCode w.c 1)

/-! ### Blending (R222) -/

/-- The effective alpha of Table 4.2. -/
def alphaOf (num den : Nat) : Nat := (num * 65536 + den / 2) / den

def blend1 (c out a : Nat) : Nat := (c * a + out * (65536 - a) + 32768) / 65536
def blend (c out : Rgb) (a : Nat) : Rgb := ⟨blend1 c.a out.a a, blend1 c.b out.b a, blend1 c.c out.c a⟩

/-! ### Correction (R223) -/

/-- The Bayer thresholds of R223. -/
def bayer (r c : Nat) : Nat := nth [0, 8, 2, 10, 12, 4, 14, 6, 3, 11, 1, 9, 15, 7, 13, 5] (4 * (r % 4) + c % 4) 0

/-- The dither of R223. -/
def dither (on : Bool) (dd x y f e : Nat) : Nat :=
  if on then
    let n := (f + e) % 16
    min ((dd + bayer (y + n / 4) (x + n % 4)) / 16) 65535
  else min ((dd + 8) / 16) 65535

/-- Drive code of emitter `e` of a target `t`, with the lamp's offset (R223). -/
def driveCode (m : Mem) (e t l : Nat) : Nat :=
  let i := t / 1024
  let k := t % 1024
  let at_ (j : Nat) : Int := coefGet m (tableBase + 0x1000 + 0x2000 * e + 4 * j) 4 % 2 ^ 20
  let dd := at_ i + shr ((at_ (i + 1) - at_ i) * k + 512) 10
  clampI 0 1048575 (dd + 16 * toInt 8 (coefGet m (offsetBase + l) 1))

/-- The drive fraction's sum of an emitter of a pixel (R223). -/
def emitterSum (m : Mem) (p e : Nat) (w : Rgb) : Int := row3 m (24 * p + 6 * e) w.a w.b w.c

/-- Whether the matrix step clamps an emitter fraction (R224). -/
def clamped (m : Mem) (p e : Nat) (w : Rgb) : Bool :=
  let a := shr (emitterSum m p e w + 4096) 13
  decide (a < 0) || decide ((unity : Int) < a)

/-- Grey value of emitter `e` of pixel `p` at (x, y) in frame `f`, with the zone factor `zf` (R223). -/
def greyValue (m : Mem) (ditherOn : Bool) (zf p e x y f : Nat) (w : Rgb) : Nat :=
  let l := 4 * p + e
  let a := clampI 0 unity (shr (emitterSum m p e w + 4096) 13)
  let b := (a * coefGet m (gainBase + 2 * l) 2 + 16384) / 32768
  let c := min ((b * zf + 16384) / 32768) unity
  let t := (c * 1048575 + 4194304) / 8388608
  if t = 0 then 0 else dither ditherOn (driveCode m e t l) x y f e

/-! ### Zone factors -/

/-- The derating value of emitter `e` at a temperature in 1/16 °C (R225). -/
def derating (m : Mem) (e : Nat) (temp : Int) : Nat :=
  let t := clampI 0 2032 temp
  let at_ (j : Nat) : Int := coefGet m (tableBase + 0x500 + 256 * e + 2 * j) 2
  let i := t / 16
  if i = 127 then (at_ 127).toNat else (at_ i + shr ((at_ (i + 1) - at_ i) * (t % 16 : Nat) + 8) 4).toNat

/-- The node gain of emitter `e`. -/
def gainOf (v : View) (e : Nat) : Nat := v (nth [.colGainE0, .colGainE1, .colGainE2, .colGainE3] e .colGainE0) 0

/-- The target zone factor of a derating value (R226). -/
def zoneTarget (v : View) (d e : Nat) : Nat :=
  min (((if v .colDerateOn 0 = 1 then d else 32768) * gainOf v e + 16384) / 32768) 65535

/-! ### The lamp map and the tables -/

/-- The emitters of a pixel that name a lamp (R230). -/
def entryEmitters (v : View) : List Nat := List.range (emittersOf v)

/-- A lit entry by itself meets R230 and R246. -/
def entryOk (v : View) (e : Nat) : Bool :=
  decide (entryLane e < 96) && decide (entryDriver e < v .scnLaneDrivers (entryLane e)) &&
  decide (entryLine e < v .scnMux 0) && decide (entryZone e < 96) &&
  (entryEmitters v).all (fun k => decide (entryChan e k < 48) && decide (entryChan e k < v .scnLaneCpd (entryLane e)))

/-- Lane, driver, line and channel of a lamp as one number. -/
def lampKey (e k : Nat) : Nat := ((entryLane e * 16 + entryDriver e) * 64 + entryLine e) * 64 + entryChan e k

/-- The first lit pixel that fails, and, where it shares a lamp with an earlier pixel, that pixel; `seen` lists the lamps met. -/
def mapFault (v : View) (m : Mem) : List Nat → List (Nat × Nat) → Option (Nat × Option Nat)
  | [], _ => none
  | p :: rest, seen =>
    let e := mapEntry m p
    if !entryLit e then mapFault v m rest seen
    else if !entryOk v e then some (p, none)
    else
      let keys := (entryEmitters v).map (lampKey e)
      match keys.findSome? (fun k => assoc seen k) with
      | some q => some (p, some q)
      | none =>
        if keys.eraseDups.length < keys.length then some (p, some p)
        else mapFault v m rest (keys.map (fun k => (k, p)) ++ seen)

/-- Pixels of the window. -/
def windowPixels (v : View) : List Nat := List.range (min (v .layWinW 0 * v .layWinH 0) 262144)

/-- The emitters of a map entry that are lamps, with their channels: emitter 3 on channel 0x3F is none (Table 6.4). -/
def entryLamps (v : View) (e : Nat) : List (Nat × Nat) :=
  ((List.range (emittersOf v)).map (fun k => (k, entryChan e k))).filter (fun x => x.1 ≠ 3 ∨ x.2 ≠ 0x3F)

/-- A lamp map meets R230 and R246 against some settings. -/
def mapMeets (v : View) (m : Mem) : Bool := (mapFault v m (windowPixels v) []).isNone

/-- The store offset of the first profile, curve or entry that fails R231: a profile that names no LUT from 0 to 15, an entry
above 1,048,575, a curve that falls. -/
def tableFault (m : Mem) : Option Nat :=
  (((List.range 16).find? (fun k => decide (15 < coefGet m (tableBase + 64 * k + 1) 1))).map (fun k => tableBase + 64 * k)).or
  ((List.range 4).findSome? (fun e =>
    let base := tableBase + 0x1000 + 0x2000 * e
    let at_ (i : Nat) : Nat := coefGet m (base + 4 * i) 4
    (List.range 1025).findSome? (fun i =>
      if 1048575 < at_ i then some (base + 4 * i)
      else if 0 < i ∧ at_ i < at_ (i - 1) then some base
      else none)))

end Sys2Proof.Machine
end

