-- ==== Sys2Proof/Machine/Footprint.lean ====
section
/-! DEFINITION. What layers read: the readings of the registers that commit sets give (R134, R148), the scaler's positions and
taps (R157 to R161), footprints and line-store needs (R162 to R166), and the line stores. -/

namespace Sys2Proof.Machine

/-! ### Readings -/

/-- The footprint fields of a video layer (Table 4.5). -/
def footFields : List FName :=
  [.layVEnable, .layVStream, .layVFeedMask, .layVSrcX, .layVSrcY, .layVSrcW, .layVSrcH, .layVFullW, .layVFullH, .layVDstX,
   .layVDstY, .layVDstW, .layVDstH]

/-- The staged fields of a video layer, a graphic layer and P (Table 4.3). -/
def videoFields : List FName := [.layVPolicy, .layVAlpha, .layVHoldMax] ++ footFields
def graphicFields : List FName :=
  [.layGEnable, .layGFormat, .layGBuffer, .layGAlpha, .layGFeedMask, .layGY, .layGX, .layGH, .layGW]
def protectFields : List FName := [.layPEnable, .layPAlpha, .layPFeedMask]
def windowFields : List FName := [.layWinX, .layWinY, .layWinW, .layWinH]

/-- The stream fields of R132. -/
def streamFields : List FName :=
  [.ingEnable, .ingKind, .ingDpPort, .ingGroup, .ingFeedMask, .ingFormat, .ingHeight, .ingWidth]

/-- The lane-layout fields of R132. -/
def layoutFields : List FName := [.scnMux, .scnLaneDrivers, .scnLaneCpd]

/-- The wall-timing fields of Table 2.8. -/
def timingFields : List FName := [.ftAnchorFt, .ftAnchorFrame, .ftPeriodNum, .ftPeriodDen]

/-- A field of the lamp lanes' timing and windows that changes at B(Fa) (R257), or through STAGE (R292). -/
def isScanField (f : FName) : Bool :=
  let o := f.desc.base
  (decide (0x2000 ≤ o) && decide (o < 0x2800)) || f == .llCurrent

/-- The layer a field belongs to. -/
def layerOf (f : FName) (i : Nat) : Option Nat :=
  if f ∈ videoFields then some i
  else if f ∈ graphicFields then some (4 + i)
  else if f ∈ protectFields then some 8
  else none

/-- The fields of a set but for those of layers a mask rejects (R138). -/
def keepFields (reject : Nat) (l : Store) : Store :=
  l.filter (fun e => match fieldOf e.1 with
    | some (f, i) => (match layerOf f i with
      | some n => !bit reject n
      | none => true)
    | none => false)

/-- A reading with some fields replaced. -/
def overlay (l : Store) (v : View) : View := fun f i => (assoc l (f.key i)).getD (v f i)

/-- The reading in effect, scan-out fields as they will be at the next boundary. -/
def State.now (s : State) : View := overlay s.lay.due (fun f i => s.r f i)

/-- The reading once some sets have applied, in order (R618). -/
def State.after (s : State) (sets : List CommitSet) : View :=
  sets.foldl (fun v c => overlay (keepFields c.reject c.fields) v) s.now

/-- Sets that will apply at the latch point of frame `f`, and the reading run-ahead composes under (R148). -/
def State.setsFor (s : State) (f : Nat) : List CommitSet := s.lay.sets.filter (fun c => c.state == .accepted && c.fa == f)
def State.ahead (s : State) (f : Nat) : View := s.after (s.setsFor f)

/-! ### The scaler -/

/-- Bits of a component of a format, and whether it is 4:2:2 (Table 3.6). -/
def compBits (fmt : Nat) : Nat := if fmt % 16 = 1 then 8 else if fmt % 16 = 2 then 10 else 12
def isHalf (fmt : Nat) : Bool := fmt / 16 == 2

/-- The size a layer is committed for, and the size in effect (R165). -/
def State.sourceSize (s : State) (v : View) (n : Nat) : Nat × Nat :=
  ((s.lay.sizes.getD n none).getD (v .layVFullW n, v .layVFullH n))

/-- A crop: first column and line, width and height. -/
structure Crop where
  x : Nat
  y : Nat
  w : Nat
  h : Nat
  deriving DecidableEq, Repr

/-- The crop of a layer for a source of size `w × h`: positions rounded down and sizes up by the ratio to the committed size
(R165). -/
def cropFor (v : View) (n w h : Nat) : Crop :=
  let fw := max 1 (v .layVFullW n)
  let fh := max 1 (v .layVFullH n)
  ⟨v .layVSrcX n * w / fw, v .layVSrcY n * h / fh, ceilDiv (v .layVSrcW n * w) fw, ceilDiv (v .layVSrcH n * h) fh⟩

/-- A signed 32-bit field. -/
def s32 (v : View) (f : FName) (i : Nat := 0) : Int := toInt 32 (v f i)

/-- Twice-numerator and denominator of the source position of R160: p = num / den. -/
def posNum (src srcSize : Nat) (dst dstSize : Int) (at_ : Int) : Int :=
  2 * dstSize * src + (2 * (at_ - dst) + 1) * srcSize - dstSize

/-- A position in 1/64 pixel, rounded to nearest with ties up (R160): centre and phase are its quotient and remainder by 64. -/
def phase64 (num den : Int) : Int := (128 * num + den).fdiv (2 * den)

/-- Source position of canvas column or row `at_`, in 1/64. -/
def srcPos (src srcSize : Nat) (dst : Int) (dstSize : Nat) (at_ : Int) : Int :=
  phase64 (posNum src srcSize dst dstSize at_) (2 * dstSize)

/-- The chroma position p / 2 of a 4:2:2 stream (R215). -/
def chromaPos (src srcSize : Nat) (dst : Int) (dstSize : Nat) (at_ : Int) : Int :=
  phase64 (posNum src srcSize dst dstSize at_) (4 * dstSize)

/-- The ratio band of an axis, compared exactly (R158). -/
def bandOf (dst src : Nat) : Nat :=
  if 6 * dst < src then 0 else if 4 * dst < src then 1 else if 3 * dst < src then 2 else if 2 * dst < src then 3
  else if 3 * dst < 2 * src then 4 else if 6 * dst < 5 * src then 5 else if dst < src then 6 else 7

/-- A ratio lies from 1/8 to 8 (R159). -/
def ratioOk (dst src : Nat) : Bool := decide (src ≤ 8 * dst) && decide (dst ≤ 8 * src)

/-- A number held inside first … last. -/
def hold (lo hi x : Int) : Nat := (max lo (min hi x)).toNat

/-! ### Footprints -/

/-- Window columns or rows inside a destination, as canvas positions: first and last, if any. -/
def spanIn (win : Int) (size : Nat) (dst : Int) (dstSize : Nat) : Option (Int × Int) :=
  let a := max win dst
  let b := min (win + size) (dst + dstSize) - 1
  if b < a then none else some (a, b)

/-- Chroma sample range of a crop (R215): samples co-sited with its pixels. -/
def chromaRange (c : Crop) : Int × Int := (((c.x + 1) / 2 : Nat), ((c.x + c.w - 1) / 2 : Nat))

/-- The footprint of a layer over a crop: the taps of every window pixel inside the destination, clamped to the crop (R162);
for a 4:2:2 format its chroma taps are taps too (log entry 31). -/
def footOf (v : View) (n : Nat) (c : Crop) (fmt : Nat) : Option Crop :=
  let dx := s32 v .layVDstX n
  let dy := s32 v .layVDstY n
  let dw := v .layVDstW n
  let dh := v .layVDstH n
  match spanIn (s32 v .layWinX) (v .layWinW 0) dx dw, spanIn (s32 v .layWinY) (v .layWinH 0) dy dh with
  | some (x0, x1), some (y0, y1) =>
    if c.w = 0 ∨ c.h = 0 then none
    else
      let lastX : Int := c.x + c.w - 1
      let lastY : Int := c.y + c.h - 1
      let left := hold c.x lastX (srcPos c.x c.w dx dw x0 / 64 - 3)
      let right := hold c.x lastX (srcPos c.x c.w dx dw x1 / 64 + 4)
      let r := chromaRange c
      let left := if isHalf fmt then min left (hold c.x lastX (2 * (hold r.1 r.2 (chromaPos c.x c.w dx dw x0 / 64 - 3) : Nat))) else left
      let right := if isHalf fmt then max right (hold c.x lastX (2 * (hold r.1 r.2 (chromaPos c.x c.w dx dw x1 / 64 + 4) : Nat) + 1)) else right
      let top := hold c.y lastY (srcPos c.y c.h dy dh y0 / 64 - 2)
      let bottom := hold c.y lastY (srcPos c.y c.h dy dh y1 / 64 + 3)
      some ⟨left, top, right + 1 - left, bottom + 1 - top⟩
  | _, _ => none

/-- Line-store units of a footprint with every `d`-th line stored (R162, R165). -/
def unitsOf (v : View) (n : Nat) (f : Crop) (fmt d : Nat) : Nat :=
  copiesOf (v .layVFeedMask n) * ceilDiv f.h d * ceilDiv (f.w * (bppOf fmt).getD 36) 512

/-- The need of a layer for a source of size `w × h`; none for a layer that is off. -/
def needOf (v : View) (n w h fmt d : Nat) : Nat :=
  if v .layVEnable n = 1 then
    match footOf v n (cropFor v n w h) fmt with
    | some f => unitsOf v n f fmt d
    | none => 0
  else 0

/-- The format of a stream's last marker (R162). -/
def State.fmtOf (s : State) (stream : Nat) : Nat := s.lay.formats.getD stream 3

/-- The need of a layer as committed (R162). -/
def State.layerNeed (s : State) (v : View) (n : Nat) : Nat :=
  needOf v n (v .layVFullW n) (v .layVFullH n) (s.fmtOf (v .layVStream n)) 1

/-- The decimation in effect of a layer: 1, or 2 to 8, or 0 while no line store fits it (R165, R166). -/
def State.decim (s : State) (n : Nat) : Nat := s.r .layVDecim n

/-- Crop, format and footprint of a layer as it is received and composed. -/
def State.layerCrop (s : State) (v : View) (n : Nat) : Crop :=
  let (w, h) := s.sourceSize v n
  cropFor v n w h
def State.layerFmt (s : State) (v : View) (n : Nat) : Nat := s.lay.fmtHeld.getD (v .layVStream n) 3
def State.layerFoot (s : State) (v : View) (n : Nat) : Option Crop := footOf v n (s.layerCrop v n) (s.layerFmt v n)

/-- The footprint line that is stored for decimation: the lines are top, top + d, top + 2d, … (R165). -/
def storedLine (f : Crop) (d line : Nat) : Bool := decide (f.y ≤ line) && decide (line < f.y + f.h) && (line - f.y) % max 1 d == 0

/-! ### Line stores -/

/-- Key of a source pixel in the line stores. -/
def pixelKey (stream feed line px : Nat) : Nat := ((stream * 8 + feed) * 65536 + line) * 65536 + px

/-- A source pixel, if it has arrived. -/
def State.pixelAt (s : State) (stream feed line px : Nat) : Option Nat :=
  (assoc s.lay.lines (pixelKey stream feed line px)).map (· - 1)

/-- Component `k` of a source pixel, widened (R213): components lie one after another from bit 0; a 4:2:2 pixel holds Y and then
Cb on even and Cr on odd pixels (log entry 31). -/
def component (fmt v k : Nat) : Nat :=
  let b := compBits fmt
  widen b (v / 2 ^ (b * k) % 2 ^ b)

/-- Columns of a footprint that are kept: for 4:2:2, whole pixel pairs. -/
def keptCols (f : Crop) (fmt : Nat) : Nat × Nat :=
  if isHalf fmt then (f.x / 2 * 2, (f.x + f.w + 1) / 2 * 2) else (f.x, f.x + f.w)

/-- A component of a column and line through the line store; a missing pixel reads 0 (its layer is left out, R156). -/
def State.sampleAt (s : State) (stream feed fmt : Nat) (c : Crop) (comp col line : Nat) : Nat :=
  if isHalf fmt ∧ comp ≠ 0 then
    component fmt ((s.pixelAt stream feed line (2 * col + (comp - 1))).getD 0) 1
  else
    let lastX : Int := c.x + c.w - 1
    component fmt ((s.pixelAt stream feed line (hold c.x lastX col)).getD 0) comp

/-- Horizontal pass: h = (Σ t × x + 2,048) >> 12 over 8 taps of a line (R214). -/
def State.horizontal (s : State) (stream feed fmt : Nat) (c : Crop) (comp band line : Nat) (pos : Int) : Int :=
  let half := isHalf fmt && comp != 0
  let lo : Int := if half then (chromaRange c).1 else c.x
  let hi : Int := if half then (chromaRange c).2 else (c.x + c.w - 1 : Nat)
  let i := pos / 64
  let ph := (pos % 64).toNat
  let sum := ((List.range 8).map (fun (t : Nat) =>
    (Config.scalerTap band false ph t).toInt * (s.sampleAt stream feed fmt c comp (hold lo hi (i - 3 + t)) line : Nat))).sum
  shr (sum + 2048) 12

/-- Lines and taps of the vertical pass: six lines about the centre, or, decimated, the two stored lines about the position. -/
def verticalTaps (c f : Crop) (d band : Nat) (pos : Int) : List (Nat × Int) :=
  if d ≤ 1 then
    (List.range 6).map (fun (t : Nat) =>
      (hold c.y (c.y + c.h - 1 : Nat) (pos / 64 - 2 + t), (Config.scalerTap band true (pos % 64).toNat t).toInt))
  else
    let last : Int := ((f.h - 1) / d : Nat)
    let rel := pos - 64 * f.y
    let j := rel.fdiv (64 * d)
    let ph := (rel.fmod (64 * d)).toNat / d
    [(f.y + d * hold 0 last j, (Config.decimatedTap d ph 0).toInt), (f.y + d * hold 0 last (j + 1), (Config.decimatedTap d ph 1).toInt)]

/-- A component of a video layer at a canvas position, scaled (R214, R215). -/
def State.scaled (s : State) (v : View) (n feed comp : Nat) (c f : Crop) (X Y : Int) : Nat :=
  let stream := v .layVStream n
  let fmt := s.layerFmt v n
  let px := if isHalf fmt ∧ comp ≠ 0 then chromaPos c.x c.w (s32 v .layVDstX n) (v .layVDstW n) X
    else srcPos c.x c.w (s32 v .layVDstX n) (v .layVDstW n) X
  let py := srcPos c.y c.h (s32 v .layVDstY n) (v .layVDstH n) Y
  let bx := bandOf (v .layVDstW n) c.w
  let by_ := bandOf (v .layVDstH n) c.h
  let sum := ((verticalTaps c f (s.decim n) by_ py).map (fun q => q.2 * s.horizontal stream feed fmt c comp bx q.1 px)).sum
  clampI 0 4095 (shr (sum + 32768) 16)

/-! ### Rows a slice needs -/

/-- Window rows of slice `j` (R181). -/
def sliceRows (v : View) (j : Nat) : Nat × Nat := (16 * j, min (16 * j + 16) (v .layWinH 0))

/-- Canvas rows of a slice that lie inside a layer's destination, first and last. -/
def sliceSpan (v : View) (n j : Nat) : Option (Int × Int) :=
  let (a, b) := sliceRows v j
  match spanIn (s32 v .layWinX) (v .layWinW 0) (s32 v .layVDstX n) (v .layVDstW n) with
  | some _ => spanIn (s32 v .layWinY + a) (b - a) (s32 v .layVDstY n) (v .layVDstH n)
  | none => none

/-- Source lines the vertical taps of a slice read from a layer. -/
def State.sliceLines (s : State) (v : View) (n j : Nat) : List Nat :=
  match sliceSpan v n j, s.layerFoot v n with
  | some (y0, y1), some f =>
    let c := s.layerCrop v n
    let at_ (y : Int) : Int := srcPos c.y c.h (s32 v .layVDstY n) (v .layVDstH n) y
    ((List.range ((y1 - y0).toNat + 1)).flatMap (fun (k : Nat) =>
      (verticalTaps c f (s.decim n) (bandOf (v .layVDstH n) c.h) (at_ (y0 + k))).map (·.1))).eraseDups
  | _, _ => []

/-- Every kept pixel of a source line has arrived for a feed (R189). -/
def State.lineComplete (s : State) (v : View) (n feed line : Nat) : Bool :=
  match s.layerFoot v n with
  | some f =>
    let (a, b) := keptCols f (s.layerFmt v n)
    (List.range (b - a)).all (fun k => (s.pixelAt (v .layVStream n) feed line (a + k)).isSome)
  | none => true

/-- Video layers that take part in a feed and cover a slice's band (R189). -/
def videoIn (v : View) (feed j : Nat) : List Nat :=
  (List.range 4).filter (fun n => v .layVEnable n == 1 && bit (v .layVFeedMask n) feed && (sliceSpan v n j).isSome)

/-- Every source row a slice needs has been received (R189). -/
def State.sliceInputs (s : State) (v : View) (feed j : Nat) : Bool :=
  (videoIn v feed j).all (fun n => (s.sliceLines v n j).all (s.lineComplete v n feed))

end Sys2Proof.Machine
end

