-- ==== Sys2Proof/Machine/Compose.lean ====
section
/-! DEFINITION. Composing pixels: layers bottom to top (R125 to R127), the window's lamps (R223), and what a slice gives beside
its lamp values: signature, write-back rows, contributing layers (R172, R176, R178). -/

namespace Sys2Proof.Machine

/-! ### Graphic and protected content (R167, R617, R219) -/

abbrev bufferSize : Nat := 0x100000

/-- Address of buffer `b` of graphic layer `g` (0 to 3) in the graphic store. -/
def graphicBase (g b : Nat) : Nat := (2 * g + b) * bufferSize

/-- Bytes a graphic layer of a format and size takes in its buffer (R167). -/
def graphicSize (format w h : Nat) : Nat := if format = 0 then w * h * 4 else 1024 + w * h

/-- An RGBA32 word's components widened, and its alpha. -/
def rgbaOf (w : Nat) : Rgb × Nat := (⟨widen 8 (bits w 7 0), widen 8 (bits w 15 8), widen 8 (bits w 23 16)⟩, bits w 31 24)

/-- A word of the graphic store with an uncorrectable error makes its pixel transparent (Table 1.5). -/
def State.graphicWord (s : State) (a : Nat) : Option Nat :=
  if a / 4 ∈ s.lay.graphicBad then none else some (mval 0 s.lay.graphic a 4)

/-- The word of a graphic layer at a window position; none where it covers nothing or is damaged. Format 0 is RGBA32, 1 indexed. -/
def State.graphicAt (s : State) (v : View) (g : Nat) (x y : Int) : Option Nat :=
  let i := x - toInt 16 (v .layGX g)
  let j := y - toInt 16 (v .layGY g)
  let w := v .layGW g
  if i < 0 ∨ j < 0 ∨ (w : Int) ≤ i ∨ (v .layGH g : Int) ≤ j then none
  else
    let base := graphicBase g (v .layGBuffer g)
    let p := j.toNat * w + i.toNat
    if v .layGFormat g = 0 then s.graphicWord (base + 4 * p)
    else if (base + 1024 + p) / 4 ∈ s.lay.graphicBad then none
    else s.graphicWord (base + 4 * (mget 0 s.lay.graphic (base + 1024 + p)).toNat)

/-- The protected store a frame composes from: with the data of every set that applies at its latch point (R148, R171). -/
def State.pStore (s : State) (f : Nat) : Mem :=
  (s.lay.pWriting ++ (s.setsFor f).flatMap (·.pdata)).foldl (fun m d => mwrite 0 m d.offset d.bytes) s.lay.pstore

/-! ### Layers of a pixel -/

/-- The input profile of a video layer, and whether its colorimetry code is unknown (R216). -/
def State.videoProfile (s : State) (v : View) (n : Nat) : Nat × Bool :=
  let st := v .layVStream n
  if bit (v .colSprofEn 0) st then
    (if st < 8 then bits (v .colSprofLo 0) (4 * st + 3) (4 * st) else bits (v .colSprofHi 0) (4 * st - 29) (4 * st - 32), false)
  else
    let e := coefGet s.col.store (tableBase + 0x400 + s.lay.colours.getD st 0) 1
    if bit e 7 then (e % 16, false) else (0, true)

/-- A canvas position lies inside a video layer's destination. -/
def inDest (v : View) (n : Nat) (X Y : Int) : Bool :=
  let dx := s32 v .layVDstX n
  let dy := s32 v .layVDstY n
  decide (dx ≤ X) && decide (X < dx + v .layVDstW n) && decide (dy ≤ Y) && decide (Y < dy + v .layVDstH n)

/-- A video layer's working value at a canvas position (R214 to R218). -/
def State.videoAt (s : State) (v : View) (n feed : Nat) (X Y : Int) : Option Rgb :=
  if inDest v n X Y then
    match s.layerFoot v n with
    | some f =>
      let c := s.layerCrop v n
      let x : Rgb := ⟨s.scaled v n feed 0 c f X Y, s.scaled v n feed 1 c f X Y, s.scaled v n feed 2 c f X Y⟩
      some (decodePixel s.col.store (s.videoProfile v n).1 x)
    | none => none
  else none

/-- Layers left out of a feed: those not ready once the frame has latched (R152, R155), and those with an underrun (R156). -/
def State.omitted (s : State) (f feed : Nat) : Nat :=
  (if s.lay.latched = f + 1 then s.lay.leftOut.getD feed 0 else 0) ||| s.lay.frostUnder.getD feed 0

/-- One composed pixel of a feed, and the mask of video layers that contributed with a > 0. -/
def State.pixel (s : State) (v : View) (f feed x y : Nat) : Rgb × Nat :=
  let X := s32 v .layWinX + x
  let Y := s32 v .layWinY + y
  let m := s.col.store
  let omit_ := s.omitted f feed
  let layers := (layersIn v feed).filter (fun n => !bit omit_ n)
  layers.foldl (fun acc n =>
    if n < 4 then
      match s.videoAt v n feed X Y with
      | some c =>
        let a := alphaOf (v .layVAlpha n) 255
        (blend c acc.1 a, if a = 0 then acc.2 else acc.2 ||| 2 ^ n)
      | none => acc
    else if n < 8 then
      match s.graphicAt v (n - 4) x y with
      | some w =>
        let (rgb, pa) := rgbaOf w
        (blend (decodePixel m (v .colGProfile 0) rgb) acc.1 (alphaOf (pa * v .layGAlpha (n - 4)) 65025), acc.2)
      | none => acc
    else
      let a := 4 * (y * v .layWinW 0 + x)
      if a / 4 ∈ s.lay.pBad then (⟨0, 0, 0⟩, acc.2)
      else
        let (rgb, pa) := rgbaOf (mval 0 (s.pStore f) a 4)
        (blend (decodePixel m (v .colPProfile 0) rgb) acc.1 (alphaOf (pa * v .layPAlpha 0) 65025), acc.2))
    (background (v .layBg 0), 0)

/-! ### Lamps -/

/-- tscale at the node's level, in 1/32768: below DERATE it is 1 (R529). -/
def State.tscale (s : State) : Nat :=
  if s.r .thmNodeLevel < 2 then 32768 else if s.r .thmNodeLevel = 2 then s.r .thmTscaleDerate else s.r .thmTscaleThrottle

/-- The target of a zone factor at a temperature, as R529 leaves it. -/
def State.zoneGoal (s : State) (v : View) (temp : Int) (e : Nat) : Nat :=
  min ((zoneTarget v (derating s.col.store e temp) e * s.tscale + 16384) / 32768) 65535

/-- Zone factor field of an emitter. -/
def zoneField (e : Nat) : FName := nth [.colZfE0, .colZfE1, .colZfE2, .colZfE3] e .colZfE0

/-- The zone factor an emitter composes with: the one held for the frame, or the target where a set that applies at the latch
point changes a node gain (R227, R228, R148). -/
def State.zoneFactor (s : State) (v : View) (z e : Nat) : Nat :=
  if (List.range 4).all (fun k => gainOf v k == gainOf s.now k) then
    s.r (zoneField e) z
  else s.zoneGoal v (toInt 16 (s.col.temps.getD z 0)) e

/-- A pixel reads a block of the store that holds an uncorrectable error, or the tables do (Table 1.5): its lamps are composed as 0. -/
def State.damaged (s : State) (p : Nat) : Bool :=
  s.col.bad.any (fun b => decide (b = 24 * p / 64) || decide (b = (24 * p + 23) / 64) ||
    decide (b = (gainBase + 8 * p) / 64) || decide (b = (offsetBase + 4 * p) / 64) || decide (b = (mapBase + 8 * p) / 64) ||
    decide (tableBase / 64 ≤ b))

/-- Key of a slot position in the lamp frame store (R245): slot `h` of feed `k`. -/
def slotKey (v : View) (k h pos : Nat) : Nat := (2 * k + h) * slotLamps v + pos

/-- The back slot of a feed. -/
def State.backSlot (s : State) (k : Nat) : Nat := 1 - b2n (bit (s.r .scnFront) k)

/-- The lamp values of one pixel written to the back slot (pack), and its clamped fractions counted (R223, R224). An entry that
names no position of the layout in effect places no lamp; R233 keeps a map with such an entry dark. -/
def State.packPixel (s : State) (v : View) (f feed x y : Nat) : State :=
  let p := y * v .layWinW 0 + x
  let m := s.col.store
  let e := mapEntry m p
  let w := (s.pixel v f feed x y).1
  if !entryLit e ∨ !entryOk v e then s
  else
    (List.range (emittersOf v)).foldl (fun s k =>
      if entryChan e k = 0x3F then s
      else
        let g := if s.damaged p then 0
          else greyValue m (v .colDitherOn 0 == 1) (s.zoneFactor v (entryZone e) k) p k x y f w
        let s := if clamped m p k w then s.count .colClamps else s
        let pos := lampPos v (entryLane e) (entryDriver e) (entryLine e) (entryChan e k)
        { s with col := { s.col with lamps := sput 0 s.col.lamps (slotKey v feed (s.backSlot feed) pos) g } }) s

/-- The columns of some units, within the window. -/
def unitCols (v : View) (first n : Nat) : List Nat :=
  (List.range (min (16 * n) (v .layWinW 0 - 16 * first))).map (16 * first + ·)

/-- Some units of a slice composed: their lamp values, and unknown_code where a layer's code has no valid map entry (R216). -/
def State.composeUnits (s : State) (v : View) (f feed j first n : Nat) : State :=
  let (a, b) := sliceRows v j
  let s := s.raiseIf ((videoIn v feed j).any (fun l => !bit (s.omitted f feed) l && (s.videoProfile v l).2)) .colUnknownCode
  (List.range (b - a)).foldl (fun s y => (unitCols v first n).foldl (fun s x => s.packPixel v f feed x (a + y)) s) s

/-- Units across the window (R182), and slices down it (R181). -/
def unitsAcross (v : View) : Nat := (v .layWinW 0 + 15) / 16
def slicesDown (v : View) : Nat := (v .layWinH 0 + 15) / 16

/-! ### Signature and write-back -/

/-- The composed pixels of a unit of a slice, row by row. -/
def State.unitRows (s : State) (v : View) (f feed j u : Nat) : List (List (Rgb × Nat)) :=
  let (a, b) := sliceRows v j
  (List.range (b - a)).map (fun y => (unitCols v u 1).map (fun x => s.pixel v f feed x (a + y)))

/-- The CRC register of a row of a unit, started from 0, over its pixels in the encoding of R172. -/
def rowCrc (row : List (Rgb × Nat)) : Nat := crc32Reg 0x82F63B78 0 (row.flatMap (fun p => leBytes 4 (codeOf p.1)))

/-- The CRC of R176 of a slice of `height` rows from the CRCs of its units' rows (R185): row by row and left to right, from the slice
index. -/
def sliceCrc (v : View) (j height : Nat) (signs : List UnitSign) : Nat :=
  (List.range height).foldl (fun reg y => signs.foldl (fun reg x =>
    crc32cJoin reg (4 * (unitCols v x.unit 1).length) (x.crcs.getD y 0)) reg) j ^^^ 0xFFFFFFFF

/-- A row cut into runs of `n`. -/
def chunks {α : Type} (n : Nat) : (fuel : Nat) → List α → List (List α)
  | 0, _ => []
  | fuel + 1, l => if l = [] ∨ n = 0 then [] else l.take n :: chunks n fuel (l.drop n)

/-- The average of a block of pixels as a 10:10:10 word (R172). -/
def blockWord (l : List Rgb) : Nat :=
  let n := l.length
  word1010 (workCode ((l.map (·.a)).sum) n) (workCode ((l.map (·.b)).sum) n) (workCode ((l.map (·.c)).sum) n)

/-- Rows of averages over blocks of `b` × `b` pixels (R172); a block cut by the window edge averages the pixels present. -/
def blockRows (b : Nat) (rows : List (List (Rgb × Nat))) : List (List Nat) :=
  (chunks b rows.length rows).map (fun band =>
    let width := (band.headD []).length
    (List.range ((width + b - 1) / b)).map (fun i =>
      blockWord (band.flatMap (fun r => ((r.drop (i * b)).take b).map (·.1)))))

/-- What a unit's composition gives beside lamp values. -/
def State.signUnit (s : State) (v : View) (f feed j u : Nat) : UnitSign :=
  let rows := s.unitRows v f feed j u
  { unit := u
    crcs := rows.map rowCrc
    used := rows.foldl (fun m r => r.foldl (fun m p => m ||| p.2) m) 0
    rows := if s.lay.wbActive ∧ s.r .layWbFeed = feed then blockRows (2 ^ s.r .layWbScale) rows else [] }

/-- Units of a slice composed on an engine: what they give is kept with the slice; a unit composed again replaces what it gave. -/
def State.signUnits (s : State) (v : View) (f : Nat) (x : Slice) (first n : Nat) : Slice :=
  let signs := ((List.range n).map (first + ·)).map (s.signUnit v f x.feed x.slice)
  { x with signs := signs ++ x.signs }

/-- The results of a slice's units joined, left to right, once all are composed (R185): no write-back block spans two units. -/
def sealSlice (v : View) (x : Slice) : Slice :=
  let signs := (List.range (unitsAcross v)).filterMap (fun u => x.signs.find? (fun y => y.unit == u))
  let (a, b) := sliceRows v x.slice
  let bands := (signs.map (·.rows.length)).foldl max 0
  { x with
    crc := sliceCrc v x.slice (b - a) signs
    used := signs.foldl (fun m y => m ||| y.used) 0
    rows := (List.range bands).map (fun i => signs.flatMap (fun y => y.rows.getD i [])) }

/-! ### Cost (R184) -/

/-- A layer covers some pixel of a unit of a slice. -/
def coversUnit (v : View) (n j u : Nat) : Bool :=
  let (a, b) := sliceRows v j
  let x0 : Int := (16 * u : Nat)
  let w := min 16 (v .layWinW 0 - 16 * u)
  if n < 4 then
    (spanIn (s32 v .layWinX + x0) w (s32 v .layVDstX n) (v .layVDstW n)).isSome &&
    (spanIn (s32 v .layWinY + a) (b - a) (s32 v .layVDstY n) (v .layVDstH n)).isSome
  else if n < 8 then
    (spanIn x0 w (toInt 16 (v .layGX (n - 4))) (v .layGW (n - 4))).isSome &&
    (spanIn a (b - a) (toInt 16 (v .layGY (n - 4))) (v .layGH (n - 4))).isSome
  else true

/-- Cycles of a unit, and of a whole slice. -/
def unitCost (v : View) (feed j u : Nat) : Nat := 64 * max 1 ((layersIn v feed).filter (fun n => coversUnit v n j u)).length
def sliceCost (v : View) (feed j : Nat) : Nat := ((List.range (unitsAcross v)).map (unitCost v feed j)).sum

end Sys2Proof.Machine
end

