-- ==== Sys2Proof/Machine/Clover.lean ====
section
/-! DEFINITION. Clover and the slice engines: the trace (R207 to R209), the slice table (R187 to R192), dispatch and grants
(R191 to R194), completion and cancels (R196 to R201), Lull and Gust (R202 to R204), engines out of service (R205, R206). -/

namespace Sys2Proof.Machine

/-! ### The trace -/

/-- The class bit of a trace event (Table 5.6). -/
def traceClass (ev : Nat) : Nat :=
  nth [0, 0, 1, 1, 1, 1, 2, 2, 3, 3, 3, 2, 4, 4, 3, 5, 5, 6, 6, 7] ev 7

/-- Records the ring holds (Table 5.8). -/
def State.traceCap (s : State) : Nat := s.r .clvSizeKib * 64

/-- The node a VC3 destination field names; 0x000 is the control head (R427, Table 5.8). -/
def State.monitorNode (s : State) (d : Nat) : Nat := if d = 0 then s.controlHead else d

/-- VC3 has credit for a packet of a cost towards a node, beside what is queued. -/
def State.vc3Room (s : State) (dst cost : Nat) : Bool :=
  match s.routeTo dst with
  | some p =>
    let l := s.link p
    s.up p && decide (((l.queue.filter (fun q => q.pkt.vc == 3)).map (fun q => pktCost q.pkt)).sum + cost ≤ l.credit 6)
  | none => false

/-- A record put into the ring, and on its way on VC3 in packets of 32 (R209), suspended at THROTTLE (Table 14.3). -/
def State.traceWrite (s : State) (r : List Byte) : State :=
  let at_ := s.r .clvWritten % max 1 s.traceCap * 16
  let n := min (s.clv.traceCount + 1) s.traceCap
  let s := { s with clv := { s.clv with trace := mwrite 0 s.clv.trace at_ r, traceCount := n } }
  let s := s.count .clvWritten
  if !s.on .clvTraceVc3 ∨ 3 ≤ s.r .thmNodeLevel then s
  else
    let l := s.clv.traceOut ++ r
    if l.length < 512 then { s with clv := { s.clv with traceOut := l } }
    else
      let s := { s with clv := { s.clv with traceOut := [] } }
      let dst := s.monitorNode (s.r .clvTraceDest)
      if s.vc3Room dst 9 then s.sendTo 0x32 dst l else s.count .clvLost 0 32

/-- A record's 16 bytes (Table 5.5). -/
def State.record (s : State) (ev engine feed group slice reason depth first units : Nat) : List Byte :=
  leBytes 4 (shortStamp s.ftNs) ++ [byte ev, byte engine, byte (feed % 8 + 16 * group), byte slice] ++
    leBytes 2 s.clv.frame ++ [byte reason, byte (min depth 255)] ++ leBytes 2 first ++ leBytes 2 units

/-- Entries in use in a group's list. -/
def State.depth (s : State) (g : Nat) : Nat :=
  if g = 0 then s.live .clvReady0 0 else if g = 1 then s.clv.list1.length else if g = 2 then s.clv.list2.length else s.clv.list3.length

/-- An event recorded (R207 to R209). -/
def State.trace (s : State) (ev engine feed group slice reason : Nat) (first : Nat := 0) (units : Nat := 0) : State :=
  if !s.on .clvTraceOn ∨ (traceClass ev ≠ 7 ∧ !bit (s.r .clvClassMask) (traceClass ev)) then s
  else if s.on .clvStopWhenFull ∧ s.traceCap ≤ s.clv.traceCount then
    { s with clv := { s.clv with traceLost := s.clv.traceLost + 1 } }.count .clvLost
  else
    let s := if s.clv.traceLost = 0 then s
      else
        let l := s.record 0x13 0xFF 0 0 0 0 0 0 (min s.clv.traceLost 0xFFFF)
        { s with clv := { s.clv with traceLost := 0 } }.traceWrite l
    s.traceWrite (s.record ev engine feed group slice reason (s.depth group) first units)

/-- The ring and `written` cleared, on a change of size_kib or trace_on (Table 5.8); the records lost so far stand, so that a
records-lost record comes first when recording resumes (R209). -/
def State.traceClear (s : State) : State :=
  { s with clv := { s.clv with trace := [], traceCount := 0, traceOut := [] } }.w .clvWritten 0 0

/-! ### The slice table -/

/-- The frame being composed, and the reading its slices are composed under. -/
def State.composing (s : State) : View := s.ahead s.clv.frame

/-- The latch point of the frame being composed has come. -/
def State.hasLatched (s : State) : Bool := s.lay.latched == s.clv.frame + 1

def State.slice? (s : State) (k j : Nat) : Option Slice := s.clv.slices.find? (fun x => x.feed == k && x.slice == j)
def State.setSlice (s : State) (k j : Nat) (f : Slice → Slice) : State :=
  { s with clv := { s.clv with slices := s.clv.slices.map (fun (x : Slice) => if x.feed = k ∧ x.slice = j then f x else x) } }

/-- The group of a slice (Table 5.3). -/
def State.groupOf (s : State) (k j : Nat) : Nat :=
  match s.slice? k j with
  | some x => x.group
  | none => 0

/-- A slice that needs nothing more from Clover. -/
def Slice.ended (x : Slice) : Bool := x.state == .final || x.state == .cancelled

/-- Every slice of the frame is final or cancelled. -/
def State.framed (s : State) : Bool := s.clv.slices.all (fun x => x.ended)

/-- Engine `e` takes tasks (R205). -/
def State.serves (s : State) (e : Nat) : Bool := bit (s.r .pseInService) e
def State.servers (s : State) : List Nat := (List.range 12).filter s.serves

/-- Entries of a group's list (R190). -/
abbrev listSize : Nat := 256

/-- A slice put into the list of its group, first or last; the entries of group 0 are the plan's slices themselves. -/
def State.list (s : State) (g : Nat) (f : List (Nat × Nat) → List (Nat × Nat)) : State :=
  if g = 1 then { s with clv := { s.clv with list1 := f s.clv.list1 } }
  else if g = 2 then { s with clv := { s.clv with list2 := f s.clv.list2 } }
  else s

/-- A slice whose inputs are complete enters its group's list, or stays WAITING while the list is full (R189, R190). The slices of the
plan are ready with its record (R198). -/
def State.makeReady (s : State) (k j : Nat) : State :=
  match s.slice? k j with
  | some x =>
    if x.state ≠ .waiting then s
    else if listSize ≤ s.depth x.group then s.setSlice k j (fun x => { x with inputs := true })
    else
      let s := s.setSlice k j (fun x => { x with inputs := true, state := .ready, readyAt := s.clk })
      if x.group = 0 then s
      else (s.list x.group (· ++ [(k, j)])).trace 0x01 0xFF k x.group j 0 0 (unitsAcross s.composing)
  | none => s

/-- A task given back by an engine enters its group's list at the head (R206); where the list is full it is WAITING with its inputs
complete, and takes the next entry that frees in its order (R190; DESIGN CHOICE, log entry 81). -/
def State.giveBack (s : State) (k j : Nat) : State :=
  let g := s.groupOf k j
  if listSize ≤ s.depth g then s.setSlice k j (fun x => { x with inputs := true, state := .waiting })
  else (s.setSlice k j (fun x => { x with state := .ready })).list g ((k, j) :: ·)

/-- Waiting slices whose inputs are complete enter the lists, in order of feed and slice (R190). -/
def State.refill (s : State) : State :=
  (s.clv.slices.filter (fun x => x.state == .waiting && x.inputs)).foldl (fun s x => s.makeReady x.feed x.slice) s

/-- Waiting video slices whose source rows have all come become ready (R189). -/
def State.readyVideo (s : State) : State :=
  let v := s.composing
  let l := s.clv.slices.filter (fun x => x.state == .waiting && x.group == 1 && s.sliceInputs v x.feed x.slice)
  l.foldl (fun s x => s.makeReady x.feed x.slice) s

/-! ### Dispatch -/

/-- Tasks of groups 1 and 2 may not be dispatched: the plan is in progress (R197), or slots are being cleared (R247) or
coefficients copied (R236). -/
def State.pixelsHeld (s : State) : Bool := s.clv.waitClear || s.clv.waitCopy || s.clv.waitP || (s.hasLatched && !s.framed)

/-- The engine a service task names (R578): task 64 + e is a chunk of PSE_LBIST on engine e. -/
def serviceEngine (t : Nat) : Option Nat := if 64 ≤ t then some (t - 64) else none

/-- The test a service task is a chunk of (Table 16.1): task n + 8m is one of memory test n on memory m. -/
def testNumber (t : Nat) : Nat := if 64 ≤ t then 1 else t % 8

/-- The service task of a run's chunks, where they run on the pixel core under NEXT_IDLE (R577): LBIST of an engine in service, the
memory tests. -/
def State.serviceTask (s : State) (r : Run) : Option Nat :=
  if r.isLoop ∨ r.when_ ≠ 1 then none
  else if r.kind = 1 then (if s.serves r.index then some (64 + r.index) else none)
  else if r.kind = 3 ∨ r.kind = 4 then some (r.kind + 8 * r.index)
  else none

/-- A chunk of a run starts now; at the first, the run's start is noted (Table 16.3). -/
def State.started (s : State) (r : Run) : Run :=
  if r.start.isSome then r else { r with start := some s.ftNs, startClk := s.clk }

/-- Time of a service task's chunk in ns, rounded up (Table 16.1), and whether it ends before the next latch point (R577). -/
def chunkNs (t : Nat) : Nat := if testNumber t = 1 then 40000 else if testNumber t = 3 then 17067 else 27307
def State.chunkFits (s : State) (t : Nat) : Bool :=
  match s.frame? with
  | none => true
  | some f =>
    let l := if s.ftNs < s.latch (f + 1) then s.latch (f + 1) else s.latch (f + 2)
    decide (s.ftNs + chunkNs t < l)

/-- The first service task that engine `e` may take; it starts at once, so only an engine at work on nothing takes one. -/
def State.serviceFor (s : State) (e : Nat) : Option (Nat × Nat) :=
  if (s.engine e).task.isSome ∨ (s.engine e).service.isSome then none
  else s.clv.list3.find? (fun t => (serviceEngine t.1 == none || serviceEngine t.1 == some e) && s.chunkFits t.1)

/-- A group has a task that engine `e` can take: a video task takes a grant (R193). -/
def State.takable (s : State) (e g : Nat) : Bool :=
  if g = 1 then s.clv.list1 != [] && decide (0 < s.live .clvGrantsFree 0) && !s.pixelsHeld
  else if g = 2 then s.clv.list2 != [] && !s.pixelsHeld
  else (s.serviceFor e).isSome && !(s.hasLatched && !s.framed) &&
    (s.r .clvW3 != 0 || (s.clv.list1 == [] && s.clv.list2 == []))

/-- The weight of a group in the rotation (R191); group 3 of weight 0 takes one turn when it is served. -/
def State.weight (s : State) (g : Nat) : Nat :=
  if g = 1 then s.r .clvW1 else if g = 2 then s.r .clvW2 else max 1 (s.r .clvW3)

/-- The group Clover serves next with a task for engine `e`, and the tasks taken from it so far (R191): a group with none that the
engine can take is passed over. -/
def State.rotation (s : State) (e : Nat) : Option (Nat × Nat) :=
  let cur := if s.clv.rotGroup = 0 then 1 else s.clv.rotGroup
  if s.takable e cur ∧ s.clv.rotTaken < s.weight cur then some (cur, s.clv.rotTaken)
  else
    let n1 := cur % 3 + 1
    let n2 := n1 % 3 + 1
    if s.takable e n1 then some (n1, 0)
    else if s.takable e n2 then some (n2, 0)
    else if s.takable e cur then some (cur, 0)
    else none

/-- Engine `e` starts what its prefetch slot holds (R193). -/
def State.startEngine (s : State) (e : Nat) : State :=
  let x := s.engine e
  match x.prefetch with
  | some (k, j) =>
    if x.task.isSome ∨ x.service.isSome ∨ x.planning then s
    else
      let s := s.setEngine e (fun (x : Engine) => { x with task := some (k, j), prefetch := none, started := s.clk })
      (s.setSlice k j (fun x => { x with state := .running })).trace 0x03 e k (s.groupOf k j) j 0 0
        (unitsAcross s.composing)
  | none => s

/-- A task placed in the prefetch slot of an engine that can take one; a service task starts at once. -/
def State.fillEngine (s : State) (e : Nat) : State :=
  let x := s.engine e
  if !x.awake ∨ !s.serves e ∨ x.prefetch.isSome ∨ x.plan ≠ [] then s
  else
    match s.rotation e with
    | none => s
    | some (g, taken) =>
      let s := { s with clv := { s.clv with rotGroup := g, rotTaken := taken + 1 } }
      if g = 3 then
        match s.serviceFor e with
        | some t =>
          let s := { s with clv := { s.clv with list3 := s.clv.list3.erase t },
                            thm := { s.thm with testing := s.thm.testing.map (fun r => if s.serviceTask r == some t.1 then s.started r else r) } }
          (s.setEngine e (fun (x : Engine) => { x with service := some t.1, started := s.clk })).trace 0x0F e 0 3 0 (testNumber t.1)
        | none => s
      else
        match (if g = 1 then s.clv.list1 else s.clv.list2) with
        | (k, j) :: rest =>
          let s := if g = 1 then { s with clv := { s.clv with list1 := rest } } else { s with clv := { s.clv with list2 := rest } }
          let s := s.setSlice k j (fun x => { x with state := .prefetched, dispatched := true })
          let s := s.setEngine e (fun (x : Engine) => { x with prefetch := some (k, j) })
          (s.trace 0x02 e k g j 0 0 (unitsAcross s.composing)).startEngine e
        | [] => s

/-- Clover dispatches until no engine can take a task: a slot for each engine, and another for those that start at once. -/
def State.dispatch (s : State) : State :=
  let round (s : State) : State := (List.range 12).foldl (fun s e => s.fillEngine e) s
  (round (round s.refill)).refill

/-! ### Lull and Gust -/

/-- Engine `e` wakes (R38). -/
def State.wake (s : State) (e : Nat) : State :=
  if (s.engine e).awake then s
  else s.setEngine e (fun (x : Engine) => { x with awake := true, wokeAt := s.clk, idleSince := s.clk })

/-- An engine with nothing to do. -/
def Engine.idle (x : Engine) : Bool := x.task.isNone && x.prefetch.isNone && x.service.isNone && x.plan.isEmpty

/-- Ready tasks of groups 1 to 3. -/
def State.readyTasks (s : State) : Nat := s.clv.list1.length + s.clv.list2.length + s.clv.list3.length

/-- The oldest ready task has waited gust_wait (R203). -/
def State.waited (s : State) : Bool :=
  s.clv.slices.any (fun x => x.state == .ready && x.group != 0 && decide (x.readyAt + 1000 * s.r .clvGustWait ≤ s.clk)) ||
  s.clv.list3.any (fun t => decide (t.2 + 1000 * s.r .clvGustWait ≤ s.clk))

/-- In-service engines in Lull. -/
def State.sleeping (s : State) : List Nat := s.servers.filter (fun e => !(s.engine e).awake)

/-- The Gust for group 0: every in-service engine wakes (R204). -/
def State.gustPlan (s : State) : State :=
  (s.sleeping.foldl (fun s e => s.wake e) s).trace 0x0C 0xFF 0 0 0 1 0 s.sleeping.length

/-- Engine `e` is named by a ready service task (R578). -/
def State.named (s : State) (e : Nat) : Bool := s.clv.list3.any (fun t => serviceEngine t.1 == some e)

/-- GUST (R203, R204, R578): why it starts, and the engines it wakes: those a ready chunk names, and in ascending order as many of
the others as the other ready tasks exceed the other idle awake engines. -/
def doGust (s : State) : State :=
  if s.held 8 then s
  else
    let idle := (s.servers.filter (fun e => (s.engine e).awake && (s.engine e).idle && !s.named e)).length
    let general := s.readyTasks - (s.clv.list3.filter (fun t => (serviceEngine t.1).isSome)).length
    let woken := s.sleeping.filter s.named ++ (s.sleeping.filter (fun e => !s.named e)).take (general - idle)
    let n := woken.length
    if s.clv.engines.any (fun x => x.plan != [] && !x.awake) then s.gustPlan
    else if s.pixelsHeld ∧ s.clv.list3 = [] then s
    else
      let reason := if s.r .clvGustMin ≤ s.clv.list1.length + s.clv.list2.length then 2 else if s.waited then 3 else 0
      if reason = 0 then s.dispatch
      else if n = 0 then s.dispatch
      else ((woken.foldl (fun s e => s.wake e) s).trace 0x0C 0xFF 0 0 0 reason 0 n).dispatch
def execGust (s : State) : Host.Outcome State Fault Refusal := event doGust s

/-- ENGINE_LULL (R202, R37): idle with an empty prefetch slot for lull_delay × 4 cycles of 1.2 GHz. -/
def doEngineLull (e : Nat) (s : State) : State :=
  let x := s.engine e
  if e < 12 ∧ x.awake ∧ x.idle ∧ 10 * s.r .clvLullDelay ≤ 3 * (s.clk - x.idleSince) then
    (s.setEngine e (fun (x : Engine) => { x with awake := false, outNs := x.outNs + (s.clk - x.wokeAt) })).trace 0x0D e 0 0 0 0
  else s
def execEngineLull (e : Nat) (s : State) : Host.Outcome State Fault Refusal := event (doEngineLull e) s

/-! ### Composition and completion -/

/-- R156: a layer whose lines a slice needs are not all there is left out of its feed for the rest of the frame, from that slice
on: the slice that meets the missing unit is itself composed without it (DESIGN CHOICE, log entry 75). -/
def State.underruns (s : State) (v : View) (k j : Nat) : State :=
  let f := s.clv.frame
  let bad := (videoIn v k j).filter (fun n => !bit (s.omitted f k) n && s.decim n != 0 &&
    !(s.sliceLines v n j).all (s.lineComplete v n k))
  bad.foldl (fun s n =>
    let s := { s with lay := { s.lay with frostUnder := updAt s.lay.frostUnder k (fun m => m ||| 2 ^ n) } }
    ((s.raise .layVUnderrun n).w .layVUnderrunSlice n j).trace 0x12 0xFF k 0 j n) s

/-- The write-back image of the frame is sent when every slice of its feed is final (R173): packets of up to 122 pixels; suspended at
THROTTLE (Table 14.3). The buffer of an image is needed again when the next image is complete (R174; DESIGN CHOICE, log
entry 77). -/
def State.sendMonitor (s : State) : State :=
  let feed := s.r .layWbFeed
  let b := s.r .layWbScale
  let mine := s.clv.slices.filter (fun x => x.feed == feed)
  if !s.lay.wbActive ∨ 3 ≤ s.r .thmNodeLevel ∨ mine = [] ∨ !mine.all (fun x => x.state == .final) then s
  else
    -- the part of an image still unsent is dropped when its buffer is needed again (R174)
    let mineStill (q : Queued) : Bool := q.pkt.ptype == 0x30 && q.pkt.src == s.id
    let s := if s.links.any (fun l => l.queue.any mineStill) then s.count .layWbDrops else s
    let s := { s with links := s.links.map (fun (l : LinkSt) => { l with queue := l.queue.filter (fun q => !mineStill q) }) }
    let rows := mine.flatMap (·.rows)
    let image := rows.zipIdx.flatMap (fun r => (chunks 122 r.1.length r.1).zipIdx.map (fun c => (r.2, 122 * c.2, c.1)))
    let target := s.bnd s.clv.frame
    let dst := s.monitorNode (s.r .layWbDest)
    let s := image.foldl (fun s p =>
      s.sendTo 0x30 dst ([byte feed, byte b] ++ leBytes 2 p.1 ++ leBytes 2 p.2.1 ++ leBytes 2 p.2.2.length ++
        leBytes 4 (shortStamp target) ++ p.2.2.flatMap (leBytes 4))) s
    { s with lay := { s.lay with wbImage := image } }

/-- Every slice of feed `k` is final: its Frost signature (R176). -/
def State.signFeed (s : State) (k : Nat) : State :=
  let mine := s.clv.slices.filter (fun x => x.feed == k)
  if mine ≠ [] ∧ mine.all (fun x => x.state == .final) then
    let sig := mine.foldl (fun a x => a ^^^ x.crc) 0
    { s with lay := { s.lay with
      frostNow := updAt s.lay.frostNow k (fun _ => sig)
      frostLast := updAt s.lay.frostLast k (fun _ => s.r .laySignature k) } }.w .laySignature k sig
  else s

/-- A slice becomes final: its feed is signed, the image sent, and the plan's time kept, once they are complete. -/
def State.finalise (s : State) (e k j : Nat) : State :=
  let v := s.composing
  let g := s.groupOf k j
  let s := s.setSlice k j (fun x => { x with state := .final })
  let s := (s.trace 0x05 e k g j 0 0 (unitsAcross v)).signFeed k
  let s := if k = s.r .layWbFeed then s.sendMonitor else s
  if s.framed then
    let t := s.clk - s.clv.latchAt
    (s.ws [(.clvPlanning, 0), (.clvPlanLast, t)]).w .clvPlanMax 0 (max t (s.r .clvPlanMax))
  else s

/-- Engine `e` has nothing more of its task: it starts its plan share, or the next task (R193). -/
def State.nextTask (s : State) (e : Nat) : State :=
  let x := s.engine e
  if x.plan ≠ [] then
    if s.clv.waitP ∨ x.planning then s
    else
      let s := s.setEngine e (fun (x : Engine) => { x with planning := true, started := s.clk })
      x.plan.foldl (fun s r =>
        ((s.setSlice r.feed r.slice (fun x => { x with state := .running })).trace 0x03 e r.feed 0 r.slice 0 r.first r.units).refill) s
  else
    let s := s.setEngine e (fun (x : Engine) => { x with idleSince := s.clk })
    s.startEngine e

/-- A whole task composed: DONE before the latch point, FINAL after it (Table 5.2). -/
def State.completeTask (s : State) (e k j : Nat) : State :=
  let v := s.composing
  let s := s.underruns v k j
  let s := s.composeUnits v s.clv.frame k j 0 (unitsAcross v)
  let s := match s.slice? k j with
    | some x => s.setSlice k j (fun _ => { sealSlice v (s.signUnits v s.clv.frame x 0 (unitsAcross v)) with state := .done })
    | none => s
  let s := s.setEngine e (fun (x : Engine) => { x with task := none })
  let g := s.groupOf k j
  if s.hasLatched then s.finalise e k j else s.trace 0x04 e k g j 0 0 (unitsAcross v)

/-- An engine's plan share composed: a slice all of whose units are composed is final (R197, R198). -/
def State.completePlan (s : State) (e : Nat) : State :=
  let x := s.engine e
  let s := s.setEngine e (fun (x : Engine) => { x with plan := [], planning := false, idleSince := s.clk })
  x.plan.foldl (fun s r =>
    let v := s.composing
    let s := s.underruns v r.feed r.slice
    let s := s.composeUnits v s.clv.frame r.feed r.slice r.first r.units
    let s := s.setSlice r.feed r.slice (fun x => { s.signUnits v s.clv.frame x r.first r.units with left := x.left - r.units })
    match s.slice? r.feed r.slice with
    | some y =>
      if y.left = 0 ∧ !y.ended then (s.setSlice r.feed r.slice (sealSlice v)).finalise e r.feed r.slice
      else s
    | none => s) s

/-- TASK_COMPLETE (R183, R186, R194, R201): the engine's task, plan share or service task ends, and the engine goes on. -/
def doTaskComplete (e : Nat) (s : State) : State :=
  let x := s.engine e
  if 12 ≤ e ∨ !x.awake ∨ s.held 8 then s
  else
    let s := match x.task with
      | some (k, j) => s.completeTask e k j
      | none =>
        if x.service.isSome then s.setEngine e (fun (x : Engine) => { x with service := none })
        else if x.planning then s.completePlan e
        else s
    (s.nextTask e).dispatch
def execTaskComplete (e : Nat) (s : State) : Host.Outcome State Fault Refusal := event (doTaskComplete e) s

/-! ### Staleness and cancels -/

/-- A dispatched slice marked stale (R195), with its reason of Table 5.6; it is composed again only at the latch point (R196). -/
def State.markStale (s : State) (k j reason : Nat) : State :=
  match s.slice? k j with
  | some x =>
    if !x.dispatched ∨ x.stale ≠ 0 ∨ x.ended then s
    else (s.setSlice k j (fun x => { x with stale := reason })).trace 0x06 0xFF k x.group j reason 0 (unitsAcross s.composing)
  | none => s

/-- Slice (k, j) is one of `l`. -/
def inSlices (l : List Slice) (k j : Nat) : Bool := l.any (fun x => x.feed == k && x.slice == j)

/-- Tasks removed from wherever they are, and cancelled for this frame (R201). -/
def State.removeSlices (s : State) (l : List Slice) : State :=
  let keeps (t : Nat × Nat) : Bool := !inSlices l t.1 t.2
  let strip (e : Engine) : Engine :=
    { e with
      task := e.task.filter keeps
      prefetch := e.prefetch.filter keeps
      plan := e.plan.filter (fun r => keeps (r.feed, r.slice))
      planning := e.planning && e.plan.any (fun r => keeps (r.feed, r.slice))
      idleSince := if e.task.all keeps then e.idleSince else s.clk }
  let s := { s with clv := { s.clv with
    list1 := s.clv.list1.filter keeps, list2 := s.clv.list2.filter keeps, engines := s.clv.engines.map strip } }
  l.foldl (fun s x => (s.setSlice x.feed x.slice (fun x => { x with state := .cancelled })).count .clvCancels) s

/-- The records of the tasks `l` that engine `e` gave up, in its state before: reason 1 feed held, 2 frame boundary. Table 5.6 names
no reason for an abort of a held feed: a free value (log entry 32). -/
def State.engineCancels (s : State) (l : List Slice) (reason e : Nat) (x : Engine) : State :=
  let units := unitsAcross s.composing
  let abort (s : State) (k j first n : Nat) : State :=
    if reason = 2 then s.trace 0x0A e k (s.groupOf k j) j 2 first n
    else
      let d := s.draw 8
      d.2.trace 0x0A e k (s.groupOf k j) j d.1 first n
  let s := match x.task with
    | some (k, j) => if inSlices l k j then abort s k j 0 units else s
    | none => s
  let s := match x.prefetch with
    | some (k, j) => if inSlices l k j then s.trace 0x09 e k (s.groupOf k j) j reason 0 units else s
    | none => s
  if x.planning then
    (x.plan.filter (fun r => inSlices l r.feed r.slice)).foldl (fun s r => abort s r.feed r.slice r.first r.units) s
  else s

/-- The records of the tasks `l` cancelled before their dispatch. -/
def State.ownCancels (s : State) (l : List Slice) (reason : Nat) : State :=
  (l.filter (fun x => x.state == .waiting || x.state == .ready)).foldl (fun s x =>
    s.trace 0x08 0xFF x.feed x.group x.slice reason 0 (unitsAcross s.composing)) s

/-! ### The latch-point plan -/

/-- Remaining cost of the task running on an engine, in cycles of 1.2 GHz. -/
def State.remaining (s : State) (v : View) (e : Nat) : Nat :=
  match (s.engine e).task with
  | some (k, j) => sliceCost v k j - (s.clk - (s.engine e).started) * 6 / 5
  | none => 0

/-- Units dealt to engines in order: unit with cumulative start cost `at_` goes to the engine whose cut range holds it (R198).
`cuts` are the ends of the engines' ranges, times the number of engines. -/
def dealUnits (n : Nat) : (units : List (Nat × Nat × Nat × Nat)) → (at_ : Nat) → (cuts : List (Nat × Nat)) → List (Nat × Nat × Nat × Nat)
  | [], _, _ => []
  | (k, j, u, cost) :: rest, at_, cuts =>
    let e := match cuts.find? (fun c => decide (n * at_ < c.2)) with
      | some c => c.1
      | none => (cuts.getLast?.map (·.1)).getD 0
    (e, k, j, u) :: dealUnits n rest (at_ + cost) cuts

/-- Consecutive units of one slice on one engine joined into a run. -/
def joinRuns : List (Nat × Nat × Nat × Nat) → List (Nat × PlanRun)
  | [] => []
  | (e, k, j, u) :: rest =>
    match joinRuns rest with
    | (e', r) :: more =>
      if e' = e ∧ r.feed = k ∧ r.slice = j ∧ r.first = u + 1 then (e, { r with first := u, units := r.units + 1 }) :: more
      else (e, ⟨k, j, u, 1⟩) :: (e', r) :: more
    | [] => [(e, ⟨k, j, u, 1⟩)]

/-- The ends of the engines' ranges, times n: each engine's share with its running task is (T + Σ r) / n (R198). -/
def planCuts (n total : Nat) : (rs : List (Nat × Nat)) → (at_ : Nat) → List (Nat × Nat)
  | [], _ => []
  | (e, r) :: rest, at_ =>
    let next := at_ + (total - n * r)
    (e, next) :: planCuts n total rest next

/-- The plan formed over the in-service engines (R198). Its slices hold no line-store grant: they leave group 1, and none is
dispatched to a prefetch slot (DESIGN CHOICE, log entry 83). What they gave before is discarded (R186). -/
def State.formPlan (s : State) (l : List Slice) : State :=
  let v := s.composing
  let across := unitsAcross v
  let units := l.flatMap (fun x => (List.range across).map (fun u => (x.feed, x.slice, u, unitCost v x.feed x.slice u)))
  let engines := s.servers
  let n := engines.length
  let rs := engines.map (fun e => (e, s.remaining v e))
  let total := (units.map (fun u => u.2.2.2)).sum + (rs.map (·.2)).sum
  let runs := joinRuns (dealUnits n units 0 (planCuts n total rs 0))
  let s := l.foldl (fun s x => s.setSlice x.feed x.slice (fun y =>
    { y with state := .waiting, inputs := true, group := 0, left := across, stale := 0, signs := [] })) s
  let s := engines.foldl (fun s e => s.setEngine e (fun (x : Engine) => { x with plan := (runs.filter (fun r => r.1 == e)).map (·.2) })) s
  if l = [] then s else s.refill.trace 0x0B 0xFF 0 0 0 0 n units.length

/-- What the latch point takes from engine `e`, in its state before, with its records: tasks of held feeds, a stale task, and a service
task, which restarts from its start later. -/
def State.latchEngine (s : State) (gone stale : List Slice) (e : Nat) (x : Engine) : State :=
  let s := s.engineCancels gone 1 e x
  let s := match x.task with
    | some (k, j) =>
      if inSlices stale k j then
        (s.setEngine e (fun (y : Engine) => { y with task := none, idleSince := s.clk })).trace 0x0A e k
          (s.groupOf k j) j 1 0 (unitsAcross s.composing)
      else s
    | none => s
  let s := s.setEngine e (fun (y : Engine) => { y with prefetch := none, service := none })
  match x.service with
  | some _ => s.trace 0x10 e 0 3 0 0
  | none => s

/-- Clover at the latch point (R197): feeds held are cancelled, stale and unfinished slices join the plan, the others are final,
and every in-service engine wakes. The engines' records come first, Clover's own last (R207). -/
def State.latchClover (s : State) : State :=
  let v := s.composing
  let across := unitsAcross v
  let before := s.clv.engines
  let s := { s with clv := { s.clv with latchAt := s.clk } }
  let gone := s.clv.slices.filter (fun x => bit s.lay.heldFeeds x.feed && !x.ended)
  let s := s.removeSlices gone
  let lost (x : Slice) : Bool := (videoIn v x.feed x.slice).any (fun n => bit (s.lay.leftOut.getD x.feed 0) n)
  let marked := s.clv.slices.filter (fun x => !x.ended && x.dispatched && x.stale == 0 && lost x)
  let s := marked.foldl (fun s x => s.setSlice x.feed x.slice (fun y => { y with stale := 4 })) s
  let aborts := s.clv.slices.filter (fun x => x.state == .running && x.stale != 0)
  let services := before.filterMap (fun x => x.service.map (·, s.clk))
  let s := before.zipIdx.foldl (fun s p => s.latchEngine gone aborts p.2 p.1) s
  let s := s.ownCancels gone 1
  let s := marked.foldl (fun s x => s.trace 0x06 0xFF x.feed x.group x.slice 4 0 across) s
  let squash := s.clv.slices.filter (fun x => x.state == .done && x.stale != 0)
  let s := squash.foldl (fun s x => (s.count .clvSquashes).trace 0x07 0xFF x.feed 0 x.slice x.stale 0 across) s
  let plan : List Slice := s.clv.slices.filter (fun x => !x.ended && !((x.state == .done || x.state == .running) && x.stale == 0))
  let keep := s.clv.slices.filter (fun x => x.state == .done && x.stale == 0)
  let s := { s with clv := { s.clv with list1 := [], list2 := [], list3 := services ++ s.clv.list3 } }
  let s := s.w .clvPlanning 0 1
  let s := keep.foldl (fun s x => s.finalise 0xFF x.feed x.slice) s
  let s := s.formPlan plan
  let s := if plan.isEmpty then s.servers.foldl (fun s e => s.wake e) s else s.gustPlan
  let s := if s.framed then s.ws [(.clvPlanning, 0), (.clvPlanLast, 0)] else s
  s.servers.foldl (fun s e => if (s.engine e).task.isNone then s.nextTask e else s) s

/-- P_DATA_WRITTEN (R171, R197): the staged data is in the protected store, and the plan starts. -/
def doPDataWritten (s : State) : State :=
  if !s.clv.waitP ∨ s.held 8 then s
  else
    let words := s.lay.pWriting.flatMap (fun d => (List.range ((d.bytes.length + 3) / 4 + 1)).map (d.offset / 4 + ·))
    let store := s.lay.pWriting.foldl (fun m d => mwrite 0 m d.offset d.bytes) s.lay.pstore
    let s := { s with lay := { s.lay with pstore := store, pWriting := [], pBad := s.lay.pBad.filter (fun w => !(w ∈ words)) } }
    let s := { s with clv := { s.clv with waitP := false } }
    s.servers.foldl (fun s e => if (s.engine e).task.isNone then s.nextTask e else s) s
def execPDataWritten (s : State) : Host.Outcome State Fault Refusal := event doPDataWritten s

/-! ### Engines out of service -/

/-- Work that joins the plan after the latch point: group 0 is not empty, so every in-service engine wakes (R204), and the lowest of
them composes it after its own share (R198 cuts no second plan; DESIGN CHOICE, log entry 82). -/
def State.joinPlan (s : State) (runs : List PlanRun) : State :=
  match s.servers with
  | h :: _ =>
    let s := (s.setEngine h (fun (y : Engine) => { y with plan := y.plan ++ runs })).gustPlan
    if (s.engine h).task.isNone then s.nextTask h else s
  | [] => s

/-- A slice of a plan share given back is ready again, where no other engine is at work on it. -/
def State.replaned (s : State) (r : PlanRun) : State :=
  if s.clv.engines.any (fun x => x.planning && x.plan.any (fun q => q.feed == r.feed && q.slice == r.slice)) then s
  else (s.setSlice r.feed r.slice (fun y => { y with inputs := true, state := .waiting })).makeReady r.feed r.slice

/-- An engine that leaves service takes no service task that names it, and one that fails gives its own back. -/
def State.dropService (s : State) (e : Nat) (failed : Bool) : State :=
  let others : List (Nat × Nat) := s.clv.list3.filter (fun t => serviceEngine t.1 != some e)
  match (if failed then (s.engine e).service else none) with
  | some t =>
    let back : List (Nat × Nat) := if serviceEngine t = some e then [] else [(t, s.clk)]
    (({ s with clv := { s.clv with list3 := back ++ others } } : State).setEngine e (fun (x : Engine) => { x with service := none, idleSince := s.clk })).trace
      0x10 e 0 3 0 0
  | none => { s with clv := { s.clv with list3 := others } }

/-- Engine `e` no longer serves: what its slot and its plan share hold goes back to Clover (R205, R206); by command (reason 1) it
ends a share it has started. -/
def State.dropEngine (s : State) (e reason : Nat) : State :=
  let x := s.engine e
  let s := (s.trace 0x11 e 0 0 0 reason).dropService e (reason == 2)
  let s := match x.prefetch with
    | some (k, j) =>
      let s := (s.setEngine e (fun (x : Engine) => { x with prefetch := none })).giveBack k j
      s.trace 0x09 e k (s.groupOf k j) j 3 0 (unitsAcross s.composing)
    | none => s
  if x.plan = [] ∨ (x.planning ∧ reason = 1) then s
  else
    let s := s.setEngine e (fun (x : Engine) => { x with plan := [], planning := false, idleSince := s.clk })
    (x.plan.foldl (fun s r => s.replaned r) s).joinPlan x.plan

/-- An engine taken out of service for a fault (R206, Table 13.3): its task, or the plan share it is at work on, is aborted and goes back
to the head of its group, or joins the plan after the latch point. -/
def State.failEngine (s : State) (e : Nat) : State :=
  let x := s.engine e
  let s := (s.w .pseInService 0 (setBit (s.r .pseInService) e false)).raiseBit .pseFault 0 e
  match x.task with
  | some (k, j) =>
    let across := unitsAcross s.composing
    let s := s.setEngine e (fun (x : Engine) => { x with task := none, idleSince := s.clk })
    let s := s.trace 0x0A e k (s.groupOf k j) j 3 0 across
    let s := s.dropEngine e 2
    if s.hasLatched then
      let s := s.setSlice k j (fun y => { y with state := .waiting, inputs := true, group := 0, left := across, signs := [] })
      (s.makeReady k j).joinPlan [⟨k, j, 0, across⟩]
    else (s.giveBack k j).dispatch
  | none =>
    let s := if x.planning then x.plan.foldl (fun s r => s.trace 0x0A e r.feed 0 r.slice 3 r.first r.units) s else s
    s.dropEngine e 2

/-- Cost of an engine's plan share. -/
def shareCost (v : View) (l : List PlanRun) : Nat :=
  (l.map (fun r => ((List.range r.units).map (fun u => unitCost v r.feed r.slice (r.first + u))).sum)).sum

/-- What the engine is at work on, as its cost under R184: a task, or the share of the plan it has started. -/
def State.workCost (s : State) (x : Engine) : Option Nat :=
  match x.task with
  | some (k, j) => some (sliceCost s.composing k j)
  | none => if x.planning then some (shareCost s.composing x.plan) else none

/-- ENGINE_OVERRUN (R206): a task, or a share of the plan, longer than twice its cost plus 1 µs takes its engine out of service. -/
def doEngineOverrun (e : Nat) (s : State) : State :=
  let x := s.engine e
  match s.workCost x with
  | some c => if 12 ≤ e ∨ 6 * (s.clk - x.started) ≤ 10 * c + 6000 then s else s.failEngine e
  | none => s
def execEngineOverrun (e : Nat) (s : State) : Host.Outcome State Fault Refusal := event (doEngineOverrun e) s

/-- A change of in_service by command or write (R205): engines taken out give back what has not started. -/
def State.setService (s : State) (mask : Nat) : State :=
  let gone := (List.range 12).filter (fun e => s.serves e && !bit mask e)
  (gone.foldl (fun s e => s.dropEngine e 1) (s.w .pseInService 0 mask)).dispatch

/-! ### The frame's slices -/

/-- The tasks of frame `f` enter WAITING (R187, R188): one token for each slice of each feed that scans out; the static ones are
ready at once (R189). -/
def State.openFrame (s : State) (f : Nat) : State :=
  let v := s.ahead f
  let one (k j : Nat) : Slice :=
    { feed := k, slice := j, state := .waiting, stale := 0, inputs := false, group := if videoIn v k j = [] then 2 else 1,
      readyAt := 0, dispatched := false, left := 0, signs := [], crc := 0, used := 0, rows := [] }
  let l := (feedsOn v).flatMap (fun k => (List.range (slicesDown v)).map (one k))
  let s := { s with clv := { s.clv with
    frame := f
    slices := l
    list1 := []
    list2 := []
    engines := s.clv.engines.map (fun (e : Engine) => { e with task := none, prefetch := none, plan := [], planning := false }) } }
  (l.filter (fun x => x.group == 2)).foldl (fun s x => s.makeReady x.feed x.slice) s

/-- At B(F): slices not final are cancelled with reason "frame boundary" (R200), and missed. -/
def State.closeFrame (s : State) : State :=
  let before := s.clv.engines
  let l := s.clv.slices.filter (fun x => !x.ended)
  let s := s.removeSlices l
  let s := before.zipIdx.foldl (fun s p => s.engineCancels l 2 p.2 p.1) s
  let s := s.ownCancels l 2
  let s := l.foldl (fun s x => s.trace 0x0E 0xFF x.feed x.group x.slice 0 0 (unitsAcross s.composing)) s
  s.w .clvPlanning 0 0

/-- A feed's back slot holds the whole frame: it has slices, and all are final (R21, R22). -/
def State.feedDone (s : State) (k : Nat) : Bool :=
  let mine := s.clv.slices.filter (fun x => x.feed == k)
  (!mine.isEmpty || slicesDown s.composing == 0) && mine.all (fun x => x.state == .final)

/-! ### Commands (Table 5.11) -/

/-- CLOVER_SET. -/
def actCloverSet : Action := fun c s =>
  if 15 < c.u8 0 ∨ 15 < c.u8 1 ∨ 15 < c.u8 2 then refuse s Status.badArg
  else done (s.ws [(.clvW1, max 1 (c.u8 0)), (.clvW2, max 1 (c.u8 1)), (.clvW3, c.u8 2), (.clvGustMin, max 1 (c.u8 3)),
    (.clvGustWait, clampN 1 1000 (c.u16 4)), (.clvLullDelay, c.u8 6)])
def execCloverSet (c : HostCmd) (s : State) : Host.Outcome State Fault Refusal := .next (runHost 0x0411 actCloverSet c s)

/-- CLOVER_GET. -/
def actCloverGet : Action := fun c s =>
  let l (f : FName) (n : Nat) : List Byte := leBytes n (s.live f 0)
  let data := l .clvReady0 2 ++ l .clvReady1 2 ++ l .clvReady2 2 ++ l .clvReady3 2 ++ l .clvSquashes 4 ++ l .clvCancels 4 ++
    l .clvPlanLast 4 ++ l .clvPlanMax 4 ++ l .pseInService 2 ++ l .pseFault 2 ++ l .clvAwake 2
  done (if c.u8 0 = 0 then s else s.w .clvPlanMax 0 0) data
def execCloverGet (c : HostCmd) (s : State) : Host.Outcome State Fault Refusal := .next (runHost 0x0412 actCloverGet c s)

/-- Trace control fields set, the ring cleared where size_kib or trace_on changes (Table 5.8). -/
def State.setTrace (s : State) (on size : Nat) : State :=
  let change := s.r .clvTraceOn ≠ on ∨ s.r .clvSizeKib ≠ size
  let s := s.ws [(.clvTraceOn, on), (.clvSizeKib, size)]
  if change then s.traceClear else s

/-- TRACE_SET. -/
def actTraceSet : Action := fun c s =>
  let size := c.u16 4
  if size < 16 ∨ 256 < size ∨ size % 16 ≠ 0 then refuse s Status.badArg
  else
    let m := c.u8 1
    let s := s.ws [(.clvClassMask, if bit m 7 then m else m + 128), (.clvStopWhenFull, b2n (c.u8 2 != 0)),
      (.clvTraceVc3, b2n (c.u8 3 != 0)), (.clvTraceDest, c.u16 6 % 4096)]
    done (s.setTrace (b2n (c.u8 0 != 0)) size)
def execTraceSet (c : HostCmd) (s : State) : Host.Outcome State Fault Refusal := .next (runHost 0x0D40 actTraceSet c s)

/-- TRACE_READ: records named by their place in the order written. -/
def actTraceRead : Action := fun c s =>
  let first := c.u32 8
  let count := c.u32 12
  if s.traceCap < count ∨ !s.hostOk (c.u64 0) then refuse s Status.badArg
  else
    let n := min count (s.r .clvWritten - first)
    let l := (List.range n).flatMap (fun i => mread 0 s.clv.trace ((first + i) % max 1 s.traceCap * 16) 16)
    done (s.hostWrite c (c.u64 0) l) (leBytes 4 (s.r .clvWritten) ++ leBytes 4 (first + n) ++ leBytes 4 (s.r .clvLost))
def execTraceRead (c : HostCmd) (s : State) : Host.Outcome State Fault Refusal := .next (runHost 0x0D41 actTraceRead c s)

/-- PSE_SET_SERVICE. -/
def actPseSetService : Action := fun c s =>
  let m := c.u16 0 % 4096
  if m = 0 ∧ s.inShow then refuse s Status.denied else done (s.setService m)
def execPseSetService (c : HostCmd) (s : State) : Host.Outcome State Fault Refusal :=
  .next (runHost 0x0D42 actPseSetService c s)

end Sys2Proof.Machine
end

