-- ==== Sys2Proof/Machine/Commit.lean ====
section
/-! DEFINITION. Commit sets: validation (R618, Table 4.5), cutoffs (R132), timed and sealed commits (R135 to R146, R619 to R621),
capture, application and abandon. -/

namespace Sys2Proof.Machine

/-! ### Staged fields -/

/-- The staged fields with their values. -/
def State.candidate (s : State) : Store :=
  s.staged.foldl (fun l t => match fieldOf t.key with
    | some (f, i) => assocPut l t.key (rget s.shadow f i)
    | none => l) []

/-- The fields of a store whose values differ from a reading. -/
def changesOf (v : View) (l : Store) : Store :=
  l.filter (fun e => match fieldOf e.1 with
    | some (f, i) => v f i != e.2
    | none => false)

/-- Some entry is a field a test selects. -/
def anyField (l : Store) (p : FName → Nat → Bool) : Bool :=
  l.any (fun e => match fieldOf e.1 with
    | some (f, i) => p f i
    | none => false)

/-- A set that changes these fields has the cutoff B(F−1) (R132). -/
def isEarly (changed : Store) : Bool := anyField changed (fun f _ => f ∈ footFields || f ∈ streamFields || f ∈ layoutFields)

/-- Shadows of some keys set back to what will be in effect once the pending sets have applied. -/
def State.revert (s : State) (keys : List Nat) : State :=
  (keys.filter (fun k => !s.staged.any (fun t => t.key == k))).foldl (fun s k => s.setShadow k (s.afterSets k)) s

/-! ### Validation (Table 4.5) -/

/-- A video layer's own checks: zero size, ratio (R159), crop inside the committed size. -/
def videoOk (v : View) (n : Nat) : Bool :=
  v .layVSrcW n != 0 && v .layVSrcH n != 0 && v .layVFullW n != 0 && v .layVFullH n != 0 && v .layVDstW n != 0 &&
  v .layVDstH n != 0 && ratioOk (v .layVDstW n) (v .layVSrcW n) && ratioOk (v .layVDstH n) (v .layVSrcH n) &&
  decide (v .layVSrcX n + v .layVSrcW n ≤ v .layVFullW n) && decide (v .layVSrcY n + v .layVSrcH n ≤ v .layVFullH n)

/-- Units of a video layer once some sets have applied (R163). -/
def State.unitsAfter (s : State) (sets : List CommitSet) (n : Nat) : Nat :=
  ((sets.filterMap (fun c => c.units.getD n none)).getLast?).getD (s.r .layVUnits n)

/-- R163: the video layers a commit changes, in order V0 to V3, each given its need or left with what it holds: the units of each
layer that changes, and the mask of those that do not fit. A set that changes the window changes every footprint, so it
re-allocates all four layers (DESIGN CHOICE, log entry 74). -/
def State.allocate (s : State) (sets : List CommitSet) (new : View) (changed : Store) : List (Option Nat) × Nat :=
  let windowed := anyField changed (fun f _ => f ∈ windowFields)
  let used := ((List.range 4).map (s.unitsAfter sets)).sum
  let r := (List.range 4).foldl (fun (acc : Nat × List (Option Nat) × Nat) n =>
    if windowed || anyField changed (fun f i => i == n && f ∈ footFields) then
      let mine := s.unitsAfter sets n
      let need := s.layerNeed new n
      if need ≤ acc.1 + mine then (acc.1 + mine - need, acc.2.1 ++ [some need], acc.2.2)
      else (acc.1, acc.2.1 ++ [none], acc.2.2 + 2 ^ n)
    else (acc.1, acc.2.1 ++ [none], acc.2.2)) (24576 - used, [], 0)
  r.2

/-- The units of each waiting set worked out again, after the set before it has gone or lost layers (R163); what a set has already
put into effect stands. -/
def State.refit (s : State) : State :=
  let one (before : List CommitSet) (c : CommitSet) : CommitSet :=
    let l := keepFields c.reject c.fields
    if c.undo ≠ [] then c
    else { c with units := (s.allocate before (overlay l (s.after before)) (changesOf (s.after before) l)).1 }
  { s with lay := { s.lay with sets := s.lay.sets.foldl (fun l c => l ++ [one l c]) [] } }

/-- The lamp map meets R230 and R246 under a reading (check 3). -/
def State.mapOk (s : State) (v : View) : Bool := !s.col.mapLoaded || mapMeets v s.col.store

/-- A set's fields are a scan-out or window configuration, or one of R26's terms. -/
def scanConcern (changed : Store) : Bool :=
  anyField changed (fun f _ => (isScanField f && f != .llCurrent) || f ∈ windowFields || f ∈ timingFields || f == .layGuard ||
    f ∈ [.layVEnable, .layVFeedMask, .layGEnable, .layGFeedMask, .layPEnable, .layPFeedMask, .colEmitters4])

/-- A stream's format of Table 3.6, for HOST and CLIP. -/
def streamFormatOk (v : View) (i : Nat) : Bool :=
  v .ingEnable i != 1 || !(v .ingKind i == 2 || v .ingKind i == 3) || (bppOf (v .ingFormat i)).isSome

/-- The checks of Table 4.5 on a set after some pending sets: none where the whole set is refused, else the layers rejected. -/
def State.checkSet (s : State) (sets : List CommitSet) (cand : Store) : Option Nat :=
  let old := s.after sets
  let new := overlay cand old
  let ch := changesOf old cand
  let has (p : FName → Nat → Bool) : Bool := anyField ch p
  let show_ := s.inShow
  if has (fun f _ => f == .ftPeriodNum || f == .ftPeriodDen) && !periodOk (new .ftPeriodNum 0) (new .ftPeriodDen 0) then none
  else if show_ && has (fun f _ => f == .ftAnchorFt || f == .ftAnchorFrame || f == .colEmitters4 || f ∈ windowFields ||
      f ∈ layoutFields || f == .scnGdivM1 || f == .scnScanDelay) then none
  else if (List.range 4).any (fun n => has (fun f i => i == n && f ∈ videoFields) && !videoOk new n) then none
  else if (List.range 4).any (fun g => has (fun f i => i == g && f ∈ graphicFields) &&
      decide (bufferSize < graphicSize (new .layGFormat g) (new .layGW g) (new .layGH g))) then none
  else if has (fun f _ => f ∈ streamFields || f == .ftPeriodNum || f == .ftPeriodDen || f == .layGuard) && s.isHead &&
      (!(List.range 16).all (streamFormatOk new) ||
        !s.streamsFit new (new .ftPeriodNum 0) (new .ftPeriodDen 0) (new .layGuard 0)) then none
  else if has (fun f _ => f ∈ windowFields) && !imageFits new (s.r .layWbScale) (s.r .layWbDiv) then none
  else if scanConcern ch && (scanFault new (!has (fun f _ => isScanField f) || s.mapOk new)
      (if show_ then some old else none)).isSome then none
  else some (s.allocate sets new ch).2

/-- R618: a set against every earlier pending set, and, while a prepared set is held, also without it. -/
def State.validate (s : State) (cand : Store) : Option Nat :=
  let withIt := s.checkSet s.lay.sets cand
  if s.lay.sets.any (fun c => c.state == .prepared) then
    match withIt, s.checkSet (s.lay.sets.filter (fun c => c.state != .prepared)) cand with
    | some a, some b => some (a ||| b)
    | _, _ => none
  else withIt

/-- The changes of a set, against the pending sets with and without a prepared one. -/
def State.allChanges (s : State) (cand : Store) : Store :=
  changesOf (s.after s.lay.sets) cand ++ changesOf (s.after (s.lay.sets.filter (fun c => c.state != .prepared))) cand

/-! ### Cutoffs and planned frames -/

/-- The apply frame of a seal made now (R137): t ≤ cutoff(Fa) − N / D. -/
def State.planSealed (s : State) (early : Bool) (ft : Nat) : Nat :=
  s.firstFrame early (max ft s.nextFrame) (fun c =>
    decide (s.ftNs * s.r .ftPeriodDen + s.r .ftPeriodNum ≤ c * s.r .ftPeriodDen))

/-- A target more than 4,096 frames beyond the current frame (R136); in no frame (R63) the bound counts from F0 (DESIGN CHOICE,
log entry 64). -/
def State.tooFar (s : State) (ft : Nat) : Bool := decide (s.frame?.getD (s.r .ftAnchorFrame) + 4096 < ft)

/-! ### Staleness (R195) -/

/-- A layer takes part in a slice's feed and covers its band. -/
def coversSlice (v : View) (n k j : Nat) : Bool :=
  n ∈ layersIn v k && (List.range (unitsAcross v)).any (fun u => coversUnit v n j u)

/-- P data touches the band of a slice. -/
def dataInBand (v : View) (d : PLoad) (j : Nat) : Bool :=
  let (a, b) := sliceRows v j
  let row := 4 * v .layWinW 0
  decide (d.offset < b * row) && decide (a * row < d.offset + d.bytes.length)

/-- The reason for which a set makes a slice stale (Table 5.6), 0 for none. -/
def staleReason (before after_ : View) (changed : Store) (pdata : List PLoad) (k j : Nat) : Nat :=
  if (List.range 9).any (fun n => anyField changed (fun f i => layerOf f i == some n) &&
      (coversSlice before n k j || coversSlice after_ n k j)) then 1
  else if anyField changed (fun f _ => f == .layBg || f ∈ windowFields || (decide (0x1600 ≤ f.desc.base) && decide (f.desc.base < 0x1A00)))
    then 2
  else if pdata.any (fun d => dataInBand after_ d j) then 3
  else 0

/-- Slices dispatched before a set was accepted for the coming latch point become stale. -/
def State.staleBy (s : State) (before : View) (set_ : CommitSet) : State :=
  if set_.fa ≠ s.clv.frame ∨ s.hasLatched then s
  else
    let new := s.composing
    let ch := changesOf before (keepFields set_.reject set_.fields)
    s.clv.slices.foldl (fun s x =>
      let why := staleReason before new ch set_.pdata x.feed x.slice
      if why = 0 then s else s.markStale x.feed x.slice why) s

/-! ### Capture -/

/-- Every field staged since the previous capture, with the coefficient and P data, goes into a set (R128); what rejected layers
staged goes back. -/
def State.capture (s : State) (id mode : Nat) (state : SetState) (fa : Nat) (late : Bool) (reject origin : Nat) : State :=
  let cand := s.candidate
  let old := s.after s.lay.sets
  let units := (s.allocate s.lay.sets (overlay (keepFields reject cand) old) (changesOf old (keepFields reject cand))).1
  let set_ : CommitSet :=
    { id := id, mode := mode, state := state, fields := cand, early := isEarly (s.allChanges cand), undo := [],
      coef := s.lay.coefStaged, pdata := s.lay.pStaged, fa := fa, late := late, reject := reject, units := units, at_ := s.clk, origin := origin }
  let before := s.composing
  let s := { s with
    staged := []
    lay := { s.lay with sets := s.lay.sets ++ [set_], coefStaged := [], pStaged := [] } }
  let gone := (cand.filter (fun e => (keepFields reject [e]).isEmpty)).map (·.1)
  let s := s.revert gone
  if state = .accepted then s.staleBy before set_ else s

/-- The outcome of a commit noted, the last 256 (COMMIT_STATUS: 2 applied, 3 abandoned). -/
def State.noteCommit (s : State) (id st frame : Nat) : State :=
  let l := s.lay.history.filter (fun h => h.1 ≠ id) ++ [(id, st, frame)]
  { s with lay := { s.lay with history := l.drop (l.length - 256) } }

/-- The next commit ID (R621, Table 4.6). -/
def State.takeCommitId (s : State) : Nat × State :=
  let id := s.mbx.nextCommit
  (id, { s with mbx := { s.mbx with nextCommit := id % 0xFFFF + 1 } })

/-- The data of a COMMIT's responses (Table 4.12). -/
def commitData (id mode fa nodes late refusing reject : Nat) : List Byte :=
  leBytes 2 id ++ [byte mode, 0] ++ leBytes 8 fa ++ leBytes 2 nodes ++ leBytes 2 late ++ leBytes 2 refusing ++ leBytes 2 reject

/-- The free units: the allocated ones and they sum to 24,576 (R163). -/
def State.countUnits (s : State) : State :=
  s.w .layFreeUnits 0 (24576 - ((List.range 4).map (fun n => s.r .layVUnits n)).sum)

/-- The allocations of a set, as writes of the units fields. -/
def CommitSet.unitWrites (c : CommitSet) : Store :=
  c.units.zipIdx.filterMap (fun u => u.1.map (fun k => (FName.layVUnits.key u.2, k)))

/-- Stream fields and allocations that a set had put into effect go back, but for those a later set has changed too. -/
def State.undoSet (s : State) (set_ : CommitSet) : State :=
  State.countUnits <| set_.undo.foldl (fun s e =>
    if s.lay.sets.any (fun c => c.id ≠ set_.id ∧ c.undo.any (fun u => u.1 = e.1)) then s else s.wKey e.1 e.2) s

/-- A set discarded: its fields' staged values go back, its data goes (R237), its command ends with a status, its Fa the planned
frame (R621: that of R135; none is named before a seal). -/
def State.discardSet (s : State) (set_ : CommitSet) (status : Nat) : State :=
  let s := s.undoSet set_
  let s := ({ s with lay := { s.lay with sets := s.lay.sets.filter (fun c => c.id ≠ set_.id) } }).refit
  let s := (s.revert (set_.fields.map (·.1))).noteCommit set_.id 3 set_.fa
  s.complete (.commit set_.id) status (commitData set_.id set_.mode set_.fa 1 0 0 set_.reject)

/-- Staged coefficient data not captured, discarded and its staging space freed, where the set it was staged for is rejected as a
whole: by validation, or by a vote, with whatever status (R237; DEDUCED, log entry 84). -/
def State.dropCoef (s : State) : State := { s with lay := { s.lay with coefStaged := [] } }

/-! ### Sealed commits (Table 4.6) -/

/-- Nodes of a scope whose votes the head awaits: those of its own ring, and one vote for each other ring (R415). -/
def State.voters (s : State) (scope group : Nat) : List Nat :=
  let ns := s.net.map
  let g := graph ns
  let rings := ringLabels ns g
  let mine := rings.getD ((ns.findIdx? (fun m => m.node == s.id)).getD 0) 0
  let own := (ns.zip rings).filter (fun p => p.2 == mine && p.1.node != 0 && p.1.node != s.id &&
    (scope == 0 || decide (group ∈ p.1.groups)))
  let others := (ns.zip rings).filter (fun p => p.2 != mine && p.1.node != 0 && (scope == 0 || decide (group ∈ p.1.groups)))
  own.map (fun p => p.1.node) ++ ((others.map (fun p => 0x1000 + p.2)).eraseDups)

/-- A commit packet to a scope: all nodes, or a multicast group. -/
def State.commitPacket (s : State) (ptype scope group : Nat) (payload : List Byte) (fence : Bool) : State :=
  if scope = 0 then s.route (s.packet ptype 0 0xFFF payload fence) else s.route (s.packet ptype 0 group payload fence true)

/-- An interim response to the commands waiting for `w`, which stay waiting (R621). -/
def State.interim (s : State) (w : Waits) (data : List Byte) : State :=
  let mine := s.mbx.deferred.filter (fun d => d.waits == w && !d.posted)
  mine.foldl (fun s d =>
    let p := s.respond d.cmd (s.response d.cmd Status.accepted false data s.ftNs d.cmd.session)
    let upd (e : Deferred) : Deferred := if e = d then { e with cmd := p.2, posted := true } else e
    { p.1 with mbx := { p.1.mbx with deferred := p.1.mbx.deferred.map upd } }) s

/-- A prepared set is sealed for frame `fa` (R138, R142, Table 4.6 step 5). -/
def State.sealSet (s : State) (id reject fa : Nat) : State :=
  match s.lay.sets.find? (fun c => c.id == id && c.state == .prepared) with
  | none => s
  | some c =>
    let before := s.composing
    let late := match s.cutoff c.early fa with
      | some t => decide (t ≤ s.ftNs)
      | none => true
    let f := if late then s.planTimed c.early s.nextFrame else fa
    let c' := { c with state := .accepted, reject := c.reject ||| reject, fa := f, late := late }
    let s := ({ s with lay := { s.lay with sets := s.lay.sets.map (fun (d : CommitSet) => if d.id = id then c' else d) } }).refit
    let gone := (c.fields.filter (fun e => (keepFields c'.reject [e]).isEmpty)).map (·.1)
    ((s.raiseIf late .layLateCommit).revert gone).staleBy before c'

/-- Payloads of Table 4.7. -/
def preparePayload (id scope group ft : Nat) : List Byte := leBytes 2 id ++ [byte scope, byte group] ++ leBytes 4 0 ++ leBytes 8 ft
def votePayload (id result status reject : Nat) : List Byte :=
  leBytes 2 id ++ [byte result, 0] ++ leBytes 2 status ++ leBytes 2 reject ++ leBytes 8 0
def sealPayload (id reject fa : Nat) : List Byte := leBytes 2 id ++ leBytes 2 reject ++ leBytes 4 0 ++ leBytes 8 fa
def abandonPayload (id status : Nat) : List Byte := leBytes 2 id ++ leBytes 2 status ++ List.replicate 12 0

/-- A run that ends without a seal: its command's final response (R621). -/
def State.endSeal (s : State) (r : SealRun) (status : Nat) : State :=
  ({ s with lay := { s.lay with sealRun := none } }).complete (.seal r.id) status (commitData r.id 1 0 r.nodes 0 r.refusing r.reject)

/-- The head's run ends without a seal: COMMIT_ABANDON to the scope, or, for another ring's commit, its ring's rejecting vote;
its own set goes (Table 4.6 step 3, R139, R144). -/
def State.abandonRun (s : State) (r : SealRun) (status : Nat) : State :=
  let s := { s with lay := { s.lay with acted := r.id :: s.lay.acted } }
  let s := if r.origin = 0 then s.commitPacket 0x1B r.scope r.group (abandonPayload r.id status) false
    else s.sendTo 0x19 r.origin (votePayload r.id 1 status r.reject)
  let s := match s.lay.sets.find? (fun c => c.id == r.id && c.state == .prepared) with
    | some c => s.discardSet c status
    | none => s.noteCommit r.id 3 0
  s.endSeal r status

/-- Early cutoffs hold for a sealed commit unless the head knows its own set to have none: it names Fa for the set it captured,
and for the early cutoff where it captured none (log entry 33). -/
def State.runEarly (s : State) (id : Nat) : Bool :=
  match s.lay.sets.find? (fun c => c.id == id) with
  | some c => c.early
  | none => true

/-- Every vote is in and accepts: COMMIT_SEAL (R137, R138), or the ring's one vote to the head that runs the commit (R415). -/
def State.finishVotes (s : State) (r : SealRun) : State :=
  if r.waiting ≠ [] then s
  else if r.origin ≠ 0 then s.sendTo 0x19 r.origin (votePayload r.id 0 0 r.reject)
  else
    let fa := s.planSealed (s.runEarly r.id) r.ft
    let s := { s with lay := { s.lay with sealRun := none, sealed := r.id :: s.lay.sealed, acted := r.id :: s.lay.acted,
                                          owed := s.lay.owed ++ [(r.id, fa, r.nodes, r.reject)] } }
    let s := s.commitPacket 0x1A r.scope r.group (sealPayload r.id r.reject fa) false
    let s := s.sealSet r.id r.reject fa
    s.interim (.seal r.id) (commitData r.id 1 fa r.nodes 0 0 r.reject)

/-- A head starts steps 1 to 3 for a commit: its own set captured where it is in scope, COMMIT_PREPARE sent with the fence bit. -/
def State.startRun (s : State) (id origin scope group ft reject : Nat) : State :=
  let self := scope = 0 ∨ bit (s.r .netMember (group / 32)) (group % 32)
  let s := if self then s.capture id 1 .prepared 0 false reject (if origin = 0 then s.id else origin) else s
  let w := s.voters scope group
  let w := if origin = 0 then w else w.filter (· < 0x1000)
  let r : SealRun := { id := id, origin := origin, scope := scope, group := group, ft := ft, started := s.clk, waiting := w,
                       nodes := w.length + (if self then 1 else 0), refusing := 0, reject := if self then reject else 0 }
  let s := { s with lay := { s.lay with sealRun := some r, acted := s.lay.acted.filter (· ≠ id), sealed := s.lay.sealed.filter (· ≠ id) } }
  (s.commitPacket 0x18 scope group (preparePayload id scope group ft) true).finishVotes r

/-! ### COMMIT -/

/-- A staged field belongs to an open session other than the command's (R469). -/
def State.foreignStaged (s : State) (c : HostCmd) : Bool :=
  s.staged.any (fun t => t.session ≠ 0 ∧ t.session ≠ c.session ∧ s.mbx.sessions.any (fun x => x.id = t.session))

/-- COMMIT (R131, R135, R136, R140, R146, R469, R620, R621). A timed commit of a scope comes here once on every node, with scope
0 (State.commitForm). -/
def actCommit : Action := fun c s =>
  let mode := c.u8 0
  let scope := c.u8 1
  let ft := c.u64 8
  let no (st : Nat) : Ack := refuse s st (commitData 0 mode 0 1 0 1 0)
  if 1 < mode ∨ 2 < scope ∨ 2 ^ 48 ≤ ft then no Status.badArg
  else if s.foreignStaged c then no Status.locked
  else
    let sealed := mode = 1 ∨ s.periodStaged
    if scope ≠ 0 ∧ !s.isHead then no Status.unsupported
    else if scope ≠ 0 ∧ !s.on .redHolder then no Status.notBound
    else if sealed ∧ s.lay.sealRun.isSome then no Status.busy
    else if 4 ≤ s.lay.sets.length then no Status.busy
    else if s.tooFar ft then no Status.badArg
    else
      match s.validate s.candidate with
      | none => refuse s.dropCoef Status.badArg (commitData 0 mode 0 1 0 1 0)
      | some reject =>
        let (id, s) := s.takeCommitId
        let early := isEarly (s.allChanges s.candidate)
        if scope ≠ 0 ∧ sealed then
          if s.lay.sets.any (fun x => x.state == .prepared) then no Status.busy
          else
            -- the command is deferred before the run starts, so that a seal made at once answers it
            let d : Deferred := ⟨c, .seal id, false⟩
            let s := { s with mbx := { s.mbx with deferred := s.mbx.deferred ++ [d] } }
            let s := s.startRun id 0 (scope - 1) (c.u8 2) ft reject
            let own := s.mbx.deferred.find? (fun e => e.waits == .seal id)
            let s := { s with mbx := { s.mbx with deferred := s.mbx.deferred.filter (fun e => !(e.waits == .seal id)) } }
            (match own with
             | some e =>
               if e.posted then ⟨s, Status.accepted, [], some (.seal id), true, none⟩
               else ⟨s, Status.ok, [], some (.seal id), true, none⟩
             | none => ⟨s, Status.ok, [], none, true, none⟩)
        else
          let fa := if sealed then s.planSealed early ft else s.planTimed early ft
          let late := !sealed && ft != 0 && fa != ft
          let s := s.capture id (b2n sealed) .accepted fa late reject s.id
          let s := s.raiseIf late .layLateCommit
          accept s (.commit id) Status.accepted (commitData id (b2n sealed) fa 1 (b2n late) 0 reject)
def execCommit (c : HostCmd) (s : State) : Host.Outcome State Fault Refusal := .next (runHost 0x0407 actCommit c s)

/-- COMMIT_STATUS. -/
def actCommitStatus : Action := fun c s =>
  let id := c.u16 0
  let say (st fa : Nat) : Ack := done s ([byte st, 0, 0, 0] ++ leBytes 8 fa)
  match s.lay.sets.find? (fun x => x.id == id), s.lay.history.find? (fun h => h.1 == id) with
  | some x, _ => say (if x.state = .prepared then 1 else 0) x.fa
  | none, some h => say h.2.1 h.2.2
  | none, none =>
    (match s.lay.sealRun, s.lay.owed.find? (fun o => o.1 == id) with
     | _, some o => say 0 o.2.1
     | some r, none => if r.id = id then say 1 0 else refuse s Status.badArg
     | none, none => refuse s Status.badArg)
def execCommitStatus (c : HostCmd) (s : State) : Host.Outcome State Fault Refusal := .next (runHost 0x0408 actCommitStatus c s)

/-! ### Commit packets -/

/-- The node acts on commit packets of this origin (R427): its control head; a head, on those of its ring's holder and of the
holder that runs a commit of all rings (R415). -/
def State.heedsCommit (s : State) (src : Nat) : Bool :=
  src != s.id && (if s.isHead then (s.on .redHolder || src == s.r .redTwin) else src == s.controlNow)

/-- COMMIT_PREPARE_RX (Table 4.6 step 2, R131, R140); sessions that end in its cycle lapse first (R468). -/
def doCommitPrepareRx (k : Pkt) (s : State) : State :=
  let s := s.lapseDue
  let id := k.u16 0
  let vote (s : State) (result status reject : Nat) : State := s.sendTo 0x19 k.src (votePayload id result status reject)
  if !s.heedsCommit k.src then vote s 1 Status.notBound 0
  else if s.lay.sets.any (fun c => c.state == .prepared) ∨ 4 ≤ s.lay.sets.length then vote s.dropCoef 1 Status.busy 0
  else
    match s.validate s.candidate with
    | none => vote s.dropCoef 1 Status.badArg 0
    | some reject =>
      if s.isHead ∧ s.on .redHolder then
        if s.lay.sealRun.isSome then vote s.dropCoef 1 Status.busy 0 else s.startRun id k.src (k.u8 2) (k.u8 3) (k.u48 8) reject
      else
        let s := s.capture id 1 .prepared 0 false reject k.src
        let s := { s with lay := { s.lay with acted := s.lay.acted.filter (· ≠ id), sealed := s.lay.sealed.filter (· ≠ id) } }
        vote s 0 0 reject
def execCommitPrepareRx (k : Pkt) (s : State) : Host.Outcome State Fault Refusal := event (doCommitPrepareRx k) s

/-- What a vote from a node stands for among those awaited (R415). -/
def State.voteOf (s : State) (r : SealRun) (src : Nat) : Option Nat :=
  if src ∈ r.waiting then some src
  else
    let ns := s.net.map
    match ns.findIdx? (fun m => m.node == src && m.isHead) with
    | some i =>
      let t := 0x1000 + (ringLabels ns (graph ns)).getD i 0
      if t ∈ r.waiting then some t else none
    | none => none

/-- COMMIT_VOTE_RX (Table 4.6 step 3, R138). -/
def doCommitVoteRx (k : Pkt) (s : State) : State :=
  match s.lay.sealRun with
  | some r =>
    if r.id ≠ k.u16 0 then s
    else
      match s.voteOf r k.src with
      | none => s
      | some w =>
        let r := { r with waiting := r.waiting.filter (· ≠ w), reject := r.reject ||| k.u16 6,
                          refusing := r.refusing + (if k.u8 2 = 0 then 0 else 1) }
        let s := { s with lay := { s.lay with sealRun := some r } }
        if k.u8 2 ≠ 0 then s.abandonRun r (k.u16 4) else s.finishVotes r
  | none => s
def execCommitVoteRx (k : Pkt) (s : State) : Host.Outcome State Fault Refusal := event (doCommitVoteRx k) s

/-- The first copy of a seal or abandon of a commit (R141); a standby head relays each, a holder sends it into its ring, and the
seal is recorded (Table 4.6 step 4, R415). -/
def State.heard (s : State) (k : Pkt) (id : Nat) : Option State :=
  if !s.heedsCommit k.src ∨ id ∈ s.lay.acted then none
  else
    let s := { s with lay := { s.lay with acted := (id :: s.lay.acted).take 256 } }
    if s.isHead then
      some (if s.on .redHolder then
          match s.lay.sealRun with
          | some r => { (s.commitPacket k.ptype r.scope r.group k.payload false) with lay := { s.lay with sealRun := none } }
          | none => s
        else s.route { k with ttl := 255 })
    else some s

/-- COMMIT_SEAL_RX. -/
def doCommitSealRx (k : Pkt) (s : State) : State :=
  match s.heard k (k.u16 0) with
  | none => s
  | some s =>
    let s := { s with lay := { s.lay with sealed := (k.u16 0 :: s.lay.sealed).take 256 } }
    s.sealSet (k.u16 0) (k.u16 2) (k.u48 8)
def execCommitSealRx (k : Pkt) (s : State) : Host.Outcome State Fault Refusal := event (doCommitSealRx k) s

/-- COMMIT_ABANDON_RX; a head whose own run it ends answers its command (R143, R621). -/
def doCommitAbandonRx (k : Pkt) (s : State) : State :=
  match s.heard k (k.u16 0) with
  | none => s
  | some t =>
    let s := match s.lay.sealRun with
      | some r => if r.id = k.u16 0 then t.endSeal r (k.u16 2) else t
      | none => t
    match s.lay.sets.find? (fun c => c.id == k.u16 0 && c.state == .prepared) with
    | some c => s.discardSet c (k.u16 2)
    | none => s
def execCommitAbandonRx (k : Pkt) (s : State) : Host.Outcome State Fault Refusal := event (doCommitAbandonRx k) s

/-- VOTE_TIMEOUT (R139): 100 ms after COMMIT_PREPARE; a ring's holder rejects to the head it works for. -/
def doVoteTimeout (s : State) : State :=
  match s.lay.sealRun with
  | some r => if r.waiting ≠ [] ∧ r.started + 100000000 ≤ s.clk then s.abandonRun r Status.timeout else s
  | none => s
def execVoteTimeout (s : State) : Host.Outcome State Fault Refusal := event doVoteTimeout s

/-- PREPARED_SET_EXPIRE (R145): a prepared set held for 1 s. -/
def doPreparedSetExpire (s : State) : State :=
  match s.lay.sets.find? (fun c => c.state == .prepared && decide (c.at_ + 1000000000 ≤ s.clk)) with
  | some c => (s.discardSet c Status.aborted).raise .laySealLost
  | none => s
def execPreparedSetExpire (s : State) : Host.Outcome State Fault Refusal := event doPreparedSetExpire s

/-- A new active head abandons every prepared commit it has not recorded as sealed, and a run of its own from before (R143, R416). -/
def State.abandonPrepared (s : State) : State :=
  let s := match s.lay.sealRun with
    | some r => s.endSeal r Status.aborted
    | none => s
  let l := s.lay.sets.filter (fun c => c.state == .prepared && !(c.id ∈ s.lay.sealed))
  l.foldl (fun s c =>
    let s := s.commitPacket 0x1B 0 0 (abandonPayload c.id Status.aborted) false
    let s := { s with lay := { s.lay with acted := c.id :: s.lay.acted } }
    s.discardSet c Status.aborted) s

/-! ### Application -/

/-- Fields of a set that do not take effect at its latch point: scan-out, timing and current fields wait for B(Fa), and so does
the guard, which the latch point of Fa + 1 is computed with (Table 4.5a, State.guardFor). -/
def isLater (f : FName) : Bool := isScanField f || f ∈ timingFields || f == .layGuard

/-- Derived colour state after a set (R228, R624): zone factors without slew where a node gain changed. -/
def State.gainsChanged (s : State) (ch : Store) : State :=
  if anyField ch (fun f _ => f ∈ [.colGainE0, .colGainE1, .colGainE2, .colGainE3]) then
    (List.range 96).foldl (fun s z =>
      (List.range 4).foldl (fun s e =>
        s.w (zoneField e) z (s.zoneGoal (fun f i => s.r f i) (toInt 16 (s.col.temps.getD z 0)) e)) s) s
  else s

/-- The lamps whose status may change from UNMEASURED: those of the lit pixels of the window (R308). -/
def State.litLamps (s : State) : List Nat :=
  let v : View := fun f i => s.r f i
  if !s.col.mapLoaded then []
  else
    (windowPixels v).flatMap (fun p =>
      let e := mapEntry s.col.store p
      if entryLit e then (entryLamps v e).map (fun x => 4 * p + x.1) else [])

/-- The count of UNMEASURED lamps of lit pixels (Table 8.9). -/
def State.countLamps (s : State) : State :=
  s.w .dgnUnmeasured 0 (s.litLamps.filter (fun l => sget 0 s.lan.status l == 0)).length

/-- The counter of a status (R306). -/
def lampCount (code : Nat) : FName :=
  if code = 1 then .dgnOk else if code = 2 then .dgnOpen else if code = 3 then .dgnShort else .dgnUnmeasured

/-- A lamp's status becomes a code: the counts follow, and an event is queued where it enters or leaves OPEN or SHORT (R309). -/
def State.putLamp (s : State) (lamp code : Nat) : State :=
  let old := sget 0 s.lan.status lamp
  if code = old then s
  else
    let s := { s with lan := { s.lan with status := sput 0 s.lan.status lamp code } }
    let s := s.w (lampCount old) 0 (s.r (lampCount old) - 1)
    let s := s.count (lampCount code)
    if old < 2 ∧ code < 2 then s
    else
      let s := if 64 ≤ s.lan.events.length then s.raise .dgnEventOverflow
        else { s with lan := { s.lan with events := s.lan.events ++ [(lamp, code)] } }
      s.raise .dgnNewFault

/-- The lamps of a condition become UNMEASURED again, in ascending order. -/
def State.forgetLamps (s : State) (p : Nat → Bool) : State :=
  ((s.lan.status.filter (fun e => p e.1)).foldl (fun s e => s.putLamp e.1 0) s).countLamps

/-- The loaded map judged against the settings in effect (R624). -/
def State.judgeMap (s : State) : State :=
  (s.w .colMapValid 0 (b2n (s.col.mapLoaded && !s.col.wholeReload && mapMeets (fun f i => s.r f i) s.col.store))).countLamps

/-- The commit that this head sealed has applied: its final response, with the nodes that this head knows to be late, which is
itself alone, since no packet reports another's (R621; log entry 78). -/
def State.endOwed (s : State) (id status fa late : Nat) : State :=
  match s.lay.owed.find? (fun o => o.1 == id) with
  | none => s
  | some o =>
    let s := { s with lay := { s.lay with owed := s.lay.owed.filter (fun o => o.1 ≠ id) } }
    s.complete (.seal id) status (commitData id 1 fa o.2.2.1 late 0 o.2.2.2)

/-- A set applies at its latch point (R133, R134): fields and allocations that it has not put into effect at B(Fa − 1), its data and its
guard; its command ends, and so does the commit this head sealed it for (R621). -/
def State.applySet (s : State) (c : CommitSet) : State :=
  let fields := keepFields c.reject c.fields
  let before := s.now
  let ch := changesOf before fields
  let part (p : FName → Bool) : Store := fields.filter (fun e => match fieldOf e.1 with
    | some (f, _) => p f
    | none => false)
  let s := (part (fun f => !isLater f)).foldl (fun s e => s.wKey e.1 e.2) s
  let s := ((c.unitWrites.filter (fun e => !c.undo.any (fun u => u.1 == e.1))).foldl (fun s e => s.wKey e.1 e.2) s).countUnits
  let due := (part isLater).foldl (fun l e => assocPut l e.1 e.2) s.lay.due
  let sized := (List.range 4).filter (fun n => anyField ch (fun f i => i == n && (f == .layVFullW || f == .layVFullH)))
  let s := { s with
    lay := { s.lay with
      sets := s.lay.sets.filter (fun d => d.id ≠ c.id)
      due := due
      sizes := s.lay.sizes.zipIdx.map (fun (p : Option (Nat × Nat) × Nat) => if p.2 ∈ sized then none else p.1)
      pWriting := s.lay.pWriting ++ c.pdata }
    col := { s.col with copying := s.col.copying ++ c.coef } }
  let s := s.gainsChanged ch
  let s := if anyField ch (fun f _ => f == .colEmitters4) && !s.on .colEmitters4 then s.forgetLamps (fun l => l % 4 == 3) else s
  let s := if anyField ch (fun f _ => f == .colEmitters4 || f ∈ windowFields) then s.judgeMap else s
  let s := (s.ws [(.layLastId, c.id), (.layLastFrame, c.fa)]).noteCommit c.id 2 c.fa
  let s := s.raiseIf c.late .layLateCommit
  let status := if c.late then Status.late else Status.ok
  (s.complete (.commit c.id) status (commitData c.id c.mode c.fa 1 (b2n c.late) 0 c.reject)).endOwed c.id status c.fa (b2n c.late)

/-- The sets of frame `f` apply at its latch point, in order of acceptance (R131). A commit that this head sealed and is not in the
scope of ends at its planned frame (R621). -/
def State.applySets (s : State) (f : Nat) : State :=
  let s := (s.setsFor f).foldl (fun s c => s.applySet c) s
  let due := s.lay.owed.filter (fun o => decide (o.2.1 ≤ f) && !s.lay.sets.any (fun c => c.id == o.1))
  due.foldl (fun s o => s.endOwed o.1 Status.ok o.2.1 0) s

/-- At a boundary of frame `f`: sets whose latch point has passed without them are late, from that latch point on, or from this
boundary where it has re-anchored the boundaries (R619). -/
def State.replan (s : State) (f : Nat) (anchored : Bool) : State :=
  s.lateSets (fun c => decide (c.fa ≤ f)) (fun c => if anchored then s.ftNs else min s.ftNs (s.latch c.fa))

/-- At B(Fa − 1): stream fields take effect for the send window of Fa (R134), and allocations switch (R164). -/
def State.openSets (s : State) (fa : Nat) : State :=
  let s := (s.setsFor fa).foldl (fun s c =>
    let mine := c.fields.filter (fun e => match fieldOf e.1 with
      | some (f, _) => f ∈ streamFields
      | none => false)
    let mine := mine ++ c.unitWrites
    let undo := mine.filterMap (fun e => (fieldOf e.1).map (fun p => (e.1, s.r p.1 p.2)))
    let s := mine.foldl (fun s e => s.wKey e.1 e.2) s
    { s with lay := { s.lay with sets := s.lay.sets.map (fun d => if d.id = c.id then { d with undo := undo } else d) } }) s
  s.countUnits

end Sys2Proof.Machine
end

