-- ==== Sys2Proof/Machine/Layers.lean ====
section
/-! DEFINITION. The layer commands of Table 4.12 but for COMMIT, stream packets and markers received (R149, R151, R165, R428), and
the write-back ring of a head (R175). -/

namespace Sys2Proof.Machine

/-! ### Staging commands -/

/-- A byte that stands for a flag: any non-zero value is 1 (log entry 34). -/
def HostCmdFlag (c : HostCmd) (off : Nat) : Nat := b2n (c.u8 off != 0)

/-- Words of a register block as BAR0 returns them. -/
def State.words (s : State) (off n : Nat) : List Byte := (List.range n).flatMap (fun i => leBytes 4 (s.bar0 (off + 4 * i)))

/-- LAYER_GET: block words +0x00 to +0x24. -/
def actLayerGet : Action := fun c s =>
  if 8 < c.u8 0 then refuse s Status.badArg else done s (s.words (0x1000 + 0x40 * c.u8 0) 10)
def execLayerGet (c : HostCmd) (s : State) : Host.Outcome State Fault Refusal := .next (runHost 0x0400 actLayerGet c s)

/-- LAYER_SET_VIDEO. A stream above 15 does not fit the field (Table 4.5). -/
def actLayerSetVideo : Action := fun c s =>
  let n := c.u8 0
  if 3 < n ∨ 15 < c.u8 2 then refuse s Status.badArg
  else done (s.stages c.session [(.layVEnable, n, HostCmdFlag c 1), (.layVStream, n, c.u8 2), (.layVPolicy, n, HostCmdFlag c 3),
    (.layVAlpha, n, c.u8 4), (.layVFeedMask, n, c.u8 5), (.layVHoldMax, n, c.u8 6), (.layVSrcX, n, c.u16 8), (.layVSrcY, n, c.u16 10),
    (.layVSrcW, n, c.u16 12), (.layVSrcH, n, c.u16 14), (.layVFullW, n, c.u16 16), (.layVFullH, n, c.u16 18),
    (.layVDstX, n, c.u32 20), (.layVDstY, n, c.u32 24), (.layVDstW, n, c.u16 28), (.layVDstH, n, c.u16 30)])
def execLayerSetVideo (c : HostCmd) (s : State) : Host.Outcome State Fault Refusal :=
  .next (runHost 0x0401 actLayerSetVideo c s)

/-- LAYER_SET_GRAPHIC. -/
def actLayerSetGraphic : Action := fun c s =>
  let g := c.u8 0 - 4
  if c.u8 0 < 4 ∨ 7 < c.u8 0 then refuse s Status.badArg
  else done (s.stages c.session [(.layGEnable, g, HostCmdFlag c 1), (.layGFormat, g, HostCmdFlag c 2), (.layGBuffer, g, HostCmdFlag c 3),
    (.layGAlpha, g, c.u8 4), (.layGFeedMask, g, c.u8 5), (.layGX, g, c.u16 8), (.layGY, g, c.u16 10), (.layGW, g, c.u16 12),
    (.layGH, g, c.u16 14)])
def execLayerSetGraphic (c : HostCmd) (s : State) : Host.Outcome State Fault Refusal :=
  .next (runHost 0x0402 actLayerSetGraphic c s)

/-- Buffer `b` of graphic layer `g` may not be written: it is active, or a pending set whose cutoff has passed will make it active
(R168). -/
def State.graphicShut (s : State) (g b : Nat) : Bool :=
  s.r .layGBuffer g == b ||
  s.lay.sets.any (fun c => c.state == .accepted && assoc (keepFields c.reject c.fields) (FName.layGBuffer.key g) == some b &&
    (match s.cutoff c.early c.fa with
     | some t => decide (t ≤ s.ftNs)
     | none => true))

/-- LAYER_WRITE_GRAPHIC (R167 to R169): words written are sound again (Table 1.5). -/
def actLayerWriteGraphic : Action := fun c s =>
  let g := c.u8 0 - 4
  let b := c.u8 1
  let off := c.u32 4
  let n := c.u32 8
  if c.u8 0 < 4 ∨ 7 < c.u8 0 ∨ 1 < b ∨ bufferSize < off + n then refuse s Status.badArg
  else if s.graphicShut g b then refuse s Status.denied
  else
    match s.hostRead c (c.u64 16) n with
    | none => refuse s Status.badArg
    | some l =>
      let a := graphicBase g b + off
      done { s with lay := { s.lay with
        graphic := mwrite 0 s.lay.graphic a l
        graphicBad := s.lay.graphicBad.filter (fun w => !(decide (a ≤ 4 * w + 3) && decide (4 * w < a + n))) } }
def execLayerWriteGraphic (c : HostCmd) (s : State) : Host.Outcome State Fault Refusal :=
  .next (runHost 0x0403 actLayerWriteGraphic c s)

/-- LAYER_SET_WINDOW. -/
def actLayerSetWindow : Action := fun c s =>
  done (s.stages c.session [(.layWinX, 0, c.u32 0), (.layWinY, 0, c.u32 4), (.layWinW, 0, c.u16 8), (.layWinH, 0, c.u16 10)])
def execLayerSetWindow (c : HostCmd) (s : State) : Host.Outcome State Fault Refusal :=
  .next (runHost 0x0404 actLayerSetWindow c s)

/-- LAYER_SET_BG. -/
def actLayerSetBg : Action := fun c s => done (s.stage c.session .layBg 0 (c.u32 0 % 2 ^ 30))
def execLayerSetBg (c : HostCmd) (s : State) : Host.Outcome State Fault Refusal := .next (runHost 0x0405 actLayerSetBg c s)

/-- LAYER_SET_GUARD. -/
def actLayerSetGuard : Action := fun c s => done (s.stage c.session .layGuard 0 (c.u16 0))
def execLayerSetGuard (c : HostCmd) (s : State) : Host.Outcome State Fault Refusal :=
  .next (runHost 0x0406 actLayerSetGuard c s)

/-! ### The protected layer (R170, R171, R616, R617) -/

/-- The check of the key: LOCKED, then the key; a match clears key_fails, the eighth refusal in a row locks. -/
def State.checkKey (s : State) (key : Nat) : Except Ack State :=
  if s.on .layPKeyLocked then .error (refuse s Status.locked)
  else if s.lay.pKey = 0 ∨ key = s.lay.pKey then .ok (s.w .layPKeyFails 0 0)
  else
    let n := s.r .layPKeyFails + 1
    let s := s.w .layPKeyFails 0 n
    .error (refuse (if 8 ≤ n then s.w .layPKeyLocked 0 1 else s) Status.denied)

/-- P_SET. -/
def actPSet : Action := fun c s =>
  match s.checkKey (c.u64 0) with
  | .error a => a
  | .ok s => done (s.stages c.session [(.layPEnable, 0, HostCmdFlag c 8), (.layPAlpha, 0, c.u8 9), (.layPFeedMask, 0, c.u8 10)])
def execPSet (c : HostCmd) (s : State) : Host.Outcome State Fault Refusal := .next (runHost 0x0409 actPSet c s)

/-- P_WRITE: at most 256 KiB staged since the last capture. -/
def actPWrite : Action := fun c s =>
  match s.checkKey (c.u64 0) with
  | .error a => a
  | .ok s =>
    let off := c.u32 8
    let n := c.u32 12
    if bufferSize < off + n ∨ 0x40000 < (s.lay.pStaged.map (·.bytes.length)).sum + n then refuse s Status.badArg
    else
      match s.hostRead c (c.u64 16) n with
      | none => refuse s Status.badArg
      | some l => done { s with lay := { s.lay with pStaged := s.lay.pStaged ++ [⟨off, l, c.session⟩] } }
def execPWrite (c : HostCmd) (s : State) : Host.Outcome State Fault Refusal := .next (runHost 0x040A actPWrite c s)

/-- P_KEY: the key takes effect at once and is kept in the settings store. -/
def actPKey : Action := fun c s =>
  match s.checkKey (c.u64 0) with
  | .error a => a
  | .ok s => done (({ s with lay := { s.lay with pKey := c.u64 8 } }).putSetting keyTag (leBytes 8 (c.u64 8)))
def execPKey (c : HostCmd) (s : State) : Host.Outcome State Fault Refusal := .next (runHost 0x040B actPKey c s)

/-! ### Write-back -/

/-- WB_SET. -/
def actWbSet : Action := fun c s =>
  let div := max 1 (c.u8 3)
  if 7 < c.u8 1 ∨ 3 < c.u8 2 ∨ 0xFFF < c.u16 4 ∨
      !imageFits (fun f i => s.r f i) (c.u8 2) div then refuse s Status.badArg
  else done (s.ws [(.layWbOn, HostCmdFlag c 0), (.layWbFeed, c.u8 1), (.layWbScale, c.u8 2), (.layWbDiv, div), (.layWbDest, c.u16 4)])
def execWbSet (c : HostCmd) (s : State) : Host.Outcome State Fault Refusal := .next (runHost 0x040C actWbSet c s)

/-- Bytes of one monitor frame that a ring buffer holds. -/
def WbRing.size (x : WbRing) (len : Nat) : Nat := len / max 1 x.bufs

/-- WB_RING (R175): the ring holds at least one line of its pitch in each buffer; each buffer is an equal part of the allocation
(log entry 35). -/
def actWbRing : Action := fun c s =>
  if !s.isHead then refuse s Status.unsupported
  else
    match s.bufOf (c.u32 0) with
    | none => refuse s Status.badArg
    | some b =>
      let n := c.u8 4
      if n < 2 ∨ 4 < n ∨ 3 < c.u8 5 ∨ c.u32 16 = 0 ∨ b.length / max 1 n < 4 * c.u32 16 then refuse s Status.badArg
      else
        let x : WbRing := { handle := b.handle, csa := b.csa, bufs := n, scale := c.u8 5, x0 := c.s32 8, y0 := c.s32 12,
                            pitch := c.u32 16, frames := [], next := 0, ended := 0 }
        done { s with ing := { s.ing with wbRing := some x } }
def execWbRing (c : HostCmd) (s : State) : Host.Outcome State Fault Refusal := .next (runHost 0x040D actWbRing c s)

/-! ### Frost and the scaler sets -/

/-- The ready mask a report carries: bits [8:0], Table 4.1; graphic layers, P and the background are always ready (R147). -/
def State.readyMask (s : State) (k : Nat) : Nat :=
  s.lay.frostReady.getD k 0 % 16 + 0x1F0

/-- FROST_GET: the last signature of a feed and the one before it; on a head, of another node as its reports gave them (log entry 79). -/
def actFrostGet : Action := fun c s =>
  let k := c.u8 2
  let own : Bool := c.u16 0 == 0 || c.u16 0 == s.id
  if own ∧ 7 < k then refuse s Status.badArg
  else if own then done s (leBytes 4 (s.r .laySignature k) ++ leBytes 4 (s.lay.frostLast.getD k 0) ++ leBytes 2 (s.readyMask k) ++
    [byte (b2n (bit s.lay.heldFeeds k) + 2 * b2n (bit (s.r .scnComposeMiss) k) + 4 * b2n (bit (s.r .layFrozen) k)),
     byte (min 255 (s.lay.frostCounted.getD k 0))] ++ leBytes 4 s.lay.frostTarget)
  else
    match s.lay.reports.find? (fun x => x.node == c.u16 0 && x.feed == k) with
    | some x => done s (getBytes x.bytes 8 4 ++ leBytes 4 x.previous ++ getBytes x.bytes 6 2 ++ getBytes x.bytes 5 1 ++
        [byte (min 255 x.counted)] ++ getBytes x.bytes 0 4)
    | none => refuse s Status.noNode
def execFrostGet (c : HostCmd) (s : State) : Host.Outcome State Fault Refusal := .next (runHost 0x040E actFrostGet c s)

/-- FROST_SET. -/
def actFrostSet : Action := fun c s =>
  done (s.ws [(.layFrostFrames, max 1 (c.u8 0)), (.layFrostOn, HostCmdFlag c 1), (.layFrostReport, HostCmdFlag c 2)])
def execFrostSet (c : HostCmd) (s : State) : Host.Outcome State Fault Refusal := .next (runHost 0x040F actFrostSet c s)

/-- The coefficient sets as LAYER_GET_COEF writes them: 14,352 bytes. -/
def scalerTable : List Byte :=
  let tap (t : BitVec 16) : List Byte := leBytes 2 t.toNat
  ([8, 0, 1, 6, 1, 4, 1, 3, 1, 2, 2, 3, 5, 6, 1, 1] : List Nat).map byte ++
    (List.range 8).flatMap (fun b =>
      ((List.range 64).flatMap (fun ph => (List.range 8).flatMap (fun t => tap (Config.scalerTap b false ph t)))) ++
      ((List.range 64).flatMap (fun ph => (List.range 6).flatMap (fun t => tap (Config.scalerTap b true ph t)))))

/-- LAYER_GET_COEF. -/
def actLayerGetCoef : Action := fun c s =>
  if c.u32 8 < 14352 ∨ !s.hostOk (c.u64 0) then refuse s Status.badArg
  else done (s.hostWrite c (c.u64 0) scalerTable) (leBytes 4 14352)
def execLayerGetCoef (c : HostCmd) (s : State) : Host.Outcome State Fault Refusal :=
  .next (runHost 0x0410 actLayerGetCoef c s)

/-! ### Packets of a stream -/

/-- The reading that the frame being received is received under: its footprints are those of its own sets (R132, R164). -/
def State.receivingView (s : State) : View := s.ahead s.lay.receiving

/-- The node receives a frame, and a time is its boundary (R151). -/
def State.forFrame (s : State) (t : Option Nat) : Bool := s.lay.receiving != 0 && t == some (s.bnd s.lay.receiving)

/-- A pixel is kept: it lies in a stored line of the footprint of an enabled layer that takes the copy (R162, R165). -/
def State.keeps (s : State) (v : View) (stream feed line px : Nat) : Bool :=
  (List.range 4).any (fun n => v .layVEnable n == 1 && v .layVStream n == stream && bit (v .layVFeedMask n) feed &&
    s.decim n != 0 && (match s.layerFoot v n with
      | some f =>
        let (a, b) := keptCols f (s.layerFmt v n)
        storedLine f (s.decim n) line && decide (a ≤ px) && decide (px < b)
      | none => false))

/-- A packet more from a head for a stream (R428). -/
def countPacket (stream src : Nat) : List PktCount → List PktCount
  | [] => [⟨stream, src, 1⟩]
  | x :: r => if x.stream = stream ∧ x.src = src then { x with count := x.count + 1 } :: r else x :: countPacket stream src r

/-- STREAM_PACKET_RX (R28, R151, R162, R428): the kept pixels go into the line stores by line and first_pixel. -/
def doStreamPacketRx (k : Pkt) (s : State) : State :=
  let stream := k.u8 0 % 16
  let feed := bits (k.u8 0) 6 4
  let (t, s) := s.takeStamp (k.u32 8)
  if !s.forFrame t then { s with lay := { s.lay with wrongTarget := s.lay.wrongTarget + 1 } }
  else
    let v := s.receivingView
    let bpp := (bppOf (k.u8 1)).getD 0
    let line := k.u16 2
    let first := k.u16 4
    let data := leVal (k.payload.drop 12)
    let put (m : Store) (i : Nat) : Store :=
      if s.keeps v stream feed line (first + i) then sput 0 m (pixelKey stream feed line (first + i)) (data / 2 ^ (bpp * i) % 2 ^ bpp + 1)
      else m
    let lines := (List.range (min 500 (k.u16 6))).foldl put s.lay.lines
    let s := { s with lay := { s.lay with lines := lines, counts := countPacket stream k.src s.lay.counts } }
    if s.clv.frame = s.lay.receiving ∧ !s.held 8 then s.readyVideo.dispatch else s
def execStreamPacketRx (k : Pkt) (s : State) : Host.Outcome State Fault Refusal := event (doStreamPacketRx k) s

/-- The slack of a stream from a head against the latch point of frame `f`, the smallest since it was cleared (R393). -/
def State.noteSlack (s : State) (stream src f : Nat) : State :=
  let slack : Int := (s.latch f : Int) - s.ftNs
  let keep (s : State) (f : FName) : State :=
    if slack < toInt 32 (s.r f stream) then s.w f stream (ofInt 32 (max (-2147483648) slack)) else s
  if src = 0 then s
  else if src = s.red.headIds.getD 0 0 then keep s .netSlackA
  else if src = s.red.headIds.getD 1 0 then keep s .netSlackB
  else s

/-- The frame before the one being received whose boundary a marker names: it comes too late, and has a slack all the same (R393). -/
def State.pastFrame (s : State) (t : Option Nat) : Option Nat :=
  if s.lay.receiving = 0 then none
  else ((List.range 4).map (s.lay.receiving - 1 - ·)).find? (fun f => t == some (s.bnd f))

/-- Slices that hold a video layer of a stream, dispatched before its colorimetry changed, are stale (R195, R217). -/
def State.staleStream (s : State) (stream : Nat) : State :=
  let v := s.composing
  s.clv.slices.foldl (fun s x =>
    if (videoIn v x.feed x.slice).any (fun n => v .layVStream n == stream) then s.markStale x.feed x.slice 1 else s) s

/-- FRAME_COMPLETE_RX (R149, R150, R165, R217, R393): the marker held for the latch point; the format and colorimetry of the last
marker of its stream. Its target is extended (R61); its source_stamp is compared as it came (R429) and never read as a time. -/
def doFrameCompleteRx (k : Pkt) (s : State) : State :=
  let stream := k.u8 0 % 16
  let m : Marker :=
    { stream := stream, src := k.src, format := k.u8 1, colorimetry := k.u8 2, rep := bit (k.u8 3) 0, width := k.u16 4,
      height := k.u16 6, frame := s.lay.receiving, packets := k.u32 12, stamp := k.u32 16, seq := k.u32 20, feeds := k.u8 24,
      arrived := s.ftNs }
  let recolour := s.lay.colours.getD stream 0 ≠ m.colorimetry
  let s := { s with lay := { s.lay with
    formats := updAt s.lay.formats stream (fun _ => m.format)
    colours := updAt s.lay.colours stream (fun _ => m.colorimetry) } }
  let s := if recolour then s.staleStream stream else s
  let (t, s) := s.takeStamp (k.u32 8)
  if !s.forFrame t then
    match s.pastFrame t with
    | some f => s.noteSlack stream k.src f
    | none => s
  else
    let s := s.noteSlack stream k.src s.lay.receiving
    if s.lay.latched = s.lay.receiving + 1 then s
    else { s with lay := { s.lay with
      markers := s.lay.markers.filter (fun x => !(x.stream == stream && x.src == k.src)) ++ [m] } }
def execFrameCompleteRx (_ : Nat) (k : Pkt) (s : State) : Host.Outcome State Fault Refusal := event (doFrameCompleteRx k) s

/-! ### The write-back ring of a head (R175) -/

/-- The nodes whose images make a monitor frame whole: the tiles of the head's map, and whatever else has sent (R175; log entry 35). -/
def State.monitorScope (s : State) (x : WbFrame) : List Nat :=
  let tiles := (s.net.map.filter (fun m => m.node != 0 && m.role % 4 == 0)).map (·.node)
  tiles ++ (x.nodes.map (·.node)).filter (fun n => !(n ∈ tiles))

/-- Nodes in scope that have not sent all of their image. -/
def State.monitorMissing (s : State) (r : WbRing) (x : WbFrame) : List Nat :=
  let b := 2 ^ r.scale
  (s.monitorScope x).filter (fun n => !x.nodes.any (fun m => m.node == n && decide (ceilDiv m.w b * ceilDiv m.h b ≤ m.got)))

/-- A monitor frame ends, and its completion is posted to the host with the count of nodes missing (R175). -/
def State.endMonitor (s : State) (r : WbRing) (x : WbFrame) : State :=
  let r := { r with frames := r.frames.filter (fun y => y.target ≠ x.target), ended := max r.ended x.target }
  ({ s with ing := { s.ing with wbRing := some r } }).emit (.monitor x.target (s.monitorMissing r x).length)

/-- At B(f): the monitor frames whose target is B(f − 2) or earlier end (R175). -/
def State.monitorBoundary (s : State) (f : Nat) : State :=
  match s.ing.wbRing with
  | none => s
  | some r =>
    (r.frames.filter (fun x => decide (2 ≤ f) && decide (x.target ≤ s.bnd (f - 2)))).foldl (fun s x => match s.ing.wbRing with
      | some r => s.endMonitor r x
      | none => s) s

/-- A node's place in a monitor frame. The node's own window it knows; another's window no packet tells a head: free values, one
window for each node and frame (log entry 35). -/
def State.monitorNodeOf (s : State) (x : WbFrame) (node : Nat) : WbNode × State :=
  match x.nodes.find? (fun m => m.node == node) with
  | some m => (m, s)
  | none =>
    if node = s.id then
      (⟨node, toInt 32 (s.r .layWinX), toInt 32 (s.r .layWinY), s.r .layWinW, s.r .layWinH, 0⟩, s)
    else
      let d := s.draw 96
      (⟨node, toInt 32 (d.1 % 2 ^ 32), toInt 32 (d.1 / 2 ^ 32 % 2 ^ 32), d.1 / 2 ^ 64 % 2 ^ 16, d.1 / 2 ^ 80, 0⟩, d.2)

/-- The pixels of a packet of an image put into a buffer of the ring from word `at_`; what lies outside the buffer is dropped. -/
def State.putPixels (s : State) (base size : Nat) (at_ : Int) (k : Pkt) : (n : Nat) → State
  | 0 => s
  | n + 1 =>
    let s := s.putPixels base size at_ k n
    let a := (at_ + n) * 4
    if 0 ≤ a ∧ a + 4 ≤ size then s.clipWrite (base + a.toNat) (getBytes k.payload (12 + 4 * n) 4) else s

/-- The word of a monitor frame at which a packet of a node's image begins (R175). -/
def WbRing.place (r : WbRing) (m : WbNode) (line first : Nat) : Int :=
  let b : Int := (2 ^ r.scale : Nat)
  ((m.y - r.y0) / b + line) * r.pitch + (m.x - r.x0) / b + first

/-- A packet of an image taken into the monitor frame of its target. A frame whose nodes in scope have all sent their image is
complete (R175). -/
def State.takeImage (s : State) (k : Pkt) (r : WbRing) (b : ClipBuf) (target : Nat) : State :=
  let old := r.frames.find? (fun x => x.target == target)
  let x : WbFrame := old.getD ⟨target, r.next % max 1 r.bufs, []⟩
  let (m, s) := s.monitorNodeOf x k.src
  let size := r.size b.length
  let n := min 122 (k.u16 6)
  let s := s.putPixels (b.csa + x.buf * size) size (r.place m (k.u16 2) (k.u16 4)) k n
  let x := { x with nodes := x.nodes.filter (fun y => y.node ≠ m.node) ++ [{ m with got := m.got + n }] }
  let r := { r with
    frames := if old.isSome then r.frames.map (fun y => if y.target = target then x else y) else r.frames ++ [x]
    next := if old.isSome then r.next else r.next + 1 }
  let s := { s with ing := { s.ing with wbRing := some r } }
  if (s.monitorMissing r x).isEmpty then s.endMonitor r x else s

/-- The ring takes packets of this target: its monitor frame is open, or later than every one that has ended. -/
def WbRing.takes (r : WbRing) (target : Nat) : Bool := r.frames.any (fun x => x.target == target) || decide (r.ended < target)

/-- WB_DATA_RX (R61, R175): each pixel of a node's image goes to its place in the monitor frame of its target. -/
def doWbDataRx (k : Pkt) (s : State) : State :=
  let (t, s) := s.takeStamp (k.u32 8)
  match s.ing.wbRing, t with
  | some r, some target =>
    match s.bufOf r.handle with
    | some b => if r.takes target then s.takeImage k r b target else s
    | none => s
  | _, _ => s
def execWbDataRx (k : Pkt) (s : State) : Host.Outcome State Fault Refusal := event (doWbDataRx k) s

end Sys2Proof.Machine
end

