-- ==== Sys2Proof/Machine/Coef.lean ====
section
/-! DEFINITION. The coefficient store: loading, staging, the flash copy and its dirty blocks (R229 to R241, R624), the colour
commands of Table 6.10, and errors of the on-chip memories (R29 to R31, Table 1.5). -/

namespace Sys2Proof.Machine

/-! ### The flash controller (R544) -/

/-- A command waits for a write of the image or the settings. -/
def isFlashWrite (w : Waits) : Bool := match w with | .write _ _ => true | .confirm => true | _ => false

/-- The request that the controller serves next: block reloads, then image and settings writes, then coefficient saves. -/
def State.flashNext (s : State) : FlashJob :=
  if s.col.wholeReload ∨ s.col.reloading ≠ [] then .reload
  else if s.mbx.deferred.any (fun d => isFlashWrite d.waits) then .write
  else if s.col.saving ≠ [] ∨ s.col.saveRun.isSome then .save
  else .idle

/-- A request reaches the controller: it is served at once where none is in progress. -/
def State.flashAsk (s : State) (j : FlashJob) : State :=
  if s.fw.job = .idle then { s with fw := { s.fw with job := j } } else s

/-- The request in progress has ended: the next one begins. -/
def State.flashGoOn (s : State) : State := { s with fw := { s.fw with job := s.flashNext } }

/-! ### Blocks and regions -/

/-- The 64-byte blocks that a range of the store touches. -/
def blocksOf (a n : Nat) : List Nat := if n = 0 then [] else (List.range ((a + n - 1) / 64 + 1 - a / 64)).map (a / 64 + ·)

/-- The dirty blocks (R238): those of a load without the save flag, and those whose flash write has not completed. -/
def State.dirtyBlocks (s : State) : List Nat :=
  (s.col.saving.flatMap (fun d => blocksOf d.offset d.bytes.length)).foldl (fun m b => if b ∈ m then m else b :: m) s.col.dirty

/-- Some blocks added to a list of blocks. -/
def addBlocks (l m : List Nat) : List Nat := l.filter (fun b => !(b ∈ m)) ++ m

/-- A range meets the region of the lamp map, or of the tables (Table 6.7). -/
def inMap (a n : Nat) : Bool := decide (a < tableBase) && decide (mapBase < a + n)
def inTables (a n : Nat) : Bool := decide (a < stagingBase) && decide (tableBase < a + n)

/-- The first and last byte of the region of a kind (Table 6.7). -/
def regionOf (kind : Nat) : Option (Nat × Nat) :=
  match kind with
  | 1 => some (0, 0x5FFFFF)
  | 2 => some (0x600000, 0x7FFFFF)
  | 3 => some (0x800000, 0x8FFFFF)
  | 4 => some (0x900000, 0xAFFFFF)
  | 5 => some (0xB00000, 0xB7FFFF)
  | _ => none

/-- The tables judged (R231), and the map (R624). -/
def State.judgeTables (s : State) : State :=
  s.w .colTablesValid 0 (b2n (s.col.tablesLoaded && !s.col.wholeReload && (tableFault s.col.store).isNone))

/-- A lamp map takes effect: every lamp is UNMEASURED, and replies to requests sent before count no more (R308). -/
def State.resetLamps (s : State) : State :=
  let s := s.forgetLamps (fun _ => true)
  { s with lan := { s.lan with mapGen := s.lan.mapGen + 1 } }

/-- Data entered into the store (R234, R236, R238): its blocks sound; map and tables judged where it meets them; with the save flag,
on its way to the flash copy, without it its blocks marked dirty. -/
def State.putCoef (s : State) (a : Nat) (l : List Byte) (save : Bool) : State :=
  let bs := blocksOf a l.length
  let map := inMap a l.length
  let tables := inTables a l.length
  let col : ColSt := { s.col with
    store := mwrite 0 s.col.store a l
    dirty := if save then s.col.dirty else addBlocks bs s.col.dirty
    bad := s.col.bad.filter (fun b => !(b ∈ bs))
    reloading := s.col.reloading.filter (fun b => !(b ∈ bs))
    saving := if save then s.col.saving ++ [⟨a, l, true, 0⟩] else s.col.saving
    lamps := if map then [] else s.col.lamps
    mapLoaded := s.col.mapLoaded || map
    tablesLoaded := s.col.tablesLoaded || tables }
  let s := { s with col := col }
  let s := if save then s.flashAsk .save else s
  let s := if map then s.resetLamps.judgeMap else s
  if tables then s.judgeTables else s

/-! ### COEF_LOAD (R234, R235, R239, R240) -/

/-- The store as it will stand once every earlier load, staged or captured, has been copied in order of acceptance. -/
def State.futureCoef (s : State) : Mem :=
  (s.col.copying ++ s.lay.sets.flatMap (·.coef) ++ s.lay.coefStaged).foldl (fun m d => mwrite 0 m d.offset d.bytes) s.col.store

/-- No byte of the file is named. -/
abbrev noByte : Nat := 0xFFFFFFFF

/-- The tile ID in the settings (Table 15.6), 16 bytes, all zero where there is none. -/
def State.tileId (s : State) : List Byte := padTo 16 ((s.setting 0x8001).getD [])

/-- The checks on a file, in order: the status and the failing byte of the first that fails. -/
def State.fileFault (s : State) (file : List Byte) : Option (Nat × Nat) :=
  let kind := getLE file 6 2
  let off := getLE file 32 4
  let n := getLE file 36 4
  let payload := (file.drop 64).take n
  let v : View := fun f i => s.r f i
  let tile := getBytes file 8 16
  if file.take 4 ≠ [0x4D, 0x43, 0x4F, 0x46] then some (Status.badArg, 0)
  else if getLE file 4 2 ≠ 1 then some (Status.badArg, 4)
  else if file.length < 64 ∨ getLE file 60 4 ≠ crc32c (file.take 60) then some (Status.badArg, 60)
  else if file.length < 64 + n then some (Status.badArg, 36)
  else if getLE file 40 4 ≠ crc32c payload then some (Status.badArg, 40)
  else
    match regionOf kind with
    | none => some (Status.badArg, 6)
    | some (lo, hi) =>
      if off < lo ∨ hi < off then some (Status.badArg, 32)
      else if hi + 1 < off + n then some (Status.badArg, 36)
      else if kind ≤ 4 ∧ getLE file 24 2 ≠ v .layWinW 0 then some (Status.badArg, 24)
      else if kind ≤ 4 ∧ getLE file 26 2 ≠ v .layWinH 0 then some (Status.badArg, 26)
      else if kind ≤ 4 ∧ getLE file 28 1 ≠ emittersOf v then some (Status.badArg, 28)
      else if tile.any (· != 0) ∧ tile ≠ s.tileId then some (Status.denied, noByte)
      else if kind = 4 ∧ s.inShow then some (Status.badArg, noByte)
      else
        let m := mwrite 0 s.futureCoef off payload
        let inside (a : Nat) : Bool := decide (off ≤ a) && decide (a < off + n)
        let name (a : Nat) : Nat := if inside a then 64 + (a - off) else noByte
        let late := if s.inShow ∧ 262144 < s.live .colStageUsed 0 + n then some (Status.busy, noByte) else none
        if kind = 4 then
          match mapFault v m (windowPixels v) [] with
          | some (p, none) => some (Status.badArg, name (mapBase + 8 * p))
          | some (p, some q) =>
            some (Status.badArg, if inside (mapBase + 8 * q) then name (mapBase + 8 * p) else noByte)
          | none => late
        else if kind = 5 then
          match tableFault m with
          | some a => some (Status.badArg, name a)
          | none => late
        else late

/-- COEF_LOAD. -/
def actCoefLoad : Action := fun c s =>
  let refuse' (st at_ : Nat) : Ack := refuse (s.raise .colFileBad) st (leBytes 4 0 ++ leBytes 4 at_)
  match s.hostRead c (c.u64 0) (c.u32 8) with
  | none => refuse' Status.badArg noByte
  | some file =>
    match s.fileFault file with
    | some (st, at_) => refuse' st at_
    | none =>
      let off := getLE file 32 4
      let n := getLE file 36 4
      let payload := (file.drop 64).take n
      let save := bit (c.u8 12) 0
      let data := leBytes 4 n ++ leBytes 4 noByte
      if s.inShow then
        done { s with lay := { s.lay with coefStaged := s.lay.coefStaged ++ [⟨off, payload, save, c.session⟩] } } data
      else done (s.putCoef off payload save) data
def execCoefLoad (c : HostCmd) (s : State) : Host.Outcome State Fault Refusal := .next (runHost 0x0702 actCoefLoad c s)

/-! ### The flash copy -/

/-- The bytes of a block in the flash copy. -/
def State.flashBlock (s : State) (b : Nat) : List Byte := mread 0 s.fw.copy (64 * b) 64

/-- A COEF_SAVE ends with the last of the data that is to be saved. -/
def State.endSaves (s : State) : State :=
  match s.col.saveRun with
  | some k => { s with col := { s.col with saveRun := none } }.complete .flash Status.ok (leBytes 4 k)
  | none => s

/-- The flash write of the first data that is to be saved ends (R238): it is in the copy, its blocks dirty no longer but for their
marks. -/
def State.savedCoef (s : State) : State :=
  match s.col.saving with
  | [] => s.endSaves
  | d :: r =>
    let t := { s with
      fw := { s.fw with copy := mwrite 0 s.fw.copy d.offset d.bytes }
      col := { s.col with saving := r } }
    if r = [] then t.endSaves else t

/-- COEF_SAVE: every dirty block is written as it stands and its mark cleared; it ends when the write does. -/
def actCoefSave : Action := fun _ s =>
  if s.col.saveRun.isSome then refuse s Status.busy
  else if s.dirtyBlocks = [] then done s (leBytes 4 0)
  else
    let l := s.dirtyBlocks.map (fun b => (⟨64 * b, mread 0 s.col.store (64 * b) 64, true, 0⟩ : CoefLoad))
    await ({ s with col := { s.col with dirty := [], saving := s.col.saving ++ l, saveRun := some l.length } }.flashAsk .save) .flash
def execCoefSave (c : HostCmd) (s : State) : Host.Outcome State Fault Refusal := .next (runHost 0x0704 actCoefSave c s)

/-- COEF_CHECK. -/
def actCoefCheck : Action := fun _ s =>
  let n := ((List.range (stagingBase / 64)).filter (fun b => s.flashBlock b != mread 0 s.col.store (64 * b) 64)).length
  done s (leBytes 4 n ++ leBytes 4 (crc32c (mread 0 s.col.store 0 stagingBase)))
def execCoefCheck (c : HostCmd) (s : State) : Host.Outcome State Fault Refusal := .next (runHost 0x0705 actCoefCheck c s)

/-- COEF_READ; the staging area reads 0. -/
def actCoefRead : Action := fun c s =>
  if coefEnd < c.u32 0 + c.u32 4 ∨ !s.hostOk (c.u64 8) then refuse s Status.badArg
  else done (s.hostWrite c (c.u64 8) (mread 0 s.col.store (c.u32 0) (c.u32 4)))
def execCoefRead (c : HostCmd) (s : State) : Host.Outcome State Fault Refusal := .next (runHost 0x0703 actCoefRead c s)

/-! ### Colour commands -/

/-- COL_GET. -/
def actColGet : Action := fun _ s =>
  done s (s.words 0x1600 1 ++ leBytes 2 (s.seen .colSprofEn) ++ [0, 0] ++ s.words 0x1608 4 ++ [byte (s.r .colDslew), 0, 0, 0] ++
    s.words 0x161C 3)
def execColGet (c : HostCmd) (s : State) : Host.Outcome State Fault Refusal := .next (runHost 0x0700 actColGet c s)

/-- COL_SET: RWS fields staged; dslew is RW and stored at once. -/
def actColSet : Action := fun c s =>
  if 15 < c.u8 1 ∨ 15 < c.u8 2 then refuse s Status.badArg
  else
    let fl (b : Nat) : Nat := b2n (bit (c.u8 0) b)
    let s := s.stages c.session [(.colDerateOn, 0, fl 0), (.colDitherOn, 0, fl 1), (.colEmitters4, 0, fl 2), (.colGProfile, 0, c.u8 1),
      (.colPProfile, 0, c.u8 2), (.colSprofEn, 0, c.u16 4), (.colSprofLo, 0, c.u32 8), (.colSprofHi, 0, c.u32 12),
      (.colGainE0, 0, c.u16 16), (.colGainE1, 0, c.u16 18), (.colGainE2, 0, c.u16 20), (.colGainE3, 0, c.u16 22)]
    done (s.w .colDslew 0 (max 1 (c.u8 3)))
def execColSet (c : HostCmd) (s : State) : Host.Outcome State Fault Refusal := .next (runHost 0x0701 actColSet c s)

/-- ZONE_GET. -/
def actZoneGet : Action := fun c s =>
  let z := c.u8 0
  if 95 < z then refuse s Status.badArg
  else
    let t := s.r .thmZoneTemp z
    let target (e : Nat) : List Byte :=
      leBytes 2 (s.zoneGoal (fun f i => s.r f i) (toInt 16 t) e)
    done s (leBytes 2 t ++ [byte (s.r .thmZoneState z), 0] ++ (List.range 4).flatMap (fun e => leBytes 2 (s.r (zoneField e) z)) ++
      (List.range 4).flatMap target)
def execZoneGet (c : HostCmd) (s : State) : Host.Outcome State Fault Refusal := .next (runHost 0x0706 actZoneGet c s)

/-! ### Copies and clears -/

/-- COEF_COPY_COMPLETE (R236): the loads of the sets of the frame are in the store, in the order they were accepted. -/
def doCoefCopyComplete (s : State) : State :=
  if !s.clv.waitCopy then s
  else
    let l := s.col.copying
    let s := { s with col := { s.col with copying := [] }, clv := { s.clv with waitCopy := false } }
    let s := l.foldl (fun s d => s.putCoef d.offset d.bytes d.save) s
    if s.held 8 then s else s.dispatch
def execCoefCopyComplete (s : State) : Host.Outcome State Fault Refusal := event doCoefCopyComplete s

/-- SLOT_CLEAR_COMPLETE (R247): every position of every slot is 0, and Clover goes on. -/
def doSlotClearComplete (s : State) : State :=
  if !s.clv.waitClear then s
  else
    let s := { s with col := { s.col with lamps := [] }, clv := { s.clv with waitClear := false } }
    if s.held 8 then s else s.dispatch
def execSlotClearComplete (s : State) : Host.Outcome State Fault Refusal := event doSlotClearComplete s

/-! ### Memory errors (R29 to R31, Tables 1.4 and 1.5) -/

/-- A block is written from the flash copy, or its reload fails and its lamps stay 0 (R30). -/
def State.reloadBlock (s : State) (b : Nat) (ok : Bool) : State :=
  if !(b ∈ s.col.reloading) then s
  else
    let s := { s with col := { s.col with reloading := s.col.reloading.filter (· ≠ b) } }
    if !ok then s.raise .colReloadFail
    else
      { s with col := { s.col with store := mwrite 0 s.col.store (64 * b) (s.flashBlock b), bad := s.col.bad.filter (· ≠ b) } }

/-- The coefficient store from its flash copy, under the data loaded since the store was cleared; the map and the tables judged (R233, R580,
R624). -/
def State.readCoef (s : State) : State :=
  let kept := s.col.dirty.foldl (fun m b => mwrite 0 m (64 * b) (mread 0 s.col.store (64 * b) 64)) s.fw.copy
  let col : ColSt := { s.col with
    store := s.col.saving.foldl (fun m d => mwrite 0 m d.offset d.bytes) kept
    bad := [], reloading := [], lamps := [], mapLoaded := true, tablesLoaded := true, wholeReload := false }
  ({ s with col := col, fw := { s.fw with job := if s.fw.job = .reload then .idle else s.fw.job } } : State).resetLamps.judgeMap.judgeTables

/-- The coefficient store cleared by MEM_MARCH, to be reloaded whole (R580). -/
def State.clearCoef (s : State) : State :=
  ({ s with col := { s.col with store := [], dirty := [], bad := [], reloading := [], lamps := [], mapLoaded := false, tablesLoaded := false, wholeReload := true } } : State).judgeMap.judgeTables.flashAsk
    .reload

/-- The reload of the whole store has ended; where it failed, the node says so and stays dark. -/
def State.reloadWhole (s : State) (ok : Bool) : State :=
  if ok then s.readCoef
  else ({ s with col := { s.col with wholeReload := false, mapLoaded := false, tablesLoaded := false } } : State).judgeMap.judgeTables.raise .colReloadFail

/-- COEF_BLOCK_RELOAD (R30, R544, R580): the reload in progress ends, that of the whole store first; one that waits behind another request has not
begun. -/
def doCoefBlockReload (b : Nat) (ok : Bool) (s : State) : State :=
  if s.fw.job = .reload then (if s.col.wholeReload then s.reloadWhole ok else s.reloadBlock b ok).flashGoOn else s
def execCoefBlockReload (b : Nat) (ok : Bool) (s : State) : Host.Outcome State Fault Refusal := event (doCoefBlockReload b ok) s

/-- A memory's counter raised (R29, R30). -/
def bump (l : List Nat) (m n : Nat) : List Nat := updAt l m (· + n)

/-- A double-bit error of the coefficient store: a dirty block is not reloaded (R238). -/
def State.coefError (s : State) (b : Nat) : State :=
  let s := { s with col := { s.col with bad := addBlocks [b] s.col.bad } }
  if b ∈ s.dirtyBlocks then s.raise .colReloadFail else
    { s with col := { s.col with reloading := addBlocks [b] s.col.reloading } }.flashAsk .reload

end Sys2Proof.Machine
end

