-- ==== Sys2Proof/Machine/Thermal.lean ====
section
/-! DEFINITION. Temperature: samples, broken sensors and their substitutes, levels and what they do (R519 to R531), the drift
triggers (R532), the calibration records (R538), and the thermal commands (Table 14.9) but for CAL_RUN. -/

namespace Sys2Proof.Machine

/-! ### Sensors -/

/-- State and temperature registers of a class: 0 die, 1 board (Table 14.8). -/
def stateReg (c : Nat) : FName := if c = 0 then .thmDieState else .thmZoneState
def tempReg (c : Nat) : FName := if c = 0 then .thmDieTemp else .thmZoneTemp
def sensorsIn (c : Nat) : Nat := if c = 0 then 8 else 96

/-- A sensor, and a change of one. -/
def State.sensor (s : State) (c i : Nat) : Sensor := (if c = 0 then s.thm.die else s.thm.zone).getD i State.sensor0
def State.setSensor (s : State) (c i : Nat) (f : Sensor → Sensor) : State :=
  if c = 0 then { s with thm := { s.thm with die := updAt s.thm.die i f } }
  else { s with thm := { s.thm with zone := updAt s.thm.zone i f } }

/-- A sensor is in use (Table 14.1), and its temperature in 1/16 °C. -/
def State.sensorOk (s : State) (c i : Nat) : Bool := s.r (stateReg c) i == 0
def State.temp (s : State) (c i : Nat) : Int := toInt 16 (s.r (tempReg c) i)

/-- A mean rounded to the nearest 1/16 °C, ties toward plus infinity (R523). -/
def meanOf (l : List Int) : Option Int := if l = [] then none else some ((2 * l.sum + l.length).fdiv (2 * l.length))

/-- The valid neighbours of a sensor: the other die sensors in use (R524), or the valid zones that THM_NEIGH lists (R523). -/
def State.neighbours (s : State) (c i : Nat) : List Nat :=
  if c = 0 then (List.range 8).filter (fun j => j != i && s.sensorOk 0 j)
  else
    let w := s.r .thmNeigh i
    (((List.range 4).map (fun k => bits w (8 * k + 7) (8 * k))).eraseDups).filter (fun z => decide (z < 96) && z != i && s.sensorOk 1 z)

/-- Mean of a sensor's valid neighbours. -/
def State.neighbourMean (s : State) (c i : Nat) : Option Int := meanOf ((s.neighbours c i).map (s.temp c))

/-- The zones in use. -/
def State.validZones (s : State) : List Nat := (List.range 96).filter (s.sensorOk 1)

/-- What stands for a sensor that is excluded (R523, R524). -/
def State.substitute (s : State) (c i : Nat) : Option Int :=
  match s.neighbourMean c i with
  | some m => some m
  | none => if c = 0 then none else meanOf (s.validZones.map (s.temp 1))

/-- Excluded zones take their substitutes; with no valid zone each holds its value (R523). -/
def State.substituteZones (s : State) : State :=
  (List.range 96).foldl (fun (t : State) (z : Nat) =>
    if t.sensorOk 1 z then t
    else
      match s.substitute 1 z with
      | some m => t.w .thmZoneTemp z (ofInt 16 m)
      | none => t) s

/-- Substitutes after an event of a zone; with no valid zone no_board sets (R523). -/
def State.refreshZones (s : State) : State := if s.validZones = [] then s.raise .thmNoBoard else s.substituteZones

/-! ### Levels (R526 to R530) -/

/-- Index of a class's level `k` from 1 to 4 among the level registers (Table 14.8). -/
def levelIx (c k : Nat) : Nat := 4 * c + k - 1

/-- One entry or exit of a level: one event (R527). -/
def State.levelEvent (s : State) (up : Bool) : State :=
  (s.count .thmLevelEvents).raise (if up then .thmLevelUp else .thmLevelDown)

/-- A sample counted toward level `k` (R526). -/
def State.countLevel (s : State) (c i k : Nat) (t : Int) : State :=
  let set_ := toInt 16 (s.r .thmLevelSet (levelIx c k))
  let x := s.sensor c i
  let put (entry exit levels : Nat) : State := s.setSensor c i (fun (x : Sensor) =>
    { x with entry := updAt x.entry (k - 1) (fun _ => entry), exit := updAt x.exit (k - 1) (fun _ => exit), levels := levels })
  if !s.on .thmLevelEnable (levelIx c k) then s
  else if bit x.levels k then
    let n := if t ≤ set_ - 32 then x.exit.getD (k - 1) 0 + 1 else 0
    if 3 ≤ n then (put 0 0 (setBit x.levels k false)).levelEvent false else put 0 n x.levels
  else
    let n := if set_ ≤ t then x.entry.getD (k - 1) 0 + 1 else 0
    if 3 ≤ n then (put 0 0 (setBit x.levels k true)).levelEvent true else put n 0 x.levels

/-- A sample counted toward every level of its class. -/
def State.countLevels (s : State) (c i : Nat) (t : Int) : State :=
  [1, 2, 3, 4].foldl (fun s k => s.countLevel c i k t) s

/-- The highest enabled level a sensor is in (R527, R528). -/
def State.levelOf (s : State) (c i : Nat) : Nat :=
  [1, 2, 3, 4].foldl (fun m k => if bit (s.sensor c i).levels k ∧ s.on .thmLevelEnable (levelIx c k) then k else m) 0

/-- The die level: THROTTLE with every die sensor excluded (R524), else the highest of those in use (R527). -/
def State.showDie (s : State) : State :=
  let inUse := (List.range 8).filter (s.sensorOk 0)
  s.ws [(.thmDieBlind, b2n inUse.isEmpty), (.thmDieLevel, if inUse = [] then 3 else (inUse.map (s.levelOf 0)).foldl max 0)]

/-- The node level and what it does (R527, R530, Table 14.3, Table 11.7). -/
def State.showNode (s : State) : State :=
  let n := ((List.range 96).map (s.levelOf 1)).foldl max (s.r .thmDieLevel)
  let s := s.w .thmNodeLevel 0 n
  let s := if s.isHead then s.w .redHealth 0 (setBit (s.r .redHealth) 3 (decide (3 ≤ n))) else s
  if n = 4 then
    (s.w .thmShutdownHold 0 1).leaveNext
  else if n ≤ 1 then s.w .thmShutdownHold 0 0
  else s

/-- Levels shown after an event of a class. -/
def State.showLevels (s : State) (c : Nat) : State := if c = 0 then s.showDie.showNode else s.showNode

/-- Counts of a class reset, and every sensor leaves a level that is disabled, with one event each (R528). -/
def State.classChanged (s : State) (c : Nat) : State :=
  let s := (List.range (sensorsIn c)).foldl (fun (s : State) (i : Nat) =>
    let s := s.setSensor c i (fun (x : Sensor) => { x with entry := [0, 0, 0, 0], exit := [0, 0, 0, 0] })
    [1, 2, 3, 4].foldl (fun (s : State) (k : Nat) =>
      if bit (s.sensor c i).levels k ∧ !s.on .thmLevelEnable (levelIx c k) then
        (s.setSensor c i (fun (x : Sensor) => { x with levels := setBit x.levels k false })).levelEvent false
      else s) s) s
  s.showLevels c

/-- The level registers of a class written. -/
def State.putLevels (s : State) (c : Nat) (enables sets : List Nat) : State :=
  (List.range 4).foldl (fun (s : State) (k : Nat) =>
    (s.w .thmLevelEnable (4 * c + k) (enables.getD k 0)).w .thmLevelSet (4 * c + k) (sets.getD k 0)) s

/-- The class as it is, to be held against samples of the same cycle; a second change in a cycle keeps what the first found. -/
def State.oldLevels (s : State) (c : Nat) : OldLevels :=
  let now : OldLevels :=
    { at_ := s.clk, cls := c, sensors := if c = 0 then s.thm.die else s.thm.zone
      enables := (List.range 4).map (fun k => s.r .thmLevelEnable (4 * c + k))
      sets := (List.range 4).map (fun k => s.r .thmLevelSet (4 * c + k)) }
  match s.thm.before with
  | some o => if o.at_ = s.clk ∧ o.cls = c then o else now
  | none => now

/-- A sample counted; in the cycle of a change of its class, under the old set points, after which every count of the class resets
(Table 14.7). -/
def State.countSample (s : State) (c i : Nat) (t : Int) : State :=
  let o := s.oldLevels c
  if s.thm.before = some o then
    let now := { s with thm := { s.thm with before := none } }.oldLevels c
    let x := o.sensors.getD i State.sensor0
    let u := (s.putLevels c o.enables o.sets).setSensor c i (fun (y : Sensor) => { y with entry := x.entry, exit := x.exit })
    ((u.countLevels c i t).putLevels c now.enables now.sets).classChanged c
  else s.countLevels c i t

/-! ### Samples (R519 to R525) -/

/-- The sensor is excluded: its counts clear (Table 14.7), sensor_bad sets (R522). -/
def State.cutSensor (s : State) (c i code : Nat) (fresh : Bool) : State :=
  let s := s.setSensor c i (fun (x : Sensor) => { x with good := 0, entry := [0, 0, 0, 0], exit := [0, 0, 0, 0], fresh := fresh })
  (s.w (stateReg c) i code).raise .thmSensorBad

/-- The sensor is in use again with a temperature; sensor_back sets when it had been in use before (R525). -/
def State.readmit (s : State) (c i : Nat) (t : Int) (back : Bool) : State :=
  let s := s.setSensor c i (fun (x : Sensor) => { x with good := 0, fresh := false })
  ((s.w (stateReg c) i 0).w (tempReg c) i (ofInt 16 t)).raiseIf back .thmSensorBack

/-- The condition of Table 14.1 that a sample meets, 0 for none. STUCK compares the mean of the neighbours now with the one at the
first of the identical samples (log entry 37). -/
def State.judge (s : State) (c i : Nat) (v : Int) : Nat :=
  let x := s.sensor c i
  let rate : Nat := if c = 0 then 320 else 80
  let moved : Bool := match s.neighbourMean c i, x.base with
    | some m, some b => decide (32 ≤ (m - b).natAbs)
    | _, _ => false
  if v < -320 ∨ 2400 < v then 2
  else if 0 < x.samples ∧ x.raw = v ∧ 255 ≤ x.same ∧ moved then 3
  else if 0 < x.samples ∧ 8 * giga + rate * (s.clk - x.at_) < (v - x.raw).natAbs * giga then 4
  else 0

/-- The interval to a sensor's next sample in ns, from the sample's distance to the nearest set or clear point of an enabled level
of its class (R521). -/
def State.sampleInterval (s : State) (c : Nat) (v : Int) : Nat :=
  let on := [1, 2, 3, 4].filter (fun k => s.on .thmLevelEnable (levelIx c k))
  let near := on.map (fun k =>
    let p := toInt 16 (s.r .thmLevelSet (levelIx c k))
    min (v - p).natAbs (v - (p - 32)).natAbs)
  let d := near.foldl min 65536
  if d ≤ 16 then 1000000 else if d ≤ 80 then 10000000 else 100000000

/-- A read of a sensor failed (R520): three in a row make it FAILED. -/
def State.failedRead (s : State) (c i : Nat) : State :=
  let n := (s.sensor c i).failures + 1
  let s := s.setSensor c i (fun (x : Sensor) => { x with failures := n, good := 0, fresh := x.fresh && decide (n < 3) })
  if 3 ≤ n ∧ s.sensorOk c i then s.cutSensor c i 1 false else s

/-- A sensor is FAILED at once: trims not valid (R519), or its zone's lane not in RUN (R302, R520). -/
def State.failedNow (s : State) (c i : Nat) : State :=
  if s.sensorOk c i then s.cutSensor c i 1 true else s

/-- A sample taken into a sensor's record: the run of identical samples starts anew where it differs. -/
def State.recordSample (s : State) (c i : Nat) (v : Int) : State :=
  let mean := s.neighbourMean c i
  s.setSensor c i (fun (x : Sensor) =>
    let again := 0 < x.samples ∧ x.raw = v
    { x with raw := v, at_ := s.clk, same := if again then x.same + 1 else 1, base := if again then x.base.or mean else mean,
             samples := (x.samples + 1) % 2 ^ 32, failures := 0, interval := s.sampleInterval c v })

/-- What a good sample does to a sensor that is not in use (R525). -/
def State.goodSample (s : State) (c i : Nat) (v : Int) (first : Bool) : State :=
  let x := s.sensor c i
  if s.r (stateReg c) i = 5 then s
  else if s.r (stateReg c) i = 1 ∧ x.fresh then s.readmit c i v (!first)
  else
    let near : Bool := match s.substitute c i with
      | some m => decide ((v - m).natAbs ≤ 80)
      | none => c == 0
    let n := if near then x.good + 1 else 0
    if 100 ≤ n then s.readmit c i v true else s.setSensor c i (fun (x : Sensor) => { x with good := n })

/-- A sample reaches its sensor (R522 to R527). -/
def State.takeSample (s : State) (c i : Nat) (v : Int) : State :=
  let st := s.r (stateReg c) i
  let x := s.sensor c i
  let code := s.judge c i v
  let s := s.recordSample c i v
  let s :=
    if code ≠ 0 then
      if st = 0 ∨ (st = 1 ∧ x.fresh) then s.cutSensor c i code false
      else s.setSensor c i (fun (x : Sensor) => { x with good := 0 })
    else if st = 0 then s
    else s.goodSample c i v (x.samples == 0)
  let s := if s.sensorOk c i ∨ c = 0 then s.w (tempReg c) i (ofInt 16 v) else s
  let s := if c = 1 then s.refreshZones else s
  if s.sensorOk c i then s.countSample c i v
  else if c = 1 ∧ (code = 0 ∨ st ≠ 0) then s.countSample c i (s.temp c i)
  else s

/-! ### Drift triggers (R532) -/

/-- An applied result whose recorded temperature differs by cal_drift or more from a sensor's (R532). -/
def State.drifted (s : State) (r : CalRec) (die : Nat) : Bool :=
  !r.seed && r.valid && decide (16 * s.r .calDrift ≤ (s.temp 0 die - toInt 16 r.temp).natAbs)

/-- A RET_RX run queued by a trigger: it disturbs nothing, so it runs at once (R535). -/
def retRun (g : Nat) : Run :=
  { isLoop := false, kind := 2, index := g, code := 0, when_ := 1, at_ := 0, duration := 0, driver := 0, cmd := none, start := none,
    startClk := 0, chunks := 0, late := false, aborting := false, errors := 0, detailA := 0, detailB := 0 }

/-- What the drift of a die sensor triggers: D0 to D3 an adaptation window of the port, D5 runs of the return pairs (Table 14.4). -/
def State.drift (s : State) (i : Nat) : State :=
  if i < 4 then
    if s.up i ∧ 1 ≤ s.r .fabRate i ∧ s.thm.records.any (fun r => r.kind == 0 && r.index / 4 == i && s.drifted r i) then
      s.setPort i (fun p => { p with adapting := true })
    else s
  else if i = 5 then
    (s.thm.records.filter (fun r => r.kind == 2 && s.drifted r 5)).foldl (fun s r =>
      let busy := s.thm.cals.any (fun x => x.kind == 2 && x.index == r.index) ||
        (match s.thm.running with | some x => x.kind == 2 && x.index == r.index | none => false)
      if busy ∨ 16 ≤ s.thm.cals.length then s
      else { s with thm := { s.thm with cals := s.thm.cals ++ [retRun r.index] } }) s
  else s

/-- A die sensor's sample (R519): `none` is a read that failed. D7 carries the REF compensation (R531). -/
def State.sampleDie (s : State) (i : Nat) (v : Option Int) : State :=
  let s :=
    if !s.on .rstTrimsValid then s.failedNow 0 i
    else
      match v with
      | none => s.failedRead 0 i
      | some v =>
        let s := s.takeSample 0 i v
        if s.sensorOk 0 i then s.drift i else s
  let s := s.showLevels 0
  if i = 7 then s.freeRun else s

/-- The substitute of an excluded zone stands for the sample it does not give (R523). -/
def State.countSubstitute (s : State) (z : Nat) : State :=
  if s.sensorOk 1 z then s else s.countSample 1 z (s.temp 1 z)

/-- A zone's reading arrives (R302): `none` is a failed read. -/
def State.sampleZone (s : State) (z : Nat) (v : Option Int) : State :=
  let s := match v with
    | none => ((s.failedRead 1 z).refreshZones).countSubstitute z
    | some v => s.takeSample 1 z v
  s.showLevels 1

/-- A sample of a zone whose lane is not in RUN falls due: its substitute counts, and gives the time of the next (R521, R523). -/
def State.sampleOut (s : State) (z : Nat) : State :=
  let s := ((s.failedNow 1 z).refreshZones).countSubstitute z
  let s := s.setSensor 1 z (fun (x : Sensor) => { x with at_ := s.clk, interval := s.sampleInterval 1 (s.temp 1 z) })
  s.showLevels 1

/-- A zone's lane leaves RUN (R302). While a loop runs on the lane the zone holds its last sample (R582). -/
def State.zoneOut (s : State) (z : Nat) : State :=
  if s.held 11 ∨ (s.lane z).loop then s else ((s.failedNow 1 z).refreshZones).showLevels 1

/-! ### Commands (Table 14.9) -/

/-- The sensor with the highest temperature among some, the lowest index on a tie. -/
def State.hottest (s : State) (c : Nat) (l : List Nat) : Option Nat :=
  l.foldl (fun b i => match b with
    | some j => if s.temp c j < s.temp c i then some i else some j
    | none => some i) none

/-- THM_GET: the hottest die of those in use (0 with none), the hottest zone by its effective temperature. -/
def actThmGet : Action := fun _ s =>
  let die := s.hottest 0 ((List.range 8).filter (s.sensorOk 0))
  let zone := (s.hottest 1 (List.range 96)).getD 0
  let out := ((List.range 8).filter (fun i => !s.sensorOk 0 i)).length + ((List.range 96).filter (fun i => !s.sensorOk 1 i)).length
  done s (s.words 0x5004 1 ++ leBytes 2 ((die.map (fun i => s.r .thmDieTemp i)).getD 0) ++ leBytes 2 (s.r .thmZoneTemp zone) ++
    [byte zone, byte out, 0, 0] ++ leBytes 4 (s.r .thmLevelEvents))
def execThmGet (c : HostCmd) (s : State) : Host.Outcome State Fault Refusal := .next (runHost 0x0B00 actThmGet c s)

/-- A level's set point and enable written (R528, Table 14.8): the limits of each, and the reset of the class's counts on a
change. -/
def State.setLevel (s : State) (i : Nat) (enable set_ : Option Nat) : State :=
  let put (s : State) (f : FName) (v : Option Nat) : State := match v.bind (stored s f i) with
    | some x => s.w f i x
    | none => s
  let t := put (put s .thmLevelEnable enable) .thmLevelSet set_
  if t.r .thmLevelEnable i = s.r .thmLevelEnable i ∧ t.r .thmLevelSet i = s.r .thmLevelSet i then s
  else { t with thm := { t.thm with before := some (s.oldLevels (i / 4)) } }.classChanged (i / 4)

/-- THM_SET. -/
def actThmSet : Action := fun c s =>
  let m := c.u8 3
  if 7 < m ∨ (bit m 0 ∧ (1 < c.u8 0 ∨ c.u8 1 < 1 ∨ 4 < c.u8 1)) then refuse s Status.badArg
  else
    let s := if bit m 0 then s.setLevel (levelIx (c.u8 0) (c.u8 1)) (some (HostCmdFlag c 2)) (some (c.u16 4)) else s
    let s := if bit m 1 then s.w .thmTscaleDerate 0 (c.u16 6) else s
    done (if bit m 2 then s.w .thmTscaleThrottle 0 (c.u16 8) else s)
def execThmSet (c : HostCmd) (s : State) : Host.Outcome State Fault Refusal := .next (runHost 0x0B01 actThmSet c s)

/-- A sensor readmitted by command: a die sensor before trims are valid, and a zone whose lane is not in RUN, stay FAILED (R519,
R520). -/
def State.readmitCmd (s : State) (c i : Nat) : State :=
  if s.sensorOk c i then s
  else if (c = 0 ∧ !s.on .rstTrimsValid) ∨ (c = 1 ∧ s.r .laneState i ≠ 4) then
    (s.w (stateReg c) i 1).setSensor c i (fun (x : Sensor) => { x with fresh := true })
  else s.readmit c i (s.sensor c i).raw true

/-- THM_SENSOR: reads, excludes or readmits a sensor (R525). -/
def actThmSensor : Action := fun c s =>
  let cls := c.u8 0
  let i := c.u8 1
  let op := c.u8 2
  if 1 < cls ∨ sensorsIn cls ≤ i ∨ 2 < op then refuse s Status.badArg
  else
    let s :=
      if op = 1 then (if s.r (stateReg cls) i = 5 then s else s.cutSensor cls i 5 false)
      else if op = 2 then s.readmitCmd cls i
      else s
    let s := if op = 0 then s else (if cls = 1 then s.refreshZones else s).showLevels cls
    let x := s.sensor cls i
    done s (leBytes 2 (s.r (tempReg cls) i) ++ [byte (s.r (stateReg cls) i), 0] ++ leBytes 2 (ofInt 16 x.raw) ++ [0, 0] ++
      leBytes 4 x.samples)
def execThmSensor (c : HostCmd) (s : State) : Host.Outcome State Fault Refusal := .next (runHost 0x0B02 actThmSensor c s)

/-- THM_NEIGH_SET (R523). -/
def actThmNeighSet : Action := fun c s =>
  if 95 < c.u8 0 then refuse s Status.badArg
  else done (s.w .thmNeigh (c.u8 0) (getLE c.body 1 4)).substituteZones
def execThmNeighSet (c : HostCmd) (s : State) : Host.Outcome State Fault Refusal := .next (runHost 0x0B03 actThmNeighSet c s)

/-! ### Calibration records (Table 14.6) -/

/-- The number of items of kind 0 or 2 (Table 14.4). -/
def itemsOf (kind : Nat) : Nat := if kind = 0 then 16 else 12

/-- A record as its 32 bytes. -/
def CalRec.bytes (r : CalRec) : List Byte :=
  [byte r.kind, byte r.index, byte r.rate, byte (b2n r.valid + 2 * b2n r.seed)] ++ leBytes 2 r.temp ++ [0, 0] ++ leBytes 8 r.ft ++
    leBytes 4 r.nonce ++ padTo 12 r.values

/-- The record an item's 32 bytes spell. -/
def CalRec.ofBytes (l : List Byte) : CalRec :=
  { kind := getLE l 0 1, index := getLE l 1 1, rate := getLE l 2 1, valid := bit (getLE l 3 1) 0, seed := bit (getLE l 3 1) 1,
    temp := getLE l 4 2, ft := getLE l 8 8, nonce := getLE l 16 4, values := getBytes l 20 12 }

/-- An item's record: its applied result, else its seed, else one that is not valid. -/
def State.calRecord (s : State) (kind index : Nat) : CalRec :=
  let find (seed : Bool) : Option CalRec := s.thm.records.find? (fun r => r.kind == kind && r.index == index && r.seed == seed)
  match find false, find true with
  | some r, _ => r
  | none, some r => r
  | none, none => ⟨kind, index, 0, false, false, 0, 0, 0, []⟩

/-- CAL_READ (R538). -/
def actCalRead : Action := fun c s =>
  if !(c.u8 0 = 0 ∨ c.u8 0 = 2) ∨ itemsOf (c.u8 0) ≤ c.u8 1 then refuse s Status.badArg
  else done s (s.calRecord (c.u8 0) (c.u8 1)).bytes
def execCalRead (c : HostCmd) (s : State) : Host.Outcome State Fault Refusal := .next (runHost 0x0B05 actCalRead c s)

/-- A record stored as its item's seed (R538); a port lane or return pair keeps it for its next TRAIN (R539). -/
def State.storeSeed (s : State) (r : CalRec) : State :=
  let s := s.putRecord { r with seed := true }
  if r.kind = 0 then
    s.setPort (r.index / 4) (fun p => { p with seeds := updAt p.seeds (r.index % 4) (fun _ => some (r.rate, r.nonce, r.values)) })
  else { s with lan := { s.lan with retSeed := updAt s.lan.retSeed r.index (fun _ => some (r.values.take 2)) } }

/-- CAL_WRITE (R538). -/
def actCalWrite : Action := fun c s =>
  let r := CalRec.ofBytes (getBytes c.body 0 32)
  if !(r.kind = 0 ∨ r.kind = 2) ∨ itemsOf r.kind ≤ r.index then refuse s Status.badArg else done (s.storeSeed r)
def execCalWrite (c : HostCmd) (s : State) : Host.Outcome State Fault Refusal := .next (runHost 0x0B06 actCalWrite c s)

/-- CAL_REF_SET: the table of R531, at once in effect on a root that runs FREE. -/
def actCalRefSet : Action := fun c s =>
  done ((List.range 16).foldl (fun (s : State) (j : Nat) => s.w .calRefComp j (c.u16 (2 * j))) s).freeRun
def execCalRefSet (c : HostCmd) (s : State) : Host.Outcome State Fault Refusal := .next (runHost 0x0B07 actCalRefSet c s)

end Sys2Proof.Machine
end

