-- ==== Sys2Proof/Machine/Lanes.lean ====
section
/-! DEFINITION. Svapol lamp lanes, the node's side: packets (R274 to R278), bringing a lane up (R281, R282), settings and claims sent
(R292, R293, R298), the return pairs (R299 to R302), the lamp status (R306 to R309), and the commands of Table 8.10. -/

namespace Sys2Proof.Machine

/-! ### Packets -/

/-- Lane states (Table 8.5). -/
abbrev Lane.off : Nat := 0
abbrev Lane.train : Nat := 1
abbrev Lane.enum : Nat := 2
abbrev Lane.config : Nat := 3
abbrev Lane.run : Nat := 4
abbrev Lane.fault : Nat := 5

/-- Start symbols by their K code (Table 8.2): the y of K28.y. -/
abbrev symGrey : Nat := 0
abbrev symControl : Nat := 1
abbrev symLine : Nat := 3

/-- Bytes put on a lane after a start symbol. A pair controller that stands down holds its lanes idle (R440). -/
def State.laneOut (s : State) (n start : Nat) (l : List Byte) : State :=
  if s.red.standdownAt.isSome then s else s.emit (.lane n start l)

/-- A packet closed with its CRC, low byte first (R275). -/
def withCrc (l : List Byte) : List Byte := l ++ leBytes 2 (crc16 l)

/-- A control packet: address, type and payload (Table 8.4). -/
def State.control (s : State) (n addr type : Nat) (payload : List Byte) : State :=
  s.laneOut n symControl (withCrc ([byte addr, byte type] ++ payload))

/-- The address of every driver. -/
abbrev allDrivers : Nat := 0x1F

def State.regWrite (s : State) (n addr reg data : Nat) : State := s.control n addr 0x02 (byte reg :: leBytes 4 data)

/-- Lanes in a state. -/
def State.lanesIn (s : State) (st : Nat) : List Nat := (List.range 96).filter (fun n => s.r .laneState n == st)

/-- The SCAN register's layout of a lane's settings (Table 8.7, register 0x04). -/
def scanWord (v : View) (n : Nat) : Nat :=
  (v .scnLaneCpd n - 1) % 64 * 2 ^ 24 + blankOf v % 256 * 2 ^ 16 + (v .scnLaneDrivers n - 1) % 16 * 2 ^ 12 +
    v .scnSegLog2 0 % 8 * 2 ^ 8 + (v .scnMux 0 - 1) % 64

/-- STAGE on a lane, with a reading of the settings (R292). -/
def State.stageLane (s : State) (v : View) (n : Nat) : State :=
  let w := scanWord v n
  let s := s.setLane n (fun (x : LaneSt) => { x with staged := w })
  s.control n allDrivers 0x06 (byte (s.r .llGen) :: (leBytes 4 w ++ leBytes 4 (v .llCurrent 0)))

/-- CLAIM on a lane, carrying LL_CLAIM (R298). -/
def State.claimLane (s : State) (n : Nat) : State :=
  s.control n allDrivers 0x05 (leBytes 2 (s.r .llEpoch) ++ leBytes 4 (s.r .llClaim))

/-- At B(F), on every lane in RUN: CLAIM, STAGE with the settings in effect, and the thresholds written since the last boundary
(R292, R298, Table 8.8). DIAGCFG's own diag_on stays 1, a driver's reset value (log entry 39). -/
def State.diagConfig (s : State) (n : Nat) : State :=
  s.regWrite n allDrivers 0x0C (2 ^ 16 + s.r .llShortTh * 256 + s.r .llOpenTh)
def State.boundaryLanes (s : State) : State :=
  let due := s.lan.cfgDue
  let s := (s.lanesIn Lane.run).foldl (fun s n =>
    let s := (s.claimLane n).stageLane (fun f i => s.r f i) n
    if due then s.diagConfig n else s) s
  { s with lan := { s.lan with cfgDue := false } }

/-- After the latch point of a set that changes seg_log2, blank or LL_CURRENT: gen raised, the new settings sent twice (R292). -/
def State.stageNew (s : State) : State :=
  let s := s.w .llGen 0 (s.r .llGen + 1)
  let v := s.now
  (s.lanesIn Lane.run).foldl (fun s n => (s.stageLane v n).stageLane v n) s

/-- LL_CLAIM set by the redundancy unit; a change is sent at once (R298). -/
def State.setClaim (s : State) (epoch claim : Nat) : State :=
  if s.r .llEpoch = epoch % 65536 ∧ s.r .llClaim = claim % 2 ^ 32 then s
  else
    let s := s.ws [(.llEpoch, epoch), (.llClaim, claim)]
    (s.lanesIn Lane.run).foldl (fun s n => s.claimLane n) s

/-- CURMAP on a lane (R293). -/
def State.curmapLane (s : State) (n : Nat) : State :=
  (List.range 3).foldl (fun (s : State) (k : Nat) => s.regWrite n allDrivers (0x08 + k) (s.r .llCurmap k)) s

/-- CURMAP written: strings that have been configured get it at once (log entry 39). -/
def State.sendCurmap (s : State) : State :=
  (s.lanesIn Lane.config ++ s.lanesIn Lane.run).foldl (fun s n => s.curmapLane n) s

/-! ### Requests on the return pairs (R299 to R302) -/

/-- The request outstanding on a pair, and those waiting. -/
def State.asking (s : State) (g : Nat) : Option RetReq := s.lan.requests.getD g none
def State.setAsking (s : State) (g : Nat) (r : Option RetReq) : State :=
  { s with lan := { s.lan with requests := updAt s.lan.requests g (fun _ => r) } }
def State.setWaiting (s : State) (g : Nat) (l : List RetReq) : State :=
  { s with lan := { s.lan with waiting := updAt s.lan.waiting g (fun _ => l) } }

/-- The packet of a request (Table 8.4). -/
def State.sendRequest (s : State) (r : RetReq) : State :=
  if r.kind = 4 then s.control r.lane r.driver 0x08 [byte r.arg, byte r.lines, byte r.tag]
  else if r.kind = 5 then s.control r.lane r.driver 0x09 (leBytes 4 r.arg ++ [byte r.tag])
  else s.control r.lane r.driver 0x03 [byte r.arg, byte r.tag]

/-- A request becomes the one outstanding of its pair. -/
def State.ask (s : State) (g : Nat) (r : RetReq) : State :=
  let r := { r with tag := s.lan.nextTag % 256, sentAt := s.clk, resent := false, mapGen := s.lan.mapGen }
  ({ s with lan := { s.lan with nextTag := s.lan.nextTag + 1 } }.setAsking g (some r)).sendRequest r

/-- A request of a kind to a driver. -/
def request (lane driver kind arg lines id : Nat) : RetReq :=
  { lane := lane, driver := driver, kind := kind, arg := arg, lines := lines, tag := 0, sentAt := 0, resent := false, mapGen := 0, id := id }

/-- The bring-up read of a group that is due: that of its lowest lane in ENUM or CONFIG. -/
def State.bringUpRead (s : State) (g : Nat) : Option RetReq :=
  (((List.range 8).map (8 * g + ·)).find? (fun n =>
    (s.r .laneState n == Lane.enum || s.r .laneState n == Lane.config) && !(s.lane n).retry)).map (fun n =>
      if s.r .laneState n = Lane.enum then request n (s.lane n).addr 0 0x00 0 0 else request n (s.lane n).addr 1 0x04 0 0)

/-- The drivers a group's diagnosis reads go to, lane by lane. -/
def State.diagList (s : State) (g : Nat) : List (Nat × Nat) :=
  ((((List.range 8).map (8 * g + ·)).filter (fun n => s.r .laneState n == Lane.run))).flatMap (fun n =>
    (List.range (s.r .scnLaneDrivers n)).map (fun d => (n, d)))

/-- The next diagnosis read of a group: rounds over its drivers in RUN, all lines of a driver at a time; a round that ends gives
round_us of the slowest group (Table 8.9). -/
def State.askDiag (s : State) (g : Nat) : State :=
  let l := s.diagList g
  let (k, began, last) := s.lan.rounds.getD g (0, 0, 0)
  if l = [] ∨ !s.on .dgnDiagOn then s
  else
    let whole := decide (l.length ≤ k)
    let k := if whole then 0 else k
    let last := if whole then (s.clk - began) / 1000 else last
    let began := if k = 0 then s.clk else began
    let rounds := updAt s.lan.rounds g (fun _ => (k + 1, began, last))
    let s := { s with lan := { s.lan with rounds := rounds } }
    let s := s.w .dgnRoundUs 0 ((rounds.map (fun r => r.2.2)).foldl max 0)
    match l[k]? with
    | some (n, d) => s.ask g (request n d 4 0 (s.r .scnMux) 0)
    | none => s

/-- A request that will not be answered: a command ends with a status, TIMEOUT where no reply came (R300), BUSY where its lane carries
requests no longer (R316). -/
def State.dropRequest (s : State) (r : RetReq) (status : Nat) : State :=
  if r.kind = 3 ∨ r.kind = 5 then s.complete (.reply r.id) status else s

/-- In Show no ECHO is sent: those that wait end with BUSY (R316). -/
def State.dropEchoes (s : State) (g : Nat) : State :=
  if !s.inShow then s
  else
    let l := s.lan.waiting.getD g []
    (l.filter (fun r => r.kind == 5)).foldl (fun s r => s.dropRequest r Status.busy) (s.setWaiting g (l.filter (fun r => r.kind != 5)))

/-- The next request of a pair that has none outstanding (R300, R301): temperature reads, reads from commands, bring-up reads,
diagnosis reads (log entry 36). -/
def State.pump (s : State) (g : Nat) : State :=
  if (s.asking g).isSome then s
  else
    let s := s.dropEchoes g
    let l := s.lan.waiting.getD g []
    match (l.find? (fun r => r.kind == 2)).or l.head? with
    | some r => (s.setWaiting g (l.erase r)).ask g r
    | none =>
      match s.bringUpRead g with
      | some r => s.ask g r
      | none => s.askDiag g

/-- A request queued on the pair of its lane. -/
def State.enqueue (s : State) (r : RetReq) : State :=
  let g := r.lane / 8
  (s.setWaiting g (s.lan.waiting.getD g [] ++ [r])).pump g

/-! ### Lane states (R281, R282, Table 8.5) -/

/-- A lane put into a state; out of RUN its zone is FAILED at once (R302) and its requests go. -/
def State.enterLane (s : State) (n st : Nat) : State :=
  let was := s.r .laneState n
  let g := n / 8
  let s := (s.w .laneState n st).setLane n (fun (x : LaneSt) => { x with since := s.clk, retry := false })
  if was = Lane.run ∧ st ≠ Lane.run then
    let l := s.lan.waiting.getD g []
    let s := s.setWaiting g (l.filter (fun r => r.lane != n))
    let mine := (l.filter (fun r => r.lane == n)) ++ ((s.asking g).toList.filter (fun r => r.lane == n))
    let s := if (s.asking g).any (fun r => r.lane == n) then s.setAsking g none else s
    (mine.foldl (fun s r => s.dropRequest r Status.busy) s).zoneOut n
  else if (s.asking g).any (fun r => r.lane == n && decide (r.kind < 2)) ∧ st ≠ was then s.setAsking g none
  else s

/-- A lane may leave OFF (R7, R281, R503): the node drives lamps and the lane has drivers, the node is in Standby or Show with its trims,
block 10 is not held, and no loop holds the lane (R582). -/
def State.laneAllowed (s : State) (n : Nat) : Bool :=
  s.hasWindow && (s.inStandby || s.inShow) && s.on .rstTrimsValid && !s.held 10 && s.r .scnLaneDrivers n != 0 && !(s.lane n).loop

/-- TRAIN: IDLE for 100 µs; the return pair starts from its seed (R539). -/
def State.trainLane (s : State) (n : Nat) : State :=
  let g := n / 8
  let s := s.enterLane n Lane.train
  match s.lan.retSeed.getD g none with
  | some v => { s with lan := { s.lan with retEq := updAt s.lan.retEq g (fun _ => v), retSeed := updAt s.lan.retSeed g (fun _ => none) } }
  | none => s

/-- Attempts start anew. -/
def State.freshLane (s : State) (n : Nat) : State :=
  (s.setLane n (fun (x : LaneSt) => { x with attempts := 0, failed := List.replicate 16 0 })).trainLane n

/-- Every lane follows its condition: OFF at once where it does not hold, TRAIN from OFF where it does. -/
def State.followLanes (s : State) : State :=
  let s := (List.range 96).foldl (fun (s : State) (n : Nat) =>
    if s.laneAllowed n then (if s.r .laneState n = Lane.off then s.freshLane n else s)
    else if s.r .laneState n = Lane.off then s
    else s.enterLane n Lane.off) s
  (List.range 12).foldl (fun (s : State) (g : Nat) => s.pump g) s

/-- A restart of a lane (LANE_RESTART, R300). -/
def State.restartLane (s : State) (n : Nat) : State := if s.laneAllowed n then s.freshLane n else s

/-- An attempt at bringing a lane up fails: again after 1 ms, the third time FAULT (Table 8.5). -/
def State.failLane (s : State) (n : Nat) : State :=
  let a := (s.lane n).attempts + 1
  if 3 ≤ a then (s.setLane n (fun (x : LaneSt) => { x with attempts := 0 })).enterLane n Lane.fault
  else s.setLane n (fun (x : LaneSt) => { x with attempts := a, retry := true, since := s.clk })

/-- CONFIG: CURMAP and DIAGCFG to all, STAGE, CLAIM; then each driver's SCAN is read. -/
def State.configLane (s : State) (n : Nat) : State :=
  let s := s.enterLane n Lane.config
  let s := s.setLane n (fun (x : LaneSt) => { x with addr := 0 })
  ((((s.curmapLane n).diagConfig n).stageLane (fun f i => s.r f i) n).claimLane n)

/-- An ENUM read is over: after address 15, found is counted, and the lane goes on where every address of its drivers answered. -/
def State.afterEnum (s : State) (n : Nat) (answered : Bool) : State :=
  let x := s.lane n
  let mask := if answered then x.foundMask ||| 2 ^ x.addr else x.foundMask
  let s := s.setLane n (fun (x : LaneSt) => { x with addr := x.addr + 1, foundMask := mask })
  if x.addr + 1 < 16 then s
  else
    let s := s.w .laneFound n (ones 16 mask)
    if (List.range (s.r .scnLaneDrivers n)).all (bit mask) then s.configLane n else s.failLane n

/-- A CONFIG read is over: RUN once every driver's SCAN matches. -/
def State.afterConfig (s : State) (n : Nat) (ok : Bool) : State :=
  if !ok then s.failLane n
  else
    let a := (s.lane n).addr + 1
    let s := s.setLane n (fun (x : LaneSt) => { x with addr := a })
    if a < s.r .scnLaneDrivers n then s
    else (s.setLane n (fun (x : LaneSt) => { x with attempts := 0, failed := List.replicate 16 0 })).enterLane n Lane.run

/-- LANE_TRAIN_DONE: after 100 µs of IDLE the node sends ENUM with value 0 (R279) and reads addresses 0 to 15. -/
def doLaneTrainDone (n : Nat) (s : State) : State :=
  let x := s.lane n
  if s.r .laneState n ≠ Lane.train ∨ s.clk < x.since + 100000 then s
  else
    let s := s.enterLane n Lane.enum
    let s := s.setLane n (fun (x : LaneSt) => { x with addr := 0, foundMask := 0 })
    (s.control n allDrivers 0x01 [0]).pump (n / 8)
def execLaneTrainDone (n : Nat) (s : State) : Host.Outcome State Fault Refusal := event (doLaneTrainDone n) s

/-- LANE_RETRY_TIMER: 1 ms after a failed attempt, 1 s in FAULT. -/
def doLaneRetryTimer (n : Nat) (s : State) : State :=
  let x := s.lane n
  if x.retry ∧ x.since + 1000000 ≤ s.clk then (s.trainLane n).pump (n / 8)
  else if s.r .laneState n = Lane.fault ∧ x.since + 1000000000 ≤ s.clk then (s.freshLane n).pump (n / 8)
  else s
def execLaneRetryTimer (n : Nat) (s : State) : Host.Outcome State Fault Refusal := event (doLaneRetryTimer n) s

/-! ### Lamp status (R306 to R309) -/

/-- A lamp's code of a diagnosis reply: 0b00 leaves its status unchanged (R307). -/
def State.setLamp (s : State) (lamp code : Nat) : State := if code = 0 then s else s.putLamp lamp code

/-- The lamps of the pixels that a driver carries, with their line and channel: lamp 4p + e (R229, R244). -/
def State.lampsOf (s : State) (n d : Nat) : List (Nat × Nat × Nat) :=
  let v : View := fun f i => s.r f i
  (windowPixels v).flatMap (fun p =>
    let e := mapEntry s.col.store p
    if entryLit e && entryLane e == n && entryDriver e == d then
      (entryLamps v e).map (fun x => (4 * p + x.1, entryLine e, x.2))
    else [])

/-- A diagnosis reply: the codes of the named lines (R305). -/
def State.diagnose (s : State) (r : RetReq) (data : List Byte) : State :=
  let row := (s.r .scnLaneCpd r.lane + 3) / 4
  (s.lampsOf r.lane r.driver).foldl (fun s x =>
    let (lamp, line, ch) := x
    if r.arg ≤ line ∧ line < r.arg + r.lines ∧ (line - r.arg) * row + ch / 4 < data.length then
      s.setLamp lamp (bits (getLE data ((line - r.arg) * row + ch / 4) 1) (2 * (ch % 4) + 1) (2 * (ch % 4)))
    else s) s

/-! ### Replies -/

/-- What a register a driver reports tells the node (Tables 8.7, 8.9, 8.10; log entry 38). -/
def State.learn (s : State) (n d reg v : Nat) : State :=
  if reg = 0x01 then s.w .lanePortB n (b2n (v % 256 == 2))
  else if reg = 0x10 then s.setLane n (fun (x : LaneSt) => { x with staleMask := setBit x.staleMask d (bit v 4) })
  else if reg = 0x11 then
    let s := s.setLane n (fun (x : LaneSt) =>
      { x with crcs := updAt x.crcs d (fun _ => v % 65536), lates := updAt x.lates d (fun _ => v / 65536) })
    s.w .laneErrors n ((s.lane n).crcs.sum + (s.lane n).lates.sum)
  else if reg = 0x17 then s.setLane n (fun (x : LaneSt) => { x with obeyB := setBit x.obeyB d (bit v 0) })
  else s

/-- An answered request resets its driver's count of failures (R300) and does what its kind does. -/
def State.answered (s : State) (r : RetReq) (data : List Byte) : State :=
  let v := getLE data 0 4
  let s := s.setLane r.lane (fun (x : LaneSt) => { x with failed := updAt x.failed r.driver (fun _ => 0) })
  match r.kind with
  | 0 => s.afterEnum r.lane true
  | 1 => s.afterConfig r.lane (v == (s.lane r.lane).staged)
  | 2 => s.sampleZone r.lane (if bit v 16 then some (toInt 16 v) else none)
  | 3 => (s.learn r.lane r.driver r.arg v).complete (.reply r.id) Status.ok (leBytes 4 v)
  | 4 => s.diagnose r data
  | _ => s.complete (.reply r.id) Status.ok (leBytes 4 v)

/-- A request has failed (R300): reads outside bring-up count, and the third in a row to one driver restarts the lane. -/
def State.requestFailed (s : State) (r : RetReq) : State :=
  match r.kind with
  | 0 => s.afterEnum r.lane false
  | 1 => s.afterConfig r.lane false
  | _ =>
    let n := (s.lane r.lane).failed.getD r.driver 0 + 1
    let s := s.setLane r.lane (fun (x : LaneSt) => { x with failed := updAt x.failed r.driver (fun _ => n) })
    let s := if r.kind = 2 then s.sampleZone r.lane none else s.dropRequest r (if r.kind = 5 ∧ s.inShow then Status.busy else Status.timeout)
    if 3 ≤ n then s.restartLane r.lane else s

/-- A request's attempt fails: it is sent once more, but for a read of an address the string should not have (Table 8.5) and an ECHO in
Show (R316). -/
def State.attemptFailed (s : State) (g : Nat) (r : RetReq) : State :=
  if !r.resent ∧ ¬(r.kind = 5 ∧ s.inShow) ∧ (r.kind ≠ 0 ∨ r.driver < s.r .scnLaneDrivers r.lane) then
    let r := { r with resent := true, sentAt := s.clk, mapGen := s.lan.mapGen }
    (s.setAsking g (some r)).sendRequest r
  else ((s.setAsking g none).requestFailed r).pump g

/-- LANE_REPLY_RX: the bytes after K28.2 (Table 8.6). A failed CRC is a failed attempt; a sound reply to another request is not this
one's (log entry 38); a reply to a request sent before the lamp map took effect is discarded (R308). -/
def doLaneReplyRx (g : Nat) (l : List Byte) (s : State) : State :=
  match s.asking g with
  | none => s
  | some r =>
    let len := getLE l 3 2
    let body := l.take (5 + len)
    if l.length ≠ 7 + len ∨ getLE l (5 + len) 2 ≠ crc16 body then s.attemptFailed g r
    else
      let kind := if r.kind = 4 then 2 else if r.kind = 5 then 3 else 1
      if getLE l 0 1 ≠ r.driver ∨ getLE l 1 1 ≠ r.tag ∨ getLE l 2 1 ≠ kind ∨ r.mapGen ≠ s.lan.mapGen then s
      else ((s.setAsking g none).answered r (getBytes l 5 len)).pump g
def execLaneReplyRx (g : Nat) (l : List Byte) (s : State) : Host.Outcome State Fault Refusal := event (doLaneReplyRx g l) s

/-- LANE_REPLY_TIMEOUT (R300): 10 µs without a reply. -/
def doLaneReplyTimeout (g : Nat) (s : State) : State :=
  match s.asking g with
  | none => s
  | some r => if r.sentAt + 10000 ≤ s.clk then s.attemptFailed g r else s
def execLaneReplyTimeout (g : Nat) (s : State) : Host.Outcome State Fault Refusal := event (doLaneReplyTimeout g) s

/-- THERMAL_SAMPLE: a sensor's sample falls due (R521). A die sensor's reading is the event's; a zone's is a temperature read of its
lane's driver temp_drv (R302), unless one is on its way. -/
def doThermalSample (cls i : Nat) (v : Option Int) (s : State) : State :=
  let x := s.sensor cls i
  if 1 < cls ∨ sensorsIn cls ≤ i ∨ s.held 11 ∨ s.clk < x.at_ + x.interval then s
  else if cls = 0 then s.sampleDie i v
  else if s.r .laneState i ≠ Lane.run then (if (s.lane i).loop then s else s.sampleOut i)
  else
    let g := i / 8
    let mine (r : RetReq) : Bool := r.lane == i && r.kind == 2
    if (s.lan.waiting.getD g []).any mine || (s.asking g).any mine then s
    else s.enqueue (request i (s.r .laneTempDrv i) 2 0x12 0 0)
def execThermalSample (cls i : Nat) (v : Option Int) (s : State) : Host.Outcome State Fault Refusal :=
  event (doThermalSample cls i v) s

/-! ### Commands (Table 8.10) -/

/-- LANE_GET. -/
def actLaneGet : Action := fun c s =>
  let n := c.u8 0
  if 95 < n then refuse s Status.badArg
  else
    let x := s.lane n
    done s (s.words (0x2900 + 4 * n) 1 ++ leBytes 4 x.crcs.sum ++ leBytes 4 x.lates.sum ++ leBytes 2 x.obeyB ++
      leBytes 2 x.staleMask ++ leBytes 2 x.foundMask)
def execLaneGet (c : HostCmd) (s : State) : Host.Outcome State Fault Refusal := .next (runHost 0x0900 actLaneGet c s)

/-- LANE_RESTART. -/
def actLaneRestart : Action := fun c s =>
  let a := c.u8 0
  let b := c.u8 1
  if 95 < a ∨ 95 < b ∨ b < a then refuse s Status.badArg
  else
    let s := ((List.range (b + 1 - a)).map (a + ·)).foldl (fun s n => s.restartLane n) s
    done ((List.range 12).foldl (fun (s : State) (g : Nat) => s.pump g) s)
def execLaneRestart (c : HostCmd) (s : State) : Host.Outcome State Fault Refusal := .next (runHost 0x0901 actLaneRestart c s)

/-- A read from a command queued on its return pair; the command waits for the reply. -/
def State.askFor (s : State) (n d kind arg : Nat) : Ack :=
  let id := s.lan.nextId
  await ({ s with lan := { s.lan with nextId := id + 1 } }.enqueue (request n d kind arg 0 id)) (.reply id)

/-- LANE_REG (R316): a write goes to one driver or all; a read is one driver's (R278). -/
def actLaneReg : Action := fun c s =>
  let n := c.u8 0
  let d := c.u8 1
  let write := c.u8 2 != 0
  let reg := c.u8 3
  if 95 < n ∨ ¬(d ≤ 15 ∨ (d = allDrivers ∧ write)) then refuse s Status.badArg
  else if s.r .laneState n ≠ Lane.run then refuse s Status.busy
  else if write ∧ 0x08 ≤ reg ∧ reg ≤ 0x0A ∧ s.inShow then refuse s Status.denied
  else if write then done (s.regWrite n d reg (c.u32 4)) (leBytes 4 (c.u32 4))
  else s.askFor n d 3 reg
def execLaneReg (c : HostCmd) (s : State) : Host.Outcome State Fault Refusal := .next (runHost 0x0902 actLaneReg c s)

/-- LANE_SET_CURRENT: LL_CURRENT staged (R315). -/
def actLaneSetCurrent : Action := fun c s => done (s.stage c.session .llCurrent 0 (c.u32 0))
def execLaneSetCurrent (c : HostCmd) (s : State) : Host.Outcome State Fault Refusal := .next (runHost 0x0903 actLaneSetCurrent c s)

/-- LANE_SET_CURMAP (R293). -/
def actLaneSetCurmap : Action := fun c s =>
  if s.inShow then refuse s Status.denied
  else done ((List.range 3).foldl (fun (s : State) (k : Nat) => s.w .llCurmap k (c.u32 (4 * k))) s).sendCurmap
def execLaneSetCurmap (c : HostCmd) (s : State) : Host.Outcome State Fault Refusal := .next (runHost 0x0904 actLaneSetCurmap c s)

/-- DIAG_SET. -/
def actDiagSet : Action := fun c s =>
  let s := s.ws [(.dgnDiagOn, HostCmdFlag c 0), (.dgnProbeOn, HostCmdFlag c 1), (.llOpenTh, c.u8 2), (.llShortTh, c.u8 3)]
  let s := { s with lan := { s.lan with cfgDue := true } }
  done ((List.range 12).foldl (fun (s : State) (g : Nat) => s.pump g) s)
def execDiagSet (c : HostCmd) (s : State) : Host.Outcome State Fault Refusal := .next (runHost 0x0905 actDiagSet c s)

/-- DIAG_SUMMARY. -/
def actDiagSummary : Action := fun _ s => done s (s.words 0x2B08 6 ++ s.words 0x2B04 1)
def execDiagSummary (c : HostCmd) (s : State) : Host.Outcome State Fault Refusal := .next (runHost 0x0906 actDiagSummary c s)

/-- The status map's byte `b` (R306). -/
def State.statusByte (s : State) (b : Nat) : Byte :=
  byte ((List.range 4).map (fun k => sget 0 s.lan.status (4 * b + k) * 4 ^ k)).sum

/-- DIAG_READ_MAP. -/
def actDiagReadMap : Action := fun c s =>
  let first := c.u32 0
  let n := c.u32 4
  if first % 16 ≠ 0 ∨ 1048576 < first + n ∨ !s.hostOk (c.u64 8) then refuse s Status.badArg
  else
    let l := (List.range ((n + 3) / 4)).map (fun k => s.statusByte (first / 4 + k))
    done (s.hostWrite c (c.u64 8) l) (leBytes 4 l.length)
def execDiagReadMap (c : HostCmd) (s : State) : Host.Outcome State Fault Refusal := .next (runHost 0x0907 actDiagReadMap c s)

/-- An event entry as the register at 0x2B20 shows it. -/
def eventWord (e : Nat × Nat) : Nat := 2 ^ 31 + e.2 % 4 * 2 ^ 21 + e.1 % 2 ^ 21

/-- DIAG_EVENTS: entries written as the event register shows them, oldest first, and removed (log entry 38). -/
def actDiagEvents : Action := fun c s =>
  if !s.hostOk (c.u64 0) then refuse s Status.badArg
  else
    let l := s.lan.events.take (c.u16 8)
    let s := { s with lan := { s.lan with events := s.lan.events.drop (c.u16 8) } }
    done (s.hostWrite c (c.u64 0) (l.flatMap (fun e => leBytes 4 (eventWord e)))) (leBytes 2 l.length ++ [byte (s.r .dgnEventOverflow)])
def execDiagEvents (c : HostCmd) (s : State) : Host.Outcome State Fault Refusal := .next (runHost 0x0908 actDiagEvents c s)

/-- LANE_ECHO (R316). -/
def actLaneEcho : Action := fun c s =>
  let n := c.u8 0
  let d := c.u8 1
  if 95 < n ∨ 15 < d then refuse s Status.badArg
  else if s.r .laneState n ≠ Lane.run ∨ s.inShow then refuse s Status.busy
  else s.askFor n d 5 (c.u32 4)
def execLaneEcho (c : HostCmd) (s : State) : Host.Outcome State Fault Refusal := .next (runHost 0x0909 actLaneEcho c s)

/-- DIAG_EVENT_READ: a read of the event entry; with valid set it removes the entry (Table 8.9). -/
def doDiagEventRead (s : State) : State :=
  if !s.pcieUp then s
  else if s.held 10 then (s.raise .rstRetry).emit (.readData (leBytes 4 0xFFFFFFFE))
  else
    let s := s.emit (.readData (leBytes 4 (s.bar0 0x2B20)))
    { s with lan := { s.lan with events := s.lan.events.drop 1 } }
def execDiagEventRead (s : State) : Host.Outcome State Fault Refusal := event doDiagEventRead s

end Sys2Proof.Machine
end

