-- ==== Sys2Proof/Machine/Scan.lean ====
section
/-! DEFINITION. Scan-out: the schedule of a frame and its loads (R253 to R258, R280 to R290), Dew probes (R310 to R313), GENLOCK
inputs (R264 to R266), SHUTTER outputs (R267, R268), and the commands of Table 7.8. -/

namespace Sys2Proof.Machine

/-! ### The schedule -/

/-- Counter value of the first GCLK edge of group `g` at or after an FT in ns (R248, R253, R284). -/
def State.edgeAt (s : State) (g ns : Nat) : Nat :=
  let step : Int := 4000 * (s.r .scnGdivM1 + 1)
  let x : Int := ns * 1000 + toInt 16 (s.scn.trims.getD g 0)
  (((x + step - 1).fdiv step) % 65536).toNat

/-- The window instances of frame `f` (R260): start and end in FT. -/
def State.instances (s : State) (v : View) (f : Nat) : List (Nat × Nat) :=
  ((List.range 8).filter (fun w => windowActive v w f)).map (fun w =>
    (s.bnd f + v .winOffset w, s.bnd f + v .winOffset w + v .winLength w))

/-- A sub-update of a confined feed is dark in a frame in which no window that contains it is active (R260). -/
def isDark (v : View) (f k a : Nat) : Bool :=
  v .scnFeedConfine k == 1 &&
    !(windowsOn v).any (fun w => bit (v .winFeedMask w) k && insideWindow v a w && windowActive v w f)

/-- A span of FT widened by the margin meets no window instance of the frame before and of this one (R262, R311). -/
def State.clearOf (s : State) (v : View) (start end_ : Nat) : Bool :=
  let m := marginOf v
  (s.scn.spansOld ++ s.scn.spans).all (fun w => decide (end_ + m ≤ w.1) || decide (w.2 + m ≤ start))

/-- A node holds lamps of lit pixels that are UNMEASURED. -/
def State.unmeasured (s : State) : Bool := s.r .dgnUnmeasured != 0

/-- The sub-updates of frame `f`, in order of start: each loads from the later of B(F) and the start before it (R253, R254). The first
that is probe-allowed, meets no window instance of the frame before and of this one, and ends before the next latch point is
probed in (R262, R311). Lamps UNMEASURED while blank is below 50 are noted (R312), once a frame of Show (log entry 40). -/
def State.scheduleFrame (s : State) (f : Nat) : State :=
  let v : View := fun n i => s.r n i
  let b := s.bnd f
  let l := startsOf v
  let probeAt : Option Start := l.find? (fun x => probeAllowed v x.1 && s.clearOf v (b + x.1) (b + x.1 + tSub v) &&
    decide (b + x.1 + tSub v < s.latch (f + 1)))
  let one (prev : Option Nat) (x : Start) : Sub :=
    { frame := f, feed := x.2.1, index := x.2.2, start := b + x.1, loadAt := max b (prev.getD b), end_ := b + x.1 + tSub v,
      dark := isDark v f x.2.1 x.1, probe := probeAt == some x, loaded := false, bank := 0, gen := s.r .llGen }
  let subs := l.foldl (fun (acc : Option Nat × List Sub) x => (some (b + x.1), acc.2 ++ [one acc.1 x])) (s.scn.lastStart, [])
  let s := s.raiseIf (s.unmeasured && decide (blankOf v < 50)) .dgnProbeBlocked
  { s with scn := { s.scn with subs := s.scn.subs ++ subs.2, lastStart := subs.1 } }

/-- On leaving Show at B(F), the sub-updates running or still to start are cut at the first edge at or after B(F) (R258, R285). The
spec has the SUB sent before that edge; the model shows it at the boundary (log entry 40). -/
def State.cutScan (s : State) (f : Nat) : State :=
  let s := { s with scn := { s.scn with subs := [], lastStart := none, marks := none } }
  (s.lanesIn Lane.run).foldl (fun s n =>
    s.control n allDrivers 0x04 ([4, byte (s.r .llGen)] ++ leBytes 2 (s.edgeAt (n / 8) (s.bnd f)))) s

/-! ### Loads (R254, R284 to R290) -/

/-- The value sent for a position of the front slot of a feed: 0 while the map or the tables are not valid (R233). -/
def State.frontValue (s : State) (v : View) (feed pos : Nat) : Nat :=
  if s.on .colMapValid ∧ s.on .colTablesValid then
    sget 0 s.col.lamps (slotKey v feed (b2n (bit (s.r .scnFront) feed)) pos)
  else 0

/-- A GREY packet (Table 8.3): bank, first lane position, up to 64 values. -/
def greyBody (bank first : Nat) (vals : List Nat) : List Byte :=
  withCrc ([byte bank] ++ leBytes 2 first ++ [byte vals.length] ++ vals.flatMap (leBytes 2))

/-- The GREY packets of a load of a feed on a lane, in ascending position order (R289, R290). -/
def State.greyLane (s : State) (v : View) (feed bank n : Nat) : State :=
  let vals := (List.range (laneLamps v n)).map (fun i => s.frontValue v feed (laneBase v n + i))
  ((chunks 64 vals.length vals).zipIdx).foldl (fun s c => s.laneOut n symGrey (greyBody bank (64 * c.2) c.1)) s

/-- SUB for a sub-update (Table 8.4). -/
def State.subLane (s : State) (x : Sub) (n : Nat) : State :=
  s.control n allDrivers 0x04 ([byte (x.bank + 2 * b2n x.dark), byte x.gen] ++ leBytes 2 (s.edgeAt (n / 8) x.start))

/-- The lamps of a lane's line in position order: position on the line, driver, channel and lamp (R229, R244). -/
def State.lineLamps (s : State) (v : View) (n l : Nat) : List (Nat × Nat × Nat × Nat) :=
  let cpd := v .scnLaneCpd n
  let all := (windowPixels v).flatMap (fun p =>
    let e := mapEntry s.col.store p
    if entryLit e && entryLane e == n && entryLine e == l then
      (entryLamps v e).map (fun x => (entryDriver e * cpd + x.2, entryDriver e, x.2, 4 * p + x.1))
    else [])
  all.foldl (fun (acc : List (Nat × Nat × Nat × Nat)) x => acc.takeWhile (fun y => decide (y.1 < x.1)) ++ [x] ++
    acc.dropWhile (fun y => decide (y.1 < x.1))) []

/-- The lamp probed next on a line: the next UNMEASURED one after the lamp probed last, else the next one (R310). -/
def State.nextProbe (s : State) (v : View) (n l : Nat) : Option (Nat × Nat × Nat × Nat) :=
  let ls := s.lineLamps v n l
  let last := sget 0 (s.lane n).probed l
  let turn := ls.filter (fun x => decide (last ≤ x.1)) ++ ls.filter (fun x => decide (x.1 < last))
  (turn.find? (fun x => sget 0 s.lan.status x.2.2.2 == 0)).or turn.head?

/-- PROBE packets of a lane for a target edge: one lamp for each line, four to a packet (R310, Table 8.4). -/
def State.probeLane (s : State) (v : View) (x : Sub) (n : Nat) : State :=
  let picks := (List.range (v .scnMux 0)).filterMap (fun l => (s.nextProbe v n l).map (fun p => (l, p)))
  let s := picks.foldl (fun s p => s.setLane n (fun (q : LaneSt) => { q with probed := sput 0 q.probed p.1 (p.2.1 + 1) })) s
  let entry (p : Nat × (Nat × Nat × Nat × Nat)) : Nat := p.2.2.1 * 4096 + p.1 * 64 + p.2.2.2.1
  let s := (chunks 4 picks.length picks).foldl (fun s four =>
    s.control n allDrivers 0x07 (leBytes 2 (s.edgeAt (n / 8) x.start) ++
      (List.range 4).flatMap (fun i => leBytes 2 ((four[i]?.map entry).getD 0xFFFF)))) s
  s.count .dgnProbes 0 picks.length

/-- Dew probes of a frame (R310 to R312): none while blank is below 50. -/
def State.probes (s : State) (v : View) (x : Sub) : State :=
  if !s.on .dgnProbeOn ∨ !x.probe then s
  else if blankOf v < 50 then s
  else (s.lanesIn Lane.run).foldl (fun s n => s.probeLane v x n) s

/-- LOAD_START: the next load that is due, on every lane in RUN: GREY packets, then the SUB and the frame's probes; a dark sub-update
has a dark SUB and no GREY packet (R285). The bank alternates from one sub-update to the next (R289). -/
def doLoadStart (s : State) : State :=
  match s.scn.subs.find? (fun x => !x.loaded) with
  | none => s
  | some x =>
    if s.ftNs < x.loadAt ∨ s.held 9 then s
    else
      let v : View := fun f i => s.r f i
      let x' := { x with loaded := true, bank := s.scn.bank }
      let s := { s with scn := { s.scn with
        bank := 1 - s.scn.bank % 2
        subs := s.scn.subs.map (fun (y : Sub) => if y = x then x' else y) } }
      let lanes := s.lanesIn Lane.run
      let s := if x.dark then s else lanes.foldl (fun s n => s.greyLane v x.feed x'.bank n) s
      let s := lanes.foldl (fun s n => s.subLane x' n) s
      s.probes v x'
def execLoadStart (s : State) : Host.Outcome State Fault Refusal := event doLoadStart s

/-! ### LINE marks (R280) -/

/-- A GREY packet is in progress on a lane at an FT: packets of 64 values every 640 ns of a load, 4 ns a symbol (Table 8.3, R290). -/
def greyAt (v : View) (n t : Nat) (y : Sub) : Bool :=
  let done := 64 * ((t - y.loadAt) / 640)
  !y.dark && decide (y.loadAt ≤ t) && decide (done < laneLamps v n) &&
    decide ((t - y.loadAt) % 640 < 4 * (7 + 2 * min 64 (laneLamps v n - done)))

/-- The marks of a sub-update that fall due before an FT: on each lane in RUN one for each line slot, but where a GREY packet is in
progress. The times of the control packets are not the spec's: they hold no mark back (DESIGN CHOICE, log entry 40). The mark of line
l of segment j, slot j × mux + l, holds its number mod 256. -/
def State.lineMarks (s : State) (loads : List Sub) (r : MarkRun) (until_ : Nat) : State :=
  let v : View := fun f i => s.r f i
  let due := (List.range r.slots).filter (fun k => decide (r.next ≤ k) && decide (r.start + k * r.step < until_))
  (s.lanesIn Lane.run).foldl (fun s n =>
    (due.filter (fun k => !loads.any (greyAt v n (r.start + k * r.step)))).foldl (fun s k => s.laneOut n symLine [byte k]) s) s

/-- The marks of a sub-update sent up to the next boundary; those after it wait for the loads of its frame to be scheduled. -/
def State.sendMarks (s : State) (loads : List Sub) (r : MarkRun) : State :=
  let stop := match s.frame? with
    | some f => s.bnd (f + 1)
    | none => r.start + r.slots * r.step
  let next := ((List.range (r.slots + 1)).find? (fun k => decide (stop ≤ r.start + k * r.step))).getD r.slots
  let s := { s with scn := { s.scn with marks := if next < r.slots then some { r with next := next } else none } }
  s.lineMarks loads r stop

/-- SUB_UPDATE_START (R253, R262, R280): the first sub-update scheduled starts at its time. -/
def doSubUpdateStart (s : State) : State :=
  match s.scn.subs with
  | [] => s
  | x :: rest =>
    if s.ftNs < x.start ∨ !x.loaded ∨ s.held 9 then s
    else
      let v : View := fun f i => s.r f i
      let free := probeAllowed v (x.start - s.bnd x.frame)
      let s := { s with scn := { s.scn with subs := rest, lastProbeOk := if free then s.clk else s.scn.lastProbeOk } }
      s.sendMarks (x :: rest) ⟨x.start, lineCycles (v .scnSegLog2 0) (blankOf v) * 4 * gdivOf v, 0, v .scnMux 0 * 2 ^ v .scnSegLog2 0⟩
def execSubUpdateStart (s : State) : Host.Outcome State Fault Refusal := event doSubUpdateStart s

/-- PROBE_STARVED_TIMER (R262). -/
def doProbeStarvedTimer (s : State) : State :=
  s.raiseIf (s.unmeasured && decide (s.scn.lastProbeOk + 1000000000 ≤ s.clk)) .scnProbeStarved
def execProbeStarvedTimer (s : State) : Host.Outcome State Fault Refusal := event doProbeStarvedTimer s

/-! ### GENLOCK inputs (R264 to R266) -/

def State.genlock (s : State) (n : Nat) : Genlock := s.scn.genlocks.getD n State.genlock0
def State.setGenlock (s : State) (n : Nat) (f : Genlock → Genlock) : State :=
  { s with scn := { s.scn with genlocks := updAt s.scn.genlocks n f } }

/-- The frame that holds an FT, if one does. -/
def State.frameOf (s : State) (ns : Nat) : Option Nat := { s with time := { s.time with ft := ns * 2 ^ 32 } }.frame?

/-- Window `w` compares an edge of its input in a frame in which it is active (R266). -/
def State.checkSlip (s : State) (half w : Nat) : State :=
  let v : View := fun f i => s.r f i
  match s.frameOf (half / 2) with
  | none => s
  | some f =>
    if !windowActive v w f then s
    else
      let want : Int := 2 * ((s.bnd f : Int) + v .winOffset w + toInt 32 (v .winGlExpect w))
      let n := if 200 < ((half : Int) - want).natAbs then s.scn.glSlips.getD w 0 + 1 else 0
      let s := { s with scn := { s.scn with glSlips := updAt s.scn.glSlips w (fun _ => n) } }
      if 3 ≤ n then s.raiseBit .scnWindowSlip 0 w else s

/-- An edge taken: its stamp, in 0.5 ns, period and phase (R265). -/
def State.takeEdge (s : State) (n half : Nat) : State :=
  let x := s.genlock n
  let iv := match x.last with
    | some l => ((half - l) :: x.intervals).take 8
    | none => x.intervals
  let s := s.setGenlock n (fun _ => { last := some half, intervals := iv, from_ := half })
  let s := (((s.w .genStamp n (half / 2)).w .genStampHalf n (half % 2)).count .genEdges n).w .genPresent n 1
  let s := s.w .genPeriod n (if iv.length = 8 then iv.sum / 16 else 0)
  match s.frameOf (half / 2) with
  | none => s
  | some f =>
    let p : Int := (half / 2 : Nat) - s.bnd f
    s.w .genPhase n (ofInt 32 (if (s.pmin : Int) < 2 * p then p - s.pmin else p))

/-- GENLOCK_EDGE: an edge of the input, held for some ns, its stamp in 0.5 ns (R264). -/
def doGenlockEdge (n : Nat) (rising : Bool) (held half : Nat) (s : State) : State :=
  if 3 < n ∨ !s.on .genEnable n ∨ rising = s.on .genFalling n then s
  else if held < s.r .genFilter n then s.raise .genGlitch n
  else
    let s := s.takeEdge n half
    let checks := (List.range 8).filter (fun w => s.on .winEnable w && s.on .winGlCheck w && s.r .winGlInput w == n)
    (checks.foldl (fun s w => s.checkSlip half w) s).genlockRef n half
def execGenlockEdge (n : Nat) (rising : Bool) (held half : Nat) (s : State) : Host.Outcome State Fault Refusal :=
  event (doGenlockEdge n rising held half) s

/-- GENLOCK_MISSED (R265): none within 1.5 × period of the last edge, or of the last edge missed. -/
def doGenlockMissed (n : Nat) (s : State) : State :=
  let x := s.genlock n
  let p := s.r .genPeriod n
  if 3 < n ∨ !s.on .genEnable n ∨ x.last = none ∨ p = 0 ∨ 2 * s.ftNs ≤ x.from_ + 3 * p then s
  else
    let s := s.setGenlock n (fun (x : Genlock) => { x with from_ := x.from_ + 2 * p })
    (((s.count .genMisses n).raise .genMissed n).w .genPresent n 0).genlockMiss n
def execGenlockMissed (n : Nat) (s : State) : Host.Outcome State Fault Refusal := event (doGenlockMissed n) s

/-- An input's settings, at once (R257): one switched off measures nothing. -/
def State.setGenlockIn (s : State) (n enable falling filter : Nat) : State :=
  let s := ((s.w .genEnable n enable).w .genFalling n falling).w .genFilter n (min 1000 filter)
  if enable = 0 then (s.setGenlock n (fun _ => State.genlock0)).w .genPresent n 0 else s

/-! ### SHUTTER outputs (R267, R268) -/

def State.shutterOf (s : State) (n : Nat) : Shutter := s.scn.shutters.getD n State.shutter0
def State.setShutter (s : State) (n : Nat) (f : Shutter → Shutter) : State :=
  { s with scn := { s.scn with shutters := updAt s.scn.shutters n f } }

/-- An output may drive edges (R268). -/
def State.shutterLive (s : State) (n : Nat) : Bool :=
  s.on .shuEnable n && (s.inShow || (s.inStandby && s.on .shuStandby n)) && (s.r .ftLockState == 2 || s.r .ftLockState == 3) &&
    !s.scn.highZ && s.scn.drivenAt != some s.clk

/-- The window settings that govern the instances of frame `f`: those of a set that has applied for it already, though its other scan-out
fields wait for B(f) (R257). -/
def State.windowView (s : State) (f : Nat) : View := if s.lay.latched = f + 1 then s.now else fun g i => s.r g i

/-- The instance of a frame whose assert edge, start − lead, lies in this TB cycle under some settings: its frame and the edge. -/
def State.edgeNow (s : State) (v : View) (n : Nat) : Option (Nat × Int) :=
  let w := s.r .shuWindow n
  let ahead : Int := toInt 32 (s.r .shuLead n) - v .winOffset w
  match s.frameOf ((s.ftNs : Int) + ahead).toNat with
  | none => none
  | some f =>
    let edge : Int := s.bnd f - ahead
    if windowActive v w f ∧ edge ≤ s.ftNs ∧ (s.ftNs : Int) < edge + 5 then some (f, edge) else none

/-- The instance whose assert edge lies in this TB cycle, each frame under the settings that govern its instances (R257, R267). -/
def State.shutterEdge (s : State) (n : Nat) : Option (Nat × Int) :=
  let next := (s.edgeNow s.now n).filter (fun e => s.lay.latched == e.1 + 1)
  next.or ((s.edgeNow (fun g i => s.r g i) n).filter (fun e => s.lay.latched != e.1 + 1))

/-- SHUTTER_ASSERT: the instance is fixed at its assert edge, with the settings then in effect (R267). -/
def doShutterAssert (n : Nat) (s : State) : State :=
  if 3 < n ∨ !s.shutterLive n then s
  else
    match s.shutterEdge n with
    | none => s
    | some (f, edge) =>
      if (s.shutterOf n).lastFrame = some f then s
      else
        let len : Nat := if s.on .shuPulse n then s.r .shuWidth n else s.windowView f .winLength (s.r .shuWindow n)
        let low := s.on .shuActiveLow n
        let s := s.setShutter n (fun _ => { asserted := true, endNs := (edge + len).toNat, lowLevel := low, lastFrame := some f })
        s.emit (.shutter n (!low))
def execShutterAssert (n : Nat) (s : State) : Host.Outcome State Fault Refusal := event (doShutterAssert n) s

/-- An output goes to the deasserted level it was fixed with. -/
def State.deassert (s : State) (n : Nat) : State :=
  let x := s.shutterOf n
  (s.setShutter n (fun (y : Shutter) => { y with asserted := false })).emit (.shutter n x.lowLevel)

/-- SHUTTER_DEASSERT: the instance's end, or the output may drive no more (R267, R268). -/
def doShutterDeassert (n : Nat) (s : State) : State :=
  let x := s.shutterOf n
  if x.asserted ∧ (x.endNs ≤ s.ftNs ∨ !s.shutterLive n) then s.deassert n else s
def execShutterDeassert (n : Nat) (s : State) : Host.Outcome State Fault Refusal := event (doShutterDeassert n) s

/-! ### Commands (Table 7.8) -/

/-- SCAN_GET. -/
def actScanGet : Action := fun _ s => done s (s.words 0x2000 7)
def execScanGet (c : HostCmd) (s : State) : Host.Outcome State Fault Refusal := .next (runHost 0x0800 actScanGet c s)

/-- SCAN_SET_LANES. -/
def actScanSetLanes : Action := fun c s =>
  let a := c.u8 0
  let b := c.u8 1
  if 95 < a ∨ 95 < b ∨ b < a ∨ 16 < c.u8 2 ∨ c.u8 3 < 1 ∨ 48 < c.u8 3 then refuse s Status.badArg
  else done (s.stages c.session (((List.range (b + 1 - a)).map (a + ·)).flatMap (fun n =>
    [(.scnLaneDrivers, n, c.u8 2), (.scnLaneCpd, n, c.u8 3)])))
def execScanSetLanes (c : HostCmd) (s : State) : Host.Outcome State Fault Refusal := .next (runHost 0x0801 actScanSetLanes c s)

/-- SCAN_SET_TIMING. -/
def actScanSetTiming : Action := fun c s =>
  if c.u8 0 < 1 ∨ 16 < c.u8 0 ∨ c.u8 1 < 1 ∨ 64 < c.u8 1 ∨ 7 < c.u8 2 ∨ 3 < c.u8 3 ∨ c.u8 4 < 2 then refuse s Status.badArg
  else done (s.stages c.session [(.scnGdivM1, 0, c.u8 0 - 1), (.scnMux, 0, c.u8 1), (.scnSegLog2, 0, c.u8 2),
    (.scnSubLog2, 0, c.u8 3), (.scnBlank, 0, c.u8 4), (.scnFf, 0, HostCmdFlag c 5), (.scnScanDelay, 0, c.u32 8)])
def execScanSetTiming (c : HostCmd) (s : State) : Host.Outcome State Fault Refusal := .next (runHost 0x0802 actScanSetTiming c s)

/-- SCAN_SET_FEED. -/
def actScanSetFeed : Action := fun c s =>
  let k := c.u8 0
  if 7 < k then refuse s Status.badArg
  else done (s.stages c.session [(.scnFeedEnable, k, HostCmdFlag c 1), (.scnFeedConfine, k, HostCmdFlag c 2),
    (.scnFeedOffset, k, c.u32 4), (.scnFeedPitch, k, c.u32 8)])
def execScanSetFeed (c : HostCmd) (s : State) : Host.Outcome State Fault Refusal := .next (runHost 0x0803 actScanSetFeed c s)

/-- SCAN_SET_WINDOW. -/
def actScanSetWindow : Action := fun c s =>
  let w := c.u8 0
  if 7 < w ∨ c.u8 4 < 1 ∨ 16 < c.u8 4 ∨ 3 < c.u8 7 then refuse s Status.badArg
  else done (s.stages c.session [(.winEnable, w, HostCmdFlag c 1), (.winExclusive, w, HostCmdFlag c 2), (.winFeedMask, w, c.u8 3),
    (.winDivM1, w, c.u8 4 - 1), (.winPhase, w, c.u8 5), (.winGlCheck, w, HostCmdFlag c 6), (.winGlInput, w, c.u8 7),
    (.winOffset, w, c.u32 8), (.winLength, w, c.u32 12), (.winGlExpect, w, c.u32 16)])
def execScanSetWindow (c : HostCmd) (s : State) : Host.Outcome State Fault Refusal := .next (runHost 0x0804 actScanSetWindow c s)

/-- SCAN_PLAN: the checks of Table 7.1 on the configuration that would apply if every staged field were committed now. -/
def actScanPlan : Action := fun _ s =>
  let old := s.after s.lay.sets
  let v := overlay s.candidate old
  let (code, feed, sub, w) := (scanFault v (s.mapOk v) (if s.inShow then some old else none)).getD (0, 0, 0, 0)
  let free := ((startsOf v).filter (fun x => probeAllowed v x.1)).length
  done s ([byte code, byte feed, byte sub, byte w] ++ leBytes 4 (tSub v) ++ leBytes 4 (tLoad v) ++ leBytes 2 free ++ [0, 0] ++
    leBytes 4 (refreshOf v))
def execScanPlan (c : HostCmd) (s : State) : Host.Outcome State Fault Refusal := .next (runHost 0x0805 actScanPlan c s)

/-- GENLOCK_SET. -/
def actGenlockSet : Action := fun c s =>
  if 3 < c.u8 0 then refuse s Status.badArg
  else done (s.setGenlockIn (c.u8 0) (HostCmdFlag c 1) (HostCmdFlag c 2) (c.u16 4))
def execGenlockSet (c : HostCmd) (s : State) : Host.Outcome State Fault Refusal := .next (runHost 0x0806 actGenlockSet c s)

/-- GENLOCK_GET. -/
def actGenlockGet : Action := fun c s =>
  let n := c.u8 0
  if 3 < n then refuse s Status.badArg
  else done s (leBytes 8 (s.r .genStamp n) ++ leBytes 4 (s.r .genPeriod n) ++ leBytes 4 (s.r .genPhase n) ++
    leBytes 4 (s.r .genEdges n) ++ leBytes 4 (s.r .genMisses n) ++
    [byte (s.r .genPresent n + 2 * s.r .genMissed n + 4 * s.r .genGlitch n)])
def execGenlockGet (c : HostCmd) (s : State) : Host.Outcome State Fault Refusal := .next (runHost 0x0807 actGenlockGet c s)

/-- SHUTTER_SET. -/
def actShutterSet : Action := fun c s =>
  let n := c.u8 0
  if 3 < n ∨ 7 < c.u8 2 then refuse s Status.badArg
  else
    let flag (b : Nat) : Nat := b2n (bit (c.u8 3) b)
    let s := ((((s.w .shuEnable n (HostCmdFlag c 1)).w .shuWindow n (c.u8 2)).w .shuActiveLow n (flag 0)).w .shuPulse n (flag 1)).w
      .shuStandby n (flag 2)
    done ((s.w .shuLead n (c.u32 4)).w .shuWidth n (clampN 100 10000000 (c.u32 8)))
def execShutterSet (c : HostCmd) (s : State) : Host.Outcome State Fault Refusal := .next (runHost 0x0808 actShutterSet c s)

/-- A group's gclk_trim stored: it works at once outside Show, from the next entry to Show in it (R257). -/
def State.setTrim (s : State) (g v : Nat) : State :=
  let s := s.w .scnGclkTrim g v
  if s.inShow then s else { s with scn := { s.scn with trims := updAt s.scn.trims g (fun _ => v % 65536) } }

/-- SCAN_SET_TRIM. -/
def actScanSetTrim : Action := fun c s =>
  if 11 < c.u8 0 then refuse s Status.badArg else done (s.setTrim (c.u8 0) (c.u16 2))
def execScanSetTrim (c : HostCmd) (s : State) : Host.Outcome State Fault Refusal := .next (runHost 0x0809 actScanSetTrim c s)

end Sys2Proof.Machine
end

