-- ==== Sys2Proof/Machine/Service.lean ====
section
/-! DEFINITION. Clock domains and service sets (R32, R513, Table 13.8), and the health word (R438, Table 11.7). -/

namespace Sys2Proof.Machine

/-- Domain `d` has clock-good (R32). -/
def State.good (s : State) (d : Nat) : Bool := bit s.clockGood d

/-- The clock-good bit of a domain whose source the node starts or loses. -/
def State.setGood (s : State) (d : Nat) (v : Bool) : State :=
  if d < 32 then s.w .clkGood310 0 (setBit (s.r .clkGood310) d v) else s.w .clkGood3932 0 (setBit (s.r .clkGood3932) (d - 32) v)

/-- The ports of a head on its own ring that carry traffic (log entry 43). -/
def State.ringUp (s : State) : List Nat := (List.range 4).filter (fun p => s.up p && !bit (s.r .netBoundary) p)

/-- Domains of the minimum, tile and head sets (Table 13.8). -/
def minDomains : List Nat := [0, 1, 3, 4]
def State.tileDomains (s : State) : List Nat :=
  minDomains ++ [2, 5, 6, 7, 8, 9, 10, 11, 12, 13, 14, 15, 16, 17, 18, 19, 35, 36] ++
    (if s.on .ftIsRoot then [] else [20 + s.r .ftParentPort, 24 + s.r .ftParentPort])
def State.headDomains (s : State) : List Nat :=
  minDomains ++ [2, 32, 33, 34] ++
    (((List.range 16).filter (fun i => s.on .ingEnable i && s.r .ingKind i == 1)).map (fun i => 28 + s.r .ingDpPort i)).eraseDups ++
    (if s.r .ftSource = 2 then [37] else []) ++ (s.ringUp.flatMap (fun p => [20 + p, 24 + p]))

/-- The role set (R513). -/
def State.roleDomains (s : State) : List Nat :=
  (if s.hasWindow then s.tileDomains else []) ++ (if s.isHead then s.headDomains else [])

/-- Domains of a set without clock-good. -/
def State.missing (s : State) (ds : List Nat) : List Nat := (ds.filter (fun d => !s.good d)).eraseDups

/-- Fabric time serves (Table 13.8): LOCKED or HOLDOVER, or time root. -/
def State.timeServes (s : State) : Bool := s.r .ftLockState == 2 || s.r .ftLockState == 3

/-- A service set holds (Table 13.8). -/
def State.minHolds (s : State) : Bool :=
  s.missing minDomains == [] && s.on .rstTrimsValid && (s.on .pcieLinkUp || s.good 37 || (List.range 4).any s.up)
def State.tileHolds (s : State) : Bool :=
  s.missing s.tileDomains == [] && s.on .rstTrimsValid && s.timeServes &&
    (s.on .ftIsRoot || (s.up (s.r .ftParentPort) && decide (1 ≤ s.r .fabRate (s.r .ftParentPort))))
def State.headHolds (s : State) : Bool :=
  s.missing s.headDomains == [] && s.on .rstTrimsValid && (s.timeServes || s.on .ftIsRoot) && s.ringUp != [] &&
    s.ringUp.all (fun p => decide (1 ≤ s.r .fabRate p))
def State.roleHolds (s : State) : Bool :=
  (s.isTile || s.isHead) && (!s.hasWindow || s.tileHolds) && (!s.isHead || s.headHolds)

/-- Fabric time lets the node be in Show (Table 2.9, R69): FREE on the time root, LOCKED, or HOLDOVER within the hold limit (R73, R74); not
while its parent port runs at the base rate. -/
def State.timeShows (s : State) : Bool :=
  let l := s.r .ftLockState
  if s.on .ftIsRoot then l == 0 || l == 2 || l == 3
  else
    let held := match s.time.holdSince with
      | some t => decide (s.clk ≤ t + (s.r .ftTakeoverAllow + s.r .ftHoldLimit) * 1000000)
      | none => true
    (l == 2 || (l == 3 && held)) && s.r .fabRate (s.r .ftParentPort) != 0

/-- A node that has left Show for time returns only after 100 ms in LOCKED (R76). -/
def State.timeReturns (s : State) : Bool :=
  !s.time.returnShow || (match s.time.lockedSince with
    | some t => decide (t + 100000000 ≤ s.clk)
    | none => false)

/-- What a node that enters Show needs: valid trims and the clock-good of its role set (R35), fabric time (R69, R76), and no test or memory
failure that keeps it out (Table 16.1). -/
def State.mayShow (s : State) : Bool :=
  s.timeShows && s.timeReturns && s.on .rstTrimsValid && (s.isTile || s.isHead) && s.missing s.roleDomains == [] && !s.thm.noShow && s.r .tstMemBad == 0

/-! ### Health -/

/-- Bits that only a head has (R609, log entry 45): mirror, pcie, fabric, dp, clip, cxl, power. Bit time_ref follows the reference's events. -/
def State.headHealth (s : State) : Nat :=
  let st := s.r .redState
  let twinUp := match s.net.map.find? (fun m => m.node != 0 && m.node == s.r .redTwin) with
    | some m => ones 4 m.up
    | none => 0
  let lost := (List.range 16).any (fun i => s.on .ingEnable i && s.r .ingKind i == 1 &&
    !s.on .dprVideoValid (s.r .ingDpPort i) && s.twinVideo (s.r .ingDpPort i))
  let links := if s.on .cxlSplit then 3 else 1
  1024 * b2n (st == 0 || st == 1) + (if bit (s.r .redHealth) 9 then 512 else 0) + 256 * b2n (!s.on .pcieLinkUp) +
    128 * b2n (decide (s.ringUp.length < twinUp)) + 64 * b2n lost + 32 * b2n (s.ing.poison != []) +
    16 * b2n (s.r .cxlLinkUp % (links + 1) != links || s.r .cxlDevError != 0) + b2n (!s.on .sysPwrGood)

/-- Bits that every node with a health word has: thermal, memory, clock. -/
def State.nodeHealth (s : State) : Nat :=
  let recent := match s.col.lastUncorr with
    | some t => decide (s.clk < t + 1000000000)
    | none => false
  8 * b2n (decide (3 ≤ s.r .thmNodeLevel)) + 4 * b2n recent +
    2 * b2n (s.missing (if s.isHead then s.headDomains else s.roleDomains) != [])

/-- The health word, as it is at a frame boundary (R438). -/
def State.healthNow (s : State) : Nat := (if s.isHead then s.headHealth else 0) + s.nodeHealth

/-- A masked bit of the health word is set (R404, R418, R440). -/
def State.unwell (s : State) : Bool := (s.r .redHealth &&& s.r .redStanddownMask) != 0

end Sys2Proof.Machine
end

