-- ==== Sys2Proof/Machine/Redundancy.lean ====
section
/-! DEFINITION. Twin heads: the Tansy lease (R404 to R420), claims (R421 to R427, R439, R440), HEAD_PICK (R430 to R432), resilvering
(R441 to R443) and the redundancy commands (Table 11.12). -/

namespace Sys2Proof.Machine

/-- Head states (Table 11.1). -/
abbrev Red.init : Nat := 0
abbrev Red.resilver : Nat := 1
abbrev Red.standby : Nat := 2
abbrev Red.candidate : Nat := 3
abbrev Red.active : Nat := 4
abbrev Red.lapsed : Nat := 5
abbrev Red.down : Nat := 6

/-! ### Packets -/

/-- Whether a copy of a redundancy packet is the first of its origin, type and seq (R405), and the state that has noted it. The
last seq and the 16 before it are told apart (log entry 46). -/
def State.firstCopy (s : State) (origin type seq : Nat) : Option State :=
  let key := origin * 64 + type
  let v := sget 0 s.net.seen key
  let put (x : Nat) : Option State := some { s with net := { s.net with seen := sput 0 s.net.seen key x } }
  if v = 0 then put (seq % 65536 + 65536)
  else
    let last := v % 65536
    let mask := v / 65536
    let back := (last + 65536 - seq % 65536) % 65536
    let ahead := (seq % 65536 + 65536 - last) % 65536
    if back < 16 then (if bit mask back then none else put (v + 65536 * 2 ^ back))
    else if ahead < 16 then put (seq % 65536 + 65536 * ((mask * 2 ^ ahead + 1) % 65536))
    else put (seq % 65536 + 65536)

/-- Flags of a LEASE this node sends (Table 11.2). -/
def State.leaseFlags (s : State) (witness : Bool) : Nat :=
  b2n witness + 2 * s.r .redLeaseMode + 4 * s.r .redClaimMode + 8 * b2n s.isHeadB + 16 * b2n (!s.isHead)

/-- The holder field of this head (Table 11.2). -/
def State.holderField (s : State) : Nat := s.id + 32768 * b2n s.isHeadB

/-- The health word that a LEASE carries: its power bit as it was before a deassertion taken in this cycle (R438, R614). -/
def State.healthSent (s : State) (op : Nat) : Nat :=
  if op ≠ 2 ∧ s.red.powerFell = some s.clk then setBit (s.r .redHealth) 0 false else s.r .redHealth

/-- A LEASE sent on the ring, with the health word (R438). -/
def State.sendLease (s : State) (op : Nat) (witness : Bool) (term expiry holder frame : Nat) : State :=
  let l := [byte op, byte (s.leaseFlags witness), byte (if s.isHead then s.r .redState else 0), 0] ++ leBytes 4 term ++
    leBytes 8 expiry ++ leBytes 2 s.red.seq ++ leBytes 2 (s.healthSent op) ++ leBytes 4 (s.r .redClaim) ++
    leBytes 2 (s.r .redEpoch) ++ leBytes 2 holder ++ leBytes 4 0 ++ leBytes 8 frame
  if s.held 12 then s else { s.sendRing 0x1C l with red := { s.red with seq := (s.red.seq + 1) % 65536 } }

/-- The expiry recorded for a head, the latest one (R408). -/
def noteExpiry (isB : Bool) (e : Nat) (l : List (Bool × Nat)) : List (Bool × Nat) :=
  let old := ((l.find? (fun p => p.1 == isB)).map (·.2)).getD 0
  l.filter (fun p => p.1 != isB) ++ [(isB, max old e)]

/-- The record of a head discarded (R414). -/
def forget (isB : Bool) (l : List (Bool × Nat)) : List (Bool × Nat) := l.filter (fun p => p.1 != isB)

/-- The node may grant a RENEW of this head: no other head's recorded expiry lies in the future (R408). -/
def State.mayGrant (s : State) (isB : Bool) : Bool := !s.red.expiries.any (fun p => p.1 != isB && decide (s.ftNs < p.2))

/-- The latest expiry recorded. -/
def State.latestExpiry (s : State) : Option Nat := (s.red.expiries.map (·.2)).max?

/-- Tile nodes of this head's ring in the map it has (R407); with a map that carries no links, every node but the heads. -/
def State.ringTiles (s : State) : List Nat :=
  let ns := s.net.map
  let linked := ns.any (fun m => m.up != 0)
  let rings := ringLabels ns (graph ns)
  let mine := rings.getD ((ns.findIdx? (fun m => m.node == s.id)).getD 0) 0
  ((ns.zip rings).filter (fun p => p.1.node != 0 && p.1.node != s.id && !p.1.isHead && !(p.1.node ∈ s.red.headIds) &&
    (!linked || p.2 == mine))).map (fun p => p.1.node)

/-! ### The lease -/

/-- A head is eligible (R404); until it first hears a holder, fabric time, the mirror and health bit mirror count as met (R412). -/
def State.eligible (s : State) : Bool :=
  s.r .redState == Red.standby &&
    (if s.red.heardHolder then s.on .redMirrorComplete && s.r .ftLockState == 2 && !s.unwell
      else (s.r .redHealth &&& s.r .redStanddownMask) % 1024 == 0)

/-- RENEW (R406): expiry FT + lease_us, with witness while the twin has not been heard for lease_us (R407). A holder under R413 has
nobody to grant it: its lease then runs on by its own RENEW (log entry 47). -/
def State.sendRenew (s : State) : State :=
  let e := s.ftNs + 1000 * s.r .redLeaseUs
  let w := !s.twinSeen
  let s := s.sendLease 0 w (s.r .redTerm) e s.holderField 0
  let free := s.red.freeHold && w && s.net.map == []
  { s with red := { s.red with
    asked := some e, witness := w, ackers := [], sentAt := s.clk, expiries := noteExpiry s.isHeadB e s.red.expiries
    leaseEnd := if free then e else s.red.leaseEnd, freeHold := free } }

/-- The head holds the lease no longer: on the time ring it is time root and discovery master no longer (R415). -/
def State.cease (s : State) (st : Nat) : State :=
  let s := s.ws [(.redHolder, 0), (.redState, st), (.netMaster, 0)]
  ({ s with red := { s.red with asked := none, freeHold := false } }).leaveRoot

/-- CANDIDATE withdrawn: the head is a standby again. -/
def State.withdraw (s : State) (status : Nat) : State :=
  let s := s.w .redState 0 Red.standby
  let s := { s with red := { s.red with
    asked := none, granted := false, yieldFrame := none, takeReq := false, takeFree := false, taking := false, degraded := false } }
  s.complete .takeover status

/-- A head enters CANDIDATE (R410 step 1): its term raised above every term heard and stored, a RENEW sent. -/
def State.enterCandidate (s : State) : State :=
  let term := max (s.r .aonTerm) s.red.heardTerm + 1
  let s := s.ws [(.aonTerm, term), (.redTerm, term), (.redState, Red.candidate)]
  ({ s with red := { s.red with candidateAt := s.clk, granted := false, taking := false, takeReq := false } }).sendRenew

/-- Everything a head knows of its twin from a LEASE (Table 11.2). -/
def State.noteTwin (s : State) (k : Pkt) : State :=
  let isB := !s.isHeadB
  let s := if k.src = 0 then s else
    { s.w .redTwin 0 k.src with red := { s.red with headIds := updAt s.red.headIds (b2n isB) (fun _ => k.src) } }
  let s := s.ws [(.redTwinHealth, k.u16 18), (.redTwinClaim, k.u32 20)]
  { s with red := { s.red with
    twinAt := some s.clk, twinState := k.u8 2, twinClaim := k.u32 20, twinEpoch := k.u16 24, twinHeard := true
    ackState := if k.u8 0 = 1 then k.u8 2 else s.red.ackState
    ackHealth := if k.u8 0 = 1 then k.u16 18 else s.red.ackHealth
    heardEpoch := max s.red.heardEpoch (k.u16 24)
    heardTerm := if k.u8 0 = 1 then s.red.heardTerm else max s.red.heardTerm (k.u32 4)
    twinTerm := if k.u8 0 = 1 then s.red.twinTerm else k.u32 4 } }

/-- A LEASE is the twin's: from a head of the other role. -/
def State.fromTwin (s : State) (k : Pkt) : Bool := s.isHead && !bit (k.u8 1) 4 && bit (k.u8 1) 3 != s.isHeadB

/-- The origin of a LEASE for R405: head A, head B, or a tile by its ID. -/
def leaseOrigin (k : Pkt) : Nat := if bit (k.u8 1) 4 then k.src else if bit (k.u8 1) 3 then 8193 else 8192

/-- The node answers ACK (R407, R408): the RENEW's expiry, holder and term echoed. -/
def State.sendAck (s : State) (k : Pkt) : State := s.sendLease 1 (bit (k.u8 1) 0) (k.u32 4) (k.u64 8) (k.u16 26) 0

/-- A head that hears a holder leaves LAPSED, and enters RESILVER where it must copy the store (R412, R441). -/
def State.startResilver (s : State) : State :=
  let s := s.ws [(.redState, Red.resilver), (.redMirrorComplete, 0), (.redPasses, 0), (.redResilverLeft, 0)]
  let s := { s with
    red := { s.red with tableIn := false, mirrored := [], listed := [] }
    net := { s.net with nextTransfer := s.net.nextTransfer + 1 } }
  s.sendResilver 0 0 0 s.net.nextTransfer

def State.hearHolder (s : State) : State :=
  let first := !s.red.heardHolder
  let s := { s with red := { s.red with heardHolder := true } }
  if s.on .redHolder then s
  else if first then s.startResilver
  else if s.r .redState = Red.lapsed then (if s.on .redMirrorComplete then s.w .redState 0 Red.standby else s.startResilver)
  else s

/-- A tile takes a RENEW: the control head is the one of the highest term heard within lease_us + guard_us (R427), and owns the wall
sessions (R472). -/
def State.followRenew (s : State) (k : Pkt) : State :=
  let term := k.u32 4
  let fresh := s.controlNow != 0
  if fresh ∧ term < s.red.heardTerm then s
  else
    let h := k.u16 26 % 4096
    let changed := s.r .redControlHead != h
    let s := s.ws [(.redControlHead, h), (.redTerm, term)]
    let s := { s with red := { s.red with renewAt := some s.clk, heardTerm := term } }
    if changed then
      let l := s.mbx.sessions.map (fun (x : Session) => if 0x8000 ≤ x.id then { x with owner := .fabric h } else x)
      { s with mbx := { s.mbx with sessions := l } }
    else s

/-- A CANDIDATE ignores its twin's RENEW: unexpired, from a twin that is not ACTIVE and does not outrank it (R414). -/
def State.ignores (s : State) (k : Pkt) : Bool :=
  s.r .redState == Red.candidate && decide (s.ftNs < k.u64 8) && k.u8 2 != Red.active &&
    !(k.u8 2 == Red.candidate && (decide (s.r .redTerm < k.u32 4) || (s.r .redTerm == k.u32 4 && s.isHeadB)))

/-- A CANDIDATE gives way to its twin's RENEW (R414): to an ACTIVE twin it is a standby again; to a CANDIDATE that outranks it, it discards the
record of its own RENEW as well. -/
def State.giveWay (s : State) (k : Pkt) : State :=
  if s.r .redState = Red.candidate ∧ s.ftNs < k.u64 8 then
    let t := s.withdraw Status.denied
    if k.u8 2 = Red.active then t else { t with red := { t.red with expiries := forget t.isHeadB t.red.expiries } }
  else s

/-- LEASE_RENEW_RX (R405, R407, R408, R412, R414, R427). -/
def doLeaseRenewRx (k : Pkt) (s : State) : State :=
  if k.u8 0 ≠ 0 ∨ bit (k.u8 1) 4 then s
  else
    match s.firstCopy (leaseOrigin k) 0x1C (k.u16 16) with
    | none => s
    | some s =>
      let isB := bit (k.u16 26) 15
      let e := k.u64 8
      if s.isHead then
        if !s.fromTwin k then s
        else
          let s := s.noteTwin k
          if s.ignores k then s
          else
            let s := s.giveWay k
            let s := { s with red := { s.red with
              expiries := noteExpiry isB e s.red.expiries, renewAt := some s.clk, taking := false } }
            let s := if k.u8 2 = Red.active then s.hearHolder.complete .handover Status.ok else s
            if s.mayGrant isB then s.sendAck k else s
      else
        let ids := if k.src = 0 then s.red.headIds else updAt s.red.headIds (b2n isB) (fun _ => k.src)
        let s := { s with red := { s.red with expiries := noteExpiry isB e s.red.expiries, headIds := ids } }
        let s := s.followRenew k
        if bit (k.u8 1) 0 ∧ s.id ≠ 0 ∧ s.mayGrant isB then s.sendAck k else s
/-- The RENEWs that arrive in this cycle, taken before a guard end or a takeover boundary in it (Table 11.9); when they come up in the queue
they are later copies. -/
def State.renewsNow (s : State) : State :=
  s.sameCycle.foldl (fun t i => match i with
    | .leaseRenewRx p k => if p < 4 then doLeaseRenewRx k t else t
    | _ => t) s
def execLeaseRenewRx (p : Nat) (k : Pkt) (s : State) : Host.Outcome State Fault Refusal :=
  event (fun s => if p < 4 then doLeaseRenewRx k s else s) s

/-- LEASE_RENEW_SEND (R406): every renew_us, by the holder and by a CANDIDATE from guard end on. -/
def doLeaseRenewSend (s : State) : State :=
  if s.isHead ∧ (s.on .redHolder ∨ s.r .redState = Red.candidate) ∧ !s.held 12 ∧ s.red.sentAt + 1000 * s.r .redRenewUs ≤ s.clk then
    s.sendRenew
  else s
def execLeaseRenewSend (s : State) : Host.Outcome State Fault Refusal := event doLeaseRenewSend s

/-- The RENEW asked for is granted (R406, R410 step 2). -/
def State.granted (s : State) (e : Nat) : State :=
  { s with red := { s.red with leaseEnd := max s.red.leaseEnd e, granted := true, asked := none } }

/-- LEASE_ACK_RX (R407): the twin's ACK grants; a witness RENEW is granted by more than half of the ring's tiles in the map. -/
def doLeaseAckRx (k : Pkt) (s : State) : State :=
  if !s.isHead ∨ k.u8 0 ≠ 1 then s
  else
    match s.firstCopy (leaseOrigin k) 0x1C (k.u16 16) with
    | none => s
    | some s =>
      let s := if s.fromTwin k then s.noteTwin k else s
      match s.red.asked with
      | none => s
      | some e =>
        if k.u64 8 ≠ e ∨ bit (k.u16 26) 15 ≠ s.isHeadB then s
        else if !s.red.witness then (if s.fromTwin k then s.granted e else s)
        else if bit (k.u8 1) 4 then
          let tiles := s.ringTiles
          let a := if k.src ∈ s.red.ackers then s.red.ackers else k.src :: s.red.ackers
          let s := { s with red := { s.red with ackers := a } }
          if tiles.length < 2 * (tiles.filter (· ∈ a)).length then s.granted e else s
        else s
def execLeaseAckRx (k : Pkt) (s : State) : Host.Outcome State Fault Refusal := event (doLeaseAckRx k) s

/-- The ACKs that arrive in this cycle (Table 11.9); when they come up in the queue they are later copies. -/
def State.acksNow (s : State) : State :=
  s.sameCycle.foldl (fun t i => match i with | .leaseAckRx k => doLeaseAckRx k t | _ => t) s

/-- LEASE_END (R409): the lease end has passed without a later grant; one that arrives in the same cycle counts (Table 11.9). -/
def doLeaseEnd (s : State) : State :=
  if s.on .redHolder ∧ s.red.leaseEnd ≤ s.ftNs then
    let s := s.acksNow
    if s.red.leaseEnd ≤ s.ftNs then
      let s := s.cease Red.lapsed
      { s with red := { s.red with lapsedAt := some s.clk } }
    else s
  else s
def execLeaseEnd (s : State) : Host.Outcome State Fault Refusal := event doLeaseEnd s

/-- No RENEW has reached the head for lease_us, counted from its start where none has come (R410, R412). -/
def State.silence (s : State) : Bool :=
  match s.red.renewAt, s.red.begunAt with
  | some t, _ => decide (t + 1000 * s.r .redLeaseUs ≤ s.clk)
  | none, some b => decide (b + 1000 * s.r .redLeaseUs ≤ s.clk)
  | none, none => false

/-- LEASE_SILENCE (R410, R411): in AUTO, a standby that hears no RENEW, a head whose live twin is not able to hold and whose lease has
lapsed, or a head not eligible whose twin is silent, will take the lease at guard end. -/
def doLeaseSilence (s : State) : State :=
  let st := s.r .redState
  let lapsed : Bool := match s.latestExpiry with
    | some e => decide (e ≤ s.ftNs)
    | none => true
  let able := s.silence && (s.eligible || !s.twinSeen)
  let weak := s.twinSeen && (s.red.twinState == Red.down || s.red.twinState == Red.init || s.red.twinState == Red.resilver) && lapsed
  if s.isHead ∧ s.red.begunAt.isSome ∧ s.r .redLeaseMode = 0 ∧ st ≠ Red.candidate ∧ st ≠ Red.active ∧ !s.held 12 ∧ (able ∨ weak) then
    { s with red := { s.red with taking := true, degraded := !s.eligible && !s.twinSeen } }
  else s
def execLeaseSilence (s : State) : Host.Outcome State Fault Refusal := event doLeaseSilence s

/-- Guard end (R410, R412): guard_us after the latest expiry recorded, or after the lease_us of silence where none is. -/
def State.guardOver (s : State) : Bool :=
  match s.latestExpiry, s.red.begunAt with
  | some e, _ => decide (e + 1000 * s.r .redGuardUs ≤ s.ftNs)
  | none, some b => decide (b + 1000 * (s.r .redLeaseUs + s.r .redGuardUs) ≤ s.clk)
  | none, none => false

/-- GUARD_END (R410, R411, R420), after the RENEWs of its cycle (Table 11.9). -/
def doGuardEnd (s : State) : State :=
  let s := if s.isHead then s.renewsNow else s
  let st := s.r .redState
  if s.isHead ∧ st ≠ Red.candidate ∧ st ≠ Red.active ∧ !s.held 12 ∧ ((s.red.taking ∧ s.r .redLeaseMode = 0) ∨ s.red.takeReq) ∧ s.guardOver
  then s.enterCandidate else s
def execGuardEnd (s : State) : Host.Outcome State Fault Refusal := event doGuardEnd s

/-- CANDIDATE_TIMEOUT (R410 step 3). -/
def doCandidateTimeout (s : State) : State :=
  if s.isHead ∧ s.r .redState = Red.candidate ∧ !s.red.granted ∧ s.red.candidateAt + 1000 * s.r .redLeaseUs ≤ s.clk then
    s.withdraw Status.timeout
  else s
def execCandidateTimeout (s : State) : Host.Outcome State Fault Refusal := event doCandidateTimeout s

/-- RENEW_MISSED (Table 11.11): no RENEW within renew_us + 100 µs of the last one. -/
def doRenewMissed (s : State) : State :=
  match s.red.renewAt with
  | some t =>
    if !s.on .redHolder ∧ t + 1000 * s.r .redRenewUs + 100000 ≤ s.clk ∧ !s.on .redRenewMissed then
      (s.raise .redRenewMissed).count .redRenewsMissed
    else s
  | none => s
def execRenewMissed (s : State) : Host.Outcome State Fault Refusal := event doRenewMissed s

/-- A holder yields (R419): YIELD with Fy, and it ceases to hold in that cycle; it discards the record of its own RENEW, as a yielding
CANDIDATE does, so that it can grant (log entry 48). -/
def State.yield_ (s : State) : State :=
  let fy := s.frameAfter (1000 * s.r .redGuardUs)
  let s := s.sendLease 2 false (s.r .redTerm) s.red.leaseEnd s.holderField fy
  let s := (s.cease Red.standby).raise .redYielded
  { s with red := { s.red with expiries := forget s.isHeadB s.red.expiries, dwells := List.replicate 11 0 } }

/-- LEASE_YIELD_RX (R419): the twin becomes CANDIDATE at once. -/
def doLeaseYieldRx (k : Pkt) (s : State) : State :=
  if k.u8 0 ≠ 2 ∨ bit (k.u8 1) 4 then s
  else
    match s.firstCopy (leaseOrigin k) 0x1C (k.u16 16) with
    | none => s
    | some s =>
      if !s.fromTwin k ∨ s.held 12 then s
      else
        let s := s.noteTwin k
        if s.r .redState = Red.candidate ∨ s.on .redHolder then s
        else ({ s with red := { s.red with yieldFrame := some (k.u48 32), degraded := false } }).enterCandidate
def execLeaseYieldRx (k : Pkt) (s : State) : Host.Outcome State Fault Refusal := event (doLeaseYieldRx k) s

/-! ### Claims -/

/-- A claim pair compared by epoch, then claim (R421). -/
def pairLt (a b : Nat × Nat) : Bool := decide (a.1 < b.1) || (a.1 == b.1 && decide (a.2 < b.2))

/-- A new epoch (R423): above AON_RED_EPOCH and every epoch heard, stored; claims start at 2 for head A, 3 for head B. -/
def State.newEpoch (s : State) : State :=
  let e := max (s.r .aonEpoch) s.red.heardEpoch + 1
  let s := s.ws [(.aonEpoch, e), (.redEpoch, e), (.redClaim, 2 + b2n s.isHeadB)]
  { s with red := { s.red with claimKnown := true } }

/-- The smallest claim of this head's parity above a claim, and the largest below one. -/
def State.claimAbove (s : State) (c : Nat) : Nat := if (c + 1) % 2 = b2n s.isHeadB then c + 1 else c + 2
def State.claimBelow (s : State) (c : Nat) : Nat := if (c - 1) % 2 = b2n s.isHeadB then c - 1 else c - 2

/-- A raise (R422): above both heads' claims, or a new epoch past 0x7FFF_FFFF. -/
def State.raiseClaim (s : State) : State :=
  let own := (s.r .redEpoch, s.r .redClaim)
  let twin := (s.red.twinEpoch, s.red.twinClaim)
  let top := if pairLt own twin then twin else own
  let c := s.claimAbove top.2
  if 0x7FFFFFFF < c then s.newEpoch
  else
    let s := s.ws [(.redEpoch, top.1), (.redClaim, c)]
    { s with red := { s.red with claimKnown := true } }

/-- The takeover boundary (R410, R413, R415, R416, R422, R423, R472): the head holds the lease from here. -/
def State.takeLease (s : State) (f : Nat) : State :=
  let s := s.ws [(.redHolder, 1), (.redState, Red.active), (.redLastTakeover, s.bnd f)]
  let s := (s.raise .redTookOver).count .redTakeovers
  let s := s.raiseIf (s.red.degraded || s.red.takeFree) .redDegradedTakeover
  let s := if s.red.heardHolder then s else s.w .redMirrorComplete 0 1
  let s := { s with red := { s.red with
    freeHold := s.red.takeFree, takeFree := false, takeReq := false, taking := false, degraded := false, granted := false,
    yieldFrame := none, candidateAt := s.clk } }
  let s := if s.red.freeHold then s.sendRenew else s
  let s := s.abandonPrepared
  let s := if Config.onTimeRing then
      let s := s.takeRoot.w .netMaster 0 1
      { s with net := { s.net with discoverAt := some s.clk } }
    else s
  let l := s.mbx.sessions.map (fun (x : Session) => if 0x8000 ≤ x.id then { x with rebind := true } else x)
  let s : State := { s with mbx := { s.mbx with sessions := l } }
  let s := if !s.red.twinHeard then s.newEpoch else if s.r .redClaimMode = 0 then s.raiseClaim else s
  (s.complete .takeover Status.ok).complete .handover Status.timeout

/-- HEAD_CLAIM at B(F) with apply F + 1 (R424): not in the first 256 frames after INIT, nor while the claim is unknown and no claim of the
twin's tells one: none heard, or claim 0, the twin's own unknown one (log entry 89). -/
def State.sendClaim (s : State) (f : Nat) : State :=
  if s.r .redState = Red.init then s
  else
    let s := { s with red := { s.red with frames := min 256 (s.red.frames + 1) } }
    if s.red.frames < 256 ∨ s.held 12 then s
    else
      let s := if s.red.claimKnown ∨ !s.red.twinHeard ∨ s.red.twinClaim = 0 then s
        else
          let s := s.ws [(.redEpoch, s.red.twinEpoch), (.redClaim, s.claimBelow s.red.twinClaim)]
          { s with red := { s.red with claimKnown := true } }
      if s.red.claimKnown then
        s.sendRing 0x1D (leBytes 2 (s.r .redEpoch) ++ [0, 0] ++ leBytes 4 (s.r .redClaim) ++ leBytes 8 (s.r .redSelect) ++ leBytes 8 (f + 1))
      else s

/-- A head's claim as a tile holds it is live in frame `f` (R425). -/
def HeadClaim.liveAt (c : HeadClaim) (hold f : Nat) : Bool := c.live && decide (f < c.lastFrame + hold)

/-- The claim and select mask in effect at B(Fa): the last one whose apply frame is Fa or earlier (R426). -/
def HeadClaim.at_ (c : HeadClaim) (f : Nat) : Option (Nat × Nat × Nat) :=
  if c.apply ≤ f then some (c.epoch, c.claim, c.select)
  else if c.oldEpoch = 0 ∧ c.oldClaim = 0 then none
  else some (c.oldEpoch, c.oldClaim, c.oldSelect)

/-- A tile obeys the head with the higher live claim at B(Fa) (R426); LL_CLAIM of a pair controller follows it (R439). -/
def State.obey (s : State) (f : Nat) : State :=
  let hold := s.r .redClaimHold
  let get (i : Nat) : Option (Nat × Nat × Nat) :=
    let c := s.red.claims.getD i State.claim0
    if c.liveAt hold f then c.at_ f else none
  let a := get 0
  let b := get 1
  let put (s : State) (who : Nat) (x : Nat × Nat × Nat) (other : Option (Nat × Nat × Nat)) : State :=
    s.ws [(.redObeyed, who), (.redEpoch, x.1), (.redClaim, x.2.1), (.redSelect, x.2.2),
      (.redTwinClaim, (other.map (fun y => y.2.1)).getD 0)]
  let s := match a, b with
    | some x, some y => if pairLt (x.1, x.2.1) (y.1, y.2.1) then put s 2 y a else put s 1 x b
    | some x, none => put s 1 x none
    | none, some y => put s 2 y none
    | none, none => s
  if s.on .redPairOn then
    let sel := if s.r .redSelect = 0 then 1 - s.r .redPairSide else b2n (bit (s.r .redSelect) (s.r .netPosition))
    s.setClaim (s.r .redEpoch) (2 * s.r .redClaim + sel)
  else s.setClaim 0 0

/-- The current frame, F0 before the first boundary. -/
def State.frameNow (s : State) : Nat := s.frame?.getD (s.r .ftAnchorFrame)

/-- HEAD_CLAIM_RX (R405, R421, R425, R440, R298): a tile records the claim, or rejects one below the live one of the same head; a pair
controller that stood down relights after a claim that applies later, once it is well. A head notes its twin's claim. -/
def doHeadClaimRx (k : Pkt) (s : State) : State :=
  let epoch := k.u16 0
  let claim := k.u32 4
  let i := claim % 2
  let fa := k.u48 16
  match s.firstCopy (8192 + i) 0x1D (fa % 65536) with
  | none => s
  | some s =>
    if s.isHead then
      if (i == 1) == s.isHeadB then s
      else
        let s := s.w .redTwinClaim 0 claim
        { s with red := { s.red with twinHeard := true, twinClaim := claim, twinEpoch := epoch, heardEpoch := max s.red.heardEpoch epoch } }
    else
      let f := s.frameNow
      let c := s.red.claims.getD i State.claim0
      let alive := c.liveAt (s.r .redClaimHold) f
      if alive ∧ pairLt (epoch, claim) (c.epoch, c.claim) then s.raise .redClaimRejected
      else
        let old := if alive then (if c.apply ≤ f then (c.epoch, c.claim, c.select) else (c.oldEpoch, c.oldClaim, c.oldSelect)) else (0, 0, 0)
        let same := alive && c.epoch == epoch && c.claim == claim && c.select == k.u64 8
        let n : HeadClaim := if same then { c with lastFrame := f }
          else { epoch := epoch, claim := claim, select := k.u64 8, apply := fa, oldEpoch := old.1, oldClaim := old.2.1,
                 oldSelect := old.2.2, lastFrame := f, live := true }
        let s := { s with red := { s.red with claims := updAt s.red.claims i (fun _ => n) } }
        match s.red.standdownAt with
        | some t =>
          if t < fa ∧ !s.unwell then
            let s := { s with red := { s.red with standdownAt := none } }
            (s.lanesIn Lane.run).foldl (fun s n => s.restartLane n) s
          else s
        | none => s
def execHeadClaimRx (p : Nat) (k : Pkt) (s : State) : Host.Outcome State Fault Refusal :=
  event (fun s => if p < 4 then doHeadClaimRx k s else s) s

/-- PAIR_STANDDOWN (R440): a pair controller whose health word holds a masked bit. -/
def doPairStanddown (s : State) : State :=
  if s.isTile ∧ s.on .redPairOn ∧ s.unwell ∧ s.red.standdownAt.isNone then
    ({ s.emit .laneIdle with red := { s.red with standdownAt := some s.frameNow } }).raise .redPairStanddown
  else s
def execPairStanddown (s : State) : Host.Outcome State Fault Refusal := event doPairStanddown s

/-! ### HEAD_PICK -/

/-- An entry of HEAD_PICK for a stream, of what it will send in frame `f` (Table 11.6). -/
def State.pickEntry (s : State) (f i : Nat) : List Byte :=
  if s.on .ingEnable i ∧ s.r .ingKind i ≠ 0 then
    match s.choice i f with
    | some (csa, stamp, seq) =>
      let dp := s.r .ingKind i = 1
      [byte i, byte (s.r .ingKind i), byte (b2n (s.repeats i f csa seq)), 0] ++ leBytes 4 (shortStamp stamp) ++
        leBytes 4 seq ++ leBytes 4 0 ++ leBytes 8 (if dp then 0 else csa)
    | none => []
  else []

/-- The holder's HEAD_PICK for frame `f`, sent at B(f − 1) (R430). -/
def State.sendPick (s : State) (f : Nat) : State :=
  if !s.on .redHolder ∨ s.id = 0 ∨ s.held 12 then s
  else
    let es := (List.range 16).map (s.pickEntry f)
    s.sendRing 0x1F (leBytes 4 (shortStamp (s.bnd f)) ++ [byte (es.filter (· ≠ [])).length, 0, 0, 0] ++ leBytes 8 f ++ es.flatten)

/-- One entry taken: what the stream sends next, and for a HOST stream the frame it repeats without a later entry (R431, R432). -/
def State.takePick (s : State) (k : Pkt) (n : Nat) : State :=
  let o := 16 + 24 * n
  let i := k.u8 o % 16
  let stamp := k.u32 (o + 4)
  let seq := k.u32 (o + 8)
  let csa := k.u64 (o + 16)
  let host := s.r .ingKind i == 2
  s.setStream i (fun (x : StreamSt) =>
    let x := { x with pick := some (stamp, seq, csa, bit (k.u8 (o + 2)) 0) }
    if host then { x with latched := csa, latchStamp := stamp, seq := seq } else x)

/-- A head without the lease opens the windows of its streams. -/
def State.mayOpen (s : State) : Bool := s.isHead && !s.on .redHolder && !s.inMin && !s.held 0

/-- HEAD_PICK_RX (R61, R405, R431): the send windows of the streams it names open at its arrival; its target is B(F). -/
def doHeadPickRx (k : Pkt) (s : State) : State :=
  let f := k.u48 8
  let (t, s) := s.takeStamp (k.u32 0)
  if !s.mayOpen ∨ t ≠ some (s.bnd f) ∨ s.frame? ≠ some (f - 1) ∨ f = 0 ∨ s.red.pickFrame = f + 1 ∨ (s.r .redTwin ≠ 0 ∧ k.src ≠ s.r .redTwin) then s
  else
    let n := min 16 (k.u8 4)
    let s := { s with red := { s.red with pickFrame := f + 1 } }
    let s := (List.range n).foldl (fun (s : State) (j : Nat) => s.takePick k j) s
    let s := (List.range 4).foldl State.holdAnew s
    (List.range n).foldl (fun (s : State) (j : Nat) => s.openStream f (k.u8 (16 + 24 * j) % 16)) s
def execHeadPickRx (k : Pkt) (s : State) : Host.Outcome State Fault Refusal := event (doHeadPickRx k) s

/-- PICK_WAIT_EXPIRE (R431, R432): pick_wait_us after B(F−1), streams without an entry go by the head's own picks. -/
def doPickWaitExpire (s : State) : State :=
  match s.frame? with
  | none => s
  | some f =>
    if !s.mayOpen ∨ s.ftNs < s.bnd f + 1000 * s.r .redPickWaitUs then s
    else
      let lacking := (List.range 16).any (fun i => s.on .ingEnable i && s.r .ingKind i != 0 && (s.stream i).pick.isNone &&
        (s.stream i).frame != f + 1)
      (s.raiseIf lacking .redPickMissing).openWindows
def execPickWaitExpire (s : State) : Host.Outcome State Fault Refusal := event doPickWaitExpire s

/-! ### Resilvering -/

/-- Granules of the clip store that a resilver copies: allocated, outside capture and monitor rings (R441). -/
def State.copied (s : State) : List Nat :=
  let rings := (s.ing.rings.map (·.handle)) ++ (match s.ing.wbRing with | some w => [w.handle] | none => [])
  (s.ing.bufs.filter (fun b => !(b.handle ∈ rings))).flatMap (fun b => (List.range (b.length / 4096)).map (· + b.csa / 4096))

/-- A granule reads without poison (R443). -/
def State.granuleOk (s : State) (g : Nat) : Bool := (s.firstPoison (4096 * g) 4096).isNone

/-- Granules sent to the twin as BULK_DATA of kind 3, offset = CSA (R441), each pinned while it is read (R108); a poisoned one sets poison_read
(R92), is listed, and asked of the twin (R443). -/
def State.sendGranules (s : State) (gs : List Nat) : State :=
  let drop (s : State) : State := { s with red := { s.red with readNow := none } }
  gs.foldl (fun s g =>
    let id := s.net.nextTransfer
    let s := { s with net := { s.net with nextTransfer := id + 1 }, red := { s.red with readNow := some g } }
    if s.granuleOk g then drop (s.sendBulk (s.r .redTwin) 3 id (4096 * g) (s.clipRead (4096 * g) 4096))
    else
      let s := s.raise .cxlPoisonRead
      let s := if g ∈ s.red.listed then s else { s with red := { s.red with listed := s.red.listed ++ [g] } }
      drop (s.sendResilver 3 1 (4096 * g) id)) s

/-- The allocation table as it crosses to the twin (R441): the spec names its contents and no layout (log entry 49). -/
def tableBytes (l : List ClipBuf) : List Byte :=
  leBytes 4 l.length ++ l.flatMap (fun b => leBytes 4 b.handle ++ leBytes 4 b.owner ++ leBytes 8 b.csa ++ leBytes 8 b.length)

/-- The table read back from its bytes. -/
def tableOf (l : List Byte) : List ClipBuf :=
  (List.range (getLE l 0 4)).map (fun i => ⟨getLE l (4 + 24 * i) 4, getLE l (12 + 24 * i) 8, getLE l (20 + 24 * i) 8, getLE l (8 + 24 * i) 4, false⟩)

/-- The holder starts the read for its twin: the table first, then every granule (R441, R442). -/
def State.serveResilver (s : State) : State :=
  let id := s.net.nextTransfer
  let s := { s with net := { s.net with nextTransfer := id + 1 }, red := { s.red with reading := true, dirty := [] } }
  let s := s.sendBulk (s.r .redTwin) 3 id 0 (tableBytes s.ing.bufs)
  let gs := s.copied
  let s := (s.w .redPasses 0 0).sendResilver 1 gs.length (4096 * gs.headD 0) id
  s.sendGranules gs

/-- A granule is no longer listed. -/
def State.unlist (s : State) (g : Nat) : State := { s with red := { s.red with listed := s.red.listed.filter (· ≠ g) } }

/-- RESILVER_RX (R435, R441 to R443, R92). -/
def doResilverRx (k : Pkt) (s : State) : State :=
  let op := k.u8 0
  let g := k.u64 8 / 4096
  if !s.isHead ∨ k.src = s.id then s
  else
    match s.firstCopy (8192 + b2n (!s.isHeadB)) 0x1E (k.u32 16 % 8192 * 8 + op % 8) with
    | none => s
    | some s =>
      if op = 0 then (if s.on .redHolder then s.serveResilver else s.startResilver)
      else if op = 1 then
        if s.r .redState = Red.resilver then s.ws [(.redPasses, min 16 (s.r .redPasses + 1)), (.redResilverLeft, k.u32 4)] else s
      else if op = 2 then
        if s.r .redState = Red.resilver then s.ws [(.redState, Red.standby), (.redMirrorComplete, 1), (.redResilverLeft, 0)] else s
      else if op = 3 then
        if s.granuleOk g then s.sendGranules [g] else (s.raise .cxlPoisonRead).sendResilver 4 1 (4096 * g) (k.u32 16)
      else if op = 4 then
        (s.count .redResilverLost 0 (k.u32 4)).unlist g
      else s
def execResilverRx (k : Pkt) (s : State) : Host.Outcome State Fault Refusal := event (doResilverRx k) s

/-- RESILVER_PASS_DONE (R442): on the holder, a pass has been sent. It is complete when no granule is dirty; after 16 passes it stops,
and the head stays in RESILVER. -/
def doResilverPassDone (s : State) : State :=
  if !s.red.reading then s
  else
    let id := s.net.nextTransfer
    let s := { s with net := { s.net with nextTransfer := id + 1 } }
    let n := s.r .redPasses + 1
    let s := s.w .redPasses 0 n
    let gs := s.red.dirty.filter (· ∈ s.copied)
    let stop (s : State) : State := { s with red := { s.red with reading := false, dirty := [] } }
    if gs = [] then (stop s).sendResilver 2 0 0 id
    else
      let s := (s.w .redResilverLeft 0 gs.length).sendResilver 1 gs.length (4096 * gs.headD 0) id
      if 16 ≤ n then stop s else { s with red := { s.red with dirty := [] } }.sendGranules gs
def execResilverPassDone (s : State) : Host.Outcome State Fault Refusal := event doResilverPassDone s

/-! ### The frame boundary -/

/-- The health word of this frame, and the states it decides: a standby with a masked bit is DOWN (R404, R438, Table 11.1). -/
def State.refreshHealth (s : State) : State :=
  let s := s.w .redHealth 0 s.healthNow
  if !s.isHead then s
  else if s.r .redState = Red.standby ∧ s.unwell then s.w .redState 0 Red.down
  else if s.r .redState = Red.down ∧ !s.unwell then s.w .redState 0 Red.standby
  else s

/-- Frames in a row, for each bit, in which it is masked and set here while the twin's last ACK showed a standby without it (R418). -/
def State.dwellNow (s : State) : List Nat :=
  let better (i : Nat) : Bool := s.on .redHolder && s.r .redLeaseMode == 0 && s.red.ackState == Red.standby &&
    bit (s.r .redHealth) i && bit (s.r .redStanddownMask) i && !bit s.red.ackHealth i
  (List.range 11).map (fun i => if better i then s.red.dwells.getD i 0 + 1 else 0)

/-- A holder yields once a bit has stood for dwell frames (R418). -/
def State.dwell (s : State) : State :=
  let l := s.dwellNow
  if l.any (fun n => n != 0 && decide (s.r .redDwell ≤ n)) then s.yield_ else { s with red := { s.red with dwells := l } }

/-- What redundancy does at B(f) (R410, R413, R418, R424, R426, R430, R438); a CANDIDATE first takes the RENEWs of the cycle (Table 11.9). -/
def State.redBoundary (s : State) (f : Nat) : State :=
  let s := if s.isHead && s.r .redState == Red.candidate then s.renewsNow else s
  let s := s.refreshHealth
  if s.isHead then
    let clear (x : StreamSt) : StreamSt := { x with pick := none }
    let s := { s with ing := { s.ing with streams := s.ing.streams.map clear } }
    if s.red.begunAt.isNone then s
    else
      let due := s.r .redState == Red.candidate && s.red.granted && (match s.red.yieldFrame with
        | some fy => decide (fy ≤ f)
        | none => true)
      let s := if due || s.red.takeFree then s.takeLease f else s.dwell
      (s.sendClaim f).sendPick (f + 1)
  else if s.isTile then s.obey f
  else s

/-! ### Commands (Table 11.12) -/

/-- RED_GET. -/
def actRedGet : Action := fun _ s =>
  done s (leBytes 4 (s.bar0 0x380C) ++ leBytes 2 (s.r .redHealth) ++ leBytes 2 (s.r .redTwinHealth) ++ leBytes 4 (s.r .redTerm) ++
    leBytes 2 (s.r .redEpoch) ++ leBytes 2 (s.r .redTwin) ++ leBytes 4 (s.r .redClaim) ++ leBytes 4 (s.r .redTwinClaim) ++
    leBytes 8 (s.r .redSelect) ++ leBytes 4 (s.r .redResilverLeft) ++ leBytes 2 s.controlNow)
def execRedGet (c : HostCmd) (s : State) : Host.Outcome State Fault Refusal := .next (runHost 0x0A00 actRedGet c s)

/-- RED_SET. -/
def actRedSet : Action := fun c s =>
  let lease := c.u16 4
  let renew := c.u16 6
  let guard := c.u16 8
  let pick := c.u16 10
  if 1 < c.u8 0 ∨ 1 < c.u8 1 ∨ c.u8 2 = 0 ∨ c.u8 3 = 0 ∨ lease < 2000 ∨ renew < 250 ∨ lease / 3 < renew ∨ guard < 1000 ∨ 10000 < guard ∨
      pick < 5 ∨ 500 < pick ∨ 0x7FF < c.u16 12 ∨ 1 < c.u8 14 ∨ 1 < c.u8 15 then refuse s Status.badArg
  else done (s.ws [(.redLeaseMode, c.u8 0), (.redClaimMode, c.u8 1), (.redClaimHold, c.u8 2), (.redDwell, c.u8 3), (.redLeaseUs, lease),
    (.redRenewUs, renew), (.redGuardUs, guard), (.redPickWaitUs, pick), (.redStanddownMask, c.u16 12), (.redPairOn, c.u8 14),
    (.redPairSide, c.u8 15)])
def execRedSet (c : HostCmd) (s : State) : Host.Outcome State Fault Refusal := .next (runHost 0x0A01 actRedSet c s)

/-- The twin is eligible, as its last LEASE shows (R404). -/
def State.twinEligible (s : State) : Bool :=
  s.twinSeen && s.red.twinState == Red.standby && (s.r .redTwinHealth &&& s.r .redStanddownMask) == 0

/-- RED_HANDOVER (R419, R420): the holder yields; DENIED where its lease lapses in this cycle (Table 11.9). -/
def actRedHandover : Action := fun _ s =>
  if s.red.lapsedAt = some s.clk then refuse s Status.denied
  else if !s.on .redHolder then refuse s Status.notBound
  else if s.red.leaseEnd ≤ s.ftNs then refuse s Status.denied
  else if !s.twinEligible then refuse s Status.busy
  else await s.yield_ .handover
def execRedHandover (c : HostCmd) (s : State) : Host.Outcome State Fault Refusal := .next (runHost 0x0A02 actRedHandover c s)

/-- An unexpired record of the twin's lease (R420). -/
def State.twinHolds (s : State) : Bool := s.red.expiries.any (fun p => p.1 != s.isHeadB && decide (s.ftNs < p.2))

/-- RED_TAKEOVER (R413, R420). -/
def actRedTakeover : Action := fun _ s =>
  if !s.isHead then refuse s Status.unsupported
  else if s.on .redHolder then done s
  else if s.twinHolds then refuse s Status.denied
  else if s.net.map = [] ∧ !s.twinSeen then
    let term := max (s.r .aonTerm) s.red.heardTerm + 1
    let s := s.ws [(.aonTerm, term), (.redTerm, term), (.redState, Red.candidate)]
    await { s with red := { s.red with takeFree := true, candidateAt := s.clk } } .takeover
  else await { s with red := { s.red with takeReq := true, degraded := !s.eligible && !s.twinSeen } } .takeover
def execRedTakeover (c : HostCmd) (s : State) : Host.Outcome State Fault Refusal := .next (runHost 0x0A03 actRedTakeover c s)

/-- RED_SET_SELECT (R439, R422). -/
def actRedSetSelect : Action := fun c s =>
  if !s.on .redHolder then refuse s Status.notBound else done (s.w .redSelect 0 (c.u64 0)).raiseClaim
def execRedSetSelect (c : HostCmd) (s : State) : Host.Outcome State Fault Refusal := .next (runHost 0x0A04 actRedSetSelect c s)

/-- RED_CLAIM (R422). -/
def actRedClaim : Action := fun _ s =>
  if !s.isHead then refuse s Status.unsupported
  else
    let s := s.raiseClaim
    done s (leBytes 2 (s.r .redEpoch) ++ [0, 0] ++ leBytes 4 (s.r .redClaim))
def execRedClaim (c : HostCmd) (s : State) : Host.Outcome State Fault Refusal := .next (runHost 0x0A05 actRedClaim c s)

/-- RED_RESILVER (R441). -/
def actRedResilver : Action := fun c s =>
  let say (s : State) : Ack := done s (leBytes 4 (s.r .redResilverLeft) ++ leBytes 4 (s.r .redResilverLost) ++ [byte (s.r .redPasses)])
  if c.u8 0 = 0 then say s
  else if c.u8 0 ≠ 1 then refuse s Status.badArg
  else if !s.isHead then refuse s Status.unsupported
  else if s.on .redHolder then refuse s Status.denied
  else say s.startResilver
def execRedResilver (c : HostCmd) (s : State) : Host.Outcome State Fault Refusal := .next (runHost 0x0A06 actRedResilver c s)

end Sys2Proof.Machine
end

