-- ==== Sys2Proof/Machine/Firmware.lean ====
section
/-! DEFINITION. Firmware update and settings: banks, image checks and transfers (R542 to R553), spreading (R554 to R557), activation
and trial (R558 to R566), the settings commands and the fallback (R567 to R575). -/

namespace Sys2Proof.Machine

/-! ### Banks -/

/-- Base of a bank in flash and its size (Table 15.1). -/
def bankBase (b : Nat) : Nat := 0x10000 + 0x400000 * (b % 2)
abbrev bankSize : Nat := 0x400000

/-- State and security version of a bank (Tables 15.4 and 15.9). -/
def bankReg (b : Nat) : FName := if b % 2 = 0 then .fwuStateA else .fwuStateB
def secReg (b : Nat) : FName := if b % 2 = 0 then .fwuSecA else .fwuSecB
def State.bank (s : State) (b : Nat) : Nat := s.r (bankReg b)
def State.setBank (s : State) (b st sec : Nat) : State := (s.w (bankReg b) 0 st).w (secReg b) 0 sec

abbrev Bank.empty : Nat := 0
abbrev Bank.receiving : Nat := 1
abbrev Bank.ready : Nat := 2
abbrev Bank.failed : Nat := 3
abbrev Bank.confirmed : Nat := 4
abbrev Bank.trial : Nat := 5
abbrev Bank.stale : Nat := 6

/-- Bytes of the image in a bank. -/
def State.image (s : State) (b off n : Nat) : List Byte := s.flashRead (bankBase b + off) n

/-- The receiving bank (R549): neither CONFIRMED nor TRIAL. -/
def State.receiver (s : State) : Nat := if s.bank 0 = Bank.confirmed ∨ s.bank 0 = Bank.trial then 1 else 0

/-- The trial bank and the confirmed one. -/
def State.trialBank (s : State) : Nat := s.r .aonFwuTrialBank
def State.inTrial (s : State) : Bool := s.on .aonFwuTrial

/-! ### The image (R545 to R547) -/

/-- Fields of the header (Table 15.2). -/
def headSec (h : List Byte) : Nat := getLE h 12 4
def headLength (h : List Byte) : Nat := getLE h 24 4
def headFormat (h : List Byte) : Nat := getLE h 28 2
def headMin (h : List Byte) : Nat := getLE h 30 2

/-- The checks of Table 15.3 against a floor: 0, or the status of the first that fails. -/
def headerStatus (floor : Nat) (h : List Byte) : Nat :=
  let key := getLE h 6 1
  if h.take 4 ≠ [0x4D, 0x46, 0x57, 0x49] ∨ getLE h 4 2 ≠ 1 ∨ 3 < key ∨ 256 < headSec h ∨ headLength h < 1025 ∨ 4194304 < headLength h then
    Status.badArg
  else if !Config.imageSignatureOk key (Config.sha384 (h.take 928)) (getBytes h 928 96) then Status.badArg
  else if getLE h 8 4 ≠ Config.hardwareType % 2 ^ 32 then Status.badArg
  else if bit (getLE h 7 1) 0 ∧ getLE h 16 8 ≠ Config.unitId % 2 ^ 64 then Status.denied
  else if headSec h < floor then Status.versionFloor
  else Status.ok

/-- The header of a bank checked; a failure sets version_refused (Table 15.9). -/
def State.headerOf (s : State) (b : Nat) : List Byte := s.image b 0 1024
def State.headerCheck (s : State) (b : Nat) : Nat := headerStatus (s.r .fwuFloor) (s.headerOf b)

/-- Body blocks of an image: their number, and where block `b` lies in the image (R545). -/
def blockCount (length : Nat) : Nat := ceilDiv (length - 1024) 65536
def blockRange (length b : Nat) : Nat × Nat := (1024 + 65536 * b, min length (1024 + 65536 * (b + 1)))

/-- A block's bytes match its CRC in the header. -/
def State.blockOk (s : State) (bank b : Nat) : Bool :=
  let h := s.headerOf bank
  let r := blockRange (headLength h) b
  crc32c (s.image bank r.1 (r.2 - r.1)) == getLE h (112 + 4 * b) 4

/-- The whole body matches body_hash. -/
def State.bodyOk (s : State) (bank : Nat) : Bool :=
  let h := s.headerOf bank
  Config.sha384 (s.image bank 1024 (headLength h - 1024)) == getBytes h 64 48

/-! ### Writing (R550 to R553) -/

/-- A range of bytes joined to the ranges written. -/
def addRange (a b : Nat) (l : List (Nat × Nat)) : List (Nat × Nat) :=
  let touch := l.filter (fun p => decide (p.1 ≤ b) && decide (a ≤ p.2))
  let rest := l.filter (fun p => !(decide (p.1 ≤ b) && decide (a ≤ p.2)))
  let lo := touch.foldl (fun m p => min m p.1) a
  let hi := touch.foldl (fun m p => max m p.2) b
  rest.filter (fun p => p.1 < lo) ++ [(lo, hi)] ++ rest.filter (fun p => !decide (p.1 < lo))

/-- A range taken out of the ranges written. -/
def cutRange (a b : Nat) (l : List (Nat × Nat)) : List (Nat × Nat) :=
  (l.flatMap (fun p => [(p.1, min p.2 a), (max p.1 b, p.2)])).filter (fun p => p.1 < p.2)

/-- A range is wholly written. -/
def coversRange (l : List (Nat × Nat)) (a b : Nat) : Bool := l.any (fun p => decide (p.1 ≤ a) && decide (b ≤ p.2))

/-- A byte is written. -/
def hasByte (l : List (Nat × Nat)) (a : Nat) : Bool := coversRange l a (a + 1)

/-- Sectors of 64 KiB erased just before the first write into each (R550). -/
def State.eraseFirst (s : State) (bank a b : Nat) : State :=
  ((List.range (bankSize / 65536)).filter (fun k => decide (a < 65536 * (k + 1)) && decide (65536 * k < b) &&
    !s.fw.written.any (fun p => decide (p.1 < 65536 * (k + 1)) && decide (65536 * k < p.2)))).foldl (fun s k =>
      s.flashErase (bankBase bank + 65536 * k) 65536) s

/-- Bytes of a piece put where none is written yet (R551). -/
def State.putBytes (s : State) (bank off : Nat) (l : List Byte) : State :=
  let s := s.eraseFirst bank off (off + l.length)
  let w := s.fw.written
  let s := l.zipIdx.foldl (fun (s : State) (p : Byte × Nat) =>
    if hasByte w (off + p.2) then s else s.flashWrite (bankBase bank + off + p.2) [p.1]) s
  if l = [] then s else { s with fw := { s.fw with written := addRange off (off + l.length) w } }

/-- The transfer ends with its bank FAILED and a status (R552). -/
def State.failBank (s : State) (bank status : Nat) : State :=
  { s.w (bankReg bank) 0 Bank.failed with fw := { s.fw with isOpen := false, status := status } }

/-- A whole block that has not passed is checked; a block that fails is erased and counted, and the third failure of one block fails the
bank (R548, R552). Its own bytes are erased: the sectors it shares keep the rest (log entry 51). -/
def State.checkBlock (s : State) (bank : Nat) (p : List Nat) (b : Nat) : State × List Nat :=
  let len := headLength (s.headerOf bank)
  let r := blockRange len b
  if !s.fw.isOpen ∨ bit (s.r .fwuBlocksDone) b ∨ !coversRange s.fw.written r.1 r.2 then (s, p)
  else if s.blockOk bank b then (s.w .fwuBlocksDone 0 (setBit (s.r .fwuBlocksDone) b true), p ++ [b])
  else
    let n := sget 0 s.fw.fails b + 1
    let s := (s.count .fwuBlockRetries).flashErase (bankBase bank + r.1) (r.2 - r.1)
    let s := { s with fw := { s.fw with fails := sput 0 s.fw.fails b n, written := cutRange r.1 r.2 s.fw.written } }
    if 3 ≤ n then ((s.failBank bank Status.badArg).raise .fwuBlockFailed, p) else (s, p)

/-- The body hash, once every block has passed: READY, or STALE below the floor (R548, R553). -/
def State.checkBody (s : State) (bank : Nat) : State :=
  let h := s.headerOf bank
  let n := blockCount (headLength h)
  if !s.fw.isOpen ∨ !(List.range n).all (bit (s.r .fwuBlocksDone)) then s
  else if s.bodyOk bank then
    { s.setBank bank (if headSec h < s.r .fwuFloor then Bank.stale else Bank.ready) (headSec h) with
      fw := { s.fw with isOpen := false } }
  else s.failBank bank Status.badArg

/-- What a piece has completed: the header (as `none`) and blocks. -/
abbrev Passed := List (Option Nat)

/-- A piece of the open transfer written and everything it completes checked: the state, its status and what has passed. -/
def State.writePiece (s : State) (xfer off : Nat) (l : List Byte) : State × Nat × Passed :=
  if !s.fw.isOpen ∨ xfer ≠ s.r .fwuXferId ∨ off % 4 ≠ 0 ∨ s.fw.length < off + l.length then (s, Status.badArg, [])
  else
    let bank := s.receiver
    let had := coversRange s.fw.written 0 1024
    let s := s.putBytes bank off l
    if !coversRange s.fw.written 0 1024 then (s, Status.ok, [])
    else
      let st := if had then Status.ok else s.headerCheck bank
      if st ≠ Status.ok then ((s.failBank bank st).raise .fwuVersionRefused, st, [])
      else
        let n := blockCount (headLength (s.headerOf bank))
        let r := (List.range n).foldl (fun acc b => acc.1.checkBlock bank acc.2 b) (s, [])
        (r.1.checkBody bank, Status.ok, (if had then [] else [none]) ++ r.2.map some)

/-- Domain 38 runs, without which firmware update is not there (Table 13.8, R510). -/
def State.flashUp (s : State) : Bool := s.good 38

/-- An action of firmware update: BUSY without its flash. -/
def withFlash (act : Action) : Action := fun c s => if s.flashUp then act c s else refuse s Status.busy

/-! ### FW_GET, FW_BEGIN, FW_WRITE, FW_WRITE_DATA -/

/-- FW_GET. -/
def actFwGet : Action := fun _ s =>
  done s (leBytes 4 (s.bar0 0x5800) ++ leBytes 2 (s.r .fwuFloor) ++ leBytes 2 (s.r .fwuFloorTarget) ++ leBytes 4 (s.r .fwuSecA) ++
    leBytes 4 (s.r .fwuSecB) ++ leBytes 4 (s.r .fwuXferId) ++ leBytes 8 (s.r .fwuBlocksDone) ++ s.image (s.r .fwuRunning) 32 12)
def execFwGet (c : HostCmd) (s : State) : Host.Outcome State Fault Refusal := .next (runHost 0x0C00 actFwGet c s)

/-- FW_BEGIN (R549, R550). -/
def actFwBegin : Action := withFlash fun c s =>
  if s.inTrial then refuse s Status.denied
  else if c.u32 4 < 1025 ∨ 4194304 < c.u32 4 then refuse s Status.badArg
  else
    let closed := if s.fw.isOpen then some (s.clk, s.r .fwuXferId) else none
    let s := s.setBank s.receiver Bank.receiving 0xFFFFFFFF
    done { s.ws [(.fwuXferId, c.u32 0), (.fwuBlocksDone, 0)] with
      fw := { s.fw with isOpen := true, length := c.u32 4, written := [], fails := [], status := 0, closed := closed } }
def execFwBegin (c : HostCmd) (s : State) : Host.Outcome State Fault Refusal := .next (runHost 0x0C01 actFwBegin c s)

/-- A command's write: its response comes once the flash has it. -/
def State.commandWrite (s : State) (xfer off : Nat) (l : List Byte) : Ack :=
  let (s, st, _) := s.writePiece xfer off l
  if st = Status.ok then await (s.flashAsk .write) (.write st []) else refuse s st

/-- FW_WRITE (R551). -/
def actFwWrite : Action := withFlash fun c s =>
  match s.hostRead c (c.u64 16) (c.u32 8) with
  | none => refuse s Status.badArg
  | some l => s.commandWrite (c.u32 0) (c.u32 4) l
def execFwWrite (c : HostCmd) (s : State) : Host.Outcome State Fault Refusal := .next (runHost 0x0C02 actFwWrite c s)

/-- FW_WRITE_DATA (R551): 32 bytes inline. -/
def actFwWriteData : Action := withFlash fun c s => s.commandWrite (c.u32 0) (c.u32 4) (getBytes c.body 8 32)
def execFwWriteData (c : HostCmd) (s : State) : Host.Outcome State Fault Refusal := .next (runHost 0x0C03 actFwWriteData c s)

/-! ### Spreading (R554 to R557) -/

/-- The node at the far end of a port, as its last offer named it (log entry 52). -/
def State.farNode (s : State) (p : Nat) : Nat := ((s.port p).partner.map (·.node)).getD 0

/-- A piece of the image sent to the partner on a port. -/
def State.sendPieceOn (s : State) (p bank xfer a b : Nat) : State :=
  (bulkPayloads 0 xfer a (b - a) 0 (s.image bank a (b - a))).foldl (fun s l => s.egress p (s.packet 0x28 2 (s.farNode p) l)) s

/-- A piece of the image sent to a node. -/
def State.sendPieceTo (s : State) (node bank xfer a b : Nat) : State := s.sendBulk node 0 xfer a (s.image bank a (b - a))

/-- The range of the header, or of a block. -/
def State.pieceRange (s : State) (bank : Nat) : Option Nat → Nat × Nat
  | none => (0, 1024)
  | some b => blockRange (headLength (s.headerOf bank)) b

/-- Pieces that have passed go on to the partners on the ports of a mask (R555). -/
def State.spreadOn (s : State) (ports : List Nat) (bank xfer : Nat) (l : Passed) : State :=
  l.foldl (fun s x =>
    let r := s.pieceRange bank x
    ports.foldl (fun s p => s.sendPieceOn p bank xfer r.1 r.2) s) s

/-- FW_BEGIN and a piece of the transfer that it closes come in one cycle (Table 15.7). -/
def State.closesNow (s : State) (xfer : Nat) : Bool :=
  s.fw.closed == some (s.clk, xfer) || (s.fw.isOpen && xfer == s.r .fwuXferId && s.sameCycle.any (fun i => match i with
    | .fwBegin c => !s.inTrial && decide (1025 ≤ c.u32 4 ∧ c.u32 4 ≤ 4194304)
    | _ => false))

/-- BULK_DATA of kind 0 (R551, R555, R556): a piece of the open transfer is written, and what it completes goes on from the tree
parent; a piece of no open transfer goes on at once; one of a transfer that FW_BEGIN closes in this cycle is discarded. -/
def State.takePiece (s : State) (p : Nat) (k : Pkt) : State :=
  let xfer := k.u32 4
  let out := s.broadcastPorts p
  let fromParent := s.farNode p == 0 || s.farNode p == k.src
  if !s.flashUp ∨ s.held 13 ∨ s.closesNow xfer then s
  else if s.fw.isOpen ∧ xfer = s.r .fwuXferId then
    let bank := s.receiver
    let (s, _, passed) := s.writePiece xfer (k.u64 8) (k.payload.drop 16)
    if fromParent ∧ s.bank bank ≠ Bank.failed then s.spreadOn out bank xfer passed else s
  else if fromParent ∧ !(xfer = s.r .fwuXferId ∧ s.bank s.receiver = Bank.failed) then
    out.foldl (fun s q => s.egress q (s.packet 0x28 2 (s.farNode q) k.payload)) s
  else s

/-- Nodes in a spread's scope. -/
def State.spreadNodes (s : State) (sp : Spread) : List Nat :=
  if sp.scope = 0 then [sp.node] else (s.net.map.filter (fun m => m.node != 0 && m.node != s.id)).map (·.node)

/-- FW_SPREAD. -/
def actFwSpread : Action := withFlash fun c s =>
  let scope := c.u8 0
  let bank := s.receiver
  let xfer := c.u32 4
  if !s.isHead then refuse s Status.unsupported
  else if (scope ≠ 0 ∧ scope ≠ 2) ∨ s.bank bank ≠ Bank.ready ∨ xfer ≠ s.r .fwuXferId then refuse s Status.badArg
  else if s.fw.spread.isSome then refuse s Status.busy
  else
    let n := blockCount (headLength (s.headerOf bank))
    let pieces : Passed := none :: (List.range n).map some
    let s := if scope = 2 then s.spreadOn (s.broadcastPorts 4) bank xfer pieces
      else pieces.foldl (fun s x => let r := s.pieceRange bank x; s.sendPieceTo (c.u16 2) bank xfer r.1 r.2) s
    let sp : Spread := ⟨scope, c.u16 2, xfer, s.clk, s.clk, []⟩
    accept { s with fw := { s.fw with spread := some sp } } .spread
def execFwSpread (c : HostCmd) (s : State) : Host.Outcome State Fault Refusal := .next (runHost 0x0C04 actFwSpread c s)

/-- What the polls last showed of a node: its bank state (R557). -/
def Spread.of (sp : Spread) (n : Nat) : Option (Nat × Nat) := (sp.seen.find? (fun e => e.1 == n)).map (fun e => e.2)

/-- The spread ends with its counts (R557, Table 15.10). -/
def State.endSpread (s : State) (sp : Spread) : State :=
  let ns := s.spreadNodes sp
  let is (n st : Nat) : Bool := (sp.of n).any (fun e => e.1 == st)
  let good := ns.filter (fun n => is n Bank.ready)
  let bad := ns.filter (fun n => is n Bank.failed)
  let gone := ns.filter (fun n => !(n ∈ good) && !(n ∈ bad))
  let s := { s with fw := { s.fw with spread := none } }
  let s := s.raiseIf (bad != [] || gone != []) .fwuSpreadFail
  s.complete .spread Status.ok (leBytes 2 good.length ++ leBytes 2 bad.length ++ leBytes 2 gone.length ++
    leBytes 2 ((bad.min?).getD 0))

/-- Every node in scope is READY or FAILED. -/
def State.spreadDone (s : State) (sp : Spread) : Bool :=
  (s.spreadNodes sp).all (fun n => (sp.of n).any (fun e => e.1 == Bank.ready || e.1 == Bank.failed))

/-- Blocks a node still RECEIVING lacks, sent again (R557). -/
def State.resend (s : State) (sp : Spread) : State :=
  let bank := s.receiver
  let n := blockCount (headLength (s.headerOf bank))
  (s.spreadNodes sp).foldl (fun s node =>
    match sp.of node with
    | some (1, have_) =>
      ((List.range n).filter (fun b => !bit have_ b)).foldl (fun s b =>
        let r := s.pieceRange bank (some b)
        s.sendPieceTo node bank sp.xfer r.1 r.2) s
    | _ => s) s

/-- FW_GET relayed to the scope of a spread; its answers tell of each node (State.learnSpread). -/
def State.pollSpread (s : State) (sp : Spread) : State :=
  let tag := s.mbx.nextTag
  let ns := s.spreadNodes sp
  let c : HostCmd := { req := .fabric s.id, slot := 0xFF, tag := tag, opcode := 0x0C00, target := if sp.scope = 0 then sp.node else 0x2000,
                       session := 0, seq := 0, flags := 0, reserved := 0, activation := 0, payload := List.replicate 40 0,
                       dmaPayload := [], data := [] }
  let relay : Relay := ⟨tag, { c with flags := 4 }, ns, [], s.clk, false, []⟩
  let s := { s with
    mbx := { s.mbx with nextTag := tag + 1, relays := s.mbx.relays ++ [relay] }
    fw := { s.fw with spread := some { sp with polled := s.clk } } }
  s.sendRelay c tag ns

/-- SPREAD_POLL (R557): every 1 s. The answers of the last poll are acted on first (log entry 52). -/
def doSpreadPoll (s : State) : State :=
  match s.fw.spread with
  | none => s
  | some sp =>
    if s.clk < sp.polled + 1000000000 then s
    else if s.spreadDone sp then s.endSpread sp
    else (s.resend sp).pollSpread sp
def execSpreadPoll (s : State) : Host.Outcome State Fault Refusal := event doSpreadPoll s

/-- SPREAD_TIMEOUT (R557). -/
def doSpreadTimeout (s : State) : State :=
  match s.fw.spread with
  | none => s
  | some sp => if sp.started + 1000000000 * s.r .fwuSpreadLimit ≤ s.clk then s.endSpread sp else s
def execSpreadTimeout (s : State) : Host.Outcome State Fault Refusal := event doSpreadTimeout s

/-! ### Selection record and settings slots (R543, R568) -/

/-- A selection record as its 64 bytes, and the parts of one that is valid. -/
def selectionBytes (seq bank target : Nat) : List Byte :=
  let b := [0x4D, 0x53, 0x45, 0x4C] ++ leBytes 4 seq ++ [byte bank, 0] ++ leBytes 2 target ++ List.replicate 48 0
  b ++ leBytes 4 (crc32c b)
def parseSelection (l : List Byte) : Option (Nat × Nat × Nat) :=
  if l.take 4 = [0x4D, 0x53, 0x45, 0x4C] ∧ getLE l 60 4 = crc32c (l.take 60) then some (getLE l 4 4, getLE l 8 1 % 2, getLE l 10 2)
  else none

/-- The selection record in force: its copy, seq, bank and floor target (R543). -/
def State.selection (s : State) : Option (Nat × Nat × Nat × Nat) :=
  match parseSelection (s.flashRead 0 64), parseSelection (s.flashRead 0x8000 64) with
  | some a, some b => if a.1 < b.1 then some (1, b) else some (0, a)
  | some a, none => some (0, a)
  | none, some b => some (1, b)
  | none, none => none

/-- A new selection record, in the other copy (R543). -/
def State.writeSelection (s : State) (bank target : Nat) : State :=
  let copy := match s.selection with | some (0, _) => 1 | _ => 0
  let seq := s.fw.selSeq + 1
  let s := (s.flashErase (0x8000 * copy) 4096).flashWrite (0x8000 * copy) (selectionBytes seq bank target)
  { s.w .fwuFloorTarget 0 target with fw := { s.fw with selSeq := seq, confirmed := bank } }

/-- The valid confirmed slot with the higher seq, as its number and contents (R568). -/
def State.confirmedSlot (s : State) : Option (Nat × Slot) :=
  let get (k : Nat) : Option Slot := match s.slotAt k with | some x => if x.confirmed then some x else none | none => none
  match get 0, get 1 with
  | some a, some b => if a.seq < b.seq then some (1, b) else some (0, a)
  | some a, none => some (0, a)
  | none, some b => some (1, b)
  | none, none => none

/-- The slot that the running firmware reads (R568): on trial the trial slot if it is valid. -/
def State.readSlot (s : State) : Option (Nat × Slot) :=
  let trial := [0, 1].findSome? (fun k => match s.slotAt k with
    | some x => if x.confirmed then none else some (k, x)
    | none => none)
  if s.inTrial ∧ trial.isSome then trial else s.confirmedSlot

/-- Critical tags this firmware knows, with the lengths it takes (R569, Table 15.6). -/
def recordOk (r : Nat × List Byte) : Bool :=
  if r.1 < 0x8000 then true
  else if r.1 = 0x8001 then r.2.length == 16
  else if r.1 = 0x8002 then r.2.length == 8
  else if r.1 = 0x8003 then r.2.length % 8 == 0
  else if r.1 = 0x8004 then r.2.length % 20 == 0
  else false

/-- The firmware can parse a slot's records. -/
def Slot.parses (x : Slot) : Bool := x.records.all recordOk

/-- Items of Table 15.6 that exist solely in the settings, read from a slot (R563). -/
def State.loadRecords (s : State) (x : Option (Nat × Slot)) : State :=
  match s.confirmedSlot, x with
  | some (k, c), some (_, y) => { s with fw := { s.fw with records := y.records, slot := k, slotSeq := c.seq } }
  | none, some (_, y) => { s with fw := { s.fw with records := y.records } }
  | some (k, c), none => { s with fw := { s.fw with records := [], slot := k, slotSeq := c.seq } }
  | none, none => { s with fw := { s.fw with records := [] } }

/-- auto_show and the watchdog from their records (Table 15.6). -/
def State.applyAutoShow (s : State) : State :=
  match s.setting 4 with
  | some v => s.w .rstAutoShow 0 (b2n (getLE v 0 1 != 0))
  | none => s
def State.applyWatchdog (s : State) : State :=
  match s.setting 3 with
  | some v => s.ws [(.rstWdEn, b2n (getLE v 0 1 != 0)), (.rstWdMs, clampN 100 10000 (getLE v 2 2))]
  | none => s

/-- The preferred ID and the protection key from their records (Table 15.6). -/
def State.applyItems (s : State) : State :=
  let s := match s.setting 1 with | some v => s.w .netPreferred 0 (getLE v 0 2) | none => s
  match s.setting 0x8002 with | some v => { s with lay := { s.lay with pKey := getLE v 0 8 } } | none => s

/-- Defaults for the items of Table 15.6 (R571): no record; the watchdog, the preferred ID, the protection key and auto_show as at reset. -/
def State.defaultItems (s : State) : State :=
  { s.ws [(.rstWdEn, 1), (.rstWdMs, 500), (.netPreferred, 0), (.rstAutoShow, 0)] with
    fw := { s.fw with records := [] }
    lay := { s.lay with pKey := 0 } }

/-- The map of the master's record (R379): unit IDs and node IDs alone. -/
def mapOf (l : List Byte) : List MapNode :=
  (List.range (l.length / 20)).map (fun i =>
    { unit := getLE l (20 * i) 16, node := getLE l (20 * i + 16) 2, role := 0, up := 0, preferred := 0, reported := 0,
      nonces := [], partners := [], groups := [], path := [], found := false })

/-- Every record applied at boot step 0x0D (R570). -/
def State.applyRecords (s : State) : State :=
  let s := match s.setting 0x8003 with | some l => State.applyImage (l.length / 8 + 1) l s | none => s
  let s := s.applyWatchdog.applyAutoShow.applyItems
  let s := match s.setting 6 with
    | some l => (List.range (l.length / 32)).foldl (fun (s : State) (i : Nat) => s.storeSeed (CalRec.ofBytes (getBytes l (32 * i) 32))) s
    | none => s
  match s.setting 0x8004 with
  | some l => { s with net := { s.net with map := mapOf l } }
  | none => s

/-! ### Activation and trial (R558 to R566) -/

/-- The checks of FW_ACTIVATE (R549, R558, R566): 0, or the status it completes with. -/
def State.activateStatus (s : State) (xfer : Nat) : Nat :=
  let bank := s.receiver
  if s.inTrial then Status.denied
  else if xfer ≠ s.r .fwuXferId ∨ !(s.bank bank = Bank.ready ∨ s.bank bank = Bank.stale) then Status.badArg
  else if s.bank bank = Bank.stale then Status.versionFloor
  else
    let st := s.headerCheck bank
    if st ≠ Status.ok then st
    else
      let h := s.headerOf bank
      match s.confirmedSlot with
      | some (_, x) => if headMin h ≤ x.format ∧ x.format ≤ headFormat h then Status.ok else Status.settingsIncompatible
      | none => Status.ok

/-- The image that FW_ACTIVATE names fails a check of Table 15.3. -/
def State.imageFails (s : State) (xfer : Nat) : Bool :=
  let bank := s.receiver
  !s.inTrial && xfer == s.r .fwuXferId &&
    (s.bank bank == Bank.stale || (s.bank bank == Bank.ready && s.headerCheck bank != Status.ok))

/-- The activation record (R559 step 2). -/
def State.writeActRecord (s : State) (c : HostCmd) (xfer : Nat) : State :=
  let head := match c.req with | .fabric n => n | _ => 0
  let l := leBytes 4 1 ++ leBytes 4 xfer ++ leBytes 2 c.target ++ leBytes 2 head ++ leBytes 8 s.ftNs
  { s with boot := { s.boot with retained := mwrite 0 s.boot.retained 0x800 l } }.w .aonFwuActRecord 0 1

/-- The firmware restart may begin (R562, Table 15.7): no flash write runs, and a head holds no relay and runs no commit, or 200 ms have
passed. -/
def State.restartReady (s : State) (since : Nat) : Bool :=
  s.fw.job != .write && s.fw.job != .save &&
    (!s.isHead || (s.mbx.relays == [] && s.lay.sealRun.isNone) || decide (since + 200000000 ≤ s.clk))

/-- A firmware restart begins (R560): the CP and the command state of the mailbox unit are reset; everything else keeps running. -/
def State.beginRestart (s : State) : State :=
  let m := s.mbx
  let s := { s with mbx := { m with
    posted := [], fenced := [], scheduled := [], deferred := [], heldFinals := [], sessions := [], relays := [], kept := [] } }
  let s := { s.w .mbxBusy 0 0 with fw := { s.fw with restartAt := some s.clk, restartDue := none, spread := none, isOpen := false } }
  s.w .aonBootStep 0 9

/-- A firmware restart asked for: at once, or when the node is ready. -/
def State.askRestart (s : State) (toTrial : Bool) : State :=
  let s := { s with fw := { s.fw with toTrial := toTrial } }
  if s.restartReady s.clk then s.beginRestart else { s with fw := { s.fw with restartDue := some s.clk } }

/-- FW_ACTIVATE carried out (R559): the final response, the activation record, sessions and scheduled commands ended, the bank TRIAL,
and the restart. -/
def actFwActivate : Action := withFlash fun c s =>
  let xfer := c.u32 0
  let st := s.activateStatus xfer
  if st ≠ Status.ok then refuse (s.raiseIf (s.imageFails xfer) .fwuVersionRefused) st
  else
    let bank := s.receiver
    let s := s.writeActRecord c xfer
    let s := s.mbx.sessions.foldl (fun s x => s.lapse x 4) s
    let gone := s.mbx.scheduled
    let s := { s with mbx := { s.mbx with scheduled := [] } }
    let s := gone.foldl (fun s d => if d = c then s else s.final d Status.aborted) s
    let s := s.setBank bank Bank.trial (headSec (s.headerOf bank))
    let s := s.ws [(.aonFwuTrial, 1), (.aonFwuTrialBank, bank), (.aonFwuTrialXfer, xfer), (.aonFwuFallbackSent, 0)]
    done (s.askRestart true)
def execFwActivate (c : HostCmd) (s : State) : Host.Outcome State Fault Refusal := .next (runHost 0x0C05 actFwActivate c s)

/-- The transfer ID of the trial, from the activation record. -/
def State.trialXfer (s : State) : Nat := mval 0 s.boot.retained 0x804 4

/-- The floor equals its target: an FW_CONFIRM that waited for it completes (R565). -/
def State.endFuses (s : State) : State :=
  { s with fw := { s.fw with fuseAt := none } }.complete .fuses Status.ok (leBytes 2 (s.r .fwuFloor))

/-- Floor fuses are blown one at a time, 20 µs each, while the floor lies below its target (R565). -/
def State.startFuses (s : State) : State :=
  if s.r .fwuFloor < s.r .fwuFloorTarget then
    (if s.fw.fuseAt.isSome then s else { s with fw := { s.fw with fuseAt := some (s.clk + 20000) } })
  else s.endFuses

/-- A fuse is blown, banks that hold an older image become STALE (R553), and the next one follows. -/
def State.blowFuse (s : State) : State :=
  match s.fw.fuseAt with
  | some t =>
    if s.clk < t then s
    else
      let s := s.w .fwuFloor 0 (s.r .fwuFloor + 1)
      let s := [0, 1].foldl (fun s b =>
        if s.bank b = Bank.ready ∧ s.r (secReg b) < s.r .fwuFloor then s.w (bankReg b) 0 Bank.stale else s) s
      { s with fw := { s.fw with fuseAt := none } }.startFuses
  | none => s

/-- The trial is over: AON_FWU says so and the record is not valid. -/
def State.clearTrial (s : State) : State := s.ws [(.aonFwuTrial, 0), (.aonFwuActRecord, 0)]

/-- The trial slot becomes the confirmed one: its state byte is programmed from 0x03 to 0x01 (R568). -/
def State.confirmSlot (s : State) : State :=
  match s.readSlot with
  | some (k, x) => if x.confirmed then s else
      let s := s.flashWrite (slotBase k + 6) [1]
      { s with fw := { s.fw with slot := k, slotSeq := x.seq } }
  | none => s

/-- The trial bank becomes CONFIRMED once its selection record is written (R564, R565, R568). -/
def State.confirmTrial (s : State) : State :=
  if s.inTrial then
    let t := s.trialBank
    let s := s.confirmSlot
    let s := (s.writeSelection t (max (s.r .fwuFloorTarget) (s.r (secReg t)))).clearTrial
    let s := s.w (bankReg t) 0 Bank.confirmed
    if s.bank (1 - t) = Bank.confirmed then s.w (bankReg (1 - t)) 0 Bank.ready else s
  else s

/-- FW_REVERT of the trial comes in the same cycle (Table 15.7). -/
def State.revertsNow (s : State) : Bool :=
  s.sameCycle.any (fun i => match i with
    | .fwRevert c => c.u32 0 == 0 || c.u32 0 == s.trialXfer
    | _ => false)

/-- FW_CONFIRM (R564, R565): its selection record is written first. -/
def actFwConfirm : Action := withFlash fun c s =>
  if !s.inTrial ∨ c.u32 0 ≠ s.trialXfer ∨ s.fw.restartDue.isSome ∨ s.revertsNow then refuse s Status.denied
  else await (s.flashAsk .write) .confirm
def execFwConfirm (c : HostCmd) (s : State) : Host.Outcome State Fault Refusal := .next (runHost 0x0C06 actFwConfirm c s)

/-- The trial ends with its bank READY (R564). -/
def State.endTrial (s : State) : State :=
  if s.inTrial then
    let t := s.trialBank
    (s.w (bankReg t) 0 (if s.r (secReg t) < s.r .fwuFloor then Bank.stale else Bank.ready)).clearTrial
  else s

/-- FW_REVERT (R564); an FW_CONFIRM whose selection record is not yet written answers DENIED. -/
def actFwRevert : Action := withFlash fun c s =>
  if !s.inTrial ∨ (c.u32 0 ≠ 0 ∧ c.u32 0 ≠ s.trialXfer) then done s
  else done ((s.completeAll (· == .confirm) Status.denied).endTrial.askRestart false)
def execFwRevert (c : HostCmd) (s : State) : Host.Outcome State Fault Refusal := .next (runHost 0x0C07 actFwRevert c s)

/-! ### Fallback (R571 to R573) -/

/-- The lease holder's answer to FW_FALLBACK_REQ (R572): on the first for a transfer, FW_REVERT relayed to the target, scheduled. -/
def State.fallbackFor (s : State) (xfer target : Nat) : State :=
  if xfer ∈ s.fw.reverted then s
  else
    let c : HostCmd := { req := .fabric s.id, slot := 0xFF, tag := 0, opcode := 0x0C07, target := target, session := 0, seq := 0,
                         flags := 6, reserved := 0, activation := s.ftNs + 1000000 * s.r .fwuRevertDelay,
                         payload := padTo 40 (leBytes 4 xfer), dmaPayload := [], data := [] }
    let s := { s with fw := { s.fw with reverted := xfer :: s.fw.reverted } }
    (s.raise .fwuFallbackDone).relayOut 0x0C07 actFwRevert c

/-- FW_FALLBACK_REQ. -/
def actFwFallbackReq : Action := fun c s =>
  if !s.isHead then refuse s Status.unsupported
  else if !s.on .redHolder then refuse s Status.notBound
  else done (s.fallbackFor (c.u32 0) (c.u16 4))
def execFwFallbackReq (c : HostCmd) (s : State) : Host.Outcome State Fault Refusal :=
  .next (runHost 0x0C08 actFwFallbackReq c s)

/-- FW_FALLBACK_REQ sent to the control head, which on a holder is the node itself (R571). -/
def State.sendFallback (s : State) : State :=
  let xfer := s.trialXfer
  let target := mval 0 s.boot.retained 0x808 2
  if s.isHead ∧ s.on .redHolder then
    let s := s.fallbackFor xfer target
    { s.w .aonFwuFallbackSent 0 1 with fw := { s.fw with fallback := none } }
  else
    let tag := s.mbx.nextTag
    let c : HostCmd := { req := .fabric s.id, slot := 0xFF, tag := tag, opcode := 0x0C08, target := s.controlHead, session := 0, seq := 0,
                         flags := 0, reserved := 0, activation := 0,
                         payload := padTo 40 (leBytes 4 xfer ++ leBytes 2 target), dmaPayload := [], data := [] }
    let s := { s with mbx := { s.mbx with nextTag := tag + 1 }, fw := { s.fw with fallback := some (tag, s.clk) } }
    s.sendTo 0x10 s.controlHead (c.bytes ++ leBytes 4 tag ++ leBytes 2 s.id ++ [0, 0])

/-- FALLBACK_REQ_REPEAT (R571 step 4): every 10 ms. -/
def doFallbackReqRepeat (s : State) : State :=
  match s.fw.fallback with
  | some f => if f.2 + 10000000 ≤ s.clk then s.sendFallback else s
  | none => s
def execFallbackReqRepeat (s : State) : Host.Outcome State Fault Refusal := event doFallbackReqRepeat s

/-! ### The restart -/

/-- The settings as restarted firmware reads them (R563, R571, R573). `parsed` tells whether it knows every critical record. -/
def State.restartSettings (s : State) (parsed : Bool) : State :=
  if s.inTrial ∧ !parsed then
    (s.raise .fwuSettingsIncompatible).defaultItems.leaveNext.sendFallback
  else
    let s := s.loadRecords s.readSlot
    if s.on .fwuSettingsIncompatible ∧ !s.inTrial then
      s.applyAutoShow.applyWatchdog.applyItems.w .fwuSettingsIncompatible 0 0
    else s

/-- A boot-log entry in the ring of retained memory (Table 13.6). -/
def State.logBoot (s : State) (step result reason word : Nat) : State :=
  let rep := if s.r .aonFailStep = step then s.r .aonRepeats else 0
  let l := [byte step, byte result, byte reason, byte rep] ++ leBytes 4 ((s.clk - s.upSince) / 1000) ++ leBytes 4 (s.r .aonResetCount) ++
    leBytes 4 word
  { s with boot := { s.boot with
    retained := mwrite 0 s.boot.retained (16 * (s.boot.logCount % 64)) l, logCount := s.boot.logCount + 1, logStep := step } }

/-- The running firmware's format limits, from its header; of an image no host wrote, values the spec does not give (log entry 7). -/
def State.runBank (s : State) (b : Nat) : State :=
  let h := s.headerOf b
  let s := s.w .fwuRunning 0 b
  if h.take 4 = [0x4D, 0x46, 0x57, 0x49] then s.ws [(.fwuSettingsFormat, headFormat h), (.fwuSettingsMin, headMin h)]
  else
    let d := s.draw 32
    d.2.ws [(.fwuSettingsFormat, d.1 % 65536), (.fwuSettingsMin, d.1 / 65536)]

/-- The step after one that has ended (Table 13.7): a tile skips 0x1A to 0x1E, a head without a lamp window 0x15 to 0x19. -/
def State.nextStep (s : State) (n : Nat) : Option Nat :=
  if n = 0x1F then none
  else if n = 0x14 ∧ !s.hasWindow then some 0x1A
  else if n = 0x19 ∧ s.isTile then some 0x1F
  else some (n + 1)

/-- The restart completes step 0x0E: steps 0x09 to 0x0E are logged, the firmware of the bank runs, held doorbells are taken (R560, R561,
Table 15.9). -/
def State.endRestart (s : State) (since : Nat) (parsed : Bool) : State :=
  let s := [9, 10, 11, 12, 13, 14].foldl (fun s n => (s.w .aonBootStep 0 n).logBoot n 0 0 0) s
  let s := s.runBank (if s.fw.toTrial then s.trialBank else s.fw.confirmed)
  -- boot goes on where the restart found it; ROM recovery ends
  let s := if s.on .rstRomRecovery then
      { s.ws [(.rstRomRecovery, 0), (.aonRepeats, 0)] with boot := { s.boot with reached := 0x0F } }
    else s
  let s := match s.nextStep s.boot.reached with
    | some m => { s.w .aonBootStep 0 m with boot := { s.boot with stepAt := s.clk } }
    | none => s
  let bells := s.mbx.heldBells
  let s := { s with
    fw := { s.fw with restartAt := none }
    mbx := { s.mbx with heldBells := 0 } }
  let s := (s.w .fwuRestartUs 0 ((s.clk - since) / 1000)).restartSettings parsed
  ((bits32 bells).foldl (fun s n => s.postSlot n) s).answerUnknown

/-- FIRMWARE_RESTART (R560 to R563): one that waits begins once it may, one in progress completes. -/
def doFirmwareRestart (parsed : Bool) (s : State) : State :=
  match s.fw.restartAt, s.fw.restartDue with
  | some t, _ => s.endRestart t parsed
  | none, some d => if s.restartReady d then s.beginRestart else s
  | none, none => s
def execFirmwareRestart (parsed : Bool) (s : State) : Host.Outcome State Fault Refusal := event (doFirmwareRestart parsed) s

/-- The first command that waits for a write has it: it answers, or goes on to the floor fuses (R565). -/
def State.endWrite (s : State) : State :=
  match s.mbx.deferred.find? (fun d => isFlashWrite d.waits) with
  | some d =>
    let s := { s with mbx := { s.mbx with deferred := s.mbx.deferred.erase d } }
    match d.waits with
    | .write st l => s.final d.cmd st l
    | _ =>
      let s := s.confirmTrial
      { s with mbx := { s.mbx with deferred := s.mbx.deferred ++ [{ d with waits := .fuses }] } }.startFuses
  | none => s

/-- The flash is free: a restart that waited for it begins (Table 15.7), and the next request is served (R544). -/
def State.flashFree (s : State) : State :=
  let s := { s with fw := { s.fw with job := .idle } }
  let s := match s.fw.restartDue with
    | some d => if s.restartReady d then s.beginRestart else s
    | none => s
  s.flashGoOn

/-- FLASH_WRITE_COMPLETE (R238, R544, R551, R570): the write in progress ends. -/
def doFlashWriteComplete (s : State) : State :=
  match s.fw.job with
  | .write => s.endWrite.flashFree
  | .save => s.savedCoef.flashFree
  | .idle | .reload => s
def execFlashWriteComplete (s : State) : Host.Outcome State Fault Refusal := event doFlashWriteComplete s

/-! ### Settings commands -/

/-- Bytes a slot holds: its header and records; none where it is not valid. -/
def State.slotLength (s : State) (k : Nat) : Nat :=
  if (s.slotAt k).isSome then 32 + mval erased s.fw.flash (slotBase k + 12) 4 else 0

/-- SETTINGS_GET: the slot, but for the protection key (R170). -/
def actSettingsGet : Action := fun c s =>
  let own := match s.readSlot with | some (k, _) => k | none => s.fw.slot
  let k := if c.u8 12 = 0 then own else 1 - own
  let n := s.slotLength k
  if 1 < c.u8 12 ∨ c.u32 8 < n ∨ !s.hostOk (c.u64 0) then refuse s Status.badArg
  else done (s.hostWrite c (c.u64 0) (hideKey (s.flashRead (slotBase k) n))) (leBytes 4 n)
def execSettingsGet (c : HostCmd) (s : State) : Host.Outcome State Fault Refusal := .next (runHost 0x0C09 actSettingsGet c s)

/-- SETTINGS_PUT (R568, R569): written as the next confirmed copy, in effect from the next boot. -/
def actSettingsPut : Action := withFlash fun c s =>
  if s.inTrial then refuse s Status.denied
  else
    match (s.hostRead c (c.u64 0) (c.u32 8)).bind (fun l => if l.length ≤ slotSize then parseSlot l else none) with
    | none => refuse s Status.badArg
    | some x =>
      if !x.parses ∨ x.format < s.r .fwuSettingsMin ∨ s.r .fwuSettingsFormat < x.format then refuse s Status.settingsIncompatible
      else
        let k := 1 - s.fw.slot % 2
        let l := slotBytes x.format (s.fw.slotSeq + 1) false x.records
        let s := (s.flashErase (slotBase k) slotSize).flashWrite (slotBase k) l
        await ({ s with fw := { s.fw with slot := k, slotSeq := s.fw.slotSeq + 1 } }.flashAsk .write) (.write Status.ok [])
def execSettingsPut (c : HostCmd) (s : State) : Host.Outcome State Fault Refusal := .next (runHost 0x0C0A actSettingsPut c s)

/-- The records in effect: those of the settings, with the register image, the watchdog, auto_show and the calibration seeds as they are
(R570, Table 15.6). -/
def State.recordsNow (s : State) : List (Nat × List Byte) :=
  let l := putRecords s.fw.records 0x8003 s.registerImage
  let l := putRecords l 3 ([byte (s.r .rstWdEn), 0] ++ leBytes 2 (s.r .rstWdMs))
  let l := putRecords l 4 [byte (s.r .rstAutoShow)]
  let seeds := s.thm.records.filter (·.seed)
  if seeds = [] then l else putRecords l 6 (seeds.flatMap CalRec.bytes)

/-- A SETTINGS_SAVE runs. -/
def State.saveRuns (s : State) : Bool := s.mbx.deferred.any (fun d => isFlashWrite d.waits && d.cmd.opcode == 0x0C0B)

/-- SETTINGS_SAVE (R570). -/
def actSettingsSave : Action := withFlash fun _ s =>
  if s.saveRuns then refuse s Status.busy
  else if s.inTrial ∧ !s.fw.records.all recordOk then refuse s Status.denied
  else
    let l := s.recordsNow
    await ((s.writeSlot l).flashAsk .write) (.write Status.ok (leBytes 4 (32 + (l.flatMap recordBytes).length)))
def execSettingsSave (c : HostCmd) (s : State) : Host.Outcome State Fault Refusal := .next (runHost 0x0C0B actSettingsSave c s)

end Sys2Proof.Machine
end

