-- ==== Sys2Proof/Machine/Reset.lean ====
section
/-! DEFINITION. Resets, block resets and clock failures: their causes and scopes (R489 to R499, R623), what is kept (R15, Table 13.2),
and the supplies (R602 to R609). -/

namespace Sys2Proof.Machine

/-! ### What the flash holds -/

/-- A bank holds a whole, checked image. -/
def State.imageWhole (s : State) (b : Nat) : Bool :=
  let h := s.headerOf b
  s.image b 0 4 == [0x4D, 0x46, 0x57, 0x49] && decide (1025 ≤ headLength h) && decide (headLength h ≤ 4194304) &&
    (List.range (blockCount (headLength h))).all (s.blockOk b) && s.bodyOk b

/-- Bank states and versions as the flash gives them (Table 15.9, R543): the bank of the selection record is CONFIRMED, bank A where no
record is valid; the other is READY or STALE with a whole image, and EMPTY without. -/
def State.readBanks (s : State) : State :=
  let sel := s.selection
  let c := (sel.map (fun x => x.2.2.1)).getD 0
  let sec (b : Nat) : Nat := if s.imageWhole b then headSec (s.headerOf b) else 0xFFFFFFFF
  let st (b : Nat) : Nat :=
    if b = c then Bank.confirmed
    else if !s.imageWhole b then Bank.empty
    else if sec b < s.r .fwuFloor then Bank.stale
    else Bank.ready
  let seq := (sel.map (fun x => x.2.1)).getD 0
  let target := (sel.map (fun x => x.2.2.2)).getD (s.r .fwuFloor)
  let t := ((s.setBank 0 (st 0) (sec 0)).setBank 1 (st 1) (sec 1)).ws [(.fwuFloorTarget, target), (.fwuRunning, c)]
  { t with fw := { t.fw with selSeq := seq, confirmed := c } }

/-! ### Boot steps begin -/

/-- The PCIe link trains, at 2.5 GT/s x1 or at full width; its speed is the link's own affair (a free value, log entry 3). -/
def State.trainPcie (s : State) (full : Bool) : State :=
  if full then
    let d := s.draw 8
    d.2.ws [(.pcieLinkUp, 1), (.pcieWidth, 3), (.pcieSpeed, 1 + d.1 % 5)]
  else s.ws [(.pcieLinkUp, 1), (.pcieWidth, 0), (.pcieSpeed, 1)]

/-- The service paths come up (R622): PCIe, the management Ethernet, and the fabric ports, which are enabled. -/
def State.pathsOn (s : State) : State :=
  let s := (s.setGood 33 true).setGood 37 true
  let s := if s.on .pcieLinkUp then s else s.trainPcie false
  let s := { s with
    mbx := { s.mbx with pathsUp := true }
    ports := s.ports.map (fun (q : PortSt) => { q with heldDown := false }) }
  (List.range 4).foldl (fun (s : State) (p : Nat) => s.followEnable p) s

/-- A boot step begins (R504): OTP starts to load at 0x04, from the redundant copy where interrupted is 3 (R502); the service paths are
brought up at 0x0E (R622); a head runs the lease protocol from 0x12 (R412); alteration 4 holds every port at rate 1. -/
def State.enterStep (s : State) (n : Nat) : State :=
  let s := { s.w .aonBootStep 0 n with boot := { s.boot with stepAt := s.clk, retrying := false } }
  if n = 4 then
    { s with boot := { s.boot with
      otpLoading := true, otpFailed := false, otpCopy := b2n (s.r .aonInterrupted == 3), otpAt := s.clk } }
  else if n = 5 ∨ n = 6 then (if s.boot.otpFailed then s else s.startFuses)
  else if n = 0x0E then s.pathsOn
  else if n = 0x12 then
    let s := if bit (s.r .aonAlter) 4 then
        (List.range 4).foldl (fun (s : State) (p : Nat) => s.w .fabMaxRate p (min 1 (s.r .fabMaxRate p))) s
      else s
    if s.isHead ∧ s.red.begunAt.isNone then
      let s := if s.r .redState = Red.init then s.w .redState 0 Red.standby else s
      { s with red := { s.red with begunAt := some s.clk } }
    else s
  else s

/-! ### A reset of the node -/

/-- Fields that every reset but a loss of VBAK keeps: straps, the pins, the fuses, the AON fields and the debug port's refusal. -/
def keptFields : List (FName × Nat) :=
  [.sysRoleStrap, .sysTestEn, .sysPwrGood, .aonBootStep, .aonAlter, .aonRepeats, .aonReason, .aonFailStep, .aonResetCount, .aonPrevCause, .aonLastCause, .aonInterrupted, .aonTerm, .aonEpoch,
    .aonFwuTrialXfer, .aonFwuFallbackSent, .aonFwuActRecord, .aonFwuTrial, .aonFwuTrialBank, .fwuFloor, .tstDebugRefusing].map (·, 0) ++
  (List.range 8).map (FName.aonScratch, ·)

/-- What a warm reset keeps beside (Table 13.2, R491): trims, the increment, the CXL and PCIe links, the P key lockout, the watchdog. -/
def warmFields : List (FName × Nat) :=
  [.rstTrimsValid, .rstTrimBad, .rstOtpCopy, .ftIncrInt, .ftIncrFrac, .cxlLinkUp, .cxlInterleave, .cxlSplit, .pcieLinkUp, .pcieWidth,
    .pcieSpeed, .pcieAerUncorrectable, .pcieAerCorrectable, .layPKeyLocked, .layPKeyFails, .rstWdEn, .rstWdMs].map (·, 0)

/-- A register file at reset but for some fields of `g`. -/
def keepFieldsOf (l : List (FName × Nat)) (g : Store) : Store :=
  l.foldl (fun h p => rput h p.1 p.2 (rget g p.1 p.2)) State.reset.regs

/-- A boot step that a reset cuts short (R505). -/
def State.cutShort (s : State) : State :=
  let n := s.r .aonBootStep
  if 2 ≤ n ∧ n ≠ s.boot.logStep then s.logBoot n 1 5 0 else s

/-- An interrupted OTP load (R501). -/
def State.noteInterrupted (s : State) : State :=
  if s.boot.otpLoading then s.w .aonInterrupted 0 (min 3 (s.r .aonInterrupted + 1)) else s

/-- Time after a reset: FT from 0, or counting on in HOLDOVER (Table 13.2). -/
def State.timeAfter (s : State) (warm : Bool) : TimeSt :=
  if warm then { State.time0 with ft := s.time.ft, holdSince := some s.clk } else State.time0

/-- Ingest after a reset: the devices keep the clip store and its table; a deferred free is not carried out (R119, R120). -/
def State.ingAfter (s : State) (warm : Bool) : IngSt :=
  { State.ing0 with
    devices := if warm then s.ing.devices else [0, 0]
    clip := s.ing.clip
    poison := s.ing.poison
    bufs := s.ing.bufs.map (fun (b : ClipBuf) => { b with deferred := false })
    nextHandle := s.ing.nextHandle
    upload := s.ing.upload }

/-- The effects of a reset (Table 13.2, R564): what it keeps is kept, everything else is as State.reset has it, and boot restarts. The on-chip
stores stand until step 0x16 clears them. -/
def State.restartAll (s : State) (cause : Nat) (warm trial : Bool) : State :=
  let t : State := { State.reset with
    regs := keepFieldsOf (if warm then keptFields ++ warmFields else keptFields) s.regs
    clk := s.clk
    upSince := s.clk
    free := s.free
    time := s.timeAfter warm
    ing := s.ingAfter warm
    lay := { State.lay0 with graphic := s.lay.graphic, pstore := s.lay.pstore, graphicBad := s.lay.graphicBad, pBad := s.lay.pBad }
    col := { State.col0 with store := s.col.store, bad := s.col.bad }
    scn := { State.scn0 with highZ := s.scn.highZ, drivenAt := s.scn.drivenAt }
    fw := { State.fw0 with flash := s.fw.flash, copy := s.fw.copy }
    thm := { State.thm0 with wrong := s.thm.wrong, challenges := s.thm.challenges, jtag := s.thm.jtag }
    boot := { State.boot0 with
      supply := s.boot.supply
      retained := s.boot.retained
      logCount := s.boot.logCount
      logStep := s.boot.logStep
      stepAt := s.clk
      reached := if warm then 5 else 0
      serviced := s.clk
      standbySince := s.clk
      vbakUp := s.boot.vbakUp
      vbakLost := s.boot.vbakLost
      afresh := s.boot.afresh
      resetAt := some s.clk }
    out := s.out ++ [.laneIdle, .reset cause]
    pending := s.pending }
  let t := (t.w .rstCause 0 cause).readBanks.raiseIf trial .fwuTrialFailed
  let t := if warm then
      ((t.w .clkGood310 0 (2 + 1 + 4 + 8 + 16)).w .clkGood3932 0 (s.r .clkGood3932 &&& 0x46)).w .ftLockState 0 3
    else t
  t.enterStep (if warm then 6 else 1)

/-- AON_BOOT_FAIL and the alterations clear where BOOT_CLEAR has asked for it (Table 13.12). -/
def State.bootClear (s : State) : State :=
  if s.boot.clearDue then
    { s.ws [(.aonAlter, 0), (.aonRepeats, 0), (.aonReason, 0), (.aonFailStep, 0)] with
      boot := { s.boot with afresh := false, clearDue := false } }
  else s

/-- A reset asserts in the cycle of another: the reset of widest scope acts, and the causes name both (R490, Table 13.10). -/
def State.joinReset (s : State) (cause : Nat) (warm : Bool) : State :=
  let both := cause ||| s.r .rstCause
  let s := s.w .aonLastCause 0 both
  if warm ∨ s.r .rstCause ≠ 0x20 then s.w .rstCause 0 both else s.restartAll both false (s.on .fwuTrialFailed)

/-- A whole-node or warm reset with a cause mask of Table 13.1 (R489, R490, R505). -/
def State.resetNode (s : State) (cause : Nat) (warm : Bool) : State :=
  if s.boot.resetAt = some s.clk then s.joinReset cause warm
  else
    let s := s.cutShort.noteInterrupted.bootClear
    let trial := s.inTrial
    let s := if trial then s.clearTrial else s
    let s := s.ws [(.aonPrevCause, s.r .aonLastCause), (.aonLastCause, cause), (.aonResetCount, s.r .aonResetCount + 1)]
    s.restartAll cause warm trial

/-! ### Blocks (Table 13.4) -/

/-- Domains a block uses. -/
def blockDomains (b : Nat) : List Nat :=
  match b with
  | 0 => [28, 29, 30, 31, 32]
  | 1 => [34]
  | 2 => [33]
  | 3 => [37]
  | 4 => [20, 24]
  | 5 => [21, 25]
  | 6 => [22, 26]
  | 7 => [23, 27]
  | 8 => [5, 6, 7, 8, 9, 10, 11, 12, 13, 14, 15, 16, 17]
  | 9 => [19]
  | 10 => [35, 36]
  | 13 => [38]
  | _ => []

/-- A clock-failure flag (R496). -/
def State.clkFailed (s : State) (d : Nat) : Bool :=
  if d < 32 then bit (s.r .rstClkfail310) d else bit (s.r .rstClkfail3932) (d - 32)

/-- A domain lets its block be released (R492). A clock that a block itself makes or recovers (domains 20 to 31) runs only once the block does:
such a domain counts as good unless it has failed (log entry 53). -/
def State.domainRuns (s : State) (d : Nat) : Bool := if 20 ≤ d ∧ d < 32 then !s.clkFailed d else s.good d
def State.blockRuns (s : State) (b : Nat) : Bool := (blockDomains b).all s.domainRuns

/-- What holding a block ends (Table 13.4); its fields and stores stay (R623). -/
def State.stopBlock (s : State) (b : Nat) : State :=
  match b with
  | 0 => s.ingestStop
  | 1 => { s.w .cxlLinkUp 0 0 with ing := { s.ing with devices := [0, 0] } }
  | 2 => doPcieLinkDown s
  | 8 =>
    let s := s.closeFrame
    let idle (e : Engine) : Engine := { e with task := none, prefetch := none, service := none, plan := [], planning := false }
    { s with clv := { s.clv with list1 := [], list2 := [], list3 := [], engines := s.clv.engines.map idle } }
  | 9 => { s with scn := { s.scn with subs := [], marks := none } }
  | 10 => s.followLanes
  | 12 => if s.on .redHolder then s.cease Red.lapsed else s
  | _ => if 4 ≤ b ∧ b < 8 then s.followEnable (b - 4) else s

/-- What a block does at its release (Table 13.4). -/
def State.startBlock (s : State) (b : Nat) : State :=
  match b with
  | 2 => s.trainPcie (s.isHead && decide (0x1A ≤ s.boot.reached))
  | 10 => s.followLanes
  | _ => if 4 ≤ b ∧ b < 8 then s.followEnable (b - 4) else s

/-- A block's reset bit set; a pending release of it is cancelled (R499). -/
def State.holdBlock (s : State) (b : Nat) : State :=
  let was := s.held b
  let s := s.ws [(.rstBlock, setBit (s.r .rstBlock) b true), (.rstPending, setBit (s.r .rstPending) b false)]
  let s := { s with boot := { s.boot with pendings := s.boot.pendings.filter (fun p => p.1 ≠ b) } }
  if was then s else s.stopBlock b

/-- A block released, its bits clear. -/
def State.freeBlock (s : State) (b : Nat) : State :=
  let s := s.ws [(.rstBlock, setBit (s.r .rstBlock) b false), (.rstPending, setBit (s.r .rstPending) b false)]
  let s := { s with boot := { s.boot with pendings := s.boot.pendings.filter (fun p => p.1 ≠ b) } }
  s.startBlock b

/-- A software release (R492, R493): at once, or pending until its clocks are good. -/
def State.releaseBlock (s : State) (b : Nat) : State :=
  if s.blockRuns b then s.freeBlock b
  else
    let s := s.ws [(.rstBlock, setBit (s.r .rstBlock) b false), (.rstPending, setBit (s.r .rstPending) b true)]
    { s with boot := { s.boot with pendings := s.boot.pendings.filter (fun p => p.1 ≠ b) ++ [(b, s.clk)] } }

/-- RST_BLOCK written with a mask of bits to change (R497 to R499): what the write answers, and the state. In Show bits 8 to 11 set at the next
boundary. -/
def State.writeBlocks (s : State) (fromPcie : Bool) (mask value : Nat) : Nat × State :=
  let bs := (List.range 14).filter (bit mask)
  let sets := bs.filter (fun b => bit value b && !bit (s.r .rstBlock) b)
  let clears := bs.filter (fun b => !bit value b && bit (s.r .rstBlock) b)
  let parent := s.inShow && s.hasParent && (4 + s.r .ftParentPort) ∈ sets
  if (fromPcie ∧ 2 ∈ sets) ∨ parent then (Status.denied, s.raise .rstDenied)
  else
    let later := if s.inShow then sets.filter (fun b => 8 ≤ b ∧ b ≤ 11) else []
    let s := (sets.filter (fun b => !(b ∈ later))).foldl (fun s b => s.holdBlock b) s
    let s := clears.foldl (fun s b => s.releaseBlock b) s
    if later = [] then (Status.ok, s)
    else
      let due := later.foldl (fun m b => setBit m b true) s.boot.blockDue
      let alone : Bool := !s.boot.leaveShow || s.boot.leaveBlock
      let s : State := { s with boot := { s.boot with blockDue := due } }.leaveNext
      (Status.accepted, { s with boot := { s.boot with leaveBlock := alone } })

/-- Block bits that waited for this boundary (R497). -/
def State.dueBlocks (s : State) : State :=
  if s.boot.blockDue = 0 then s
  else
    let bs := (List.range 14).filter (bit s.boot.blockDue)
    let s := { s with boot := { s.boot with blockDue := 0 } }
    (bs.foldl (fun s b => s.holdBlock b) s).complete .block Status.ok

/-! ### Clock failures (R495, R496, Table 13.3) -/

/-- The blocks that a failed domain holds in reset. -/
def failureBlocks (d : Nat) : List Nat :=
  if d = 5 ∨ d = 18 then [8]
  else if d = 19 then [9]
  else if d = 35 ∨ d = 36 then [10]
  else if 28 ≤ d ∧ d ≤ 32 then [0]
  else if d = 33 then [2]
  else if d = 34 then [1]
  else if d = 37 then [3]
  else if d = 38 then [13]
  else []

/-- The PCIe endpoint of a tile runs in minimum service alone (R5, R33): its link goes down and its domain stops as the tile leaves it, and
they come back with it. -/
def State.tilePcie (s : State) (st : Nat) : State :=
  if !s.isTile ∨ !s.mbx.pathsUp then s
  else if st = 2 then (if s.good 33 then s else (s.setGood 33 true).trainPcie false)
  else if s.good 33 then (doPcieLinkDown s).setGood 33 false
  else s

/-- A change of power state (Table 13.9, Table 0.3): role_active follows, lanes follow, a tile's PCIe follows, and when it was. -/
def State.enterState (s : State) (st : Nat) : State :=
  let s := s.tilePcie st
  let s := s.ws [(.sysPstate, st), (.sysRoleActive, b2n (3 ≤ st))]
  -- align is a state of Show (Table 2.12)
  let s := if st = 4 then s else { s.w .ftAlign 0 0 with time := { s.time with alignSince := none } }
  let s := { s with boot := { s.boot with
    lastChange := s.ftNs, standbySince := s.clk, leaveShow := false, toMin := false, enterShow := none, roleLost := none } }
  s.followLanes

/-- Show is left for Standby, and where PWR_SET asked for minimum service, goes on to it (Table 13.9). -/
def State.leaveFor (s : State) : State :=
  let t := s.enterState 3
  if s.boot.toMin then t.enterState 2 else t

/-- A node in Show enters Standby at once, its lanes dark after the sub-update the drivers hold; no cut is sent. -/
def State.leaveNow (s : State) : State :=
  if s.inShow then
    let s := { s with scn := { s.scn with subs := s.scn.subs.filter (·.loaded), lastStart := none, marks := none } }
    s.leaveFor
  else s

/-- A role-set domain without clock-good is noted, and since when (Table 13.9). -/
def State.noteRole (s : State) : State :=
  let lost := if s.missing s.roleDomains = [] then none else some (s.boot.roleLost.getD s.clk)
  { s with boot := { s.boot with roleLost := lost } }

/-- A clock-failure reset of a domain. One of domains 1 to 4 resets the node; its flag is set after the reset. -/
def State.failDomain (s : State) (d : Nat) : State :=
  let flag (s : State) : State := if d < 32 then s.raiseBit .rstClkfail310 0 d else s.raiseBit .rstClkfail3932 0 (d - 32)
  if 1 ≤ d ∧ d ≤ 4 then flag (s.resetNode 0x80 false)
  else
    let s := (flag s).setGood d false
    let s := { s with boot := { s.boot with tries := s.boot.tries.filter (fun t => t.1 ≠ d) ++ [(d, s.clk)] } }
    let s :=
      if 6 ≤ d ∧ d ≤ 17 then s.failEngine (d - 6)
      else if 20 ≤ d ∧ d ≤ 27 then (s.setPort ((d - 20) % 4) (fun q => { q with heldDown := true })).followEnable ((d - 20) % 4)
      else
        -- a sink whose recovered clock fails has lost its link
        let s := if 28 ≤ d ∧ d < 32 then doDpLinkLoss (d - 28) false s else s
        (failureBlocks d).foldl (fun s b => s.holdBlock b) s
    let s := if d = 5 ∨ d = 18 ∨ d = 19 ∨ d = 35 ∨ d = 36 then s.leaveNow else s
    let s := if s.isHead ∧ ((28 ≤ d ∧ d ≤ 34) ∨ d = 37 ∨ d = 38) then s.setHealth 1 true else s
    s.noteRole

/-- CLOCK_FAILURE_RESET: a domain that had clock-good loses it. -/
def doClockFailureReset (d : Nat) (s : State) : State := if d < 39 ∧ s.good d then s.failDomain d else s
def execClockFailureReset (d : Nat) (s : State) : Host.Outcome State Fault Refusal := event (doClockFailureReset d) s

/-- PENDING_RELEASE_COMPLETE. -/
def doPendingReleaseComplete (b : Nat) (s : State) : State :=
  if bit (s.r .rstPending) b ∧ b < 14 ∧ s.blockRuns b then s.freeBlock b else s
def execPendingReleaseComplete (b : Nat) (s : State) : Host.Outcome State Fault Refusal := event (doPendingReleaseComplete b) s

/-- The source of a failed domain is tried every 10 ms (R496). -/
def State.retryDue (s : State) (d : Nat) : Bool :=
  match s.boot.tries.find? (fun t => t.1 = d) with
  | some t => decide (t.2 + 10000000 ≤ s.clk)
  | none => true

/-- A domain's clock-good rises later in this cycle. -/
def State.risesNow (s : State) (d : Nat) : Bool := s.sameCycle.contains (.clockSourceRetry d true) && s.retryDue d

/-- The domains that a pending release still misses as its cycle ends. -/
def State.stillMissing (s : State) (b : Nat) : List Nat := (blockDomains b).filter (fun d => !s.domainRuns d && !s.risesNow d)

/-- PENDING_RELEASE_TIMEOUT: 1 ms after the release; clock-good in that cycle still completes it (R495, Table 13.10). -/
def doPendingReleaseTimeout (b : Nat) (s : State) : State :=
  match s.boot.pendings.find? (fun p => p.1 = b) with
  | some p =>
    if s.clk < p.2 + 1000000 then s
    else if s.blockRuns b then s.freeBlock b
    else if s.stillMissing b = [] then s
    else (s.stillMissing b).foldl (fun s d => s.failDomain d) (s.holdBlock b)
  | none => s
def execPendingReleaseTimeout (b : Nat) (s : State) : Host.Outcome State Fault Refusal := event (doPendingReleaseTimeout b) s

/-- Domains that a tile holds stopped: 28 to 32 and 34, and 33 outside minimum service (R33). -/
def State.stopped (s : State) (d : Nat) : Bool :=
  s.isTile && (decide (28 ≤ d ∧ d ≤ 32) || d == 34 || (d == 33 && !s.inMin))

/-- A domain's clock-good returns: the firmware releases its blocks (R496). -/
def State.clockReturns (s : State) (d : Nat) : State :=
  if 20 ≤ d ∧ d ≤ 27 then
    let p := (d - 20) % 4
    if s.mbx.pathsUp ∧ (s.port p).heldDown then (s.setPort p (fun q => { q with heldDown := false })).followEnable p else s
  else if 28 ≤ d ∧ d < 32 then
    if s.clkFailed d ∧ bit (s.r .rstBlock) 0 then
      -- the sink's own clock is good again; the block goes as soon as its other clocks run
      let others := (blockDomains 0).filter (· ≠ d)
      if others.all s.domainRuns then s.freeBlock 0 else s
    else s
  else if s.good d then s
  else ((failureBlocks d).filter (fun b => bit (s.r .rstBlock) b)).foldl (fun s b => s.releaseBlock b) (s.setGood d true)

/-- Releases whose last clock-good has risen complete (R495). -/
def State.settleReleases (s : State) : State := (List.range 14).foldl (fun s b => doPendingReleaseComplete b s) s

/-- The source of a failed domain has been tried: it counts as failed no more, or waits for the next 10 ms. -/
def State.noteTry (s : State) (d : Nat) (good : Bool) : State :=
  { s with boot := { s.boot with
    tries := s.boot.tries.flatMap (fun t => if t.1 ≠ d then [t] else if good then [] else [(d, s.clk)]) } }

/-- CLOCK_SOURCE_RETRY: every 10 ms; when clock-good returns the firmware releases the domain's blocks. A domain that a tile holds stopped
stays so (R33). Domain 39 has no source of the node's own: its bit follows TCK as the event gives it (R32). -/
def doClockSourceRetry (d : Nat) (good : Bool) (s : State) : State :=
  if d = 39 then s.setGood 39 good
  else if 39 < d ∨ s.stopped d ∨ !s.retryDue d then s
  else
    let s := s.noteTry d good
    if good then (s.clockReturns d).settleReleases.noteRole else s
def execClockSourceRetry (d : Nat) (good : Bool) (s : State) : Host.Outcome State Fault Refusal := event (doClockSourceRetry d good) s

/-! ### Supplies and pins -/

/-- An event of the supplies or of RESET_N reaches the node whether or not it runs (R511). -/
def always (f : State → State) (s : State) : Host.Outcome State Fault Refusal := .next (f { s with out := [] })

/-- AON fields lose their contents (R15). -/
def State.loseAon (s : State) : State :=
  let s := ([.aonBootStep, .aonAlter, .aonRepeats, .aonReason, .aonFailStep, .aonResetCount, .aonPrevCause, .aonLastCause,
    .aonInterrupted, .aonTerm, .aonEpoch, .aonFwuTrialXfer, .aonFwuFallbackSent, .aonFwuActRecord, .aonFwuTrial, .aonFwuTrialBank] :
      List FName).foldl (fun (s : State) (f : FName) => s.w f 0 0) s
  let s := (List.range 8).foldl (fun (s : State) (k : Nat) => s.w .aonScratch k 0) s
  { s with boot := { s.boot with retained := [], logCount := 0, logStep := 0, afresh := false } }

/-- VBAK_LOSS (R15): the AON fields and the retained memory are lost; without the rails the node is Off (Table 13.9). -/
def doVbakLoss (s : State) : State :=
  let s := s.loseAon
  let s := { s with boot := { s.boot with vbakUp := false, vbakLost := true } }
  if s.boot.supply = .on then s else { s.w .sysPstate 0 0 with boot := { s.boot with supply := .off } }
def execVbakLoss (s : State) : Host.Outcome State Fault Refusal := always doVbakLoss s

/-- BACKUP_ENTER: VBAK enters its operating range (Table 13.9). -/
def doBackupEnter (s : State) : State :=
  let s := { s with boot := { s.boot with vbakUp := true } }
  if s.boot.supply = .off then { s.w .sysPstate 0 1 with boot := { s.boot with supply := .backup } } else s
def execBackupEnter (s : State) : Host.Outcome State Fault Refusal := always doBackupEnter s

/-- POWER_ON_RESET_ASSERT (R602, Table 13.9): the node falls to Backup, or Off without VBAK, which loses what the AON fields have been
given since VBAK was lost (R15); an OTP load is interrupted (R501). -/
def doPowerOnResetAssert (s : State) : State :=
  if s.boot.supply = .on then
    let s := if s.boot.vbakUp then s.noteInterrupted else s.noteInterrupted.loseAon
    let left := if s.boot.vbakUp then Supply.backup else Supply.off
    let s := { s.emit .laneIdle with boot := { s.boot with supply := left, otpLoading := false } }
    s.w .sysPstate 0 (if left = .off then 0 else 1)
  else s
def execPowerOnResetAssert (s : State) : Host.Outcome State Fault Refusal := always doPowerOnResetAssert s

/-- POWER_ON_RESET (R602, R606, R607, R622): the release, but not where a named rail falls in the same cycle (R614). The straps are sampled, the on-chip stores hold nothing, and boot starts in minimum
service; AON contents lost with VBAK read their reset values (R15). -/
def doPowerOnReset (roleSel : Nat) (testEn strapChanged : Bool) (s : State) : State :=
  if s.boot.supply = .on ∨ Instr.powerOnResetAssert ∈ s.sameCycle then s
  else
    let lost := s.boot.vbakLost
    let s := { s with boot := { s.boot with supply := .on, halted := false, vbakLost := false, resetAt := none } }
    let s := s.ws [(.sysRoleStrap, if strapChanged then 3 else roleSel % 4), (.sysTestEn, b2n testEn), (.tstDebugRefusing, 0), (.tstBscan, 0)]
    let s := { s with
      lay := { s.lay with graphic := [], pstore := [], graphicBad := [], pBad := [] }
      col := { s.col with store := [], bad := [] }
      scn := { s.scn with highZ := true }
      thm := { s.thm with wrong := 0, jtag := .tapReset } }
    (s.resetNode 1 false).raiseIf lost .rstAonLost
def execPowerOnReset (roleSel : Nat) (testEn strapChanged : Bool) (s : State) : Host.Outcome State Fault Refusal :=
  always (doPowerOnReset roleSel testEn strapChanged) s

/-- BROWN_OUT_RESET, with the other sources of the same cycle (R490). -/
def execBrownOutReset (also : Nat) (s : State) : Host.Outcome State Fault Refusal :=
  event (fun s => s.resetNode (2 ||| also % 512) false) s

/-- PIN_RESET (R608): RESET_N low for at least 1 µs; it starts a halted node again (R511). -/
def doPinReset (lowNs also : Nat) (s : State) : State :=
  if lowNs < 1000 ∨ s.boot.supply ≠ .on then s
  else
    let bscan := s.on .tstBscan
    let t := { s with boot := { s.boot with halted := false } }.resetNode (4 ||| also % 512) false
    if bscan then t.w .tstBscan 0 1 else t
def execPinReset (lowNs also : Nat) (s : State) : Host.Outcome State Fault Refusal := always (doPinReset lowNs also) s

/-- WATCHDOG_EXPIRE (R491, R592): a service in the same cycle counts; suspended while the CP is halted through the debug port. -/
def doWatchdogExpire (serviced : Bool) (s : State) : State :=
  if serviced then { s with boot := { s.boot with serviced := s.clk } }
  else if s.on .rstWdEn ∧ !s.thm.cpHalted ∧ s.boot.serviced + 1000000 * s.r .rstWdMs ≤ s.clk then s.resetNode 8 false
  else s
def execWatchdogExpire (serviced : Bool) (s : State) : Host.Outcome State Fault Refusal := event (doWatchdogExpire serviced) s

/-- LOCKUP_RESET (Table 13.1, R592): the CP fault handler leaves its record (Table 13.6). -/
def doLockupReset (cause : Lockup) (s : State) : State :=
  match cause with
  | .noRetire => if s.thm.cpHalted then s else s.resetNode 0x100 false
  | _ =>
    let s := { s with boot := { s.boot with retained := mwrite 0 s.boot.retained 0x400 (leBytes 4 1) } }
    s.resetNode 0x100 false
def execLockupReset (cause : Lockup) (s : State) : Host.Outcome State Fault Refusal := event (doLockupReset cause) s

/-- FIRMWARE_RESTART_TIMEOUT (R561): a firmware restart that has not completed step 0x0E within 1 s. -/
def doFirmwareRestartTimeout (s : State) : State :=
  match s.fw.restartAt with
  | some t => if t + 1000000000 ≤ s.clk then s.resetNode 8 false else s
  | none => s
def execFirmwareRestartTimeout (s : State) : Host.Outcome State Fault Refusal := event doFirmwareRestartTimeout s

/-- The low flag of a status-monitored rail: 0 AVDD085, 1 AVDD12, 2 VDDLL, 3 VDD33 (Table 17.10). -/
def railLowFlag (rail : Nat) : Option FName :=
  match rail with
  | 0 => some .sysAvdd085Low
  | 1 => some .sysAvdd12Low
  | 2 => some .sysVddllLow
  | 3 => some .sysVdd33Low
  | _ => none

/-- RAIL_LOW (R603). -/
def execRailLow (rail : Nat) (s : State) : Host.Outcome State Fault Refusal :=
  event (fun s => match railLowFlag rail with
    | some f => { s.raise f with boot := { s.boot with railsLow := setBit s.boot.railsLow rail true } }
    | none => s) s

/-- PWR_GOOD_CHANGE (R609): a level that has held for 1 µs. On a deassertion pwr_fail sets and, on a head, the power bit of the health word;
a holder in AUTO yields at once (Table 11.9). -/
def doPwrGoodChange (level : Bool) (heldNs : Nat) (s : State) : State :=
  if heldNs < 1000 then s
  else
    let s := (s.w .sysPwrGood 0 (b2n level)).raiseIf (!level && s.on .sysPwrGood) .sysPwrFail
    if !s.isHead then s
    else
      let s := s.setHealth 0 (!level)
      let s := if level then s else { s with red := { s.red with powerFell := some s.clk } }
      if !level ∧ s.on .redHolder ∧ s.r .redLeaseMode = 0 then s.yield_ else s
def execPwrGoodChange (level : Bool) (heldNs : Nat) (s : State) : Host.Outcome State Fault Refusal := event (doPwrGoodChange level heldNs) s

end Sys2Proof.Machine
end

