-- ==== Sys2Proof/Machine/Power.lean ====
section
/-! DEFINITION. Boot (R500 to R512, Table 13.7), the power states (R514 to R516, Table 13.9), and the power and reset commands
(R518, Table 13.12). -/

namespace Sys2Proof.Machine

/-! ### Boot steps -/

/-- Limit of a boot step in ns (Table 13.7); none for one that waits. -/
def stepLimit (n : Nat) : Option Nat :=
  match n with
  | 0x02 => some 20000000
  | 0x03 | 0x05 | 0x0B | 0x11 | 0x15 => some 1000000
  | 0x04 => some 2000000
  | 0x06 | 0x16 => some 5000000
  | 0x07 | 0x08 | 0x09 | 0x1B => some 10000000
  | 0x0A => some 500000000
  | 0x0C | 0x1A => some 100000000
  | 0x0D | 0x18 => some 200000000
  | 0x0E => some 2000000000
  | 0x12 => some 10000000000
  | 0x17 | 0x1C => some 1000000000
  | _ => none

/-- The alteration of a step: its alter bit (Table 13.7). -/
def stepAlter (n : Nat) : Option Nat :=
  match n with
  | 0x03 => some 0
  | 0x08 => some 1
  | 0x09 | 0x0A | 0x0B | 0x0C => some 2
  | 0x0D => some 3
  | 0x12 => some 4
  | 0x1C => some 5
  | _ => none

/-- The bank boot reads: the one selected, or with alteration 2 the other (R512). -/
def State.bootBank (s : State) : Nat := if bit (s.r .aonAlter) 2 then 1 - s.fw.confirmed else s.fw.confirmed

/-- What a step asks of the node's own state before it can end (Table 13.7): the role and trims, a trained port and, on a head, a holder (R412),
an ID, fabric time, the services reached, the CXL links, a twin or the lease. -/
def State.stepHolds (s : State) (n : Nat) : Bool :=
  match n with
  | 0x0E => s.on .pcieLinkUp || s.good 37 || (List.range 4).any s.up
  | 0x10 => (s.isTile || s.isHead) && !s.on .sysTestEn && s.on .rstTrimsValid
  | 0x12 => (List.range 4).any (fun p => s.up p && decide (1 ≤ s.r .fabRate p)) && (!s.isHead || s.on .redHolder || s.red.heardHolder)
  | 0x13 => s.id != 0
  | 0x14 => s.r .ftLockState == 2 || s.on .ftIsRoot
  | 0x19 => s.tileHolds
  | 0x1C => bit (s.r .aonAlter) 5 || s.r .cxlLinkUp == (if s.on .cxlSplit then 3 else 1)
  | 0x1D => s.twinSeen || s.on .redHolder
  | 0x1E => s.headHolds
  | _ => true

/-- The image of a bank that a host wrote is refused where its header fails Table 15.3 (R548, R566). -/
def State.imageRefused (s : State) (n : Nat) : Bool :=
  (n == 0x09 || n == 0x0A || n == 0x0B) && s.image s.bootBank 0 4 == [0x4D, 0x46, 0x57, 0x49] &&
    s.headerCheck s.bootBank != Status.ok

/-- Several domains' clock-good set; pending releases that waited for them complete (R495). -/
def State.setsGood (s : State) (l : List Nat) : State := (l.foldl (fun s d => s.setGood d true) s).settleReleases

/-- The settings read at step 0x0D (R570, Table 13.7): defaults with alteration 3; records that this firmware cannot parse are
SETTINGS_INCOMPATIBLE, as at a restart (R571). -/
def State.bootSettings (s : State) : State :=
  if bit (s.r .aonAlter) 3 then { s with fw := { s.fw with records := [] } }.raise .rstSettingsDefault
  else
    match s.readSlot with
    | none => s.loadRecords none
    | some (k, x) =>
      if x.parses then (s.loadRecords (some (k, x))).applyRecords
      else { s.raise .fwuSettingsIncompatible with fw := { s.fw with records := [] } }

/-- Every on-chip store cleared (Table 13.7, step 0x16). -/
def State.clearStores (s : State) : State :=
  { s with
    lay := { s.lay with graphic := [], pstore := [], lines := [], graphicBad := [], pBad := [] }
    col := { s.col with store := [], dirty := [], bad := [], reloading := [], saving := [], saveRun := none, lamps := [], mapLoaded := false, tablesLoaded := false, wholeReload := false }
    fw := { s.fw with job := if s.fw.job = FlashJob.write then FlashJob.write else FlashJob.idle }
    lan := { s.lan with status := [] } }.traceClear

/-- A node with its role set enters Standby (Table 13.9). -/
def State.reachRole (s : State) : State := if s.inMin ∧ s.roleHolds then s.enterState 3 else s

/-- What a step has done once it ends. -/
def State.stepWork (s : State) (n : Nat) : State :=
  match n with
  | 0x02 => s.setsGood [1]
  | 0x03 => s.setsGood [3, 4, 38]
  | 0x09 => s.readBanks
  | 0x0C => s.runBank s.bootBank
  | 0x0D => s.bootSettings
  | 0x0E => if s.scn.highZ then { s with scn := { s.scn with highZ := false, drivenAt := some s.clk } } else s
  | 0x0F => s.w .aonRepeats 0 0
  | 0x11 => s.setsGood [2]
  | 0x15 => s.setsGood [5, 6, 7, 8, 9, 10, 11, 12, 13, 14, 15, 16, 17, 18, 19, 35, 36]
  | 0x16 => s.clearStores
  | 0x17 => s.readCoef
  | 0x19 => s.reachRole
  | 0x1A => if s.on .pcieLinkUp ∧ s.r .pcieWidth = 3 then s else s.trainPcie true
  | 0x1B => s.setsGood [32]
  | 0x1C =>
    let s := s.setsGood [34]
    if bit (s.r .aonAlter) 5 then s.dropTable else s
  | 0x1E => s.reachRole
  | _ => s

/-- A step ends done: its work, its log entry (R504). -/
def State.passStep (s : State) (n word : Nat) : State :=
  let s := (s.stepWork n).logBoot n 0 0 word
  { s with boot := { s.boot with reached := n } }

/-- Boot goes on from a step: 0x0F and 0x1F are reached as they begin. -/
def State.goOn (s : State) (n : Nat) : State :=
  match s.nextStep n with
  | none => s
  | some m =>
    let s := s.enterStep m
    if m = 0x0F ∨ m = 0x1F then
      let s := s.passStep m 0
      match s.nextStep m with
      | some k => s.enterStep k
      | none => s
    else s

/-! ### Failures (R506 to R511) -/

/-- A failure recorded in AON_BOOT_FAIL, the log and, at the second in a run, the step's alteration set (R508). -/
def State.recordFail (s : State) (n result reason : Nat) : State × Bool :=
  let reps := if s.r .aonFailStep = n ∧ !s.boot.afresh then min 255 (s.r .aonRepeats + 1) else 1
  let s := (s.ws [(.aonFailStep, n), (.aonReason, reason), (.aonRepeats, reps)]).logBoot n result reason 0
  let s := { s with boot := { s.boot with afresh := false } }
  match stepAlter n with
  | some b =>
    if bit (s.r .aonAlter) b then (s, decide (2 ≤ reps))
    else if 2 ≤ reps then ({ s.w .aonAlter 0 (setBit (s.r .aonAlter) b true) with boot := { s.boot with afresh := true } }, false)
    else (s, false)
  | none => (s, decide (2 ≤ reps))

/-- ROM recovery (R510): the boot ROM gives minimum service, AON_BOOT_STEP at 0x0F. -/
def State.romRecovery (s : State) (n : Nat) : State :=
  let s := s.pathsOn.ws [(.rstRomRecovery, 1), (.sysRoleActive, 0)]
  let s := if n = 0x08 then s.setGood 38 false else s
  (s.enterStep 0x0F).logBoot 0x0F 0 0 0

/-- A halted node: every block but the AON domain and JTAG in reset (R511). -/
def State.haltBoot (s : State) : State := { s.emit .laneIdle with boot := { s.boot with halted := true } }

/-- The step is tried again after 1 s (R507, R509). -/
def State.retryStep (s : State) : State := { s with boot := { s.boot with retrying := true, stepAt := s.clk } }

/-- The OTP load fails (R502, R509): trim_bad, and boot goes on without valid trims, step 0x05 skipped. -/
def State.failOtp (s : State) (result reason : Nat) : State :=
  let s := (s.recordFail 4 result reason).1.w .rstTrimBad 0 1
  let s := { s with boot := { s.boot with otpLoading := false, otpFailed := true, reached := 4 } }
  let s := (s.w .aonBootStep 0 5).logBoot 5 3 0 0
  s.enterStep 6

/-- A step fails or passes its limit (R506 to R509). After a warm reset, a check of the allocation table that fails leaves every buffer free
at once (R121). -/
def State.failStep (s : State) (n result reason : Nat) : State :=
  if n = 4 then s.failOtp result reason
  else
    let s := if n = 0x1C ∧ reason = 1 ∧ bit (s.r .aonLastCause) 5 then s.dropTable else s
    let (s, last) := s.recordFail n result reason
    if 0x10 ≤ n then s.retryStep
    else if last then
      if 0x08 ≤ n ∧ n ≤ 0x0C then s.romRecovery n
      else if n = 0x0D ∨ n = 0x0E then s.retryStep
      else s.haltBoot
    else s.resetNode 8 false

/-- The step an event names is the one in progress. -/
def State.atStep (s : State) (n : Nat) : Bool :=
  s.r .aonBootStep == n && decide (s.boot.reached < n) && !s.boot.retrying && s.fw.restartAt.isNone && !s.on .rstRomRecovery

/-- BOOT_STEP_END: the step ends with its step-specific word, or fails with a reason; OTP_LOAD_DONE ends 0x04. -/
def doBootStepEnd (n : Nat) (failed : Option Nat) (word : Nat) (s : State) : State :=
  if !s.atStep n ∨ n = 4 then s
  else
    match failed with
    | some reason => s.failStep n 1 reason
    | none =>
      if s.imageRefused n then (s.raise .fwuVersionRefused).failStep n 1 1
      else if s.stepHolds n then (s.passStep n word).goOn n
      else s
def execBootStepEnd (n : Nat) (failed : Option Nat) (word : Nat) (s : State) : Host.Outcome State Fault Refusal :=
  event (doBootStepEnd n failed word) s

/-- BOOT_STEP_TIMEOUT (R506, R507). -/
def doBootStepTimeout (n : Nat) (s : State) : State :=
  match stepLimit n with
  | some l => if s.atStep n ∧ s.boot.stepAt + l ≤ s.clk then s.failStep n 2 2 else s
  | none => s
def execBootStepTimeout (n : Nat) (s : State) : Host.Outcome State Fault Refusal := event (doBootStepTimeout n) s

/-- BOOT_STEP_RETRY (R507). -/
def doBootStepRetry (s : State) : State :=
  if s.boot.retrying ∧ s.boot.stepAt + 1000000000 ≤ s.clk then s.enterStep (s.r .aonBootStep) else s
def execBootStepRetry (s : State) : Host.Outcome State Fault Refusal := event doBootStepRetry s

/-- A command resets the node in the state it meets. -/
def State.resetBy (s : State) : Instr → Bool
  | .brownOutReset _ | .powerOnResetAssert => true
  | .pinReset low _ => decide (1000 ≤ low)
  | .watchdogExpire serviced =>
    !serviced && s.on .rstWdEn && !s.thm.cpHalted && decide (s.boot.serviced + 1000000 * s.r .rstWdMs ≤ s.clk)
  | .lockupReset cause => cause != .noRetire || !s.thm.cpHalted
  | .clockFailureReset d => decide (1 ≤ d ∧ d ≤ 4) && s.good d
  | .rstCtrlNode key | .rstCtrlWarm key => s.pcieUp && (s.holderOf 10).isNone && key % 65536 == 0xD96A
  | .warmReset => match s.boot.rstDue with
    | some (k, t) => k == 1 && decide (t ≤ s.clk)
    | none => false
  | _ => false

/-- OTP_LOAD_DONE (R500 to R503): a copy's load, of 327.68 µs, ends with its CRC. One whose CRC passes in the cycle of a reset does not
count as complete: the reset interrupts it (R501, Table 13.10). -/
def doOtpLoadDone (crcOk : Bool) (s : State) : State :=
  if !s.boot.otpLoading ∨ s.clk < s.boot.otpAt + 327680 ∨ s.sameCycle.any s.resetBy then s
  else if crcOk then
    let s := s.ws [(.aonInterrupted, 0), (.rstTrimsValid, 1), (.rstTrimBad, 0), (.rstOtpCopy, s.boot.otpCopy)]
    let s := { s with boot := { s.boot with otpLoading := false } }
    (s.passStep 4 0).goOn 4
  else if s.boot.otpCopy = 0 then { s with boot := { s.boot with otpCopy := 1, otpAt := s.clk } }
  else s.failOtp 1 1
def execOtpLoadDone (crcOk : Bool) (s : State) : Host.Outcome State Fault Refusal := event (doOtpLoadDone crcOk) s

/-! ### Power states -/

/-- A test or loop whose idle condition names "node not in Show" runs (R579). -/
def State.darkTest (s : State) : Bool :=
  s.thm.testing.any (fun x => if x.isLoop then x.kind == 2 && x.code == 1 else x.kind ∈ [1, 2, 3])

/-- The node may enter Show at a boundary (R34, R35, R530, R579). -/
def State.showNow (s : State) : Bool := s.inStandby && s.mayShow && !s.darkTest && !s.on .thmShutdownHold

/-- auto_show may take the node to Show (R515): the previous 100 ms in Standby with lock state LOCKED. -/
def State.autoShows (s : State) : Bool :=
  s.on .rstAutoShow && decide (s.boot.standbySince + 100000000 ≤ s.clk) && (match s.time.lockedSince with
    | some t => decide (t + 100000000 ≤ s.clk)
    | none => false)

/-- A temperature of this cycle brings the node level to SHUTDOWN (Table 14.7). -/
def State.shutdownComes (s : State) : Bool :=
  s.sameCycle.any (fun i => match i with
    | .thermalSample c k v => (doThermalSample c k v s).r .thmNodeLevel == 4
    | .laneReplyRx g l => (doLaneReplyRx g l s).r .thmNodeLevel == 4
    | _ => false)

/-- A command waits for Show. -/
def isShowWait (w : Waits) : Bool := match w with | .show_ _ => true | _ => false

/-- auto_show as PWR_SET gives it: 0xFF leaves it. -/
def State.setAutoShow (s : State) (v : Nat) : State := if v = 0xFF then s else s.w .rstAutoShow 0 (b2n (v != 0))

/-- PWR_GET. -/
def actPwrGet : Action := fun _ s =>
  let lost := (s.missing s.roleDomains).foldl (fun m d => m + 2 ^ d) 0
  done s ([byte (s.r .sysPstate), byte (b2n s.minHolds + 2 * b2n s.tileHolds + 4 * b2n s.headHolds), byte (s.r .rstAutoShow), 0] ++
    leBytes 8 lost ++ leBytes 8 s.boot.lastChange)
def execPwrGet (c : HostCmd) (s : State) : Host.Outcome State Fault Refusal := .next (runHost 0x0E00 actPwrGet c s)

/-- PWR_SET takes the node out of Show at the next boundary (R36), to Standby or on to minimum service (Table 13.9). -/
def State.goTo (s : State) (min : Bool) : State :=
  let t := s.leaveNext
  { t with boot := { t.boot with toMin := min } }

/-- PWR_SET (R514, R516, Table 13.9): to Show from Standby, or once Show is left, at the frame named; a later one replaces a waiting one. -/
def actPwrSet : Action := fun c s =>
  let st := c.u8 0
  let drop (s : State) : State := (s.completeAll isShowWait Status.aborted).setAutoShow (c.u8 1)
  if st = 4 then
    if s.inShow ∧ !s.boot.leaveShow then done (drop s)
    else if (!s.inStandby ∧ !s.inShow) ∨ !s.roleHolds ∨ s.darkTest ∨ s.on .thmShutdownHold then refuse s Status.busy
    else accept (drop s) (.show_ (max (c.u64 8) s.nextFrame))
  else if st = 3 then
    if s.inShow then done ((drop s).goTo false)
    else if s.inStandby then done (drop s)
    else if s.roleHolds ∧ (s.boot.reached = 0x1F ∨ s.on .sysRoleActive) then done ((drop s).enterState 3)
    else refuse s Status.busy
  else if st = 2 then
    if s.inShow then done ((drop s).goTo true)
    else if s.inStandby then done ((drop s).enterState 2)
    else done (drop s)
  else refuse s Status.badArg
def execPwrSet (c : HostCmd) (s : State) : Host.Outcome State Fault Refusal := .next (runHost 0x0E01 actPwrSet c s)

/-- AUTO_SHOW_ENTER (R515): the node enters Show at the next boundary, where the conditions are judged again. -/
def doAutoShowEnter (s : State) : State :=
  if s.autoShows ∧ s.showNow then
    { s with boot := { s.boot with enterShow := some s.nextFrame } }
  else s
def execAutoShowEnter (s : State) : Host.Outcome State Fault Refusal := event doAutoShowEnter s

/-- ROLE_SET_LOST (Table 13.9): a domain of the role set without clock-good for 1 s in Standby. -/
def doRoleSetLost (s : State) : State :=
  let s := s.noteRole
  match s.boot.roleLost with
  | some t => if s.inStandby ∧ t + 1000000000 ≤ s.clk then s.enterState 2 else s
  | none => s
def execRoleSetLost (s : State) : Host.Outcome State Fault Refusal := event doRoleSetLost s

/-! ### Reset commands -/

/-- RST_GET. -/
def actRstGet : Action := fun _ s =>
  done s ([0x100, 0x108, 0x10C, 0x118, 0x110, 0x114, 0x200, 0x204, 0x208, 0x210].flatMap (fun o => leBytes 4 (s.bar0 o)))
def execRstGet (c : HostCmd) (s : State) : Host.Outcome State Fault Refusal := .next (runHost 0x0F00 actRstGet c s)

/-- The reset that RST_NODE makes due 1 ms on; one that is due before stays, and the wider of two due at once. -/
def State.rstSoon (s : State) (kind : Nat) : Nat × Nat :=
  let t := s.clk + 1000000
  match s.boot.rstDue with
  | some (k, u) => if u < s.clk then (kind, t) else if u = t then (min k kind, t) else (k, u)
  | none => (kind, t)

/-- RST_NODE: OK, and the reset 1 ms later (R489). -/
def actRstNode : Action := fun c s =>
  if 1 < c.u8 0 then refuse s Status.badArg
  else done { s with boot := { s.boot with rstDue := some (s.rstSoon (c.u8 0)) } }
def execRstNode (c : HostCmd) (s : State) : Host.Outcome State Fault Refusal := .next (runHost 0x0F01 actRstNode c s)

/-- RST_BLOCK (R497, R498). -/
def actRstBlock : Action := fun c s =>
  let r := s.writeBlocks (c.req == .pcie) (c.u32 0) (c.u32 4)
  if r.1 = Status.accepted then accept r.2 .block else if r.1 = Status.ok then done r.2 else refuse r.2 r.1
def execRstBlock (c : HostCmd) (s : State) : Host.Outcome State Fault Refusal := .next (runHost 0x0F02 actRstBlock c s)

/-- The bytes of an AON area: backup registers 0x0200 to 0x023F, or the retained memory. -/
def State.aonBytes (s : State) (area off n : Nat) : Option (List Byte) :=
  if n = 0 ∨ 32 < n then none
  else if area = 0 ∧ off + n ≤ 0x40 then
    let words := (List.range 16).flatMap (fun i => leBytes 4 (s.bar0 (0x200 + 4 * i)))
    some (getBytes words off n)
  else if area = 1 ∧ off + n ≤ 0x1000 then some (mread 0 s.boot.retained off n)
  else none

/-- AON_READ. -/
def actAonRead : Action := fun c s =>
  match s.aonBytes (c.u8 0) (c.u16 2) (c.u8 4) with
  | some l => done s l
  | none => refuse s Status.badArg
def execAonRead (c : HostCmd) (s : State) : Host.Outcome State Fault Refusal := .next (runHost 0x0F03 actAonRead c s)

/-- A byte of the backup scratch registers written. -/
def State.scratchByte (s : State) (a : Nat) (b : Byte) : State :=
  let v := s.r .aonScratch (a / 4)
  let k := 8 * (a % 4)
  s.w .aonScratch (a / 4) (v - bits v (k + 7) k * 2 ^ k + b.toNat * 2 ^ k)

/-- AON_WRITE: the scratch ranges of both areas (Tables 13.5 and 13.6). -/
def actAonWrite : Action := fun c s =>
  let off := c.u16 2
  let n := c.u8 4
  let l := getBytes c.body 8 n
  if n = 0 ∨ 32 < n then refuse s Status.badArg
  else if c.u8 0 = 0 ∧ 0x20 ≤ off ∧ off + n ≤ 0x40 then
    done (l.zipIdx.foldl (fun (s : State) (p : Byte × Nat) => s.scratchByte (off - 0x20 + p.2) p.1) s)
  else if c.u8 0 = 1 ∧ 0xC00 ≤ off ∧ off + n ≤ 0x1000 then
    done { s with boot := { s.boot with retained := mwrite 0 s.boot.retained off l } }
  else refuse s Status.denied
def execAonWrite (c : HostCmd) (s : State) : Host.Outcome State Fault Refusal := .next (runHost 0x0F04 actAonWrite c s)

/-- BOOT_CLEAR: carried out at the next reset; the alterations in effect stay until then (R508). -/
def actBootClear : Action := fun _ s => done { s with boot := { s.boot with clearDue := true } }
def execBootClear (c : HostCmd) (s : State) : Host.Outcome State Fault Refusal := .next (runHost 0x0F05 actBootClear c s)

/-! ### Resets that are due -/

/-- A reset that RST_NODE made due (R489). -/
def State.dueReset (s : State) (kind : Nat) : State :=
  match s.boot.rstDue with
  | some (k, t) =>
    if k = kind ∧ t ≤ s.clk then (if k = 1 then s.resetNode 0x20 true else s.resetNode 0x10 false) else s
  | none => s

/-- FT_TICK: the tick (R46); since when a role-set domain is lost (Table 13.9); a floor
fuse that is due (R565); a whole-node reset of RST_NODE that falls due. -/
def doTick (s : State) : State := (doFtTick s).noteRole.blowFuse.dueReset 0
def execFtTick (s : State) : Host.Outcome State Fault Refusal := event doTick s

/-- WARM_RESET: a warm reset of RST_NODE that falls due. -/
def execWarmReset (s : State) : Host.Outcome State Fault Refusal := event (fun s => s.dueReset 1) s

/-- A write to area 10 that BAR0 takes: the PCIe function answers, and no session holds the area (R465). -/
def State.bar0Reset (s : State) (f : State → State) : State :=
  if !s.pcieUp then s else if (s.holderOf 10).isSome then s.raise .mbxBarLocked else f s

/-- RST_CTRL node and warm (Table 13.11): the key makes the write act. -/
def execRstCtrlNode (key : Nat) (s : State) : Host.Outcome State Fault Refusal :=
  event (fun s => s.bar0Reset (fun s => if key % 65536 = 0xD96A then s.resetNode 0x10 false else s)) s
def execRstCtrlWarm (key : Nat) (s : State) : Host.Outcome State Fault Refusal :=
  event (fun s => s.bar0Reset (fun s => if key % 65536 = 0xD96A then s.resetNode 0x20 true else s)) s

/-- RST_BLOCK written over BAR0. -/
def execRstBlockWrite (value : Nat) (s : State) : Host.Outcome State Fault Refusal :=
  event (fun s => s.bar0Reset (fun s => (s.writeBlocks true 0x3FFF value).2)) s

end Sys2Proof.Machine
end

