-- ==== Sys2Proof/Machine/Calibrate.lean ====
section
/-! DEFINITION. Calibration runs (R531 to R540): CAL_RUN, its queue, and what a run's result does. -/

namespace Sys2Proof.Machine

/-- Indices of a calibration kind (Table 14.4). -/
def calItems (kind : Nat) : Nat := nth [16, 4, 12, 12, 8, 1] kind 0

/-- A kind disturbs its block. -/
def calDisturbs (kind : Nat) : Bool := kind == 1 || kind == 3

/-- Port p is idle (R535). -/
def State.portIdle (s : State) (p : Nat) : Bool :=
  !s.up p || !s.inShow || s.rateFree p

/-- A lane is lit (R535). -/
def State.lit (s : State) (n : Nat) : Bool := s.inShow && s.r .laneState n == Lane.run

/-- Group g is idle (R535). -/
def State.groupIdle (s : State) (g : Nat) : Bool := (List.range 8).all (fun k => !s.lit (8 * g + k))

/-- The block a run disturbs is idle. -/
def State.calIdle (s : State) (r : Run) : Bool :=
  if r.kind = 1 then s.portIdle r.index else if r.kind = 3 then s.groupIdle r.index else true

/-- A run may start (R535, Table 14.3): RET_SWEEP never on a lit lane; NEXT_IDLE with its block idle, no return request outstanding, and the node
below THROTTLE; AT at its FT. -/
def State.calStarts (s : State) (r : Run) : Bool :=
  let quiet := r.kind != 3 || ((s.asking r.index).isNone && s.groupIdle r.index)
  if r.when_ = 0 then r.kind != 3 || s.groupIdle r.index
  else if r.when_ = 1 then decide (s.r .thmNodeLevel < 3) && s.calIdle r && quiet
  else decide (r.at_ ≤ s.ftNs) && (r.kind != 3 || s.groupIdle r.index)

/-- A step of RET_SWEEP: an ECHO on the group's lowest lane in RUN (Table 14.4; to driver 0, log entry 57). -/
def State.sweepStep (s : State) (r : Run) : State :=
  let s := { s with thm := { s.thm with running := some { r with chunks := r.chunks + 1 } } }
  match ((List.range 8).map (8 * r.index + ·)).find? (fun n => s.r .laneState n == Lane.run) with
  | some n => s.enqueue (request n 0 5 0 0 0)
  | none => s

/-- A run starts: FAB_EQ restarts its port, RET_SWEEP makes the first of its 64 steps (Table 14.4). -/
def State.startCal (s : State) (r : Run) : State :=
  let r := { r with start := some s.ftNs, startClk := s.clk }
  let s := { s with thm := { s.thm with running := some r } }
  if r.kind = 1 then s.restartPort r.index else if r.kind = 3 then s.sweepStep r else s

/-- Chunks of the run in progress are still to start. -/
def Run.sweeping (r : Run) : Bool := r.kind == 3 && decide (r.chunks < 64) && !r.aborting

/-- The next chunk of the run in progress starts where it may (R535); else the first queued run that may start does, while none is in
progress. -/
def State.nextCal (s : State) : State :=
  if s.held 11 then s
  else
    match s.thm.running with
    | some r => if r.sweeping ∧ s.calStarts r then s.sweepStep r else s
    | none => match s.thm.cals.find? s.calStarts with
      | some r => { s with thm := { s.thm with cals := s.thm.cals.erase r } }.startCal r
      | none => s

/-- CAL_RUN (R535, R536). -/
def actCalRun : Action := fun c s =>
  let kind := c.u8 0
  let at_ := c.u64 8
  let late := decide (c.u8 2 = 2) && decide (at_ ≤ s.ftNs)
  let r : Run := { retRun (c.u8 1) with kind := kind, when_ := c.u8 2, at_ := at_, cmd := some c, late := late }
  if calItems kind ≤ c.u8 1 ∨ 2 < c.u8 2 ∨ (c.u8 2 = 2 ∧ s.ftNs + 600000000000 < at_) then refuse s Status.badArg
  else if (kind = 5 ∧ s.r .ftLockState ≠ 2) ∨ (c.u8 2 = 0 ∧ calDisturbs kind ∧ !s.calIdle r) then refuse s Status.busy
  else if s.thm.running.isNone ∧ s.calStarts r then accept (s.startCal r) .cal
  else if 16 ≤ s.thm.cals.length then refuse s Status.busy
  else accept { s with thm := { s.thm with cals := s.thm.cals ++ [r] } } .cal
def execCalRun (c : HostCmd) (s : State) : Host.Outcome State Fault Refusal := .next (runHost 0x0B04 actCalRun c s)

/-- CAL_RUN_START (R535): a queued run, or the next chunk of the one in progress, starts. -/
def execCalRunStart (s : State) : Host.Outcome State Fault Refusal := event State.nextCal s

/-- The command of a run, wherever it now waits, completes. -/
def State.finishRun (s : State) (w : Waits) (r : Run) (status : Nat) (data : List Byte) : State :=
  match r.cmd with
  | none => s
  | some c =>
    match s.mbx.deferred.find? (fun d => d.waits == w && c.same d.cmd) with
    | some d =>
      let s := { s with mbx := { s.mbx with deferred := s.mbx.deferred.erase d } }
      s.final d.cmd status data
    | none => s

/-- The checks of a run's result: Table 9.11 on the window of a port lane (R344), Table 14.5 on that of a return pair (R533), and those of the
other kinds. -/
def State.calPasses (s : State) (o : CalOutcome) (r : Run) : Bool :=
  if r.kind = 0 then windowOk o.window (s.r .fabRate (r.index / 4))
  else if r.kind = 2 then
    decide (90 * 65536 ≤ 100 * o.valid) && decide (100 * o.idle ≤ 20 * 65536) && decide (40 * 655360 ≤ 100 * o.transitions) &&
      decide (100 * o.transitions ≤ 60 * 655360) && decide (32 ≤ o.replies) && decide (2 ≤ o.drivers)
  else o.checksPass

/-- A command of this cycle puts the lamp lanes in reset. -/
def State.lanesGo (s : State) : Bool :=
  s.sameCycle.any (fun i => s.resetBy i || (match i with
    | .rstBlockWrite v => bit v 10 && !s.inShow && s.pcieUp && (s.holderOf 10).isNone
    | .rstBlock c => bit (c.u32 0 &&& c.u32 4) 10 && !s.inShow
    | .clockFailureReset d => (d == 35 || d == 36) && s.good d
    | .frameBoundary => bit s.boot.blockDue 10
    | _ => false))

/-- The block of a run is there to take its result (Table 14.7). -/
def State.calBlock (s : State) (r : Run) : Bool :=
  if r.kind = 0 then s.up (r.index / 4) else if r.kind = 2 ∨ r.kind = 3 then !s.held 10 && !s.lanesGo else true

/-- A result that passes its checks applies: receiver settings of a lane or a pair with their record (Table 14.6), the entry of THM_REF_COMP nearest
to the present temperature (R531). -/
def State.applyCal (s : State) (r : Run) (o : CalOutcome) : State :=
  let rec_ (rate nonce : Nat) : CalRec := ⟨r.kind, r.index, rate, true, false, o.temp, s.ftNs, nonce, padTo 12 o.values⟩
  if r.kind = 0 then
    let p := r.index / 4
    let nonce := ((s.port p).partner.map (·.nonce)).getD 0
    ((s.w .fabLaneCtle r.index (getLE o.values 0 1)).w .fabLaneDfe1 r.index (getLE o.values 2 1)).putRecord (rec_ (s.r .fabRate p) nonce)
  else if r.kind = 2 then
    { s with lan := { s.lan with retEq := updAt s.lan.retEq r.index (fun _ => padTo 2 o.values) } }.putRecord (rec_ 0 0)
  else if r.kind = 3 then { s with lan := { s.lan with retEq := updAt s.lan.retEq r.index (fun _ => padTo 2 o.values) } }
  else if r.kind = 5 then
    let t := toInt 16 o.temp
    s.w .calRefComp (clampI 0 15 ((t + 40).fdiv 80)) (getLE o.values 0 2)
  else s

/-- The result of the run in progress applies in this cycle (Table 14.7). -/
def State.calApplies (s : State) (r : Run) : Bool :=
  s.sameCycle.any (fun i => match i with
    | .calRunDone o => !r.sweeping && !r.aborting && s.calBlock r && s.calPasses o r
    | _ => false)

/-- CAL_RUN_DONE (R534, R536, R537): the run in progress, its chunks all made, ends; an aborted one is discarded. -/
def doCalRunDone (o : CalOutcome) (s : State) : State :=
  match s.thm.running with
  | none => s
  | some r =>
    if r.sweeping then s else
    let s := { s with thm := { s.thm with running := none } }
    let s :=
      if r.aborting ∨ !s.calBlock r then s
      else if s.calPasses o r then s.applyCal r o
      else s.calDefer r.kind
    let s := s.raiseIf r.cmd.isSome .thmCalDone
    (s.finishRun .cal r (if r.aborting then Status.aborted else if r.late then Status.late else Status.ok) []).nextCal
def execCalRunDone (o : CalOutcome) (s : State) : Host.Outcome State Fault Refusal := event (doCalRunDone o) s

end Sys2Proof.Machine
end

