-- ==== Sys2Proof/Machine/Test.lean ====
section
/-! DEFINITION. Production and field test (R576 to R594): self-tests and loops, their records, the counters, memory errors (R29 to R31,
Table 1.5), boundary scan and the debug port. -/

namespace Sys2Proof.Machine

/-! ### Memory errors -/

/-- A word of the trace ring or of a packet buffer is damaged (Table 1.5): the record, at this place of the ring, reads as zeros and
counts in lost; the packet leaves the queue of its port, and its receive buffer is freed. Below 0x4000 a word is a record, from there
0x4000 × (port + 1) + its place in the queue (DESIGN CHOICE, log entry 65). -/
def State.loseBuffered (s : State) (w : Nat) : State :=
  if w < 0x4000 then
    { s with clv := { s.clv with trace := mwrite 0 s.clv.trace (16 * w) (List.replicate 16 0) } }.count .clvLost
  else
    let p := (w / 0x4000 - 1) % 4
    match (s.link p).queue[w % 0x4000]? with
    | none => s
    | some q =>
      let s := s.setLink p (fun l => { l with queue := l.queue.eraseIdx (w % 0x4000) })
      match q.frees with
      | some r => s.release r
      | none => s

/-- A double-bit error's words in a memory of Table 1.4, and the response of Table 1.5. Words are: lamp positions, 64-byte blocks of the
coefficient store, 32-bit words of the graphic and protected stores, line-store keys, lamps, and those of State.loseBuffered; the list of
the CP memory and the boot ROM only counts. -/
def State.memDouble (s : State) (m : Nat) (ws : List Nat) : State :=
  if ws = [] then s
  else
    let s := { s with col := { s.col with uncorrectable := bump s.col.uncorrectable m ws.length, lastUncorr := some s.clk } }
    match m with
    | 0 => { s with col := { s.col with lamps := ws.foldl (fun l w => sput 0 l w 0) s.col.lamps } }
    | 1 => ws.foldl (fun s b => s.coefError b) s
    | 2 => { s with lay := { s.lay with graphicBad := addBlocks ws s.lay.graphicBad } }
    | 3 => { s with lay := { s.lay with pBad := addBlocks ws s.lay.pBad } }
    | 4 => { s with lay := { s.lay with lines := ws.foldl (fun l w => sput 0 l w 0) s.lay.lines } }
    | 5 => s.forgetLamps (fun l => l ∈ ws)
    | 6 =>
      let s := { s with boot := { s.boot with retained := mwrite 0 s.boot.retained 0x400 (leBytes 4 1) } }
      s.resetNode 0x100 false
    | 7 => let n := s.r .aonBootStep; if s.atStep n then s.failStep n 1 3 else s
    | 8 => ws.foldl (fun s w => s.loseBuffered w) s
    | _ => s

/-- The node is in a Lull gap: it is in Standby or Show, and no engine is awake (R31, R205). -/
def State.lullGap (s : State) : Bool := (s.inStandby || s.inShow) && s.clv.engines.all (fun e => !e.awake)

/-- MEMORY_SCRUB: single-bit errors are corrected and counted, double-bit errors answered (R29, R30). In a Lull gap the event is a whole
scrub pass over one of the stores of R31, and the node notes when it ended; at other times it carries what a read of the memory found. -/
def doMemoryScrub (m : Nat) (single double : List Nat) (s : State) : State :=
  if 9 ≤ m then s
  else
    let s := if s.lullGap ∧ m ∈ [1, 2, 3, 5] then
        { s with col := { s.col with scrubbed := updAt s.col.scrubbed m (fun _ => some s.clk) } }
      else s
    { s with col := { s.col with corrected := bump s.col.corrected m single.length } }.memDouble m double
def execMemoryScrub (m : Nat) (single double : List Nat) (s : State) : Host.Outcome State Fault Refusal := event (doMemoryScrub m single double) s

/-- Memory index of Table 16.1 as a row of Table 1.4. -/
def testMemory (i : Nat) : Nat := if i = 6 then 8 else i

/-- Chunks of a test (Tables 1.4 and 16.1). -/
def testChunks (kind index : Nat) : Nat :=
  match kind with
  | 1 => 16
  | 3 => nth [384, 192, 128, 16, 24, 4, 16] index 1
  | 4 => nth [24, 12, 8, 1, 2, 1, 1] index 1
  | 6 => 8
  | _ => 1

/-! ### When a run may start -/

/-- A test's idle condition (Table 16.1). -/
def State.testIdle (s : State) (r : Run) : Bool :=
  match r.kind with
  | 1 => !s.serves r.index || !s.inShow || (!(s.engine r.index).awake && s.live .clvReady0 0 == 0 && s.clv.list1 == [] && s.clv.list2 == [])
  | 2 => !s.inShow
  | 3 => !s.inShow || (r.index == 6 && !s.on .clvTraceOn)
  | _ => true

/-- A loop's idle condition (Table 16.2). -/
def State.loopIdle (s : State) (r : Run) : Bool :=
  match r.kind with
  | 0 => !(s.up r.index && s.inShow)
  | 1 => !s.lit r.index
  | 2 => r.code == 2 || !s.inShow || !(List.range 16).any (fun i => s.on .ingEnable i && s.r .ingKind i == 1 && s.r .ingDpPort i == r.index)
  | _ => !s.on .redHolder && s.pins == []

/-- The lane becomes lit in this cycle: the node enters Show with the lane in RUN, or the lane comes to RUN in Show (Table 16.4). -/
def State.lightsNow (s : State) (n : Nat) : Bool :=
  s.sameCycle.any (fun i => match i with
    | .frameBoundary => s.r .laneState n == Lane.run && s.showNow &&
        (s.boot.enterShow.isSome || s.mbx.deferred.any (fun d => isShowWait d.waits))
    | .laneReplyRx g l => s.inShow && (doLaneReplyRx g l s).r .laneState n == Lane.run
    | _ => false)

/-- Two runs need one block: the same test or loop, or two memory tests of one memory (log entry 58). -/
def Run.clash (r x : Run) : Bool :=
  r.isLoop == x.isLoop && r.index == x.index && (r.kind == x.kind || (!r.isLoop && (r.kind == 3 || r.kind == 4) && (x.kind == 3 || x.kind == 4)))

/-- A run's block is idle (Tables 16.1, 16.2, 16.4), and no run in progress has it. -/
def State.runIdle (s : State) (r : Run) : Bool :=
  if r.isLoop then s.loopIdle r && !(r.kind == 1 && s.lightsNow r.index) else s.testIdle r
def State.runClashes (s : State) (r : Run) : Bool := s.thm.testing.any r.clash

/-- The run may start: NEXT_IDLE is held at THROTTLE (Table 14.3), AT waits for its FT. -/
def State.runStarts (s : State) (r : Run) : Bool :=
  !s.runClashes r && s.runIdle r && (if r.when_ = 1 then decide (s.r .thmNodeLevel < 3) else if r.when_ = 2 then decide (r.at_ ≤ s.ftNs) else true)

/-- A chunk made ready as a group 3 task. -/
def State.readyChunk (s : State) (r : Run) : State :=
  match s.serviceTask r with
  | some t => { s with clv := { s.clv with list3 := s.clv.list3 ++ [(t, s.clk)] } }.dispatch
  | none => s

/-- A DRIVER loop sends its ECHO, where none is outstanding on the lane (R316; log entry 58). -/
def State.echoOn (s : State) (r : Run) : State :=
  let mine (x : RetReq) : Bool := x.lane == r.index && x.kind == 5 && x.id == 0
  if (s.lan.waiting.getD (r.index / 8) []).any mine ∨ (s.asking (r.index / 8)).any mine then s
  else s.enqueue (request r.index r.driver 5 0 0 0)

/-- A run starts (Table 16.2): a fabric loop restarts its port with the loop code, a lane loop takes its lane to OFF (R582), a PHY loop stops the
port's capture (R584), a CXL loop closes its device and sets health bit cxl (R585). -/
def State.startRunT (s : State) (r : Run) : State :=
  let r := if (s.serviceTask r).isSome then r else s.started r
  let s := { s with thm := { s.thm with testing := s.thm.testing ++ [r] } }
  if !r.isLoop then s.readyChunk r
  else
    match r.kind with
    | 0 => (s.w .fabLoop r.index r.code).restartPort r.index
    | 1 =>
      if r.code < 3 then ((s.setLane r.index (fun (x : LaneSt) => { x with loop := true })).followLanes).emit (.lanePattern r.index (r.code == 2))
      else s.echoOn r
    | 2 =>
      if r.code = 1 then
        s.setRing r.index (fun (x : DpRing) => { x with phy := true, writing := none, lostSince := some s.clk })
      else s
    | _ => { s with ing := { s.ing with loopLink := some r.index } }.setHealth 4 true

/-- What the end of a run undoes; the link of a CXL loop retrains, its table to be checked, and the head enters RESILVER (R585). -/
def State.stopRun (s : State) (r : Run) : State :=
  if !r.isLoop then
    match s.serviceTask r with
    | some t =>
      let drop (e : Engine) : Engine := if e.service = some t then { e with service := none } else e
      { s with clv := { s.clv with list3 := s.clv.list3.filter (fun x => x.1 != t), engines := s.clv.engines.map drop } }
    | none => s
  else
    match r.kind with
    | 0 => (s.w .fabLoop r.index 0).restartPort r.index
    | 1 => if r.code < 3 then (s.setLane r.index (fun (x : LaneSt) => { x with loop := false })).followLanes else s
    | 2 => if r.code = 1 then s.setRing r.index (fun (x : DpRing) => { x with phy := false }) else s
    | _ =>
      let s := { s.w .cxlLinkUp 0 (setBit (s.r .cxlLinkUp) r.index false) with
        ing := { s.ing with loopLink := none } }
      s.startResilver

/-- The first queued run that may start does. -/
def State.nextTest (s : State) : State :=
  match s.thm.tests.find? s.runStarts with
  | some r => { s with thm := { s.thm with tests := s.thm.tests.erase r } }.startRunT r
  | none => s

/-- A run accepted: started, queued, or BUSY (R535, R536, R576); one under NOW whose block another run has is BUSY. -/
def State.takeRun (s : State) (r : Run) : Ack :=
  if r.when_ = 2 ∧ s.ftNs + 600000000000 < r.at_ then refuse s Status.badArg
  else if r.when_ = 0 ∧ (!s.runIdle r ∨ s.runClashes r) then refuse s Status.busy
  else if s.runStarts r then accept (s.startRunT r) .test
  else if 16 ≤ s.thm.tests.length then refuse s Status.busy
  else accept { s with thm := { s.thm with tests := s.thm.tests ++ [r] } } .test

/-- Indices of a test (Table 16.1). -/
def testItems (kind : Nat) : Nat := nth [0, 12, 1, 7, 7, 1, 2] kind 0

/-- TST_RUN. -/
def actTstRun : Action := fun c s =>
  let at_ := c.u64 8
  let late := decide (c.u8 2 = 2) && decide (at_ ≤ s.ftNs)
  if testItems (c.u8 0) ≤ c.u8 1 ∨ 2 < c.u8 2 then refuse s Status.badArg
  else s.takeRun { retRun (c.u8 1) with kind := c.u8 0, when_ := c.u8 2, at_ := at_, cmd := some c, late := late }
def execTstRun (c : HostCmd) (s : State) : Host.Outcome State Fault Refusal := .next (runHost 0x0D00 actTstRun c s)

/-- Indices and codes of an interface (Table 16.2); a tile has no DisplayPort and CXL interface (R5). -/
def State.loopOk (s : State) (kind index code : Nat) : Bool :=
  decide (1 ≤ code) && decide (index < nth [4, 96, 4, 2] kind 0) && decide (code ≤ nth [3, 3, 2, 1] kind 0) && (decide (kind < 2) || s.isHead)

/-- TST_LOOP (R581). -/
def actTstLoop : Action := fun c s =>
  let kind := c.u8 0
  let at_ := c.u64 8
  let late := decide (c.u8 3 = 2) && decide (at_ ≤ s.ftNs)
  if !s.loopOk kind (c.u8 1) (c.u8 2) ∨ 2 < c.u8 3 ∨ c.u32 4 = 0 ∨ 60000 < c.u32 4 ∨ (kind = 1 ∧ c.u8 2 = 3 ∧ 15 < c.u8 16) then
    refuse s Status.badArg
  else if kind = 0 ∧ c.u8 2 = 3 ∧ !s.partnerAllows (c.u8 1) then refuse s Status.denied
  else s.takeRun { retRun (c.u8 1) with
    isLoop := true, kind := kind, code := c.u8 2, when_ := c.u8 3, at_ := at_, duration := c.u32 4, driver := c.u8 16, cmd := some c, late := late }
def execTstLoop (c : HostCmd) (s : State) : Host.Outcome State Fault Refusal := .next (runHost 0x0D01 actTstLoop c s)

/-- TEST_RUN_START (R576, R577): a queued run starts; no chunk starts at the latch point. -/
def execTestRunStart (s : State) : Host.Outcome State Fault Refusal := event State.nextTest s

/-! ### Chunks and records -/

/-- A result record (Table 16.3). -/
def TestRec.bytes (r : TestRec) : List Byte :=
  [byte r.kind, byte r.number, byte r.index, byte r.code, byte r.outcome, 0, 0, 0] ++ leBytes 8 r.start ++ leBytes 4 r.duration ++
    leBytes 4 r.errors ++ leBytes 4 r.detailA ++ leBytes 4 r.detailB

/-- A memory as MEM_MARCH leaves it: cleared; the coefficient store is to be reloaded from its flash copy (R580). -/
def State.clearMemory (s : State) (m : Nat) : State :=
  match m with
  | 0 => { s with col := { s.col with lamps := [] } }
  | 1 => s.clearCoef
  | 2 => { s with lay := { s.lay with graphic := [], graphicBad := [] } }
  | 3 => { s with lay := { s.lay with pstore := [], pBad := [] } }
  | 4 => { s with lay := { s.lay with lines := [] } }
  | 5 => s.forgetLamps (fun _ => true)
  | _ => s.traceClear

/-- What a finished test does (Table 16.1). -/
def State.testEffect (s : State) (r : Run) (fail : Bool) : State :=
  match r.kind with
  | 1 => if fail then s.failEngine r.index else s
  | 2 => { s with thm := { s.thm with noShow := fail } }
  | 3 => (s.w .tstMemBad 0 (setBit (s.r .tstMemBad) r.index fail)).clearMemory r.index
  | _ => s

/-- A run ends with an outcome: its record, the flags (R586), its effect, its response. -/
def State.endRun (s : State) (r : Run) (outcome : Nat) : State :=
  let s := { s with thm := { s.thm with testing := s.thm.testing.filter (fun x => !r.clash x) } }.stopRun r
  let expected := Config.lbistExpected r.kind r.index % 2 ^ 32
  let detailB := if !r.isLoop ∧ (r.kind = 1 ∨ r.kind = 2) then expected else r.detailB
  let rec_ : TestRec := ⟨b2n r.isLoop, r.kind, r.index, if r.isLoop then r.code else 0, outcome, r.start.getD 0, (s.clk - r.startClk) / 1000, r.errors,
    r.detailA, detailB⟩
  let s := { s with thm := { s.thm with results := (rec_ :: s.thm.results).take 16 } }
  let s := (s.raise .tstTestDone).raiseIf (outcome == 1) .tstTestFail
  let s := if r.isLoop ∨ outcome = 2 then s else s.testEffect r (outcome == 1)
  let st := if outcome = 2 then Status.aborted else if r.late then Status.late else Status.ok
  (s.finishRun .test r st rec_.bytes).nextTest

/-- A chunk of a run on the pixel core still waits or runs. -/
def State.chunkOpen (s : State) (r : Run) : Bool :=
  match s.serviceTask r with
  | some t => s.clv.list3.any (fun x => x.1 == t) || s.clv.engines.any (fun e => e.service == some t)
  | none => false

/-- The run of a kind and index is in progress, its chunk made. -/
def State.chunkRun (s : State) (isLoop : Bool) (kind index : Nat) : Option Run :=
  s.thm.testing.find? (fun r => r.isLoop == isLoop && r.kind == kind && r.index == index && !s.chunkOpen r)

/-- The chunk just ended added to a run: LBIST compares its signature, a memory test counts uncorrectable words, a loop reports its sums. -/
def Run.add (r : Run) (c : Chunk) : Run :=
  if !r.isLoop ∧ (r.kind = 1 ∨ r.kind = 2) then
    { r with chunks := r.chunks + 1, detailA := c.detailA % 2 ^ 32,
             errors := b2n (c.detailA % 2 ^ 32 != Config.lbistExpected r.kind r.index % 2 ^ 32) }
  else if r.isLoop then { r with chunks := r.chunks + 1, errors := c.errors, detailA := c.detailA, detailB := c.detailB }
  else
    let n := if r.kind = 3 ∨ r.kind = 4 then c.words.length else c.errors
    { r with chunks := r.chunks + 1, errors := r.errors + n, detailA := r.detailA + c.detailA, detailB := if r.errors = 0 then c.detailB else r.detailB }

/-- That was a run's last chunk: the last of a test (Table 16.1), or the time of a loop is up. -/
def State.runEnded (s : State) (r : Run) : Bool :=
  if r.isLoop then decide (r.startClk + 1000000 * r.duration ≤ s.clk) else decide (testChunks r.kind r.index ≤ r.chunks)

/-- A run in progress as it now stands. -/
def State.setRun (s : State) (r r' : Run) : State :=
  { s with thm := { s.thm with testing := s.thm.testing.map (fun x => if x = r then r' else x) } }

/-- The ECC events of a chunk of MEM_READ (Table 16.1). -/
def State.readErrors (s : State) (index : Nat) (c : Chunk) : State :=
  let m := testMemory index
  ({ s with col := { s.col with corrected := bump s.col.corrected m c.detailA } } : State).memDouble m c.words

/-- TEST_CHUNK_DONE (R576, R577, R586): an abort takes effect here, but not after the last chunk (Table 16.4); a loop ends when its time is up. -/
def doTestChunkDone (isLoop : Bool) (kind index : Nat) (c : Chunk) (s : State) : State :=
  match s.chunkRun isLoop kind index with
  | none => s
  | some r =>
    let r' := r.add c
    let s := s.setRun r r'
    let s := if !r.isLoop ∧ r.kind = 4 then s.readErrors index c else s
    if s.runEnded r' then s.endRun r' (b2n (r'.errors != 0))
    else if r.aborting then s.endRun r' 2
    else if r.isLoop ∧ r.kind = 1 ∧ r.code = 3 then s.echoOn r'
    else s.readyChunk r'
def execTestChunkDone (isLoop : Bool) (item : TestItem) (c : Chunk) (s : State) : Host.Outcome State Fault Refusal :=
  event (doTestChunkDone isLoop item.kind item.index c) s

/-- The last chunk of a run ends in this cycle (Table 16.4). -/
def State.runEnds (s : State) (r : Run) : Bool :=
  s.sameCycle.any (fun i => match i with
    | .testChunkDone l x c => s.chunkRun l x.kind x.index == some r && s.runEnded (r.add c)
    | _ => false)

/-- The node with the chunks of this cycle at their end: a test that ends as PWR_SET to Show falls due ends first (Table 16.4). -/
def State.afterChunks (s : State) : State :=
  s.sameCycle.foldl (fun s i => match i with
    | .testChunkDone l x c => doTestChunkDone l x.kind x.index c s
    | _ => s) s

/-- TST_RESULT: an entry that no run has written reads 0. -/
def actTstResult : Action := fun c s =>
  if 15 < c.u8 0 then refuse s Status.badArg
  else done s (match s.thm.results[c.u8 0]? with | some r => r.bytes | none => List.replicate 32 0)
def execTstResult (c : HostCmd) (s : State) : Host.Outcome State Fault Refusal := .next (runHost 0x0D02 actTstResult c s)

/-- BAR0 offsets of a field's words. -/
def FDesc.offsets (d : FDesc) : List Nat :=
  (List.range (max 1 d.cnt)).flatMap (fun o => (List.range (max 1 d.inner)).map (fun i => d.base + o * d.stride + i * d.istride))

/-- Offsets of every register that the tables mark as wrapping, ascending (R587). -/
def counterOffsets : List Nat := ((FName.all.filter (fun f => f.desc.wraps)).flatMap (fun f => f.desc.offsets)).eraseDups.mergeSort

/-- TST_COUNTERS: as many pairs as fit. -/
def actTstCounters : Action := fun c s =>
  if !s.hostOk (c.u64 0) then refuse s Status.badArg
  else
    let l := counterOffsets.take (c.u32 8 / 8)
    let s' := s.hostWrite c (c.u64 0) (l.flatMap (fun o => leBytes 4 o ++ leBytes 4 (s.bar0 o)))
    done s' (leBytes 4 l.length ++ leBytes 8 s.ftNs)
def execTstCounters (c : HostCmd) (s : State) : Host.Outcome State Fault Refusal := .next (runHost 0x0D03 actTstCounters c s)

/-- FROST_EXPECT (R588). -/
def actFrostExpect : Action := fun c s =>
  if 7 < c.u8 0 then refuse s Status.badArg
  else done ((s.w .tstExpect (c.u8 0) (c.u32 4)).w .tstCheckOn (c.u8 0) (HostCmdFlag c 1))
def execFrostExpect (c : HostCmd) (s : State) : Host.Outcome State Fault Refusal := .next (runHost 0x0D04 actFrostExpect c s)

/-! ### Boundary scan and the debug port -/

/-- JTAG_INSTRUCTION (R589, R590): EXTEST, CLAMP and HIGHZ hold every block but the AON domain and JTAG; leaving them is a debug reset. IDCODE reads
the part's identity. -/
def doJtagInstruction (i : Jtag) (s : State) : State :=
  if s.boot.supply ≠ .on then s
  else
    let was := s.on .tstBscan
    let holds : Bool := match i with | .extest | .clamp | .highz => true | _ => false
    let s := { s with thm := { s.thm with jtag := i } }
    let s := if i = .idcode then s.emit (.readData (leBytes 4 (2 ^ 28 + 0x0D96 * 2 ^ 12 + Config.manufacturer % 2 ^ 11 * 2 + 1))) else s
    if holds then (if was then s else (s.emit .laneIdle).w .tstBscan 0 1)
    else if was then
      let s := s.w .tstBscan 0 0
      if s.boot.halted then s else s.resetNode 0x40 false
    else s
def execJtagInstruction (i : Jtag) (s : State) : Host.Outcome State Fault Refusal := always (doJtagInstruction i) s

/-- DEBUG_RESPONSE (R591, R592, Table 16.4): the challenge is the unit ID and a fresh nonce; a reset in the same cycle leaves the port locked. -/
def doDebugResponse (sig : List Byte) (resetToo : Bool) (s : State) : State :=
  if Config.debugFused ∨ s.on .tstDebugRefusing then s
  else
    let d : Nat × State := s.draw 128
    let s : State := { d.2 with thm := { d.2.thm with challenges := d.2.thm.challenges + 1 } }
    if Config.debugSignatureOk (Config.sha384 (leBytes 16 Config.unitId ++ leBytes 16 d.1)) sig then
      if resetToo ∨ s.sameCycle.any s.resetBy ∨ s.boot.resetAt = some s.clk then s else (s.w .tstDebugUnlocked 0 1).event 15
    else
      let s := { s with thm := { s.thm with wrong := s.thm.wrong + 1 } }
      if 4 ≤ s.thm.wrong then s.w .tstDebugRefusing 0 1 else s
def execDebugResponse (sig : List Byte) (resetToo : Bool) (s : State) : Host.Outcome State Fault Refusal :=
  event (doDebugResponse sig resetToo) s

end Sys2Proof.Machine
end

