-- ==== Sys2Proof/Machine/Bus.lean ====
section
/-! DEFINITION. The register space as the host and REG_READ and REG_WRITE reach it: reads that latch (R49) or return the RETRY word
(R494), and writes by access code (R11 to R14), with what each register does when it is written. -/

namespace Sys2Proof.Machine

/-! ### Reads -/

/-- Offset of the low word of a 64-bit entry (Table 2.8). -/
def isLowWord (off : Nat) : Bool := (fieldsAt off).any (fun p => !p.2.2 && decide (32 ≤ p.1.desc.hi))

/-- A word of BAR0 as it is read: FT_NOW is read whole (R49), a low word latches its high word, a held block returns the RETRY word
(R494), and a valid lamp event is removed (R309). -/
def State.readWord (s : State) (off : Nat) : Nat × State :=
  if off = 0x400 then (s.ftNs % 2 ^ 32, { s with mbx := { s.mbx with ftLatch := s.time.ft } })
  else if off = 0x404 then (s.mbx.ftLatch / 2 ^ 64 % 2 ^ 32, s)
  else if off = 0x408 then (s.mbx.ftLatch / 2 ^ 16 % 2 ^ 16 * 2 ^ 16, s)
  else if (match blockAt off with | some b => s.held b | none => false) then (0xFFFFFFFE, s.raise .rstRetry)
  else if off = 0x2B20 then (s.bar0 off, { s with lan := { s.lan with events := s.lan.events.drop 1 } })
  else if isLowWord off then (s.bar0 off, { s with mbx := { s.mbx with latched := assocPut s.mbx.latched off (s.bar0 (off + 4)) } })
  else
    match (if 4 ≤ off then assoc s.mbx.latched (off - 4) else none) with
    | some v => (v, s)
    | none => (s.bar0 off, s)

/-- `n` words read in ascending order. -/
def State.readWords (s : State) (off : Nat) : (n : Nat) → List Byte × State
  | 0 => ([], s)
  | n + 1 =>
    let r := s.readWord off
    let t := r.2.readWords (off + 4) n
    (leBytes 4 r.1 ++ t.1, t.2)

/-- LOW_WORD_READ: a host's read of the low word of a 64-bit entry. -/
def doLowWordRead (off : Nat) (s : State) : State :=
  if !s.pcieUp ∨ !isLowWord off then s
  else
    let r := s.readWord off
    r.2.emit (.readData (leBytes 4 r.1))
def execLowWordRead (off : Nat) (s : State) : Host.Outcome State Fault Refusal := event (doLowWordRead off) s

/-! ### Writes -/

/-- Where a word holds a field: the first bit in the word, the first bit of the field, and how many bits. -/
def FDesc.part (d : FDesc) (high : Bool) : Nat × Nat × Nat :=
  if high then (0, 32 - d.lo, d.hi + 1 - 32) else (d.lo, 0, min 32 (d.hi + 1) - d.lo)

/-- A field's value with the masked bits of a word put into it. -/
def FDesc.merge (d : FDesc) (high : Bool) (old mask value : Nat) : Nat :=
  let (wb, fb, n) := d.part high
  let m := bits mask (wb + n - 1) wb * 2 ^ fb
  let v := bits value (wb + n - 1) wb * 2 ^ fb
  old - (old &&& m) + (v &&& m)

/-- The mask reaches the field. -/
def FDesc.reached (d : FDesc) (high : Bool) (mask : Nat) : Bool :=
  let (wb, _, n) := d.part high
  bits mask (wb + n - 1) wb != 0

/-- An RW field stores a value, and the node does what that value asks for. -/
def State.store (s : State) (fromPcie : Bool) (f : FName) (i v : Nat) : State :=
  match stored s f i v with
  | none => s
  | some x =>
    match f with
    | .ingFraddr => s.stageAddr i x
    | .clvTraceOn => s.setTrace x (s.r .clvSizeKib)
    | .clvSizeKib => s.setTrace (s.r .clvTraceOn) x
    | .pseInService => s.setService x
    | .scnGclkTrim => s.setTrim i x
    | .genEnable => s.setGenlockIn i x (s.r .genFalling i) (s.r .genFilter i)
    | .llCurmap => (s.w f i x).sendCurmap
    | .llOpenTh | .llShortTh => { s.w f i x with lan := { s.lan with cfgDue := true } }
    | .dgnDiagOn => (List.range 12).foldl (fun (s : State) (g : Nat) => s.pump g) (s.w f i x)
    | .fabEnable => (s.w f i x).followEnable i
    | .netMember => if x = s.r f i then s else (s.w f i x).linkEvent 0 2
    | .mbxCqHead => doCqHeadWrite x s
    | .rstBlock => (s.writeBlocks fromPcie 0x3FFF x).2
    | .thmLevelEnable => s.setLevel i (some x) none
    | .thmLevelSet => s.setLevel i none (some x)
    | .thmNeigh => (s.w f i x).substituteZones
    | _ => s.w f i x

/-- A WO field acts once for a write. -/
def State.trigger (s : State) (f : FName) (i v key : Nat) : State :=
  match f with
  | .fabRestart => if v = 1 then s.restartPort i else s
  | .mbxDoorbell => doMbxDoorbell v s
  | .rstNode => if v = 1 ∧ key % 65536 = 0xD96A then s.resetNode 0x10 false else s
  | .rstWarm => if v = 1 ∧ key % 65536 = 0xD96A then s.resetNode 0x20 true else s
  | _ => s

/-- Ones written to a flag field clear its bits (Table 0.5), but for those that the node has set in the same TB cycle (R12). -/
def State.clear1 (s : State) (f : FName) (i ones : Nat) : State :=
  let kept := sget 0 s.hot (f.key i)
  s.w f i (s.r f i - (s.r f i &&& (ones - (ones &&& kept))))

/-- The masked bits of a word written into one field (Table 0.5): RW1C clears, RWS is staged for the session, RO keeps. -/
def State.writeField (s : State) (session : Nat) (fromPcie locked : Bool) (p : FName × Nat × Bool) (mask value : Nat) : State :=
  let (f, i, high) := p
  let d := f.desc
  if !d.reached high mask then s
  else
    match d.acc with
    | .ro => s
    | .rw1c => s.clear1 f i (d.merge high 0 mask value)
    | .aon => s.w f i (d.merge high (s.r f i) mask value)
    | .rws =>
      -- the P block takes no write but P_SET's (R616)
      if f ∈ protectFields then s
      else if locked then s.raise .mbxBarLocked
      else
        match stored s f i (d.merge high (s.seen f i) mask value) with
        | some x => s.stage session f i x
        | none => s
    | .rw => if locked then s.raise .mbxBarLocked else s.store fromPcie f i (d.merge high (s.r f i) mask value)
    | .wo => if locked then s.raise .mbxBarLocked else s.trigger f i (d.merge high 0 mask value) (value &&& mask)

/-- A write of the write-back word whose scale and divider would make the image too large (R173). -/
def State.imageBreaks (s : State) (off mask value : Nat) : Bool :=
  let new (f : FName) : Nat := f.desc.merge false (s.r f) mask value
  off == 0x1340 && !imageFits (fun f i => s.r f i) (new .layWbScale) (max 1 (new .layWbDiv))

/-- A word written: every field with bits under the mask. A held block ignores it and sets rst_retry (R494); so is a setting of
write-back that R173 does not allow (log entry 80). -/
def State.writeWord (s : State) (session : Nat) (fromPcie locked : Bool) (off mask value : Nat) : State :=
  if (match blockAt off with | some b => s.held b | none => false) then s.raise .rstRetry
  else if s.imageBreaks off mask value then s
  else (fieldsAt off).foldl (fun s p => s.writeField session fromPcie locked p mask value) s

/-- A session holds the area of a BAR0 offset (R465). -/
def State.lockedAt (s : State) (off : Nat) : Bool := match areaAt off with
  | some a => (s.holderOf a).isSome
  | none => false

/-- A mailbox slot's byte may be written: the command half of a busy slot may not (R453), and nothing but the node writes responses. -/
def State.slotOpen (s : State) (a : Nat) : Bool := !(bit (s.r .mbxBusy) (a / 128) && decide (a % 128 < 64))

/-- A 32-bit write of the host: a register word, a mailbox slot, or the MSI-X structures (Table 12.16). -/
def State.hostWord (s : State) (off value : Nat) : State :=
  if off < 0x8000 then s.writeWord 0 true (s.lockedAt off) off 0xFFFFFFFF value
  else if off < 0x9000 then
    if s.slotOpen (off - 0x8000) then { s with mbx := { s.mbx with slots := mwrite 0 s.mbx.slots (off - 0x8000) (leBytes 4 value) } } else s
  else if 0xE000 ≤ off ∧ off < 0xE900 then
    { s with mbx := { s.mbx with slots := mwrite 0 s.mbx.slots (off - 0x8000) (leBytes 4 value) } }
  else s

/-- BAR0_WRITE (R11, R465, R487, R494): one aligned 32-bit write, or two for 64 bits; a narrower one is ignored and sets bar_narrow. -/
def doBar0Write (off size value : Nat) (s : State) : State :=
  if !s.pcieUp then s
  else if size < 4 then s.raise .mbxBarNarrow
  else if off % 4 ≠ 0 then s
  else if size = 8 then (s.hostWord off (value % 2 ^ 32)).hostWord (off + 4) (value / 2 ^ 32 % 2 ^ 32)
  else s.hostWord off (value % 2 ^ 32)
def execBar0Write (off size value : Nat) (s : State) : Host.Outcome State Fault Refusal := event (doBar0Write off size value) s

/-- FRADDR_WRITE (R104 to R106): the address of a stream staged; earlier BAR4 writes have taken effect, since commands are carried
out in order. -/
def doFraddrWrite (stream value : Nat) (s : State) : State :=
  if !s.pcieUp ∨ 15 < stream then s
  else if s.held 0 then s.raise .rstRetry
  else if s.lockedAt 0x808 then s.raise .mbxBarLocked
  else s.store true .ingFraddr stream (value % 2 ^ 41)
def execFraddrWrite (stream value : Nat) (s : State) : Host.Outcome State Fault Refusal := event (doFraddrWrite stream value) s

/-- TRACE_CTRL_WRITE (R209, Table 5.8): a write of the trace control words. -/
def doTraceCtrlWrite (off value : Nat) (s : State) : State :=
  if !s.pcieUp ∨ (off ≠ 0x1440 ∧ off ≠ 0x1444) then s
  else s.writeWord 0 true (s.lockedAt off) off 0xFFFFFFFF (value % 2 ^ 32)
def execTraceCtrlWrite (off value : Nat) (s : State) : Host.Outcome State Fault Refusal := event (doTraceCtrlWrite off value) s

/-! ### The register commands (Table 12.14) -/

/-- REG_READ. -/
def actRegRead : Action := fun c s =>
  let off := c.u32 0
  let n := c.u8 4
  if off % 4 ≠ 0 ∨ n < 1 ∨ 8 < n ∨ 0x8000 < off + 4 * n then refuse s Status.badArg
  else
    let r := s.readWords off n
    done r.2 r.1
def execRegRead (c : HostCmd) (s : State) : Host.Outcome State Fault Refusal := .next (runHost 0x0003 actRegRead c s)

/-- REG_WRITE: the masked bits, with the value read back; RWS fields are staged for the command's session (R468). -/
def actRegWrite : Action := fun c s =>
  let off := c.u32 0
  if off % 4 ≠ 0 ∨ 0x7FFF < off ∨ s.imageBreaks off (c.u32 4) (c.u32 8) then refuse s Status.badArg
  else
    let v := c.u32 4 &&& c.u32 8
    let resets : Bool := off == 0x104 && v % 65536 == 0xD96A && (bit v 31 || bit v 30)
    let s := s.writeWord c.session (c.req == .pcie) false off (c.u32 4) (c.u32 8)
    -- a reset ends the command with no response
    if resets then ⟨s, Status.ok, [], none, true, none⟩ else done s (leBytes 4 (s.bar0 off))
def execRegWrite (c : HostCmd) (s : State) : Host.Outcome State Fault Refusal := .next (runHost 0x0004 actRegWrite c s)

end Sys2Proof.Machine
end

