-- ==== Sys2Proof/Machine/Frame.lean ====
section
/-! DEFINITION. The latch point and the frame boundary: readiness of the video layers (R149 to R155, R165, R166, R428, R429),
what a frame's sets put into effect and when (Table 4.5a), the exchange of the slots (R21, R22), Frost (R178, R179, R588), zone
factors (R227), the changes of power state that happen at a boundary (R34, R36, R258, R516), and the opening of the next frame. -/

namespace Sys2Proof.Machine

/-- The node composes: it is in Standby or Show and its compositor block runs. -/
def State.composes (s : State) : Bool := decide (3 ≤ s.r .sysPstate) && !s.held 8

/-! ### Readiness at the latch point -/

/-- The markers of a stream held for the frame being received. -/
def State.markersOf (s : State) (stream : Nat) : List Marker := s.lay.markers.filter (fun m => m.stream == stream)

/-- Two markers of a stream disagree (R429; a size or format that differs falls under it too, R165). -/
def Marker.differs (a b : Marker) : Bool :=
  a.stamp != b.stamp || a.seq != b.seq || a.width != b.width || a.height != b.height || a.format != b.format

def State.mismatch (s : State) (stream : Nat) : Bool :=
  (s.markersOf stream).any (fun a => (s.markersOf stream).any a.differs)

/-- Packets received for the frame from a head for a stream (R428). -/
def State.countOf (s : State) (stream src : Nat) : Nat :=
  ((s.lay.counts.find? (fun x => x.stream == stream && x.src == src)).map (·.count)).getD 0

/-- A marker reports the size and format in effect for a layer. -/
def State.fits (s : State) (v : View) (n : Nat) (m : Marker) : Bool :=
  (m.width, m.height) == s.sourceSize v n && m.format == s.layerFmt v n

/-- The markers of a layer's stream that meet R149, each against the packets of its own head. -/
def State.goodMarkers (s : State) (v : View) (n : Nat) : List Marker :=
  if s.decim n = 0 ∨ s.mismatch (v .layVStream n) then []
  else (s.markersOf (v .layVStream n)).filter (fun m => s.fits v n m && m.packets == s.countOf m.stream m.src)

/-- A video layer takes part in a feed. -/
def videoOn (v : View) (n k : Nat) : Bool := v .layVEnable n == 1 && bit (v .layVFeedMask n) k

/-- A video layer is ready in a feed (R149). -/
def State.readyIn (s : State) (v : View) (n k : Nat) : Bool :=
  videoOn v n k && (s.goodMarkers v n).any (fun m => bit m.feeds k)

/-- A layer that is not ready holds its feed (R153, R155): policy HOLD, and fewer than hold_max frames so far. -/
def State.holds (s : State) (v : View) (n k : Nat) : Bool :=
  videoOn v n k && !s.readyIn v n k && v .layVPolicy n == 1 && decide (s.lay.holdCount.getD (8 * n + k) 0 < v .layVHoldMax n)

/-- The mask of the video layers that a test selects. -/
def videoMask (p : Nat → Bool) : Nat := ((List.range 4).map (fun n => if p n then 2 ^ n else 0)).sum

/-- The count that stands for a layer treated as BLANK in a feed until it is ready there (R155): above every hold_max. -/
abbrev exhausted : Nat := 256

/-- The count of not-ready frames under HOLD after this frame; once it has reached hold_max the layer is exhausted, and only being
ready in the feed ends that (R155). -/
def State.nextHold (s : State) (v : View) (i : Nat) : Nat :=
  let n := i / 8
  let c := s.lay.holdCount.getD i 0
  let limit := v .layVHoldMax n
  if s.readyIn v n (i % 8) then 0
  else if c = exhausted then exhausted
  else if videoOn v n (i % 8) ∧ v .layVPolicy n = 1 ∧ 0 < limit then (if limit ≤ c + 1 then exhausted else c + 1)
  else 0

/-- The input signature of a layer in a feed (R177): its stored footprint lines, pixels packed as they came, each seeded with its
line number (log entry 59). -/
def State.inputSignature (s : State) (v : View) (n k : Nat) : Nat :=
  match s.layerFoot v n with
  | some f =>
    let bpp := (bppOf (s.layerFmt v n)).getD 0
    let (a, b) := keptCols f (s.layerFmt v n)
    let lines := ((List.range f.h).map (f.y + ·)).filter (storedLine f (s.decim n))
    lines.foldl (fun x line =>
      let packed := (List.range (b - a)).foldl (fun w i =>
        w + (s.pixelAt (v .layVStream n) k line (a + i)).getD 0 * 2 ^ (bpp * i)) 0
      x ^^^ crc32cFrom line (leBytes ((bpp * (b - a) + 7) / 8) packed)) 0
  | none => 0

/-- Readiness fixed for the frame, per feed and layer (R152 to R155), with what a differing marker reports for the next frame
(R165) and copy_mismatch (R429). -/
def State.fixReady (s : State) (v : View) : State :=
  let feeds := List.range 8
  let ready := feeds.map (fun k => videoMask (fun n => s.readyIn v n k))
  let out := feeds.map (fun k => videoMask (fun n => videoOn v n k && !s.readyIn v n k && !s.holds v n k))
  let held := (feeds.map (fun k => if (List.range 4).any (fun n => s.holds v n k) then 2 ^ k else 0)).sum
  let counts := (List.range 32).map (s.nextHold v)
  let reported (n : Nat) : Option (Nat × Nat) :=
    if v .layVEnable n = 1 ∧ !s.mismatch (v .layVStream n) then
      ((s.markersOf (v .layVStream n)).find? (fun m => !s.fits v n m)).map (fun m => (m.width, m.height))
    else none
  let feedOf (n : Nat) : Option Nat := feeds.find? (fun k => bit (ready.getD k 0) n)
  let inputs := (List.range 4).map (fun n => match feedOf n with
    | some k => s.inputSignature v n k
    | none => s.lay.inputNow.getD n 0)
  let fresh := videoMask (fun n => (feedOf n).isSome && (s.goodMarkers v n).any (fun m => !m.rep) &&
    inputs.getD n 0 != s.lay.inputNow.getD n 0)
  let twice := (List.range 4).any (fun n => v .layVEnable n == 1 && s.mismatch (v .layVStream n))
  let s := { s with lay := { s.lay with
    ready := ready
    leftOut := out
    heldFeeds := held
    holdCount := counts
    nextSizes := (List.range 4).map reported
    inputPrev := s.lay.inputNow
    inputNow := inputs
    fresh := fresh } }
  let s := (List.range 4).foldl (fun s n => s.w .layVReady n (b2n (feedOf n).isSome)) s
  s.raiseIf twice .redCopyMismatch

/-- LATCH_POINT (R23, R131 to R135, R148 to R155, R197): the sets of the frame apply, readiness is fixed, new drive settings are
sent (R292), and what is left of the frame becomes Clover's plan. -/
def doLatchPoint (s : State) : State :=
  let f := s.lay.receiving
  let t := s.latch f
  if f = 0 ∨ s.frame? ≠ some (f - 1) ∨ s.ftNs < t ∨ s.lay.latched = f + 1 then s
  else
    let before := s.now
    let s := s.applySets f
    let v := s.now
    let s := ((List.range 4).filter (bit s.lay.undegrade)).foldl (fun s n => s.w .layVScaleDegraded n 0) s
    let drive := v .scnSegLog2 0 ≠ before .scnSegLog2 0 ∨ blankOf v ≠ blankOf before ∨ v .llCurrent 0 ≠ before .llCurrent 0
    let s := if drive then s.stageNew else s
    let s : State := { s with lay := { s.lay with
      latched := f + 1, undegrade := 0, markers := s.lay.markers.filter (fun m => decide (m.arrived < t)) } }
    let s : State := s.fixReady v
    let s := if s.lay.pWriting = [] then s else { s with clv := { s.clv with waitP := true } }
    if s.composes then s.latchClover else s
def execLatchPoint (s : State) : Host.Outcome State Fault Refusal := event doLatchPoint s

/-! ### The exchange and Frost -/

/-- The feed is held in frame `f`. -/
def State.heldIn (s : State) (f k : Nat) : Bool := s.lay.latched == f + 1 && bit s.lay.heldFeeds k

/-- Feed `k` at B(f): exchanged where its back slot holds the whole frame (R21); held by policy (R153); else shown again, with
compose_miss in Show (R22). -/
def State.exchange (s : State) (v : View) (f k : Nat) : State :=
  if s.heldIn f k then
    ((List.range 4).filter (fun n => videoOn v n k && !bit (s.lay.ready.getD k 0) n && !bit (s.lay.leftOut.getD k 0) n)).foldl
      (fun s n => s.raise .layVHeld n) s
  else if s.feedDone k then s.w .scnFront 0 (setBit (s.r .scnFront) k (!bit (s.r .scnFront) k))
  else if s.inShow then s.raiseBit .scnComposeMiss 0 k
  else s

/-- A counted frame of feed `k` (R178): a run of equal signatures over changing input freezes it, a changed one clears it. -/
def State.countFrost (s : State) (k : Nat) : State :=
  let now := s.lay.frostNow.getD k 0
  let same := now == s.lay.frostPrev.getD k 0
  let used := (s.clv.slices.filter (fun x => x.feed == k)).foldl (fun m x => m ||| x.used) 0
  let live := (used &&& s.lay.fresh &&& s.lay.ready.getD k 0) != 0
  let run := if same && live && s.on .layFrostOn then s.lay.frostRun.getD k 0 + 1 else 0
  let s := { s with lay := { s.lay with
    frostPrev := updAt s.lay.frostPrev k (fun _ => now)
    frostCounted := updAt s.lay.frostCounted k (· + 1)
    frostRun := updAt s.lay.frostRun k (fun _ => run) } }
  let s := if same then s else s.w .layFrozen 0 (setBit (s.r .layFrozen) k false)
  if s.r .layFrostFrames ≤ run ∧ 0 < run then s.raiseBit .layFrozen 0 k else s

/-- The comparison of FROST_EXPECT (R588). -/
def State.checkFrost (s : State) (k : Nat) : State :=
  if s.on .tstCheckOn k ∧ s.lay.frostNow.getD k 0 ≠ s.r .tstExpect k then (s.count .tstMismatches k).raise .tstFrostMismatch else s

/-- The report of a feed and frame (R179); suspended at THROTTLE (Table 14.3). -/
def State.reportFrost (s : State) (target k : Nat) (held missed : Bool) : State :=
  if !s.on .layFrostReport ∨ 3 ≤ s.r .thmNodeLevel ∨ s.controlHead = 0 then s
  else
    s.sendTo 0x31 s.controlHead (leBytes 4 (shortStamp target) ++
      [byte k, byte (b2n held + 2 * b2n missed + 4 * b2n (bit (s.r .layFrozen) k))] ++ leBytes 2 (s.readyMask k) ++
      leBytes 4 (s.lay.frostNow.getD k 0) ++ leBytes 2 (s.lay.frostUnder.getD k 0) ++ [0, 0])

/-- Exchange, count, comparison and report of one feed. -/
def State.endFeed (s : State) (v : View) (f target k : Nat) : State :=
  let held := s.heldIn f k
  let whole := !held && s.feedDone k
  let missed := !held && !whole && s.inShow
  let s := s.exchange v f k
  let s := { s with lay := { s.lay with
    frostReady := updAt s.lay.frostReady k (fun _ => s.lay.ready.getD k 0), frostTarget := shortStamp target } }
  let s := if whole then (s.countFrost k).checkFrost k else s
  s.reportFrost target k held missed

/-! ### What takes effect at a boundary -/

/-- Scan-out, timing and current fields of applied sets (R65, R66, R257): a new period is anchored at this boundary unless the set gives
the anchor; ff sets its own blank, offsets and pitches (R259, R615). -/
def State.applyDue (s : State) (f target : Nat) : State :=
  if s.lay.due = [] then s
  else
    let due := s.lay.due
    let moved (l : List FName) : Bool := due.any (fun e => match fieldOf e.1 with
      | some (g, i) => g ∈ l && s.r g i != e.2
      | none => false)
    let period := moved [.ftPeriodNum, .ftPeriodDen]
    let anchor := moved [.ftAnchorFt, .ftAnchorFrame]
    let layout := moved layoutFields
    let s := due.foldl (fun (s : State) (e : Nat × Nat) => s.wKey e.1 e.2) { s with lay := { s.lay with due := [] } }
    let s := if period && !anchor then (s.nodeSet .ftAnchorFt 0 target).nodeSet .ftAnchorFrame 0 f else s
    let v : View := fun g i => s.r g i
    let s := if ffOn v then
        (feedsOn v).foldl (fun s k => (s.nodeSet .scnFeedOffset k (offsetOf v k)).nodeSet .scnFeedPitch k (feedPitch v k))
          (s.nodeSet .scnBlank 0 (blankOf v))
      else s
    let s := if layout then s.judgeMap else s
    s.followLanes

/-- Show left at this boundary (R36, R258): the cause lies at least 256 GCLK cycles before it. -/
def State.leaveShowAt (s : State) (f target : Nat) : State :=
  if s.inShow ∧ s.boot.leaveShow ∧ s.boot.leaveSince + 1024 * (s.r .scnGdivM1 + 1) ≤ target then
    let s := (s.cutScan f).raiseIf s.time.returnShow .ftTimeLost
    s.leaveFor
  else s

/-- Show entered at this boundary (R34, R35, R515, R516, R76): by a waiting PWR_SET, which ends with BUSY where the conditions fail. The increment
is cut to the limits of Show (R47). -/
def State.enterShowAt (s : State) (f : Nat) : State :=
  let isDue (w : Waits) : Bool := match w with | .show_ g => decide (g ≤ f) | _ => false
  let asked := s.mbx.deferred.any (fun d => isDue d.waits)
  let own := (match s.boot.enterShow with | some g => decide (g ≤ f) | none => false) && (s.time.returnShow || s.autoShows)
  if !asked && !own then s
  else if s.afterChunks.showNow && s.frame?.isSome && !s.shutdownComes then
    let s := s.enterState 4
    let s := s.setIncr s.incr
    let s := { s with
      scn := { s.scn with trims := (List.range 12).map (fun g => s.r .scnGclkTrim g), lastProbeOk := s.clk, lastStart := none }
      time := { s.time with returnShow := false } }
    s.completeAll isDue Status.ok
  else ({ s with boot := { s.boot with enterShow := none } }).completeAll isDue Status.busy

/-- Zone temperatures held for the next frame, and the factors moved toward their targets by at most dslew (R227, R529). While
the block bit of the thermal units is held, the factors are (Table 13.4, R623). -/
def State.slewZones (s : State) : State :=
  if s.held 11 then s else
  let s := { s with col := { s.col with temps := (List.range 96).map (fun z => s.r .thmZoneTemp z) } }
  let d := s.r .colDslew
  (List.range 96).foldl (fun (s : State) (z : Nat) =>
    (List.range 4).foldl (fun (s : State) (e : Nat) =>
      let goal := s.zoneGoal (fun g i => s.r g i) (toInt 16 (s.col.temps.getD z 0)) e
      let zf := s.r (zoneField e) z
      s.w (zoneField e) z (if zf ≤ goal then min goal (zf + d) else max goal (zf - d))) s) s

/-- Write-back of the next frame (R172): the feed is taken once every wb_div frames, wb_on as of this boundary. -/
def State.nextWb (s : State) : State :=
  let on := s.on .layWbOn
  { s with lay := { s.lay with
    wbActive := on && s.lay.wbCount == 0
    wbCount := if on then (s.lay.wbCount + 1) % max 1 (s.r .layWbDiv) else 0 } }

/-- Route entries that waited for this boundary (R390). -/
def State.routesAt (s : State) (f : Nat) : State :=
  match s.net.dueRoutes with
  | some (fa, m) => if fa ≤ f then s.useMulticast m else s
  | none => s

/-! ### The next frame opens -/

/-- The smallest decimation that fits a layer's units, 0 where none up to 8 does (R165, R166). -/
def State.newDecim (s : State) (v : View) (n : Nat) : Nat :=
  let (w, h) := s.sourceSize v n
  (((List.range 8).map (· + 1)).find? (fun d => decide (needOf v n w h (s.layerFmt v n) d ≤ s.r .layVUnits n))).getD 0

/-- Source sizes, formats and decimation of frame `g`, whose packets now arrive (R165, R166); the receive state is cleared. -/
def State.openReceive (s : State) (g : Nat) : State :=
  let cur : View := fun f i => s.r f i
  let v := s.ahead g
  let given (n : Nat) : Bool := (s.setsFor g).any (fun c => anyField c.fields (fun f i => i == n && (f == .layVFullW || f == .layVFullH)))
  let resized (n : Nat) : Bool := v .layVFullW n != cur .layVFullW n || v .layVFullH n != cur .layVFullH n
  let was (n : Nat) : Option (Nat × Nat) := match s.lay.nextSizes.getD n none with
    | some x => some x
    | none => s.lay.sizes.getD n none
  let touched (n : Nat) : Bool := (s.setsFor g).any (fun c => anyField (keepFields c.reject c.fields) (fun f i =>
    (i == n && f ∈ footFields) || f ∈ windowFields))
  let matches_ (n : Nat) : Bool := given n && (was n).getD (cur .layVFullW n, cur .layVFullH n) == (v .layVFullW n, v .layVFullH n)
  let sizes := (List.range 4).map (fun n => if resized n then none else was n)
  let format (i : Nat) : Nat := match s.markersOf i with
    | m :: _ => if s.mismatch i then s.lay.fmtHeld.getD i 3 else m.format
    | [] => s.lay.fmtHeld.getD i 3
  let formats := (List.range 16).map format
  let s := { s with lay := { s.lay with
    sizes := sizes
    nextSizes := List.replicate 4 none
    fmtHeld := formats
    markers := []
    counts := []
    lines := []
    ready := List.replicate 8 0
    leftOut := List.replicate 8 0
    heldFeeds := 0
    frostUnder := List.replicate 8 0
    receiving := g } }
  let s := (List.range 4).foldl (fun s n =>
    -- a layer that no decimation fitted stays so until a commit that fits applies (R166)
    let d := if v .layVEnable n ≠ 1 then 1 else if s.decim n = 0 ∧ !touched n then 0 else s.newDecim v n
    let s := s.w .layVDecim n d
    if d = 1 then s else s.w .layVScaleDegraded n 1) s
  { s with lay := { s.lay with undegrade := videoMask (fun n => matches_ n && s.decim n == 1) } }

/-- Lane-layout fields of the sets of frame `g` clear every slot before a task of it is dispatched (R247). -/
def State.layoutChanges (s : State) (g : Nat) : Bool :=
  let v := s.ahead g
  let now := s.now
  v .scnMux 0 != now .scnMux 0 ||
    (List.range 96).any (fun n => v .scnLaneDrivers n != now .scnLaneDrivers n || v .scnLaneCpd n != now .scnLaneCpd n)

/-- Frame `g` opens (R96, R134, R164, R188, R189, R236, R247). -/
def State.openNext (s : State) (g : Nat) : State :=
  let s := (s.openSets g).openReceive g
  let s := { s with clv := { s.clv with
    waitClear := s.clv.waitClear || s.layoutChanges g
    waitCopy := s.clv.waitCopy || !s.col.copying.isEmpty } }
  if s.composes then (s.nextWb.openFrame g).dispatch
  else { s with clv := { s.clv with frame := g, slices := [], list1 := [], list2 := [] } }

/-- The window instances of frame `f` are fixed, and in Show its sub-updates scheduled (R253); the marks of one that still runs go on
(R280). -/
def State.openScan (s : State) (f : Nat) : State :=
  let s := { s with scn := { s.scn with spansOld := s.scn.spans, spans := s.instances (fun g i => s.r g i) f } }
  if s.inShow ∧ !s.held 9 then
    let s := s.scheduleFrame f
    match s.scn.marks with
    | some r => s.sendMarks s.scn.subs r
    | none => s
  else s

/-- FRAME_BOUNDARY: B(F) of the frame index FT has reached. In this order: what is left of frame F's tasks is cancelled (R200); settings
that wait for the boundary take effect; the power state changes; every feed is exchanged, counted and reported; factors, lanes,
routes and redundancy follow; frame F is scheduled and frame F + 1 opens. -/
def doFrameBoundary (s : State) : State :=
  match s.frame? with
  | none => s
  | some f =>
    if s.lay.receiving = f + 1 then s
    else
      let target := s.bnd f
      let v := s.composing
      let s := s.closeFrame
      let s := s.leaveShowAt f target
      let s := s.applyDue f target
      let s := s.dueBlocks
      let s := s.enterShowAt f
      let s := (List.range 4).foldl (fun s n => s.w .layVHeld n 0) s
      let s := (feedsOn v).foldl (fun s k => s.endFeed v f target k) s
      let s := (s.noteRole).slewZones
      let s := ((s.routesAt f).redBoundary f).monitorBoundary f
      let s := s.boundaryLanes
      match s.frame? with
      | some g => ((s.openScan g).replan g (g != f)).openNext (g + 1)
      | none => { s with lay := { s.lay with receiving := 0 }, clv := { s.clv with slices := [], list1 := [], list2 := [] } }
def execFrameBoundary (s : State) : Host.Outcome State Fault Refusal := event doFrameBoundary s

end Sys2Proof.Machine
end

