-- ==== Sys2Proof/Machine/Opcodes.lean ====
section
/-! DEFINITION. Commands that name other commands: ABORT (R480 to R482), the opcode table, scheduled and fenced commands (R401, R460),
relayed commands (R399, R427, R441, R479), and the bulk data that they and the network move (Table 10.2). -/

namespace Sys2Proof.Machine

/-! ### ABORT (Table 12.10) -/

/-- What an abort of a deferred command does, and what ABORT answers (Table 12.10); of a timed commit, ABORTED (R133). -/
def State.abortDeferred (s : State) (d : Deferred) : Nat × State :=
  let late : Nat × State := (Status.abortTooLate, s)
  let end_ (s : State) : Nat × State :=
    let s := { s with mbx := { s.mbx with deferred := s.mbx.deferred.erase d } }
    (Status.ok, s.final d.cmd Status.aborted)
  match d.waits with
  | .commit id =>
    match s.lay.sets.find? (fun x => x.id == id) with
    | some x => if x.mode = 0 ∧ s.ftNs < s.latch x.fa then (Status.aborted, s.discardSet x Status.aborted) else late
    | none => late
  | .seal id =>
    match s.lay.sealRun with
    | some r => if r.id = id then (Status.ok, s.abandonRun r Status.aborted) else late
    | none => late
  | .clipFree h =>
    end_ { s with ing := { s.ing with bufs := s.ing.bufs.map (fun (b : ClipBuf) => if b.handle = h then { b with deferred := false } else b) } }
  | .show_ _ => end_ s
  | .block =>
    let bitsOf (c : HostCmd) : Nat := (c.u32 0 &&& c.u32 4) &&& 0xF00
    let others := (s.mbx.deferred.filter (fun e => e.waits == .block && e != d)).foldl (fun m e => m ||| bitsOf e.cmd) 0
    let due := s.boot.blockDue - (s.boot.blockDue &&& (bitsOf d.cmd - (bitsOf d.cmd &&& others)))
    let stay : Bool := due == 0 && s.boot.leaveBlock
    end_ { s with boot := { s.boot with
      blockDue := due, leaveShow := s.boot.leaveShow && !stay, leaveBlock := s.boot.leaveBlock && !stay } }
  | .reply id =>
    if s.lan.waiting.any (fun l => l.any (fun r => r.id == id)) then
      end_ { s with lan := { s.lan with waiting := s.lan.waiting.map (fun l => l.filter (fun r => r.id != id)) } }
    else late
  | .takeover =>
    if s.red.takeReq ∧ s.r .redState ≠ Red.candidate then end_ { s with red := { s.red with takeReq := false } } else late
  | .cal =>
    let mine (r : Run) : Bool := match r.cmd with | some c => c.same d.cmd | none => false
    if s.thm.cals.any mine then end_ { s with thm := { s.thm with cals := s.thm.cals.filter (fun r => !mine r) } }
    else
      match s.thm.running with
      | some r => if mine r ∧ !s.calApplies r then (Status.ok, { s with thm := { s.thm with running := some { r with aborting := true } } }) else late
      | none => late
  | .test =>
    let mine (r : Run) : Bool := match r.cmd with | some c => c.same d.cmd | none => false
    if s.thm.tests.any mine then end_ { s with thm := { s.thm with tests := s.thm.tests.filter (fun r => !mine r) } }
    else
      match s.thm.testing.find? mine with
      | some r =>
        if s.runEnds r then late
        else (Status.ok, { s with thm := { s.thm with testing := s.thm.testing.map (fun x => if x = r then { r with aborting := true } else x) } })
      | none => late
  | .fence _ | .spread | .handover | .flash | .write _ _ | .confirm | .fuses | .relay _ => late

/-- A response to a command still stands in a slot, or is kept for a UDP requester: its completion has been posted. -/
def State.answeredPost (s : State) (req : Requester) (opcode session seq : Nat) : Bool :=
  let is (r : Response) : Bool := r.opcode == opcode && r.session == session && r.seq == seq
  match req with
  | .pcie => (List.range 32).any (fun n => is (Response.ofBytes (mread 0 s.mbx.slots (0x80 * n + 0x40) 64)))
  | .udp ip sport => s.mbx.kept.any (fun k => k.ip == ip && k.sport == sport && k.responses.any is)
  | .fabric _ => false

/-- The command that an ABORT names: of the same requester, with its session, seq and opcode (R480, R482). -/
def named (c d : HostCmd) : Bool := d.req == c.req && d.session == c.u16 0 && d.seq == c.u16 2 && d.opcode == c.u16 4

/-- ABORT of a command at this node. -/
def actAbortHere : Action := fun c s =>
  let cut (s : State) (d : HostCmd) : Ack := done (s.final d Status.aborted)
  match s.mbx.fenced.find? (named c), s.mbx.scheduled.find? (named c), s.net.awaiting.find? (named c),
      s.mbx.deferred.find? (fun d => named c d.cmd) with
  | some d, _, _, _ => cut { s with mbx := { s.mbx with fenced := s.mbx.fenced.erase d } } d
  | none, some d, _, _ =>
    if d.activation ≤ s.ftNs then refuse s Status.abortTooLate
    else cut { s with mbx := { s.mbx with scheduled := s.mbx.scheduled.erase d } } d
  | none, none, some d, _ => cut { s with net := { s.net with awaiting := s.net.awaiting.erase d } } d
  | none, none, none, some d =>
    let r := s.abortDeferred d
    if r.1 = Status.ok then done r.2 else refuse r.2 r.1
  | none, none, none, none =>
    if s.answeredPost c.req (c.u16 4) (c.u16 0) (c.u16 2) then refuse s Status.abortTooLate else refuse s Status.badArg

/-- ABORT of a scheduled command that is mirrored: here, and forwarded to the twin, each of which ends its own queued command. -/
def actAbortMirror (r : Relay) : Action := fun c s =>
  match s.mbx.scheduled.find? (fun d => d.req == .fabric s.id && d.tag == r.tag) with
  | some d =>
    if d.activation ≤ s.ftNs then refuse s Status.abortTooLate
    else
      let tag := s.mbx.nextTag
      let s := { s with mbx := { s.mbx with nextTag := tag + 1, scheduled := s.mbx.scheduled.erase d } }
      let s := s.sendTo 0x10 (s.r .redTwin) ((inlined c).bytes ++ leBytes 4 tag ++ leBytes 2 s.id ++ [0, 0])
      done (s.final d Status.aborted)
  | none => refuse s Status.abortTooLate

/-- ABORT: of a relayed command, relayed to its scope (Table 12.10). -/
def actAbort : Action := fun c s =>
  match s.mbx.relays.find? (fun r => named c r.cmd) with
  | some r =>
    if c.relay then actAbortHere c s
    else if r.isMirror ∧ r.cmd.isScheduled then actAbortMirror r c s
    else if r.isMirror then (if (actAbortHere c s).status = Status.badArg then refuse s Status.abortTooLate else actAbortHere c s)
    else ⟨s.relayOut 0x0104 actAbortHere { c with target := r.cmd.target, flags := setBit c.flags 2 true }, Status.ok, [], none, true, none⟩
  | none => actAbortHere c s
def execAbort (c : HostCmd) (s : State) : Host.Outcome State Fault Refusal := .next (runHost 0x0104 actAbort c s)

/-! ### The opcode table -/

/-- The actions of a group's opcodes (Table 12.13). -/
def actions00 : List (Nat × Action) := [
  (0x0000, actSysIdent), (0x0001, actSysStatus), (0x0002, actSysPing), (0x0003, actRegRead),
  (0x0004, actRegWrite), (0x0005, actEventSet), (0x0006, actUploadWrite), (0x0007, actLogRead)]
def actions01 : List (Nat × Action) := [
  (0x0100, actSessionOpen), (0x0101, actSessionClose), (0x0102, actSessionRenew), (0x0103, actSessionGet),
  (0x0104, actAbort)]
def actions02 : List (Nat × Action) := [
  (0x0200, actFabPortGet), (0x0201, actFabPortSet), (0x0202, actFabRestart), (0x0203, actFabLoop),
  (0x0204, actFabLaneGet), (0x0205, actFabNodeGet), (0x0206, actFabSetId), (0x0207, actFabDiscover),
  (0x0208, actFabTopoRead), (0x0209, actFabGroupSet), (0x020A, actFabRouteGet), (0x020B, actFabLinkGet),
  (0x020C, actFabTransitGet), (0x020D, actFabFence)]
def actions03 : List (Nat × Action) := [
  (0x0300, actTimeGet), (0x0301, actTimeSetSource), (0x0302, actTimeSetPeriod), (0x0303, actTimeSetAnchor),
  (0x0304, actTimeStep), (0x0305, actTimeSetTrim), (0x0306, actTimeSetHold)]
def actions04 : List (Nat × Action) := [
  (0x0400, actLayerGet), (0x0401, actLayerSetVideo), (0x0402, actLayerSetGraphic), (0x0403, actLayerWriteGraphic),
  (0x0404, actLayerSetWindow), (0x0405, actLayerSetBg), (0x0406, actLayerSetGuard), (0x0407, actCommit),
  (0x0408, actCommitStatus), (0x0409, actPSet), (0x040A, actPWrite), (0x040B, actPKey),
  (0x040C, actWbSet), (0x040D, actWbRing), (0x040E, actFrostGet), (0x040F, actFrostSet),
  (0x0410, actLayerGetCoef), (0x0411, actCloverSet), (0x0412, actCloverGet)]
def actions05 : List (Nat × Action) := [
  (0x0500, actStreamGet), (0x0501, actStreamSetup), (0x0502, actStreamSetFrame), (0x0503, actStreamPlayClip),
  (0x0504, actStreamStop), (0x0505, actDpSet), (0x0506, actDpGet)]
def actions06 : List (Nat × Action) := [
  (0x0600, actClipInfo), (0x0601, actClipAlloc), (0x0602, actClipFree), (0x0603, actClipWrite),
  (0x0604, actClipRead), (0x0605, actClipPins), (0x0606, actClipSetWindow)]
def actions07 : List (Nat × Action) := [
  (0x0700, actColGet), (0x0701, actColSet), (0x0702, actCoefLoad), (0x0703, actCoefRead),
  (0x0704, actCoefSave), (0x0705, actCoefCheck), (0x0706, actZoneGet)]
def actions08 : List (Nat × Action) := [
  (0x0800, actScanGet), (0x0801, actScanSetLanes), (0x0802, actScanSetTiming), (0x0803, actScanSetFeed),
  (0x0804, actScanSetWindow), (0x0805, actScanPlan), (0x0806, actGenlockSet), (0x0807, actGenlockGet),
  (0x0808, actShutterSet), (0x0809, actScanSetTrim)]
def actions09 : List (Nat × Action) := [
  (0x0900, actLaneGet), (0x0901, actLaneRestart), (0x0902, actLaneReg), (0x0903, actLaneSetCurrent),
  (0x0904, actLaneSetCurmap), (0x0905, actDiagSet), (0x0906, actDiagSummary), (0x0907, actDiagReadMap),
  (0x0908, actDiagEvents), (0x0909, actLaneEcho)]
def actions0A : List (Nat × Action) := [
  (0x0A00, actRedGet), (0x0A01, actRedSet), (0x0A02, actRedHandover), (0x0A03, actRedTakeover),
  (0x0A04, actRedSetSelect), (0x0A05, actRedClaim), (0x0A06, actRedResilver)]
def actions0B : List (Nat × Action) := [
  (0x0B00, actThmGet), (0x0B01, actThmSet), (0x0B02, actThmSensor), (0x0B03, actThmNeighSet),
  (0x0B04, actCalRun), (0x0B05, actCalRead), (0x0B06, actCalWrite), (0x0B07, actCalRefSet)]
def actions0C : List (Nat × Action) := [
  (0x0C00, actFwGet), (0x0C01, actFwBegin), (0x0C02, actFwWrite), (0x0C03, actFwWriteData),
  (0x0C04, actFwSpread), (0x0C05, actFwActivate), (0x0C06, actFwConfirm), (0x0C07, actFwRevert),
  (0x0C08, actFwFallbackReq), (0x0C09, actSettingsGet), (0x0C0A, actSettingsPut), (0x0C0B, actSettingsSave)]
def actions0D : List (Nat × Action) := [
  (0x0D00, actTstRun), (0x0D01, actTstLoop), (0x0D02, actTstResult), (0x0D03, actTstCounters),
  (0x0D04, actFrostExpect), (0x0D40, actTraceSet), (0x0D41, actTraceRead), (0x0D42, actPseSetService)]
def actions0E : List (Nat × Action) := [
  (0x0E00, actPwrGet), (0x0E01, actPwrSet)]
def actions0F : List (Nat × Action) := [
  (0x0F00, actRstGet), (0x0F01, actRstNode), (0x0F02, actRstBlock), (0x0F03, actAonRead),
  (0x0F04, actAonWrite), (0x0F05, actBootClear)]

/-- Every opcode and its action. -/
def actions : List (Nat × Action) :=
  actions00 ++ actions01 ++ actions02 ++ actions03 ++ actions04 ++ actions05 ++ actions06 ++ actions07 ++
  actions08 ++ actions09 ++ actions0A ++ actions0B ++ actions0C ++ actions0D ++ actions0E ++ actions0F

/-- The action of an opcode. -/
def actionOf (op : Nat) : Action := ((actions.find? (fun p => p.1 = op)).map (·.2)).getD actUnknown

/-! ### Scheduled and fenced commands -/

/-- One scheduled command taken before another: by activation FT, then by arrival (R401). -/
def firstDue : List HostCmd → Option HostCmd
  | [] => none
  | c :: r => match firstDue r with
    | some d => if d.activation < c.activation then some d else some c
    | none => some c

/-- Up to `n` due commands carried out, in order. -/
def State.runDue : Nat → State → State
  | 0, s => s
  | n + 1, s =>
    match firstDue (s.mbx.scheduled.filter (fun c => decide (c.activation ≤ s.ftNs))) with
    | none => s
    | some c =>
      let s := { s with mbx := { s.mbx with scheduled := s.mbx.scheduled.erase c } }
      State.runDue n (conclude c false false (s.carry c.opcode (actionOf c.opcode) c))

/-- SCHEDULED_ACTIVATION (R401): every queued command whose activation FT has come, after the sessions that lapse in the cycle (R468). -/
def doScheduledActivation (s : State) : State :=
  if s.fw.restartAt.isSome then s else State.runDue s.lapseDue.mbx.scheduled.length s.lapseDue
def execScheduledActivation (s : State) : Host.Outcome State Fault Refusal := event doScheduledActivation s

/-- A waiting command may start: no earlier one of its requester waits; a fenced one needs every command of the requester answered
once, another one only the fenced ones before it (R460). -/
def State.mayStart (s : State) (c : HostCmd) : Bool :=
  (s.mbx.fenced.find? (fun d => d.req == c.req)) == some c &&
  !s.mbx.deferred.any (fun d => d.cmd.req == c.req && !d.posted && (isFenced c || isFenced d.cmd)) &&
  !s.mbx.relays.any (fun r => r.cmd.req == c.req && !r.finals && (isFenced c || isFenced r.cmd))

/-- FENCED_COMMAND_START: the first waiting command that may start. -/
def doFencedCommandStart (s : State) : State :=
  let s := s.lapseDue
  match s.mbx.fenced.find? s.mayStart with
  | none => s
  | some c =>
    if s.fw.restartAt.isSome then s
    else State.start { s with mbx := { s.mbx with fenced := s.mbx.fenced.erase c } } c.opcode (actionOf c.opcode) c
def execFencedCommandStart (s : State) : Host.Outcome State Fault Refusal := event doFencedCommandStart s

/-! ### Relayed commands -/

/-- Bytes of the transfer that a command reads, by its own length field (R479). -/
def transferLength (op : Nat) (c : HostCmd) : Nat := if op = 0x040A then c.u32 12 else c.u32 8

/-- The transfer that a relayed command reads from, if it names one. -/
def readsTransfer (c : HostCmd) : Option Nat :=
  match hostField c.opcode with
  | some (off, _, false) =>
    let addr := getLE c.payload off 8
    if addr / 2 ^ 62 = 1 then some (addr % 2 ^ 32) else none
  | _ => none

/-- The transfer of a relayed command has arrived in full. -/
def State.wholeTransfer (s : State) (c : HostCmd) (id : Nat) : Bool :=
  let n := transferLength c.opcode c
  n == 0 || s.net.transfers.any (fun t => t.id == id && c.req == .fabric t.src && coversRange t.got 0 n)

/-- A relayed command carried out, and the transfer it has read released. -/
def State.runRelayed (s : State) (c : HostCmd) : State :=
  let s := s.receive c.opcode (actionOf c.opcode) c
  match readsTransfer c with
  | some id => { s with net := { s.net with transfers := s.net.transfers.filter (fun t => !(t.id == id && c.req == .fabric t.src)) } }
  | none => s

/-- Relayed commands whose transfer is now whole (R479). -/
def State.runAwaiting (s : State) : State :=
  let ready := s.net.awaiting.filter (fun c => match readsTransfer c with
    | some id => s.wholeTransfer c id
    | none => true)
  let s := { s with net := { s.net with awaiting := s.net.awaiting.filter (fun c => !(c ∈ ready)) } }
  ready.foldl (fun s c => s.runRelayed c) s

/-- A head that resilvers queues what its twin mirrors until the allocation table is in place (R441). -/
def State.queuesMirror (s : State) (c : HostCmd) : Bool :=
  s.isHead && s.r .redState == Red.resilver && !s.red.tableIn && c.req == .fabric (s.r .redTwin) &&
    (c.group == 5 || c.group == 6) && !readsOnly c.opcode c

/-- MBX_CMD_RX (R399, R427, R441, R479): the command of Table 10.10, carried out for the relaying head; it is held until the transfer it
names has come, and mirrored ones until the head has its twin's table. -/
def doMbxCmdRx (k : Pkt) (data : List Byte) (s : State) : State :=
  let c := { HostCmd.ofBytes (.fabric (k.u16 68)) 0xFF (k.u32 64) (k.payload.take 64) with data := data }
  if s.queuesMirror c then { s with red := { s.red with mirrored := s.red.mirrored ++ [c] } }
  else
    match readsTransfer c with
    | some id =>
      if s.wholeTransfer c id ∨ s.fw.restartAt.isSome then s.runRelayed c
      else { s.renew c with net := { s.net with awaiting := s.net.awaiting ++ [c] } }
    | none => s.runRelayed c
def execMbxCmdRx (k : Pkt) (data : List Byte) (s : State) : Host.Outcome State Fault Refusal := event (doMbxCmdRx k data) s

/-! ### Bulk data -/

/-- A piece put into the transfer of its ID, origin and kind, which opens with its first piece; `off` is its place there. -/
def State.gather (s : State) (kind id src addr off : Nat) (l : List Byte) : State :=
  let is (t : Transfer) : Bool := t.kind == kind && t.id == id && t.src == src
  let add (t : Transfer) : Transfer :=
    if is t then { t with bytes := mwrite 0 t.bytes off l, got := addRange off (off + l.length) t.got } else t
  let ts := if s.net.transfers.any is then s.net.transfers else s.net.transfers ++ [⟨kind, id, src, addr, [], []⟩]
  { s with net := { s.net with transfers := ts.map add } }

def State.transfer? (s : State) (kind id src : Nat) : Option Transfer :=
  s.net.transfers.find? (fun t => t.kind == kind && t.id == id && t.src == src)

def State.endTransfer (s : State) (t : Transfer) : State :=
  { s with net := { s.net with transfers := s.net.transfers.filter (fun u => !(u.kind == t.kind && u.id == t.id && u.src == t.src)) } }

/-- The holder's allocation table is in place: mirrored commands that waited are carried out (R441). -/
def State.takeTable (s : State) (l : List Byte) : State :=
  let bufs := tableOf l
  let next := bufs.foldl (fun m b => max m (b.handle + 1)) s.ing.nextHandle
  let queue := s.red.mirrored
  let s := { s with
    ing := { s.ing with bufs := bufs, nextHandle := next }
    red := { s.red with tableIn := true, mirrored := [] } }
  queue.foldl (fun s c => s.runRelayed c) s

/-- Resilver data from the twin (R441 to R443): the table below the end of the table area, else a granule, written once it is whole. -/
def State.takeGranule (s : State) (k : Pkt) : State :=
  let off := k.u64 8
  let id := k.u32 4
  let l := k.payload.drop 16
  if !s.isHead ∨ k.src ≠ s.r .redTwin then s
  else if off < tableEnd then
    let s := s.gather 3 id k.src 0 off l
    match s.transfer? 3 id k.src with
    | some t =>
      let n := 4 + 24 * mval 0 t.bytes 0 4
      if coversRange t.got 0 4 ∧ coversRange t.got 0 n then (s.endTransfer t).takeTable (mread 0 t.bytes 0 n) else s
    | none => s
  else
    let g := off / 4096
    let s := s.gather 3 id k.src (4096 * g) (off % 4096) l
    match s.transfer? 3 id k.src with
    | some t =>
      if coversRange t.got 0 4096 then
        let s := ((s.endTransfer t).clipWrite (4096 * g) (mread 0 t.bytes 0 4096)).unlist g
        s.w .redResilverLeft 0 (s.r .redResilverLeft - 1)
      else s
    | none => s

/-- A readback arrives at the relaying head: its bytes go to the host memory that the command named (R479). -/
def State.takeReadback (s : State) (k : Pkt) : State :=
  match s.net.transfers.find? (fun t => t.kind == 4 && t.id == k.u32 4 && t.src == k.src) with
  | some t =>
    let a := t.addr + k.u64 8
    let l := k.payload.drop 16
    match uploadAt a with
    | some u => { s with ing := { s.ing with upload := mwrite 0 s.ing.upload u l } }
    | none => s.emit (.hostWrite a l)
  | none => s

/-- BULK_DATA_RX (Table 10.2, R389, R441, R479, R551, R555, R556), by kind. -/
def doBulkDataRx (p : Nat) (k : Pkt) (s : State) : State :=
  let kind := k.u8 0
  let off := k.u64 8
  let l := k.payload.drop 16
  if kind = 0 then
    let s := s.takePiece p k
    if s.fw.isOpen ∧ k.u32 4 = s.r .fwuXferId then s else (s.gather 0 (k.u32 4) k.src 0 off l).runAwaiting
  else if kind = 1 ∨ kind = 2 then (s.gather kind (k.u32 4) k.src 0 off l).runAwaiting
  else if kind = 3 then s.takeGranule k
  else if kind = 4 then s.takeReadback k
  else if kind = 5 then
    let s := { s with net := { s.net with shadow := mwrite 0 s.net.shadow off l } }
    if s.isHead ∧ !s.on .netMaster ∧ k.src = s.r .redTwin ∧ mapOffset ≤ off then
      { s with net := { s.net with map := mapOf (mread 0 s.net.shadow mapOffset (off - mapOffset + l.length)) } }
    else s
  else s
def execBulkDataRx (p : Nat) (k : Pkt) (s : State) : Host.Outcome State Fault Refusal := event (doBulkDataRx p k) s

end Sys2Proof.Machine
end

