-- ==== Sys2Proof/Machine/Dispatch.lean ====
section
/-! DEFINITION. The meaning of each command: one arm for every row of the table. -/

namespace Sys2Proof.Machine
open Sys2Proof

/-- What a command does to the node. -/
def exec (i : Instr) (s : State) : Host.Outcome State Fault Refusal :=
  match i with
  | .sysIdent c => Sys2Proof.Machine.execSysIdent c s
  | .sysStatus c => Sys2Proof.Machine.execSysStatus c s
  | .sysPing c => Sys2Proof.Machine.execSysPing c s
  | .regRead c => Sys2Proof.Machine.execRegRead c s
  | .regWrite c => Sys2Proof.Machine.execRegWrite c s
  | .eventSet c => Sys2Proof.Machine.execEventSet c s
  | .uploadWrite c => Sys2Proof.Machine.execUploadWrite c s
  | .logRead c => Sys2Proof.Machine.execLogRead c s
  | .sessionOpen c => Sys2Proof.Machine.execSessionOpen c s
  | .sessionClose c => Sys2Proof.Machine.execSessionClose c s
  | .sessionRenew c => Sys2Proof.Machine.execSessionRenew c s
  | .sessionGet c => Sys2Proof.Machine.execSessionGet c s
  | .abort c => Sys2Proof.Machine.execAbort c s
  | .fabPortGet c => Sys2Proof.Machine.execFabPortGet c s
  | .fabPortSet c => Sys2Proof.Machine.execFabPortSet c s
  | .fabRestart c => Sys2Proof.Machine.execFabRestart c s
  | .fabLoop c => Sys2Proof.Machine.execFabLoop c s
  | .fabLaneGet c => Sys2Proof.Machine.execFabLaneGet c s
  | .fabNodeGet c => Sys2Proof.Machine.execFabNodeGet c s
  | .fabSetId c => Sys2Proof.Machine.execFabSetId c s
  | .fabDiscover c => Sys2Proof.Machine.execFabDiscover c s
  | .fabTopoRead c => Sys2Proof.Machine.execFabTopoRead c s
  | .fabGroupSet c => Sys2Proof.Machine.execFabGroupSet c s
  | .fabRouteGet c => Sys2Proof.Machine.execFabRouteGet c s
  | .fabLinkGet c => Sys2Proof.Machine.execFabLinkGet c s
  | .fabTransitGet c => Sys2Proof.Machine.execFabTransitGet c s
  | .fabFence c => Sys2Proof.Machine.execFabFence c s
  | .timeGet c => Sys2Proof.Machine.execTimeGet c s
  | .timeSetSource c => Sys2Proof.Machine.execTimeSetSource c s
  | .timeSetPeriod c => Sys2Proof.Machine.execTimeSetPeriod c s
  | .timeSetAnchor c => Sys2Proof.Machine.execTimeSetAnchor c s
  | .timeStep c => Sys2Proof.Machine.execTimeStep c s
  | .timeSetTrim c => Sys2Proof.Machine.execTimeSetTrim c s
  | .timeSetHold c => Sys2Proof.Machine.execTimeSetHold c s
  | .layerGet c => Sys2Proof.Machine.execLayerGet c s
  | .layerSetVideo c => Sys2Proof.Machine.execLayerSetVideo c s
  | .layerSetGraphic c => Sys2Proof.Machine.execLayerSetGraphic c s
  | .layerWriteGraphic c => Sys2Proof.Machine.execLayerWriteGraphic c s
  | .layerSetWindow c => Sys2Proof.Machine.execLayerSetWindow c s
  | .layerSetBg c => Sys2Proof.Machine.execLayerSetBg c s
  | .layerSetGuard c => Sys2Proof.Machine.execLayerSetGuard c s
  | .commit c => Sys2Proof.Machine.execCommit c s
  | .commitStatus c => Sys2Proof.Machine.execCommitStatus c s
  | .pSet c => Sys2Proof.Machine.execPSet c s
  | .pWrite c => Sys2Proof.Machine.execPWrite c s
  | .pKey c => Sys2Proof.Machine.execPKey c s
  | .wbSet c => Sys2Proof.Machine.execWbSet c s
  | .wbRing c => Sys2Proof.Machine.execWbRing c s
  | .frostGet c => Sys2Proof.Machine.execFrostGet c s
  | .frostSet c => Sys2Proof.Machine.execFrostSet c s
  | .layerGetCoef c => Sys2Proof.Machine.execLayerGetCoef c s
  | .cloverSet c => Sys2Proof.Machine.execCloverSet c s
  | .cloverGet c => Sys2Proof.Machine.execCloverGet c s
  | .streamGet c => Sys2Proof.Machine.execStreamGet c s
  | .streamSetup c => Sys2Proof.Machine.execStreamSetup c s
  | .streamSetFrame c => Sys2Proof.Machine.execStreamSetFrame c s
  | .streamPlayClip c => Sys2Proof.Machine.execStreamPlayClip c s
  | .streamStop c => Sys2Proof.Machine.execStreamStop c s
  | .dpSet c => Sys2Proof.Machine.execDpSet c s
  | .dpGet c => Sys2Proof.Machine.execDpGet c s
  | .clipInfo c => Sys2Proof.Machine.execClipInfo c s
  | .clipAlloc c => Sys2Proof.Machine.execClipAlloc c s
  | .clipFree c => Sys2Proof.Machine.execClipFree c s
  | .clipWrite c => Sys2Proof.Machine.execClipWrite c s
  | .clipRead c => Sys2Proof.Machine.execClipRead c s
  | .clipPins c => Sys2Proof.Machine.execClipPins c s
  | .clipSetWindow c => Sys2Proof.Machine.execClipSetWindow c s
  | .colGet c => Sys2Proof.Machine.execColGet c s
  | .colSet c => Sys2Proof.Machine.execColSet c s
  | .coefLoad c => Sys2Proof.Machine.execCoefLoad c s
  | .coefRead c => Sys2Proof.Machine.execCoefRead c s
  | .coefSave c => Sys2Proof.Machine.execCoefSave c s
  | .coefCheck c => Sys2Proof.Machine.execCoefCheck c s
  | .zoneGet c => Sys2Proof.Machine.execZoneGet c s
  | .scanGet c => Sys2Proof.Machine.execScanGet c s
  | .scanSetLanes c => Sys2Proof.Machine.execScanSetLanes c s
  | .scanSetTiming c => Sys2Proof.Machine.execScanSetTiming c s
  | .scanSetFeed c => Sys2Proof.Machine.execScanSetFeed c s
  | .scanSetWindow c => Sys2Proof.Machine.execScanSetWindow c s
  | .scanPlan c => Sys2Proof.Machine.execScanPlan c s
  | .genlockSet c => Sys2Proof.Machine.execGenlockSet c s
  | .genlockGet c => Sys2Proof.Machine.execGenlockGet c s
  | .shutterSet c => Sys2Proof.Machine.execShutterSet c s
  | .scanSetTrim c => Sys2Proof.Machine.execScanSetTrim c s
  | .laneGet c => Sys2Proof.Machine.execLaneGet c s
  | .laneRestart c => Sys2Proof.Machine.execLaneRestart c s
  | .laneReg c => Sys2Proof.Machine.execLaneReg c s
  | .laneSetCurrent c => Sys2Proof.Machine.execLaneSetCurrent c s
  | .laneSetCurmap c => Sys2Proof.Machine.execLaneSetCurmap c s
  | .diagSet c => Sys2Proof.Machine.execDiagSet c s
  | .diagSummary c => Sys2Proof.Machine.execDiagSummary c s
  | .diagReadMap c => Sys2Proof.Machine.execDiagReadMap c s
  | .diagEvents c => Sys2Proof.Machine.execDiagEvents c s
  | .laneEcho c => Sys2Proof.Machine.execLaneEcho c s
  | .redGet c => Sys2Proof.Machine.execRedGet c s
  | .redSet c => Sys2Proof.Machine.execRedSet c s
  | .redHandover c => Sys2Proof.Machine.execRedHandover c s
  | .redTakeover c => Sys2Proof.Machine.execRedTakeover c s
  | .redSetSelect c => Sys2Proof.Machine.execRedSetSelect c s
  | .redClaim c => Sys2Proof.Machine.execRedClaim c s
  | .redResilver c => Sys2Proof.Machine.execRedResilver c s
  | .thmGet c => Sys2Proof.Machine.execThmGet c s
  | .thmSet c => Sys2Proof.Machine.execThmSet c s
  | .thmSensor c => Sys2Proof.Machine.execThmSensor c s
  | .thmNeighSet c => Sys2Proof.Machine.execThmNeighSet c s
  | .calRun c => Sys2Proof.Machine.execCalRun c s
  | .calRead c => Sys2Proof.Machine.execCalRead c s
  | .calWrite c => Sys2Proof.Machine.execCalWrite c s
  | .calRefSet c => Sys2Proof.Machine.execCalRefSet c s
  | .fwGet c => Sys2Proof.Machine.execFwGet c s
  | .fwBegin c => Sys2Proof.Machine.execFwBegin c s
  | .fwWrite c => Sys2Proof.Machine.execFwWrite c s
  | .fwWriteData c => Sys2Proof.Machine.execFwWriteData c s
  | .fwSpread c => Sys2Proof.Machine.execFwSpread c s
  | .fwActivate c => Sys2Proof.Machine.execFwActivate c s
  | .fwConfirm c => Sys2Proof.Machine.execFwConfirm c s
  | .fwRevert c => Sys2Proof.Machine.execFwRevert c s
  | .fwFallbackReq c => Sys2Proof.Machine.execFwFallbackReq c s
  | .settingsGet c => Sys2Proof.Machine.execSettingsGet c s
  | .settingsPut c => Sys2Proof.Machine.execSettingsPut c s
  | .settingsSave c => Sys2Proof.Machine.execSettingsSave c s
  | .traceSet c => Sys2Proof.Machine.execTraceSet c s
  | .traceRead c => Sys2Proof.Machine.execTraceRead c s
  | .pseSetService c => Sys2Proof.Machine.execPseSetService c s
  | .tstRun c => Sys2Proof.Machine.execTstRun c s
  | .tstLoop c => Sys2Proof.Machine.execTstLoop c s
  | .tstResult c => Sys2Proof.Machine.execTstResult c s
  | .tstCounters c => Sys2Proof.Machine.execTstCounters c s
  | .frostExpect c => Sys2Proof.Machine.execFrostExpect c s
  | .pwrGet c => Sys2Proof.Machine.execPwrGet c s
  | .pwrSet c => Sys2Proof.Machine.execPwrSet c s
  | .rstGet c => Sys2Proof.Machine.execRstGet c s
  | .rstNode c => Sys2Proof.Machine.execRstNode c s
  | .rstBlock c => Sys2Proof.Machine.execRstBlock c s
  | .aonRead c => Sys2Proof.Machine.execAonRead c s
  | .aonWrite c => Sys2Proof.Machine.execAonWrite c s
  | .bootClear c => Sys2Proof.Machine.execBootClear c s
  | .bar0Write offset size value => Sys2Proof.Machine.execBar0Write offset size value s
  | .ftNowRead => Sys2Proof.Machine.execFtNowRead s
  | .lowWordRead offset => Sys2Proof.Machine.execLowWordRead offset s
  | .mbxDoorbell mask => Sys2Proof.Machine.execMbxDoorbell mask s
  | .cqHeadWrite value => Sys2Proof.Machine.execCqHeadWrite value s
  | .fraddrWrite stream value => Sys2Proof.Machine.execFraddrWrite stream value s
  | .bar4Write offset bytes => Sys2Proof.Machine.execBar4Write offset bytes s
  | .bar4Read offset length => Sys2Proof.Machine.execBar4Read offset length s
  | .restart port => Sys2Proof.Machine.execRestart port s
  | .rstCtrlNode key => Sys2Proof.Machine.execRstCtrlNode key s
  | .rstCtrlWarm key => Sys2Proof.Machine.execRstCtrlWarm key s
  | .rstBlockWrite value => Sys2Proof.Machine.execRstBlockWrite value s
  | .diagEventRead => Sys2Proof.Machine.execDiagEventRead s
  | .traceCtrlWrite offset value => Sys2Proof.Machine.execTraceCtrlWrite offset value s
  | .warmReset => Sys2Proof.Machine.execWarmReset s
  | .backupEnter => Sys2Proof.Machine.execBackupEnter s
  | .vbakLoss => Sys2Proof.Machine.execVbakLoss s
  | .powerOnReset roleSel testEn strapChanged => Sys2Proof.Machine.execPowerOnReset roleSel testEn strapChanged s
  | .powerOnResetAssert => Sys2Proof.Machine.execPowerOnResetAssert s
  | .brownOutReset also => Sys2Proof.Machine.execBrownOutReset also s
  | .pinReset lowNs also => Sys2Proof.Machine.execPinReset lowNs also s
  | .watchdogExpire serviced => Sys2Proof.Machine.execWatchdogExpire serviced s
  | .lockupReset cause => Sys2Proof.Machine.execLockupReset cause s
  | .clockFailureReset domain => Sys2Proof.Machine.execClockFailureReset domain s
  | .pendingReleaseComplete block => Sys2Proof.Machine.execPendingReleaseComplete block s
  | .pendingReleaseTimeout block => Sys2Proof.Machine.execPendingReleaseTimeout block s
  | .clockSourceRetry domain good => Sys2Proof.Machine.execClockSourceRetry domain good s
  | .railLow rail => Sys2Proof.Machine.execRailLow rail s
  | .pwrGoodChange level heldNs => Sys2Proof.Machine.execPwrGoodChange level heldNs s
  | .otpLoadDone crcOk => Sys2Proof.Machine.execOtpLoadDone crcOk s
  | .bootStepEnd step failed word => Sys2Proof.Machine.execBootStepEnd step failed word s
  | .bootStepTimeout step => Sys2Proof.Machine.execBootStepTimeout step s
  | .bootStepRetry => Sys2Proof.Machine.execBootStepRetry s
  | .autoShowEnter => Sys2Proof.Machine.execAutoShowEnter s
  | .roleSetLost => Sys2Proof.Machine.execRoleSetLost s
  | .frameBoundary => Sys2Proof.Machine.execFrameBoundary s
  | .latchPoint => Sys2Proof.Machine.execLatchPoint s
  | .ftTick => Sys2Proof.Machine.execFtTick s
  | .timeSyncSend => Sys2Proof.Machine.execTimeSyncSend s
  | .timeSyncRx port pkt tin tout => Sys2Proof.Machine.execTimeSyncRx port pkt tin tout s
  | .pdelayReqSend tout => Sys2Proof.Machine.execPdelayReqSend tout s
  | .pdelayReqRx port pkt tin tout => Sys2Proof.Machine.execPdelayReqRx port pkt tin tout s
  | .pdelayRespRx port pkt tin => Sys2Proof.Machine.execPdelayRespRx port pkt tin s
  | .ptpMessageRx ptpNs domain => Sys2Proof.Machine.execPtpMessageRx ptpNs domain s
  | .parentTimeout => Sys2Proof.Machine.execParentTimeout s
  | .refLost => Sys2Proof.Machine.execRefLost s
  | .holdLimitExpire => Sys2Proof.Machine.execHoldLimitExpire s
  | .alignLimitExpire => Sys2Proof.Machine.execAlignLimitExpire s
  | .timeReturnShow => Sys2Proof.Machine.execTimeReturnShow s
  | .refDisagreeTimer => Sys2Proof.Machine.execRefDisagreeTimer s
  | .genlockEdge input rising heldNs stampHalfNs => Sys2Proof.Machine.execGenlockEdge input rising heldNs stampHalfNs s
  | .genlockMissed input => Sys2Proof.Machine.execGenlockMissed input s
  | .shutterAssert output => Sys2Proof.Machine.execShutterAssert output s
  | .shutterDeassert output => Sys2Proof.Machine.execShutterDeassert output s
  | .dpFrameComplete port bytes => Sys2Proof.Machine.execDpFrameComplete port bytes s
  | .dpModeReceived port mode => Sys2Proof.Machine.execDpModeReceived port mode s
  | .dpLinkLoss port linkUp => Sys2Proof.Machine.execDpLinkLoss port linkUp s
  | .dpHoldExpire port => Sys2Proof.Machine.execDpHoldExpire port s
  | .sendWindowOpen => Sys2Proof.Machine.execSendWindowOpen s
  | .lineSlot stream => Sys2Proof.Machine.execLineSlot stream s
  | .fraddrLatch stream => Sys2Proof.Machine.execFraddrLatch stream s
  | .cxlLinkUp link type3 switched size tableOk => Sys2Proof.Machine.execCxlLinkUp link type3 switched size tableOk s
  | .arbiterGrant link requests units => Sys2Proof.Machine.execArbiterGrant link requests units s
  | .burstCut cut => Sys2Proof.Machine.execBurstCut cut s
  | .clipFreeComplete handle => Sys2Proof.Machine.execClipFreeComplete handle s
  | .streamPacketRx pkt => Sys2Proof.Machine.execStreamPacketRx pkt s
  | .frameCompleteRx port pkt => Sys2Proof.Machine.execFrameCompleteRx port pkt s
  | .headPickRx pkt => Sys2Proof.Machine.execHeadPickRx pkt s
  | .pickWaitExpire => Sys2Proof.Machine.execPickWaitExpire s
  | .gust => Sys2Proof.Machine.execGust s
  | .engineLull engine => Sys2Proof.Machine.execEngineLull engine s
  | .taskComplete engine => Sys2Proof.Machine.execTaskComplete engine s
  | .engineOverrun engine => Sys2Proof.Machine.execEngineOverrun engine s
  | .pDataWritten => Sys2Proof.Machine.execPDataWritten s
  | .coefCopyComplete => Sys2Proof.Machine.execCoefCopyComplete s
  | .slotClearComplete => Sys2Proof.Machine.execSlotClearComplete s
  | .coefBlockReload block ok => Sys2Proof.Machine.execCoefBlockReload block ok s
  | .memoryScrub memory single double => Sys2Proof.Machine.execMemoryScrub memory single double s
  | .wbDataRx pkt => Sys2Proof.Machine.execWbDataRx pkt s
  | .subUpdateStart => Sys2Proof.Machine.execSubUpdateStart s
  | .loadStart => Sys2Proof.Machine.execLoadStart s
  | .probeStarvedTimer => Sys2Proof.Machine.execProbeStarvedTimer s
  | .laneTrainDone lane => Sys2Proof.Machine.execLaneTrainDone lane s
  | .laneReplyRx group reply => Sys2Proof.Machine.execLaneReplyRx group reply s
  | .laneReplyTimeout group => Sys2Proof.Machine.execLaneReplyTimeout group s
  | .laneRetryTimer lane => Sys2Proof.Machine.execLaneRetryTimer lane s
  | .offerSend port => Sys2Proof.Machine.execOfferSend port s
  | .offerRx port offer => Sys2Proof.Machine.execOfferRx port offer s
  | .silentBurst port => Sys2Proof.Machine.execSilentBurst port s
  | .trainingWordRx port lane control status rx => Sys2Proof.Machine.execTrainingWordRx port lane control status rx s
  | .trainStageTimeout port => Sys2Proof.Machine.execTrainStageTimeout port s
  | .signalLoss port => Sys2Proof.Machine.execSignalLoss port s
  | .lane0LockLoss port => Sys2Proof.Machine.execLane0LockLoss port s
  | .alignCheck port corrected uncorrectable badSync skews => Sys2Proof.Machine.execAlignCheck port corrected uncorrectable badSync skews s
  | .fecWindow port corrected uncorrectable burst => Sys2Proof.Machine.execFecWindow port corrected uncorrectable burst s
  | .adaptTrigger port => Sys2Proof.Machine.execAdaptTrigger port s
  | .adaptResult port windows => Sys2Proof.Machine.execAdaptResult port windows s
  | .rateStep port => Sys2Proof.Machine.execRateStep port s
  | .packetRx port bytes => Sys2Proof.Machine.execPacketRx port bytes s
  | .linkPacketRx port pkt => Sys2Proof.Machine.execLinkPacketRx port pkt s
  | .linkSend port => Sys2Proof.Machine.execLinkSend port s
  | .egressSelect port => Sys2Proof.Machine.execEgressSelect port s
  | .replayTimeout port => Sys2Proof.Machine.execReplayTimeout port s
  | .nakRepeat port => Sys2Proof.Machine.execNakRepeat port s
  | .linkEventRx pkt => Sys2Proof.Machine.execLinkEventRx pkt s
  | .discoveryStart => Sys2Proof.Machine.execDiscoveryStart s
  | .discQueryRx port pkt => Sys2Proof.Machine.execDiscQueryRx port pkt s
  | .discReplyRx port pkt => Sys2Proof.Machine.execDiscReplyRx port pkt s
  | .discQueryTimeout tag => Sys2Proof.Machine.execDiscQueryTimeout tag s
  | .discAssignRx port pkt => Sys2Proof.Machine.execDiscAssignRx port pkt s
  | .bulkDataRx port pkt => Sys2Proof.Machine.execBulkDataRx port pkt s
  | .routeSetRx pkt => Sys2Proof.Machine.execRouteSetRx pkt s
  | .noRouteRx pkt => Sys2Proof.Machine.execNoRouteRx pkt s
  | .fenceRx pkt => Sys2Proof.Machine.execFenceRx pkt s
  | .fenceDoneRx pkt => Sys2Proof.Machine.execFenceDoneRx pkt s
  | .fenceTimeout fence => Sys2Proof.Machine.execFenceTimeout fence s
  | .mbxCmdRx pkt data => Sys2Proof.Machine.execMbxCmdRx pkt data s
  | .mbxRspRx pkt => Sys2Proof.Machine.execMbxRspRx pkt s
  | .relayTimeout tag => Sys2Proof.Machine.execRelayTimeout tag s
  | .scheduledActivation => Sys2Proof.Machine.execScheduledActivation s
  | .fencedCommandStart => Sys2Proof.Machine.execFencedCommandStart s
  | .udpDatagramRx ip sport bytes => Sys2Proof.Machine.execUdpDatagramRx ip sport bytes s
  | .sessionLapse session => Sys2Proof.Machine.execSessionLapse session s
  | .commitPrepareRx pkt => Sys2Proof.Machine.execCommitPrepareRx pkt s
  | .commitVoteRx pkt => Sys2Proof.Machine.execCommitVoteRx pkt s
  | .commitSealRx pkt => Sys2Proof.Machine.execCommitSealRx pkt s
  | .commitAbandonRx pkt => Sys2Proof.Machine.execCommitAbandonRx pkt s
  | .voteTimeout => Sys2Proof.Machine.execVoteTimeout s
  | .preparedSetExpire => Sys2Proof.Machine.execPreparedSetExpire s
  | .leaseRenewSend => Sys2Proof.Machine.execLeaseRenewSend s
  | .leaseRenewRx port pkt => Sys2Proof.Machine.execLeaseRenewRx port pkt s
  | .leaseAckRx pkt => Sys2Proof.Machine.execLeaseAckRx pkt s
  | .leaseYieldRx pkt => Sys2Proof.Machine.execLeaseYieldRx pkt s
  | .leaseEnd => Sys2Proof.Machine.execLeaseEnd s
  | .leaseSilence => Sys2Proof.Machine.execLeaseSilence s
  | .guardEnd => Sys2Proof.Machine.execGuardEnd s
  | .candidateTimeout => Sys2Proof.Machine.execCandidateTimeout s
  | .renewMissed => Sys2Proof.Machine.execRenewMissed s
  | .headClaimRx port pkt => Sys2Proof.Machine.execHeadClaimRx port pkt s
  | .pairStanddown => Sys2Proof.Machine.execPairStanddown s
  | .resilverRx pkt => Sys2Proof.Machine.execResilverRx pkt s
  | .resilverPassDone => Sys2Proof.Machine.execResilverPassDone s
  | .thermalSample cls index sample => Sys2Proof.Machine.execThermalSample cls index sample s
  | .calRunStart => Sys2Proof.Machine.execCalRunStart s
  | .calRunDone outcome => Sys2Proof.Machine.execCalRunDone outcome s
  | .firmwareRestart parsed => Sys2Proof.Machine.execFirmwareRestart parsed s
  | .firmwareRestartTimeout => Sys2Proof.Machine.execFirmwareRestartTimeout s
  | .fallbackReqRepeat => Sys2Proof.Machine.execFallbackReqRepeat s
  | .spreadPoll => Sys2Proof.Machine.execSpreadPoll s
  | .spreadTimeout => Sys2Proof.Machine.execSpreadTimeout s
  | .testRunStart => Sys2Proof.Machine.execTestRunStart s
  | .testChunkDone isLoop item chunk => Sys2Proof.Machine.execTestChunkDone isLoop item chunk s
  | .jtagInstruction instr => Sys2Proof.Machine.execJtagInstruction instr s
  | .debugResponse signature resetToo => Sys2Proof.Machine.execDebugResponse signature resetToo s
  | .pcieLinkDown => Sys2Proof.Machine.execPcieLinkDown s
  | .cxlLinkDown link deviceError => Sys2Proof.Machine.execCxlLinkDown link deviceError s
  | .flashWriteComplete => Sys2Proof.Machine.execFlashWriteComplete s
  | .resyncBlockRx block => Sys2Proof.Machine.execResyncBlockRx block s

end Sys2Proof.Machine
end

