-- ==== Sys2Proof/WellFormed.lean ====
section
/-! DEFINITION. Which operands a row of the table admits: field widths of commands and packets (Tables 10.1 and 12.2) and the
numbers of ports, lanes, streams, engines, feeds, domains and blocks the spec gives the node. A meaning is total all the same:
well-formedness says which terms a sender can make. -/

namespace Sys2Proof

/-- A requester's numbers fit their fields (R446). -/
def Requester.wf : Requester → Bool
  | .pcie => true
  | .udp ip sport => decide (ip < 2 ^ 32) && decide (sport < 65536)
  | .fabric node => decide (node < 4096)

/-- A command fits Table 12.2; a DMA payload is at most 512 bytes (Table 12.3). -/
def HostCmd.wf (c : HostCmd) : Bool :=
  c.req.wf && decide (c.slot < 256) && decide (c.tag < 2 ^ 32) && decide (c.opcode < 65536) && decide (c.target < 65536) &&
    decide (c.session < 65536) && decide (c.seq < 65536) && decide (c.flags < 65536) && decide (c.reserved < 2 ^ 48) &&
    decide (c.activation < 2 ^ 64) && decide (c.payload.length = 40) && decide (c.dmaPayload.length ≤ 512)

/-- A packet fits Table 10.1. -/
def Pkt.wf (p : Pkt) : Bool :=
  decide (p.ptype < 256) && decide (p.vc < 4) && decide (p.dst < 4096) && decide (p.src < 4096) && decide (p.ttl < 256) &&
    decide (p.payload.length ≤ 512)

/-- A DisplayPort mode's codes fit Tables 3.2 and 3.6. -/
def DpMode.wf (m : DpMode) : Bool :=
  decide (m.linkRate < 16) && decide (m.lanes < 4) && decide (m.format < 16) && decide (m.width < 65536) &&
    decide (m.height < 65536)

/-- The operands of a command are ones its row admits. -/
def Instr.wf : Instr → Bool
  | .sysIdent c => c.wf
  | .sysStatus c => c.wf
  | .sysPing c => c.wf
  | .regRead c => c.wf
  | .regWrite c => c.wf
  | .eventSet c => c.wf
  | .uploadWrite c => c.wf
  | .logRead c => c.wf
  | .sessionOpen c => c.wf
  | .sessionClose c => c.wf
  | .sessionRenew c => c.wf
  | .sessionGet c => c.wf
  | .abort c => c.wf
  | .fabPortGet c => c.wf
  | .fabPortSet c => c.wf
  | .fabRestart c => c.wf
  | .fabLoop c => c.wf
  | .fabLaneGet c => c.wf
  | .fabNodeGet c => c.wf
  | .fabSetId c => c.wf
  | .fabDiscover c => c.wf
  | .fabTopoRead c => c.wf
  | .fabGroupSet c => c.wf
  | .fabRouteGet c => c.wf
  | .fabLinkGet c => c.wf
  | .fabTransitGet c => c.wf
  | .fabFence c => c.wf
  | .timeGet c => c.wf
  | .timeSetSource c => c.wf
  | .timeSetPeriod c => c.wf
  | .timeSetAnchor c => c.wf
  | .timeStep c => c.wf
  | .timeSetTrim c => c.wf
  | .timeSetHold c => c.wf
  | .layerGet c => c.wf
  | .layerSetVideo c => c.wf
  | .layerSetGraphic c => c.wf
  | .layerWriteGraphic c => c.wf
  | .layerSetWindow c => c.wf
  | .layerSetBg c => c.wf
  | .layerSetGuard c => c.wf
  | .commit c => c.wf
  | .commitStatus c => c.wf
  | .pSet c => c.wf
  | .pWrite c => c.wf
  | .pKey c => c.wf
  | .wbSet c => c.wf
  | .wbRing c => c.wf
  | .frostGet c => c.wf
  | .frostSet c => c.wf
  | .layerGetCoef c => c.wf
  | .cloverSet c => c.wf
  | .cloverGet c => c.wf
  | .streamGet c => c.wf
  | .streamSetup c => c.wf
  | .streamSetFrame c => c.wf
  | .streamPlayClip c => c.wf
  | .streamStop c => c.wf
  | .dpSet c => c.wf
  | .dpGet c => c.wf
  | .clipInfo c => c.wf
  | .clipAlloc c => c.wf
  | .clipFree c => c.wf
  | .clipWrite c => c.wf
  | .clipRead c => c.wf
  | .clipPins c => c.wf
  | .clipSetWindow c => c.wf
  | .colGet c => c.wf
  | .colSet c => c.wf
  | .coefLoad c => c.wf
  | .coefRead c => c.wf
  | .coefSave c => c.wf
  | .coefCheck c => c.wf
  | .zoneGet c => c.wf
  | .scanGet c => c.wf
  | .scanSetLanes c => c.wf
  | .scanSetTiming c => c.wf
  | .scanSetFeed c => c.wf
  | .scanSetWindow c => c.wf
  | .scanPlan c => c.wf
  | .genlockSet c => c.wf
  | .genlockGet c => c.wf
  | .shutterSet c => c.wf
  | .scanSetTrim c => c.wf
  | .laneGet c => c.wf
  | .laneRestart c => c.wf
  | .laneReg c => c.wf
  | .laneSetCurrent c => c.wf
  | .laneSetCurmap c => c.wf
  | .diagSet c => c.wf
  | .diagSummary c => c.wf
  | .diagReadMap c => c.wf
  | .diagEvents c => c.wf
  | .laneEcho c => c.wf
  | .redGet c => c.wf
  | .redSet c => c.wf
  | .redHandover c => c.wf
  | .redTakeover c => c.wf
  | .redSetSelect c => c.wf
  | .redClaim c => c.wf
  | .redResilver c => c.wf
  | .thmGet c => c.wf
  | .thmSet c => c.wf
  | .thmSensor c => c.wf
  | .thmNeighSet c => c.wf
  | .calRun c => c.wf
  | .calRead c => c.wf
  | .calWrite c => c.wf
  | .calRefSet c => c.wf
  | .fwGet c => c.wf
  | .fwBegin c => c.wf
  | .fwWrite c => c.wf
  | .fwWriteData c => c.wf
  | .fwSpread c => c.wf
  | .fwActivate c => c.wf
  | .fwConfirm c => c.wf
  | .fwRevert c => c.wf
  | .fwFallbackReq c => c.wf
  | .settingsGet c => c.wf
  | .settingsPut c => c.wf
  | .settingsSave c => c.wf
  | .traceSet c => c.wf
  | .traceRead c => c.wf
  | .pseSetService c => c.wf
  | .tstRun c => c.wf
  | .tstLoop c => c.wf
  | .tstResult c => c.wf
  | .tstCounters c => c.wf
  | .frostExpect c => c.wf
  | .pwrGet c => c.wf
  | .pwrSet c => c.wf
  | .rstGet c => c.wf
  | .rstNode c => c.wf
  | .rstBlock c => c.wf
  | .aonRead c => c.wf
  | .aonWrite c => c.wf
  | .bootClear c => c.wf
  | .bar0Write offset size value => decide (offset < 65536) && decide (value < 256 ^ size)
  | .ftNowRead => true
  | .lowWordRead offset => decide (offset < 65536)
  | .mbxDoorbell mask => decide (mask < 2 ^ 32)
  | .cqHeadWrite value => decide (value < 2 ^ 32)
  | .fraddrWrite stream value => decide (stream < 16) && decide (value < 2 ^ 41)
  | .bar4Write offset _ => decide (offset < 2 ^ 32)
  | .bar4Read offset _ => decide (offset < 2 ^ 32)
  | .restart port => decide (port < 4)
  | .rstCtrlNode key => decide (key < 2 ^ 32)
  | .rstCtrlWarm key => decide (key < 2 ^ 32)
  | .rstBlockWrite value => decide (value < 2 ^ 32)
  | .diagEventRead => true
  | .traceCtrlWrite offset value => decide (offset < 65536) && decide (value < 2 ^ 32)
  | .warmReset => true
  | .backupEnter => true
  | .vbakLoss => true
  | .powerOnReset roleSel _ _ => decide (roleSel < 4)
  | .powerOnResetAssert => true
  | .brownOutReset _ => true
  | .pinReset _ _ => true
  | .watchdogExpire _ => true
  | .lockupReset _ => true
  | .clockFailureReset domain => decide (domain < 40)
  | .pendingReleaseComplete block => decide (block < 14)
  | .pendingReleaseTimeout block => decide (block < 14)
  | .clockSourceRetry domain _ => decide (domain < 40)
  | .railLow rail => decide (rail < 4)
  | .pwrGoodChange _ _ => true
  | .otpLoadDone _ => true
  | .bootStepEnd step _ _ => decide (step < 32)
  | .bootStepTimeout step => decide (step < 32)
  | .bootStepRetry => true
  | .autoShowEnter => true
  | .roleSetLost => true
  | .frameBoundary => true
  | .latchPoint => true
  | .ftTick => true
  | .timeSyncSend => true
  | .timeSyncRx port pkt _ tout => decide (port < 4) && pkt.wf && decide (tout.length = 4)
  | .pdelayReqSend tout => decide (tout.length = 4)
  | .pdelayReqRx port pkt _ _ => decide (port < 4) && pkt.wf
  | .pdelayRespRx port pkt _ => decide (port < 4) && pkt.wf
  | .ptpMessageRx _ domain => decide (domain < 256)
  | .parentTimeout => true
  | .refLost => true
  | .holdLimitExpire => true
  | .alignLimitExpire => true
  | .timeReturnShow => true
  | .refDisagreeTimer => true
  | .genlockEdge input _ _ _ => decide (input < 4)
  | .genlockMissed input => decide (input < 4)
  | .shutterAssert output => decide (output < 4)
  | .shutterDeassert output => decide (output < 4)
  | .dpFrameComplete port _ => decide (port < 4)
  | .dpModeReceived port mode => decide (port < 4) && mode.wf
  | .dpLinkLoss port _ => decide (port < 4)
  | .dpHoldExpire port => decide (port < 4)
  | .sendWindowOpen => true
  | .lineSlot stream => decide (stream < 16)
  | .fraddrLatch stream => decide (stream < 16)
  | .cxlLinkUp link _ _ _ _ => decide (link < 2)
  | .arbiterGrant link _ _ => decide (link < 2)
  | .burstCut cut => decide (cut.link < 2)
  | .clipFreeComplete _ => true
  | .streamPacketRx pkt => pkt.wf
  | .frameCompleteRx port pkt => decide (port < 4) && pkt.wf
  | .headPickRx pkt => pkt.wf
  | .pickWaitExpire => true
  | .gust => true
  | .engineLull engine => decide (engine < 12)
  | .taskComplete engine => decide (engine < 12)
  | .engineOverrun engine => decide (engine < 12)
  | .pDataWritten => true
  | .coefCopyComplete => true
  | .slotClearComplete => true
  | .coefBlockReload block _ => decide (block < 196608)
  | .memoryScrub memory _ _ => decide (memory < 9)
  | .wbDataRx pkt => pkt.wf
  | .subUpdateStart => true
  | .loadStart => true
  | .probeStarvedTimer => true
  | .laneTrainDone lane => decide (lane < 96)
  | .laneReplyRx group _ => decide (group < 12)
  | .laneReplyTimeout group => decide (group < 12)
  | .laneRetryTimer lane => decide (lane < 96)
  | .offerSend port => decide (port < 4)
  | .offerRx port offer => decide (port < 4) && decide (offer.length = 20)
  | .silentBurst port => decide (port < 4)
  | .trainingWordRx port lane control status rx =>
    decide (port < 4) && decide (lane < 4) && decide (control < 65536) && decide (status < 65536) && decide (rx.want < 65536)
  | .trainStageTimeout port => decide (port < 4)
  | .signalLoss port => decide (port < 4)
  | .lane0LockLoss port => decide (port < 4)
  | .alignCheck port _ _ _ skews => decide (port < 4) && decide (skews.length ≤ 4)
  | .fecWindow port _ _ _ => decide (port < 4)
  | .adaptTrigger port => decide (port < 4)
  | .adaptResult port windows => decide (port < 4) && decide (windows.length ≤ 4)
  | .rateStep port => decide (port < 4)
  | .packetRx port _ => decide (port < 4)
  | .linkPacketRx port pkt => decide (port < 4) && pkt.wf
  | .linkSend port => decide (port < 4)
  | .egressSelect port => decide (port < 4)
  | .replayTimeout port => decide (port < 4)
  | .nakRepeat port => decide (port < 4)
  | .linkEventRx pkt => pkt.wf
  | .discoveryStart => true
  | .discQueryRx port pkt => decide (port < 4) && pkt.wf
  | .discReplyRx port pkt => decide (port < 4) && pkt.wf
  | .discQueryTimeout tag => decide (tag < 65536)
  | .discAssignRx port pkt => decide (port < 4) && pkt.wf
  | .bulkDataRx port pkt => decide (port < 4) && pkt.wf
  | .routeSetRx pkt => pkt.wf
  | .noRouteRx pkt => pkt.wf
  | .fenceRx pkt => pkt.wf
  | .fenceDoneRx pkt => pkt.wf
  | .fenceTimeout fence => decide (fence < 65536)
  | .mbxCmdRx pkt _ => pkt.wf
  | .mbxRspRx pkt => pkt.wf
  | .relayTimeout tag => decide (tag < 2 ^ 32)
  | .scheduledActivation => true
  | .fencedCommandStart => true
  | .udpDatagramRx ip sport bytes => decide (ip < 2 ^ 32) && decide (sport < 65536) && decide (bytes.length ≤ 1472)
  | .sessionLapse session => decide (session < 65536)
  | .commitPrepareRx pkt => pkt.wf
  | .commitVoteRx pkt => pkt.wf
  | .commitSealRx pkt => pkt.wf
  | .commitAbandonRx pkt => pkt.wf
  | .voteTimeout => true
  | .preparedSetExpire => true
  | .leaseRenewSend => true
  | .leaseRenewRx port pkt => decide (port < 4) && pkt.wf
  | .leaseAckRx pkt => pkt.wf
  | .leaseYieldRx pkt => pkt.wf
  | .leaseEnd => true
  | .leaseSilence => true
  | .guardEnd => true
  | .candidateTimeout => true
  | .renewMissed => true
  | .headClaimRx port pkt => decide (port < 4) && pkt.wf
  | .pairStanddown => true
  | .resilverRx pkt => pkt.wf
  | .resilverPassDone => true
  | .thermalSample cls index _ => decide (cls < 2) && decide (index < 96)
  | .calRunStart => true
  | .calRunDone outcome => decide (outcome.temp < 65536)
  | .firmwareRestart _ => true
  | .firmwareRestartTimeout => true
  | .fallbackReqRepeat => true
  | .spreadPoll => true
  | .spreadTimeout => true
  | .testRunStart => true
  | .testChunkDone _ _ _ => true
  | .jtagInstruction _ => true
  | .debugResponse signature _ => decide (signature.length = 96)
  | .pcieLinkDown => true
  | .cxlLinkDown link _ => decide (link < 2)
  | .flashWriteComplete => true
  | .resyncBlockRx block => decide (block.port < 4) && decide (block.bytes.length = 8)

end Sys2Proof
end

