-- ==== Sys2Proof/Safety.lean ====
section
/-! DEFINITION. The terms that claims are made in: a step that answers a next state, a host command that the node carries out at
once, the response it gets, what a command leaves unchanged, and the canonical form of a state. -/

namespace Sys2Proof.Machine

/-- An outcome that is a next state: no command of this block faults or is refused, so a run never stops. -/
def Safe (o : Host.Outcome State Fault Refusal) : Prop := ∃ t, o = .next t

/-! ### Host commands -/

/-- The state a command starts in: the command taken from those posted, its session renewed, this step's outputs empty. -/
def State.taken (s : State) (c : HostCmd) : State := State.arrive { s with out := [] } c

/-- The command reaches the node by PCIe in a slot that has not completed, or by UDP. -/
def ownPath (c : HostCmd) : Prop := (c.req = .pcie ∧ c.slot < 32) ∨ ∃ ip sport, c.req = .udp ip sport

/-- An opcode and the row that has it. -/
abbrev HostRow := Nat × (HostCmd → Instr)

/-- The host commands of the opcode table, by group of their opcodes (Table 12.13): opcode and row. -/
def hostRows : List HostRow :=
  ([(0x0000, .sysIdent), (0x0001, .sysStatus), (0x0002, .sysPing), (0x0003, .regRead), (0x0004, .regWrite), (0x0005, .eventSet),
    (0x0006, .uploadWrite), (0x0007, .logRead)] : List HostRow) ++
  ([(0x0100, .sessionOpen), (0x0101, .sessionClose), (0x0102, .sessionRenew), (0x0103, .sessionGet), (0x0104, .abort)] : List HostRow) ++
  ([(0x0200, .fabPortGet), (0x0201, .fabPortSet), (0x0202, .fabRestart), (0x0203, .fabLoop), (0x0204, .fabLaneGet),
    (0x0205, .fabNodeGet), (0x0206, .fabSetId), (0x0207, .fabDiscover), (0x0208, .fabTopoRead), (0x0209, .fabGroupSet),
    (0x020A, .fabRouteGet), (0x020B, .fabLinkGet), (0x020C, .fabTransitGet), (0x020D, .fabFence)] : List HostRow) ++
  ([(0x0300, .timeGet), (0x0301, .timeSetSource), (0x0302, .timeSetPeriod), (0x0303, .timeSetAnchor), (0x0304, .timeStep),
    (0x0305, .timeSetTrim), (0x0306, .timeSetHold)] : List HostRow) ++
  ([(0x0400, .layerGet), (0x0401, .layerSetVideo), (0x0402, .layerSetGraphic), (0x0403, .layerWriteGraphic),
    (0x0404, .layerSetWindow), (0x0405, .layerSetBg), (0x0406, .layerSetGuard), (0x0407, .commit), (0x0408, .commitStatus),
    (0x0409, .pSet), (0x040A, .pWrite), (0x040B, .pKey), (0x040C, .wbSet), (0x040D, .wbRing), (0x040E, .frostGet),
    (0x040F, .frostSet), (0x0410, .layerGetCoef), (0x0411, .cloverSet), (0x0412, .cloverGet)] : List HostRow) ++
  ([(0x0500, .streamGet), (0x0501, .streamSetup), (0x0502, .streamSetFrame), (0x0503, .streamPlayClip), (0x0504, .streamStop),
    (0x0505, .dpSet), (0x0506, .dpGet)] : List HostRow) ++
  ([(0x0600, .clipInfo), (0x0601, .clipAlloc), (0x0602, .clipFree), (0x0603, .clipWrite), (0x0604, .clipRead),
    (0x0605, .clipPins), (0x0606, .clipSetWindow)] : List HostRow) ++
  ([(0x0700, .colGet), (0x0701, .colSet), (0x0702, .coefLoad), (0x0703, .coefRead), (0x0704, .coefSave), (0x0705, .coefCheck),
    (0x0706, .zoneGet)] : List HostRow) ++
  ([(0x0800, .scanGet), (0x0801, .scanSetLanes), (0x0802, .scanSetTiming), (0x0803, .scanSetFeed), (0x0804, .scanSetWindow),
    (0x0805, .scanPlan), (0x0806, .genlockSet), (0x0807, .genlockGet), (0x0808, .shutterSet), (0x0809, .scanSetTrim)] : List HostRow) ++
  ([(0x0900, .laneGet), (0x0901, .laneRestart), (0x0902, .laneReg), (0x0903, .laneSetCurrent), (0x0904, .laneSetCurmap),
    (0x0905, .diagSet), (0x0906, .diagSummary), (0x0907, .diagReadMap), (0x0908, .diagEvents), (0x0909, .laneEcho)] : List HostRow) ++
  ([(0x0A00, .redGet), (0x0A01, .redSet), (0x0A02, .redHandover), (0x0A03, .redTakeover), (0x0A04, .redSetSelect),
    (0x0A05, .redClaim), (0x0A06, .redResilver)] : List HostRow) ++
  ([(0x0B00, .thmGet), (0x0B01, .thmSet), (0x0B02, .thmSensor), (0x0B03, .thmNeighSet), (0x0B04, .calRun), (0x0B05, .calRead),
    (0x0B06, .calWrite), (0x0B07, .calRefSet)] : List HostRow) ++
  ([(0x0C00, .fwGet), (0x0C01, .fwBegin), (0x0C02, .fwWrite), (0x0C03, .fwWriteData), (0x0C04, .fwSpread),
    (0x0C05, .fwActivate), (0x0C06, .fwConfirm), (0x0C07, .fwRevert), (0x0C08, .fwFallbackReq), (0x0C09, .settingsGet),
    (0x0C0A, .settingsPut), (0x0C0B, .settingsSave)] : List HostRow) ++
  ([(0x0D00, .tstRun), (0x0D01, .tstLoop), (0x0D02, .tstResult), (0x0D03, .tstCounters), (0x0D04, .frostExpect),
    (0x0D40, .traceSet), (0x0D41, .traceRead), (0x0D42, .pseSetService)] : List HostRow) ++
  ([(0x0E00, .pwrGet), (0x0E01, .pwrSet)] : List HostRow) ++
  ([(0x0F00, .rstGet), (0x0F01, .rstNode), (0x0F02, .rstBlock), (0x0F03, .aonRead), (0x0F04, .aonWrite), (0x0F05, .bootClear)] : List HostRow)

/-- A host command by PCIe or UDP that a running node hears (R511, R622), with no firmware restart in progress (R561) and nothing of
its requester to wait for (R460, R461), in a cycle in which no session lapses (R467). -/
structure Arrives (op : Nat) (c : HostCmd) (s : State) : Prop where
  opcode : c.opcode = op
  noLapse : s.lapsing = []
  running : s.running = true
  heard : s.hears c = true
  noRestart : s.fw.restartAt = none
  path : ownPath c
  inOrder : s.mustWait op c = false

/-- A command that the node weighs for itself: its header is good (R448), and it is neither relayed (R398), sent on to a scope (R135)
nor mirrored (R435). -/
structure Weighed (op : Nat) (c : HostCmd) (s : State) : Prop extends Arrives op c s where
  header : (s.taken c).headerBad c = false
  notRelayed : c.relay = false
  notSpread : (s.taken c).commitForm op c = none
  notMirrored : (s.taken c).mirrors op c = false

/-- A command that the node carries out at once: it is not scheduled (R401), and no check before it refuses it (R427, R437, R464,
R466, R485, R494). -/
structure Direct (op : Nat) (c : HostCmd) (s : State) : Prop extends Weighed op c s where
  notScheduled : c.isScheduled = false
  passes : (s.taken c).refusal op c = none

/-- The final response of this node to a command (Table 12.4). -/
def finalOf (c : HostCmd) (t : State) (status : Nat) (data : List Byte) (session : Nat) : Response :=
  { opcode := c.opcode, node := t.id, session := session, seq := c.seq, status := status, final := true, combined := false,
    list := false, slot := c.slot % 256, answered := 1, failed := b2n (failedStatus status), acted := t.ftNs, data := data }

/-- A final response has gone out on the command's path: the response half of its slot, its done and busy bits and its vector
(R454, Table 12.5), or a datagram (R457). -/
def Sent (c : HostCmd) (t : State) (r : Response) : Prop :=
  match c.req with
  | .pcie => mread 0 t.mbx.slots (0x80 * c.slot + 0x40) 64 = r.bytes ∧ bit (t.r .mbxDone) c.slot = true ∧
      bit (t.r .mbxBusy) c.slot = false ∧ Out.msix (2 + c.slot % 30) ∈ t.out
  | .udp ip sport => Out.datagram ip sport (datagramOf r) ∈ t.out
  | .fabric _ => False

/-- What a response leaves of the mailbox unit: all but its slot's response half and the responses kept for UDP; and of the done
and busy bits, those of every other slot. -/
structure MailboxKept (c : HostCmd) (s t : State) : Prop where
  unit : t.mbx = { s.mbx with slots := t.mbx.slots, kept := t.mbx.kept }
  slots : ∀ a, (a < 0x80 * c.slot + 0x40 ∨ 0x80 * c.slot + 0x80 ≤ a) → mget 0 t.mbx.slots a = mget 0 s.mbx.slots a
  done : ∀ n, n ≠ c.slot → n < 32 → bit (t.r .mbxDone) n = bit (s.r .mbxDone) n
  busy : ∀ n, n ≠ c.slot → n < 32 → bit (t.r .mbxBusy) n = bit (s.r .mbxBusy) n

/-- The parts of a state that are neither registers, with the bits set in this TB cycle (R12), nor the mailbox unit nor outputs. -/
def State.rest (s : State) : State := { s with regs := [], shadow := [], staged := [], hot := [], mbx := State.mbx0, out := [] }

/-- Registers in effect are unchanged but for the fields named and the done and busy bits of the mailbox. -/
def RegsKept (s t : State) (fs : List FName) : Prop :=
  ∀ f i, f ∉ fs → f ≠ .mbxDone → f ≠ .mbxBusy → t.r f i = s.r f i

/-- Staged values are unchanged but for the fields named; where none is named, what is staged is unchanged, too. -/
def ShadowKept (s t : State) (gs : List FName) : Prop :=
  (∀ f i, f ∉ gs → rget t.shadow f i = rget s.shadow f i) ∧ (gs = [] → t.staged = s.staged)

/-- Nothing has changed but the fields in effect and the staged fields named, and the mailbox unit's own answer. -/
structure OnlyFields (c : HostCmd) (s t : State) (fs gs : List FName) : Prop where
  regs : RegsKept s t fs
  shadow : ShadowKept s t gs
  rest : t.rest = s.rest
  mailbox : MailboxKept c s t

/-- Fields put into effect one after another. -/
def State.puts (s : State) (l : List (FName × Nat × Nat)) : State := l.foldl (fun s p => s.w p.1 p.2.1 p.2.2) s

/-- No condition on the command or the state. -/
def anyWay : HostCmd → State → Prop := fun _ _ => True

/-- A command that only reads: it answers OK with these data and changes nothing. -/
def Reads (op : Nat) (mk : HostCmd → Instr) (ok : HostCmd → State → Prop) (data : HostCmd → State → List Byte) : Prop :=
  ∀ c s, Direct op c s → ok c (s.taken c) → ∃ t, exec (mk c) s = .next t ∧
    Sent c t (finalOf c t Status.ok (data c (s.taken c)) c.session) ∧ OnlyFields c (s.taken c) t [] []

/-- A command that puts values into effect at once: it answers OK, each field named holds its value, held to the field's width,
and nothing else changes. -/
def Writes (op : Nat) (mk : HostCmd → Instr) (ok : HostCmd → State → Prop) (vals : HostCmd → List (FName × Nat × Nat)) : Prop :=
  ∀ c s, Direct op c s → ok c (s.taken c) → ∃ t, exec (mk c) s = .next t ∧
    Sent c t (finalOf c t Status.ok [] c.session) ∧
    (∀ e ∈ vals c, t.r e.1 e.2.1 = e.2.2 % 2 ^ e.1.width) ∧
    OnlyFields c (s.taken c) t ((vals c).map (·.1)) []

/-- A command that stages values (R128): it answers OK, each field named is staged with its value under the command's session,
the values in effect stay, and nothing else changes. -/
def Stages (op : Nat) (mk : HostCmd → Instr) (ok : HostCmd → State → Prop) (vals : HostCmd → List (FName × Nat × Nat)) : Prop :=
  ∀ c s, Direct op c s → ok c (s.taken c) → ∃ t, exec (mk c) s = .next t ∧
    Sent c t (finalOf c t Status.ok [] c.session) ∧
    (∀ e ∈ vals c, rget t.shadow e.1 e.2.1 = e.2.2 % 2 ^ e.1.width ∧ ⟨e.1.key e.2.1, c.session⟩ ∈ t.staged) ∧
    OnlyFields c (s.taken c) t [] ((vals c).map (·.1))

/-- A command that completes at once: it answers OK with these data and leaves `after`, but for its own answer. -/
def Completes (op : Nat) (mk : HostCmd → Instr) (ok : HostCmd → State → Prop) (data : HostCmd → State → List Byte)
    (after : HostCmd → State → State) : Prop :=
  ∀ c s, Direct op c s → ok c (s.taken c) → ∃ t, exec (mk c) s = .next t ∧
    Sent c t (finalOf c t Status.ok (data c (s.taken c)) c.session) ∧ OnlyFields c (after c (s.taken c)) t [] []

/-- Bytes that a command puts where a payload names host memory: the host's own memory, or the upload area of BAR2 (R488). -/
def Placed (s t : State) (addr : Nat) (l : List Byte) : Prop :=
  match uploadAt addr with
  | some a => t.rest = ({ s with ing := { s.ing with upload := mwrite 0 s.ing.upload a l } } : State).rest
  | none => t.rest = s.rest ∧ Out.hostWrite addr l ∈ t.out

/-- A command that only reads and puts what it read where its payload says. -/
def Fetches (op : Nat) (mk : HostCmd → Instr) (ok : HostCmd → State → Prop) (addr : HostCmd → Nat)
    (bytes data : HostCmd → State → List Byte) : Prop :=
  ∀ c s, Direct op c s → ok c (s.taken c) → s.hostOk (addr c) = true → ∃ t, exec (mk c) s = .next t ∧
    Sent c t (finalOf c t Status.ok (data c (s.taken c)) c.session) ∧
    Placed s t (addr c) (bytes c (s.taken c)) ∧ RegsKept s t [] ∧ ShadowKept s t [] ∧ MailboxKept c (s.taken c) t

/-- A refused command: it answers this status and changes no state (R483). -/
def Refuses (op : Nat) (mk : HostCmd → Instr) (bad : HostCmd → State → Prop) (status : Nat) : Prop :=
  ∀ c s, Direct op c s → bad c (s.taken c) → ∃ t, exec (mk c) s = .next t ∧
    Sent c t (finalOf c t status [] c.session) ∧ OnlyFields c (s.taken c) t [] []

/-- A command answered with a status and no data: it has changed nothing but rst_retry (R483, R494). -/
def Answered (mk : HostCmd → Instr) (c : HostCmd) (s : State) (status : Nat) : Prop :=
  ∃ t, exec (mk c) s = .next t ∧ Sent c t (finalOf c t status [] c.session) ∧
    RegsKept s t [.rstRetry, .mbxEvents] ∧ ShadowKept s t [] ∧ t.rest = s.rest ∧ MailboxKept c (s.taken c) t

/-- An interim response has gone out on the command's path (R455, Table 12.4): the response half of its slot, which completes
while the completion ring is enabled, or a datagram. -/
def Interim (c : HostCmd) (s t : State) (status : Nat) (data : List Byte) : Prop :=
  let r : Response := { finalOf c t status data c.session with final := false }
  match c.req with
  | .pcie => mread 0 t.mbx.slots (0x80 * c.slot + 0x40) 64 = r.bytes ∧ bit (t.r .mbxDone) c.slot = (bit (s.r .mbxDone) c.slot || s.on .mbxCqEnable) ∧
      bit (t.r .mbxBusy) c.slot = (bit (s.r .mbxBusy) c.slot && !s.on .mbxCqEnable)
  | .udp ip sport => Out.datagram ip sport (datagramOf r) ∈ t.out
  | .fabric _ => False

/-- The state with a command put among those that owe a final response. -/
def State.waiting (s : State) (d : Deferred) : State := { s with mbx := { s.mbx with deferred := s.mbx.deferred ++ [d] } }

/-- The command as it waits for its final response: where its slot has completed with the interim one, the final goes to the ring. -/
def waitingAs (c : HostCmd) (s : State) : HostCmd := if c.req = .pcie ∧ s.on .mbxCqEnable then c.released else c

/-- A command that is accepted: it posts an interim response, waits for `w` to post its final one, and leaves `after` but for its
own answer. -/
def Accepts (op : Nat) (mk : HostCmd → Instr) (ok : HostCmd → State → Prop) (status : Nat) (data : HostCmd → State → List Byte)
    (w : HostCmd → State → Waits) (after : HostCmd → State → State) : Prop :=
  ∀ c s, Direct op c s → ok c (s.taken c) → ∃ t, exec (mk c) s = .next t ∧
    Interim c (after c (s.taken c)) t status (data c (s.taken c)) ∧
    OnlyFields c ((after c (s.taken c)).waiting ⟨waitingAs c (after c (s.taken c)), w c (s.taken c), true⟩) t [] []

/-- A command that answers later: it posts nothing yet, waits for `w`, and leaves `after`. -/
def Awaits (op : Nat) (mk : HostCmd → Instr) (ok : HostCmd → State → Prop) (w : HostCmd → State → Waits)
    (after : HostCmd → State → State) : Prop :=
  ∀ c s, Direct op c s → ok c (s.taken c) → exec (mk c) s = .next ((after c (s.taken c)).waiting ⟨c, w c (s.taken c), false⟩)

/-! ### Events -/

/-- The state an event starts in: no output of an earlier step stands. -/
def State.begun (s : State) : State := { s with out := [] }

/-- On a running node in the states that `g` names, the event answers exactly the state `f`, so that whatever `f` does not name is
unchanged. -/
def Does (i : Instr) (g : State → Prop) (f : State → State) : Prop :=
  ∀ s, s.running = true → g s.begun → exec i s = .next (f s.begun)

/-- On a running node the event answers exactly `f` in the states that `g` names, and changes nothing in every other. -/
def DoesOnly (i : Instr) (g : State → Prop) (f : State → State) : Prop := Does i g f ∧ Does i (fun s => ¬ g s) id

/-- On a running node in the states that `g` names, the event answers a next state, of which `E` holds. -/
def Occurs (i : Instr) (g : State → Prop) (E : State → State → Prop) : Prop :=
  ∀ s, s.running = true → g s.begun → ∃ t, exec i s = .next t ∧ E s t

/-- After an event: the registers in effect are those before but for the fields named, and every other part of the state but the marks of
the bits set in this TB cycle (R12) and the outputs is that of `r`. -/
def EventOnly (s r t : State) (fs : List FName) : Prop :=
  (∀ f i, f ∉ fs → t.r f i = s.r f i) ∧ t = { r with regs := t.regs, hot := t.hot, out := t.out }

/-- A flag is set, and where it was not set before, the event bit of its register is set, too (Table 12.6). -/
def Flagged (s t : State) (f : FName) (i : Nat := 0) : Prop :=
  bit (t.r f i) 0 = true ∧ (bit (s.r f i) 0 = false → ∀ e ∈ eventOf f, bit (t.r .mbxEvents) e = true)

/-! ### The canonical form of a state -/

/-- Every register file, byte store and number store of the state is in canonical form: equal contents are equal data. -/
structure State.Canonical (s : State) : Prop where
  regs : regWf s.regs = true
  shadow : regWf s.shadow = true
  hot : swf 0 s.hot = true
  slots : Memory.wf 0 s.mbx.slots = true
  clip : Memory.wf 0 s.ing.clip = true
  upload : Memory.wf 0 s.ing.upload = true
  lines : swf 0 s.lay.lines = true
  graphic : Memory.wf 0 s.lay.graphic = true
  pstore : Memory.wf 0 s.lay.pstore = true
  trace : Memory.wf 0 s.clv.trace = true
  store : Memory.wf 0 s.col.store = true
  lamps : swf 0 s.col.lamps = true
  status : swf 0 s.lan.status = true
  unicast : Memory.wf 0 s.net.unicast = true
  multicast : Memory.wf 0 s.net.multicast = true
  shadowRoutes : Memory.wf 0 s.net.shadow = true
  flash : Memory.wf erased s.fw.flash = true
  copy : Memory.wf 0 s.fw.copy = true
  retained : Memory.wf 0 s.boot.retained = true

end Sys2Proof.Machine
end

