-- ==== Sys2Proof/Certificates/Slice0/Obligations.lean ====
section
/-! DEFINITION. The statements of this model for the provers. Each `def Obligations.<Name> : Prop` says what its docstring says; the
rules R<n> are those of the specification. Host commands are stated with the terms of Safety.lean: `Direct` (the command reaches the
node and nothing before its own meaning stops it), then what it answers and what it changes. -/

open Sys2Proof Sys2Proof.Machine

/-! ### Every host command -/

/-- A node that does not run (R511, R590), or that has no path open to the command (R5, R622), leaves every host command without effect: it
only begins a step, with no output. -/
def Obligations.UnheardCommandDoesNothing : Prop :=
  ∀ p ∈ hostRows, ∀ c s, s.running = false ∨ ({ s with out := [] } : State).hears { c with opcode := p.1 } = false →
    exec (p.2 c) s = .next { s with out := [] }

/-- While a firmware restart is in progress, every host command by PCIe waits among those posted, once, and any other is discarded and
counted (R561); nothing else changes. -/
def Obligations.RestartHoldsOrDiscardsCommands : Prop :=
  ∀ p ∈ hostRows, ∀ c s, c.opcode = p.1 → s.running = true → s.hears c = true → s.fw.restartAt ≠ none →
    exec (p.2 c) s = .next { s with
      out := []
      mbx := if c.req = .pcie then { s.mbx with posted := s.mbx.posted.filter (fun d => !samePost c d) ++ [c] }
        else { s.mbx with discarded := s.mbx.discarded + 1 } }

/-- A fenced host command with an earlier one of its requester open, and any command of a requester whose fenced one waits, is put behind
those that wait, and nothing else happens but that it is taken from those posted and its session renewed (R460, R467). -/
def Obligations.FencedCommandsWait : Prop :=
  ∀ p ∈ hostRows, ∀ c s, c.opcode = p.1 → s.running = true → s.hears c = true → s.fw.restartAt = none → s.lapsing = [] →
    (s.mbx.fenced.any (fun d => d.req = c.req) = true ∨ s.fenceOpen c.req = true ∨ (c.fence = true ∧ s.earlier c = true)) →
    exec (p.2 c) s = .next { s.taken c with mbx := { (s.taken c).mbx with fenced := (s.taken c).mbx.fenced ++ [c] } }

/-- R461: COMMIT waits behind the earlier commands of its requester whether or not its fence flag is set. -/
def Obligations.CommitIsAlwaysFenced : Prop :=
  ∀ c s, c.opcode = 0x0407 → s.running = true → s.hears c = true → s.fw.restartAt = none → s.lapsing = [] → s.earlier c = true →
    exec (.commit c) s = .next { s.taken c with mbx := { (s.taken c).mbx with fenced := (s.taken c).mbx.fenced ++ [c] } }

/-- A header that Table 12.2 does not allow, or a DMA descriptor that Table 12.3 does not, is answered BAD_ARG by every host command, which
changes nothing (R448 to R450, R483). -/
def Obligations.BadHeaderAnsweredBadArg : Prop :=
  ∀ p ∈ hostRows, ∀ c s, Arrives p.1 c s →
    (c.reserved ≠ 0 ∨ 16 ≤ c.flags ∨ 0x4000 ≤ c.target ∨ c.scope = 3 ∨
      (c.dma = true ∧ (c.req ≠ .pcie ∨ getLE c.payload 8 2 = 0 ∨ 512 < getLE c.payload 8 2))) → Answered p.2 c s Status.badArg

/-- Every host command that a check refuses answers that check's status and changes nothing: a tile's groups 0x05 and 0x06 UNSUPPORTED
(R122); groups 0x04 to 0x0A in minimum service BUSY (R485); a session that is not open NOT_BOUND and one of another requester DENIED
(R466); a head without the lease NOT_BOUND for a change in groups 0x04 to 0x06 (R437); an area another session holds LOCKED (R464); a
change of a held block BUSY (R494). -/
def Obligations.RefusedCommandsChangeNothing : Prop :=
  ∀ p ∈ hostRows, ∀ c s, Weighed p.1 c s → c.isScheduled = false →
    (s.isHead = false → (c.group = 5 ∨ c.group = 6) → Answered p.2 c s Status.unsupported) ∧
    ((s.taken c).roleBad c = false → s.inMin = true → (4 ≤ c.group ∧ c.group ≤ 0x0A) → Answered p.2 c s Status.busy) ∧
    ((s.taken c).roleBad c = false → (s.taken c).serviceBad c = false →
      (c.session ≠ 0 → (s.taken c).mbx.sessions.find? (fun x => x.id = c.session) = none → Answered p.2 c s Status.notBound) ∧
      (∀ x, c.session ≠ 0 → (s.taken c).mbx.sessions.find? (fun x => x.id = c.session) = some x → x.owner ≠ c.req → x.rebind = false →
        Answered p.2 c s Status.denied) ∧
      ((s.taken c).sessionBad c = none →
        (s.isHead = true → s.on .redHolder = false → (4 ≤ c.group ∧ c.group ≤ 6) → readsOnly p.1 c = false →
          Answered p.2 c s Status.notBound) ∧
        ((s.taken c).controlBad p.1 c = false → (s.taken c).holderBad p.1 c = false → readsOnly p.1 c = false →
          (∀ a x, areaOf p.1 c = some a → (s.taken c).holderOf a = some x → x.id ≠ c.session → Answered p.2 c s Status.locked) ∧
          (∀ b, blockOf p.1 c = some b → s.held b = true → (∀ a x, areaOf p.1 c = some a → (s.taken c).holderOf a = some x → x.id = c.session) →
            Answered p.2 c s Status.busy))))

/-- A scheduled command in time is answered ACCEPTED and queued, behind those queued before it, by every host command but FW_ACTIVATE,
which makes its checks first (R401); one more than 600 s ahead is answered BAD_ARG and one more than 64 BUSY, and neither is queued (R401,
R402). -/
def Obligations.ScheduledCommandIsQueued : Prop :=
  ∀ p ∈ hostRows, p.1 ≠ 0x0C05 → ∀ c s, Weighed p.1 c s → c.isScheduled = true → (s.taken c).roleBad c = false →
    (s.taken c).sessionBad c = none → s.ftNs < c.activation →
    (c.activation ≤ s.ftNs + 600000000000 → s.mbx.scheduled.length < 64 → ∃ t, exec (p.2 c) s = .next t ∧
      Interim c (s.taken c) t Status.accepted [] ∧
      OnlyFields c { s.taken c with mbx := { (s.taken c).mbx with
        scheduled := (s.taken c).mbx.scheduled ++ [waitingAs c (s.taken c)] } } t [] []) ∧
    (s.ftNs + 600000000000 < c.activation → Answered p.2 c s Status.badArg) ∧
    (c.activation ≤ s.ftNs + 600000000000 → 64 ≤ s.mbx.scheduled.length → Answered p.2 c s Status.busy)

/-- Operands out of range are answered BAD_ARG, what the node's state does not allow BUSY, DENIED, PINNED, NO_NODE or NOT_BOUND, and
nothing changes (R483 and the refusals of Tables 12.14, 9.16, 10.14, 2.14, 4.12, 3.14, 6.10, 7.8, 8.10, 11.12, 14.9, 15.10, 16.6 and
13.12). -/
def Obligations.OperandRefusals : Prop :=
  Refuses 0x0003 .regRead (fun c _ => c.u32 0 % 4 ≠ 0 ∨ c.u8 4 = 0 ∨ 8 < c.u8 4) Status.badArg ∧
  Refuses 0x0200 .fabPortGet (fun c _ => 3 < c.u8 0) Status.badArg ∧
  Refuses 0x0206 .fabSetId (fun c _ => 0xFFF ≤ c.u16 0) Status.badArg ∧
  Refuses 0x0207 .fabDiscover (fun _ s => s.on .netMaster = false) Status.denied ∧
  Refuses 0x020D .fabFence (fun c s => s.routeTo (c.u16 0) = none) Status.noNode ∧
  Refuses 0x0302 .timeSetPeriod (fun c _ => periodOk (c.u64 0) (c.u16 8) = false) Status.badArg ∧
  Refuses 0x0304 .timeStep (fun _ s => s.on .ftIsRoot = false) Status.denied ∧
  Refuses 0x0401 .layerSetVideo (fun c _ => 3 < c.u8 0) Status.badArg ∧
  Refuses 0x0502 .streamSetFrame (fun c s => s.r .ingKind (c.u8 0) ≠ 2 ∨ c.u64 8 % 4096 ≠ 0) Status.badArg ∧
  Refuses 0x0603 .clipWrite (fun c s => (s.bufAt (c.u64 8) (c.u32 16)).isSome = true ∧ s.clipOk (c.u64 8) (c.u32 16) = true ∧
    s.pinned (c.u64 8) (c.u32 16) = true) Status.pinned ∧
  Refuses 0x0606 .clipSetWindow (fun c _ => 511 < c.u16 0) Status.badArg ∧
  Refuses 0x0706 .zoneGet (fun c _ => 95 < c.u8 0) Status.badArg ∧
  Refuses 0x0809 .scanSetTrim (fun c _ => 11 < c.u8 0) Status.badArg ∧
  Refuses 0x0904 .laneSetCurmap (fun _ s => s.inShow = true) Status.denied ∧
  Refuses 0x0A02 .redHandover (fun _ s => s.red.lapsedAt ≠ some s.clk ∧ s.on .redHolder = false) Status.notBound ∧
  Refuses 0x0A02 .redHandover (fun _ s => s.red.lapsedAt = some s.clk) Status.denied ∧
  Refuses 0x0B03 .thmNeighSet (fun c _ => 95 < c.u8 0) Status.badArg ∧
  Refuses 0x0C06 .fwConfirm (fun _ s => s.flashUp = true ∧ s.inTrial = false) Status.denied ∧
  Refuses 0x0D02 .tstResult (fun c _ => 15 < c.u8 0) Status.badArg ∧
  Refuses 0x0E01 .pwrSet (fun c s => c.u8 0 = 4 ∧ s.inShow = false ∧ (s.inStandby = false ∨ s.roleHolds = false ∨ s.darkTest = true ∨
    s.on .thmShutdownHold = true)) Status.busy ∧
  Refuses 0x0F01 .rstNode (fun c _ => 1 < c.u8 0) Status.badArg

/-! ### Host commands, by group -/

/-- The system commands of group 0x00 (Table 12.14) run to their own effect: what each answers, what it writes, and that nothing else
changes but the command's own answer. -/
def Obligations.SystemCommandsComplete : Prop :=
  Reads 0x0000 .sysIdent anyWay (fun _ s => leBytes 4 (s.bar0 0) ++ leBytes 4 (s.bar0 4) ++ leBytes 16 Config.unitId ++
    leBytes 4 Config.hardwareType ++ leBytes 4 (if s.r .fwuRunning = 0 then s.r .fwuSecA else s.r .fwuSecB) ++ leBytes 2 s.id ++
    [byte (s.r .aonBootStep), byte (s.r .fwuRunning), byte (s.r .sysPstate), 0, 0, 0]) ∧
  Reads 0x0001 .sysStatus anyWay (fun _ s => leBytes 4 (s.r .mbxEvents) ++ leBytes 4 (s.bar0 0x4014) ++ leBytes 8 s.ftNs ++
    leBytes 4 ((s.clk - s.upSince) / 1000000000) ++ leBytes 2 (s.r .rstCause) ++ [byte (ones 32 (s.r .mbxBusy)), 0]) ∧
  Reads 0x0002 .sysPing anyWay (fun c s => getBytes c.body 0 8 ++ leBytes 8 s.ftNs) ∧
  Completes 0x0003 .regRead (fun c _ => c.u32 0 % 4 = 0 ∧ 1 ≤ c.u8 4 ∧ c.u8 4 ≤ 8 ∧ c.u32 0 + 4 * c.u8 4 ≤ 0x8000)
    (fun c s => (s.readWords (c.u32 0) (c.u8 4)).1) (fun c s => (s.readWords (c.u32 0) (c.u8 4)).2) ∧
  Completes 0x0004 .regWrite (fun c s => c.u32 0 % 4 = 0 ∧ c.u32 0 ≤ 0x7FFF ∧ c.u32 0 ≠ 0x104 ∧
      s.imageBreaks (c.u32 0) (c.u32 4) (c.u32 8) = false)
    (fun c s => leBytes 4 ((s.writeWord c.session (c.req == .pcie) false (c.u32 0) (c.u32 4) (c.u32 8)).bar0 (c.u32 0)))
    (fun c s => s.writeWord c.session (c.req == .pcie) false (c.u32 0) (c.u32 4) (c.u32 8)) ∧
  Writes 0x0005 .eventSet anyWay (fun c => [(.mbxEventEn, 0, c.u16 0)]) ∧
  Completes 0x0006 .uploadWrite (fun c s => s.hasClip = true ∧ 1 ≤ c.u8 4 ∧ c.u8 4 ≤ 32 ∧ c.u32 0 + c.u8 4 ≤ uploadSize) (fun _ _ => [])
    (fun c s => { s with ing := { s.ing with upload := mwrite 0 s.ing.upload (c.u32 0) (getBytes c.body 8 (c.u8 4)) } }) ∧
  Fetches 0x0007 .logRead (fun c _ => c.u16 10 ≤ 64) (fun c => c.u64 0)
    (fun c s => ((s.mbx.log.drop (c.u16 8)).take (c.u16 10)).flatMap SessionLog.bytes)
    (fun c s => leBytes 2 ((s.mbx.log.drop (c.u16 8)).take (c.u16 10)).length)

/-- The session commands of group 0x01 (R463 to R472, Tables 12.10 and 12.14) run to their own effect: a session opens with the areas asked
for and 500 ms to live, closes keeping or discarding what it has staged, is renewed, is shown; ABORT takes a scheduled command out of its
queue and answers it ABORTED. -/
def Obligations.SessionCommandsComplete : Prop :=
  (∀ c s, Direct 0x0100 c s → c.u16 2 = 0 → c.u16 0 ≤ 0x7FF → (s.taken c).mbx.sessions.length < 16 →
    (s.taken c).conflict (c.u16 0) = none → ∃ t, exec (.sessionOpen c) s = .next t ∧
      Sent c t (finalOf c t Status.ok (leBytes 2 (s.taken c).localId ++ leBytes 2 (c.u16 0) ++ [0, 0, 0, 0] ++
        leBytes 8 (s.ftNs + 500000000)) (s.taken c).localId) ∧
      OnlyFields c { s.taken c with mbx := { (s.taken c).mbx with
        sessions := (s.taken c).mbx.sessions ++ [⟨(s.taken c).localId, c.u16 0, (s.taken c).ownerOf c, s.clk + 500000000, false⟩]
        nextLocal := (s.taken c).localId % 0x7FFF + 1 } } t [] []) ∧
  (∀ x, Completes 0x0101 .sessionClose (fun c s => s.ownSession c (c.u16 0) = .ok x ∧ c.u8 2 = 0) (fun _ _ => [])
    (fun _ s => s.closeKeep x)) ∧
  (∀ x, Completes 0x0101 .sessionClose (fun c s => s.ownSession c (c.u16 0) = .ok x ∧ c.u8 2 ≠ 0) (fun _ _ => [])
    (fun _ s => s.lapse x 2)) ∧
  (∀ x, Completes 0x0102 .sessionRenew (fun c s => s.ownSession c (c.u16 0) = .ok x) (fun _ s => leBytes 8 (s.ftNs + 500000000))
    (fun c s => { s with mbx := { s.mbx with sessions := s.mbx.sessions.map (fun y =>
      if y.id = x.id then { y with expiry := s.clk + 500000000, owner := s.ownerOf c, rebind := false } else y) } })) ∧
  Reads 0x0103 .sessionGet anyWay (fun _ s => leBytes 2 s.heldAreas ++
    (List.range 11).flatMap (fun a => leBytes 2 ((s.holderOf a).elim 0 (fun x => x.id))) ++ [byte s.mbx.sessions.length]) ∧
  (∀ d, Completes 0x0104 .abort (fun c s => s.mbx.relays.find? (fun r => named c r.cmd) = none ∧ s.mbx.fenced.find? (named c) = none ∧
      s.mbx.scheduled.find? (named c) = some d ∧ s.ftNs < d.activation) (fun _ _ => [])
    (fun _ s => ({ s with mbx := { s.mbx with scheduled := s.mbx.scheduled.erase d } } : State).final d Status.aborted))

/-- The commands of group 0x02 on the node's ports (Tables 9.12 and 9.16) run to their own effect. -/
def Obligations.PortCommandsComplete : Prop :=
  Reads 0x0200 .fabPortGet (fun c _ => c.u8 0 ≤ 3) (fun c s => s.portWord (c.u8 0) 0 ++ s.portWord (c.u8 0) 4 ++
    leBytes 2 (s.r .fabBackoff (c.u8 0)) ++ [0, 0] ++ [0x0C, 0x10, 0x14, 0x18, 0x1C].flatMap (s.portWord (c.u8 0))) ∧
  Completes 0x0201 .fabPortSet (fun c _ => c.u8 0 ≤ 3 ∧ c.u8 1 ≤ 1 ∧ c.u8 2 ≤ 1 ∧ c.u8 3 ≤ 3 ∧ c.u8 4 ≤ 15 ∧ c.u8 5 ≤ 1 ∧
      1 ≤ c.u8 6 ∧ c.u8 6 ≤ 4 ∧ 1 ≤ c.u8 7 ∧ c.u8 7 ≤ 4) (fun _ _ => [])
    (fun c s =>
      let p := c.u8 0
      let a := (s.puts [(.fabEnable, p, c.u8 1), (.fabRatePolicy, p, c.u8 2), (.fabMaxRate, p, c.u8 3),
        (.fabLanesAllowed, p, setBit (c.u8 4) 0 true), (.fabLoopAllow, p, c.u8 5), (.fabInitPresetPam4, p, c.u8 6),
        (.fabInitPresetNrz, p, c.u8 7)]).followEnable p
      if a.up p ∧ c.u8 3 < a.r .fabRate p then a.restartPort p else a) ∧
  Completes 0x0202 .fabRestart (fun c s => ¬(s.inShow = true ∧ s.hasParent = true ∧ bit (c.u8 0) (s.r .ftParentPort) = true)) (fun _ _ => [])
    (fun c s => (portsOf (c.u8 0)).foldl State.restartPort s) ∧
  Completes 0x0203 .fabLoop (fun c s => c.u8 0 ≤ 3 ∧ c.u8 1 ≤ 3 ∧ ¬(s.up (c.u8 0) = true ∧ s.inShow = true) ∧
      s.rateDue (c.u8 0) = false ∧ s.steppedNow (c.u8 0) = false ∧ (c.u8 1 = 3 → s.partnerAllows (c.u8 0) = true)) (fun _ _ => [])
    (fun c s => (s.w .fabLoop (c.u8 0) (c.u8 1)).restartPort (c.u8 0)) ∧
  Reads 0x0204 .fabLaneGet (fun c _ => c.u8 0 ≤ 3 ∧ c.u8 1 ≤ 3)
    (fun c s => [0x40, 0x44, 0x48].flatMap (fun o => s.portWord (c.u8 0) (o + 0x10 * c.u8 1))) ∧
  Reads 0x020B .fabLinkGet (fun c _ => c.u8 0 ≤ 3) (fun c s => (List.range 8).flatMap (fun i => s.portWord (c.u8 0) (0x80 + 4 * i)))

/-- The commands of group 0x02 on the network (Table 10.14) run to their own effect. -/
def Obligations.NetworkCommandsComplete : Prop :=
  Reads 0x0205 .fabNodeGet anyWay (fun _ s => leBytes 2 s.id ++ leBytes 2 (s.r .netPreferred) ++ leBytes 2 (s.r .netMasterId) ++
    [byte (s.r .netRouteEpoch), 0] ++ leBytes 4 (s.bar0 0x3408) ++
    (List.range 4).flatMap (fun p => leBytes 2 (match (s.port p).partner with
      | some o => o.node
      | none => 0))) ∧
  Completes 0x0206 .fabSetId (fun c _ => c.u16 0 < 0xFFF) (fun _ _ => [])
    (fun c s => (s.w .netPreferred 0 (c.u16 0)).putSetting 0x0001 (leBytes 2 (c.u16 0))) ∧
  Completes 0x0207 .fabDiscover (fun _ s => s.on .netMaster = true) (fun _ _ => [])
    (fun _ s => { s with net := { s.net with discoverAt := some s.clk } }) ∧
  Fetches 0x0208 .fabTopoRead (fun _ s => s.on .netMaster = true) (fun c => c.u64 0)
    (fun c s => (List.range (min s.net.map.length (c.u32 8 / 32))).flatMap (topoRecord s.net.map))
    (fun c s => leBytes 4 (min s.net.map.length (c.u32 8 / 32))) ∧
  Completes 0x0209 .fabGroupSet (fun c s => s.r .netMember (c.u8 0 / 32) ≠ setBit (s.r .netMember (c.u8 0 / 32)) (c.u8 0 % 32) (c.u8 1 != 0))
    (fun _ _ => []) (fun c s => (s.w .netMember (c.u8 0 / 32)
      (setBit (s.r .netMember (c.u8 0 / 32)) (c.u8 0 % 32) (c.u8 1 != 0))).linkEvent 0 2) ∧
  Reads 0x0209 .fabGroupSet (fun c s => s.r .netMember (c.u8 0 / 32) = setBit (s.r .netMember (c.u8 0 / 32)) (c.u8 0 % 32) (c.u8 1 != 0))
    (fun _ _ => []) ∧
  Reads 0x020A .fabRouteGet (fun c _ => c.u8 2 = 0 ∧ c.u16 0 ≤ 0xFFF) (fun c s => [mget 0 s.net.unicast (c.u16 0)]) ∧
  Reads 0x020A .fabRouteGet (fun c _ => c.u8 2 = 1 ∧ c.u16 0 ≤ 0xFF)
    (fun c s => (List.range 5).map (fun i => byte (s.groupEntry (c.u16 0) i))) ∧
  Reads 0x020C .fabTransitGet (fun c _ => c.u8 0 ≤ 15 ∧ c.u8 1 = 0) (fun c s => leBytes 4 (s.r .netSlackA (c.u8 0)) ++ leBytes 4 (s.r .netSlackB (c.u8 0))) ∧
  Completes 0x020C .fabTransitGet (fun c _ => c.u8 0 ≤ 15 ∧ c.u8 1 ≠ 0) (fun c s => leBytes 4 (s.r .netSlackA (c.u8 0)) ++ leBytes 4 (s.r .netSlackB (c.u8 0)))
    (fun c s => s.puts [(.netSlackA, c.u8 0, 0x7FFFFFFF), (.netSlackB, c.u8 0, 0x7FFFFFFF)]) ∧
  Awaits 0x020D .fabFence (fun c s => s.id ≠ 0 ∧ c.u16 0 ≤ 0xFFE ∧ s.routeTo (c.u16 0) ≠ none ∧ c.u8 2 % 16 ≠ 0)
    (fun _ s => .fence (s.net.nextFence % 65536))
    (fun c s =>
      let id := s.net.nextFence % 65536
      let m := c.u8 2 % 16
      let a := (portsOf m).foldl (fun s v => s.route (s.packet 0x12 v (c.u16 0) (leBytes 2 id ++ [byte m, 0, 0, 0, 0, 0]) true)) s
      { a with net := { a.net with fences := a.net.fences ++ [⟨id, c.u16 0, m, a.clk, []⟩], nextFence := id + 1 } }) ∧
  Reads 0x020D .fabFence (fun c s => s.id ≠ 0 ∧ c.u16 0 ≤ 0xFFE ∧ s.routeTo (c.u16 0) ≠ none ∧ c.u8 2 % 16 = 0) (fun _ _ => [])

/-- The commands of group 0x03 (Table 2.14) run to their own effect; those that set the period and the anchor stage their values (R79). -/
def Obligations.TimeCommandsComplete : Prop :=
  Reads 0x0300 .timeGet anyWay (fun _ s => leBytes 8 s.ftNs ++ leBytes 8 (s.frame?.getD 0) ++ leBytes 4 (s.r .ftOffset) ++
    [byte (s.r .ftLockState), byte (s.r .ftSource), byte (s.r .ftHops), byte (s.r .ftParentPort)]) ∧
  Completes 0x0301 .timeSetSource (fun c s => s.on .ftIsRoot = true ∧ c.u8 0 = 0) (fun _ _ => [])
    (fun _ s =>
      let a := s.w .ftSource 0 0
      ({ a with time := { a.time with steer := none } } : State).setLock 0) ∧
  Completes 0x0301 .timeSetSource (fun c s => s.on .ftIsRoot = true ∧ c.u8 0 = 2 ∧ s.isHead = true ∧ c.u8 8 ≤ 127) (fun _ _ => [])
    (fun c s =>
      let a := s.w .ftSource 0 2
      ({ a with time := { a.time with ptpDomain := c.u8 8, steer := none } } : State).setLock 1) ∧
  Completes 0x0301 .timeSetSource (fun c s => s.on .ftIsRoot = true ∧ c.u8 0 = 3 ∧ c.u8 1 ≤ 3 ∧ 1 ≤ c.u8 2 ∧ c.u8 2 ≤ 40 ∧
      s.genlockFits (c.u8 1) (c.u8 2) = true) (fun _ _ => [])
    (fun c s =>
      let a := s.puts [(.ftSource, 0, 3), (.ftGenlockInput, 0, c.u8 1), (.ftGenlockRatio, 0, c.u8 2)]
      ({ a with time := { a.time with
        genlockOffset := c.s32 4, refEdge := none, outliers := 0, missing := 0, steer := none } } : State).setLock 1) ∧
  Stages 0x0302 .timeSetPeriod (fun c _ => periodOk (c.u64 0) (c.u16 8) = true)
    (fun c => [(.ftPeriodNum, 0, c.u64 0), (.ftPeriodDen, 0, c.u16 8)]) ∧
  Stages 0x0303 .timeSetAnchor (fun c s => s.inShow = false ∧ c.u64 8 < 2 ^ 48)
    (fun c => [(.ftAnchorFt, 0, c.u64 0), (.ftAnchorFrame, 0, c.u64 8)]) ∧
  Completes 0x0304 .timeStep (fun _ s => s.on .ftIsRoot = true ∧ s.r .ftSource = 0 ∧ s.inShow = false) (fun _ _ => [])
    (fun c s => s.stepTo (c.u64 0 * 2 ^ 32)) ∧
  Completes 0x0305 .timeSetTrim (fun c _ => c.u8 0 ≤ 3) (fun _ _ => [])
    (fun c s => (s.w .ftPortTrim (c.u8 0) (c.u16 2)).showDelay (c.u8 0)) ∧
  Writes 0x0306 .timeSetHold anyWay (fun c => [(.ftHoldLimit, 0, min 1000 (c.u16 0))])

/-- The commands of group 0x04 that set layers (Tables 4.12 and 5.11) stage their values (R128) or take effect at once. -/
def Obligations.LayerCommandsComplete : Prop :=
  Reads 0x0400 .layerGet (fun c _ => c.u8 0 ≤ 8) (fun c s => s.words (0x1000 + 0x40 * c.u8 0) 10) ∧
  Stages 0x0401 .layerSetVideo (fun c _ => c.u8 0 ≤ 3 ∧ c.u8 2 ≤ 15) (fun c =>
    [(.layVEnable, c.u8 0, HostCmdFlag c 1), (.layVStream, c.u8 0, c.u8 2), (.layVPolicy, c.u8 0, HostCmdFlag c 3),
    (.layVAlpha, c.u8 0, c.u8 4), (.layVFeedMask, c.u8 0, c.u8 5), (.layVHoldMax, c.u8 0, c.u8 6), (.layVSrcX, c.u8 0, c.u16 8),
    (.layVSrcY, c.u8 0, c.u16 10), (.layVSrcW, c.u8 0, c.u16 12), (.layVSrcH, c.u8 0, c.u16 14), (.layVFullW, c.u8 0, c.u16 16),
    (.layVFullH, c.u8 0, c.u16 18), (.layVDstX, c.u8 0, c.u32 20), (.layVDstY, c.u8 0, c.u32 24), (.layVDstW, c.u8 0, c.u16 28),
    (.layVDstH, c.u8 0, c.u16 30)]) ∧
  Stages 0x0402 .layerSetGraphic (fun c _ => 4 ≤ c.u8 0 ∧ c.u8 0 ≤ 7) (fun c =>
    [(.layGEnable, c.u8 0 - 4, HostCmdFlag c 1), (.layGFormat, c.u8 0 - 4, HostCmdFlag c 2), (.layGBuffer, c.u8 0 - 4, HostCmdFlag c 3),
    (.layGAlpha, c.u8 0 - 4, c.u8 4), (.layGFeedMask, c.u8 0 - 4, c.u8 5), (.layGX, c.u8 0 - 4, c.u16 8),
    (.layGY, c.u8 0 - 4, c.u16 10), (.layGW, c.u8 0 - 4, c.u16 12), (.layGH, c.u8 0 - 4, c.u16 14)]) ∧
  (∀ l, Completes 0x0403 .layerWriteGraphic (fun c s => 4 ≤ c.u8 0 ∧ c.u8 0 ≤ 7 ∧ c.u8 1 ≤ 1 ∧ c.u32 4 + c.u32 8 ≤ bufferSize ∧
      s.graphicShut (c.u8 0 - 4) (c.u8 1) = false ∧ s.hostRead c (c.u64 16) (c.u32 8) = some l) (fun _ _ => [])
    (fun c s =>
      let a := graphicBase (c.u8 0 - 4) (c.u8 1) + c.u32 4
      { s with lay := { s.lay with
        graphic := mwrite 0 s.lay.graphic a l
        graphicBad := s.lay.graphicBad.filter (fun w => !(decide (a ≤ 4 * w + 3) && decide (4 * w < a + c.u32 8))) } })) ∧
  Stages 0x0404 .layerSetWindow anyWay (fun c => [(.layWinX, 0, c.u32 0), (.layWinY, 0, c.u32 4), (.layWinW, 0, c.u16 8),
    (.layWinH, 0, c.u16 10)]) ∧
  Stages 0x0405 .layerSetBg anyWay (fun c => [(.layBg, 0, c.u32 0 % 2 ^ 30)]) ∧
  Stages 0x0406 .layerSetGuard anyWay (fun c => [(.layGuard, 0, c.u16 0)]) ∧
  (∀ a, Completes 0x0409 .pSet (fun c s => s.checkKey (c.u64 0) = .ok a) (fun _ _ => []) (fun c _ =>
    a.stages c.session [(.layPEnable, 0, HostCmdFlag c 8), (.layPAlpha, 0, c.u8 9), (.layPFeedMask, 0, c.u8 10)])) ∧
  (∀ a l, Completes 0x040A .pWrite (fun c s => s.checkKey (c.u64 0) = .ok a ∧ c.u32 8 + c.u32 12 ≤ bufferSize ∧
      (a.lay.pStaged.map (·.bytes.length)).sum + c.u32 12 ≤ 0x40000 ∧ a.hostRead c (c.u64 16) (c.u32 12) = some l) (fun _ _ => [])
    (fun c _ => { a with lay := { a.lay with pStaged := a.lay.pStaged ++ [⟨c.u32 8, l, c.session⟩] } })) ∧
  (∀ a, Completes 0x040B .pKey (fun c s => s.checkKey (c.u64 0) = .ok a) (fun _ _ => [])
    (fun c _ => ({ a with lay := { a.lay with pKey := c.u64 8 } } : State).putSetting keyTag (leBytes 8 (c.u64 8)))) ∧
  Writes 0x040F .frostSet anyWay (fun c => [(.layFrostFrames, 0, max 1 (c.u8 0)), (.layFrostOn, 0, HostCmdFlag c 1),
    (.layFrostReport, 0, HostCmdFlag c 2)]) ∧
  Reads 0x040E .frostGet (fun c s => (c.u16 0 = 0 ∨ c.u16 0 = s.id) ∧ c.u8 2 ≤ 7) (fun c s =>
    leBytes 4 (s.r .laySignature (c.u8 2)) ++ leBytes 4 (s.lay.frostLast.getD (c.u8 2) 0) ++ leBytes 2 (s.readyMask (c.u8 2)) ++
    [byte (b2n (bit s.lay.heldFeeds (c.u8 2)) + 2 * b2n (bit (s.r .scnComposeMiss) (c.u8 2)) + 4 * b2n (bit (s.r .layFrozen) (c.u8 2))),
     byte (min 255 (s.lay.frostCounted.getD (c.u8 2) 0))] ++ leBytes 4 s.lay.frostTarget) ∧
  (∀ x, Reads 0x040E .frostGet (fun c s => c.u16 0 ≠ 0 ∧ c.u16 0 ≠ s.id ∧
      s.lay.reports.find? (fun x => x.node == c.u16 0 && x.feed == c.u8 2) = some x) (fun _ _ =>
    getBytes x.bytes 8 4 ++ leBytes 4 x.previous ++ getBytes x.bytes 6 2 ++ getBytes x.bytes 5 1 ++ [byte (min 255 x.counted)] ++
      getBytes x.bytes 0 4)) ∧
  Fetches 0x0410 .layerGetCoef (fun c _ => 14352 ≤ c.u32 8) (fun c => c.u64 0) (fun _ _ => scalerTable) (fun _ _ => leBytes 4 14352) ∧
  Writes 0x0411 .cloverSet (fun c _ => c.u8 0 ≤ 15 ∧ c.u8 1 ≤ 15 ∧ c.u8 2 ≤ 15) (fun c =>
    [(.clvW1, 0, max 1 (c.u8 0)), (.clvW2, 0, max 1 (c.u8 1)), (.clvW3, 0, c.u8 2), (.clvGustMin, 0, max 1 (c.u8 3)),
    (.clvGustWait, 0, clampN 1 1000 (c.u16 4)), (.clvLullDelay, 0, c.u8 6)]) ∧
  Completes 0x0412 .cloverGet anyWay (fun _ s => leBytes 2 (s.live .clvReady0 0) ++ leBytes 2 (s.live .clvReady1 0) ++
      leBytes 2 (s.live .clvReady2 0) ++ leBytes 2 (s.live .clvReady3 0) ++ leBytes 4 (s.live .clvSquashes 0) ++
      leBytes 4 (s.live .clvCancels 0) ++ leBytes 4 (s.live .clvPlanLast 0) ++ leBytes 4 (s.live .clvPlanMax 0) ++
      leBytes 2 (s.live .pseInService 0) ++ leBytes 2 (s.live .pseFault 0) ++ leBytes 2 (s.live .clvAwake 0))
    (fun c s => if c.u8 0 = 0 then s else s.w .clvPlanMax 0 0)

/-- COMMIT of the node's own scope, timed or sealed, takes what is staged as a commit set and answers ACCEPTED with the set's ID and
activation (R130 to R136, R620, R621); a sealed COMMIT of a wider scope starts a seal run and answers when the run does (R137);
COMMIT_STATUS shows the set (Table 4.12). -/
def Obligations.CommitCommandsComplete : Prop :=
  (∀ reject, Accepts 0x0407 .commit (fun c s => c.u8 0 = 0 ∧ c.u8 1 = 0 ∧ c.u64 8 < 2 ^ 48 ∧ s.foreignStaged c = false ∧
      s.periodStaged = false ∧ s.lay.sets.length < 4 ∧ s.tooFar (c.u64 8) = false ∧ s.validate s.candidate = some reject)
    Status.accepted
    (fun c s =>
      let fa := s.takeCommitId.2.planTimed (isEarly (s.takeCommitId.2.allChanges s.takeCommitId.2.candidate)) (c.u64 8)
      commitData s.takeCommitId.1 0 fa 1 (b2n (c.u64 8 != 0 && fa != c.u64 8)) 0 reject)
    (fun _ s => .commit s.takeCommitId.1)
    (fun c s =>
      let a := s.takeCommitId.2
      let fa := a.planTimed (isEarly (a.allChanges a.candidate)) (c.u64 8)
      let late := c.u64 8 != 0 && fa != c.u64 8
      (a.capture s.takeCommitId.1 0 .accepted fa late reject a.id).raiseIf late .layLateCommit)) ∧
  (∀ reject, Accepts 0x0407 .commit (fun c s => c.u8 0 = 1 ∧ c.u8 1 = 0 ∧ c.u64 8 < 2 ^ 48 ∧ s.foreignStaged c = false ∧
      s.lay.sealRun.isSome = false ∧ s.lay.sets.length < 4 ∧ s.tooFar (c.u64 8) = false ∧ s.validate s.candidate = some reject)
    Status.accepted
    (fun c s => commitData s.takeCommitId.1 1
      (s.takeCommitId.2.planSealed (isEarly (s.takeCommitId.2.allChanges s.takeCommitId.2.candidate)) (c.u64 8)) 1 0 0 reject)
    (fun _ s => .commit s.takeCommitId.1)
    (fun c s =>
      let a := s.takeCommitId.2
      a.capture s.takeCommitId.1 1 .accepted (a.planSealed (isEarly (a.allChanges a.candidate)) (c.u64 8)) false reject a.id)) ∧
  (∀ reject e, Awaits 0x0407 .commit (fun c s => c.u8 0 = 1 ∧ (c.u8 1 = 1 ∨ c.u8 1 = 2) ∧ c.u64 8 < 2 ^ 48 ∧ s.foreignStaged c = false ∧
      s.isHead = true ∧ s.on .redHolder = true ∧ s.lay.sealRun.isSome = false ∧ s.lay.sets.length < 4 ∧ s.tooFar (c.u64 8) = false ∧
      s.validate s.candidate = some reject ∧ s.takeCommitId.2.lay.sets.any (fun x => x.state == .prepared) = false ∧
      (((s.takeCommitId.2.waiting ⟨c, .seal s.takeCommitId.1, false⟩).startRun s.takeCommitId.1 0 (c.u8 1 - 1) (c.u8 2) (c.u64 8)
        reject).mbx.deferred.find? (fun e => e.waits == .seal s.takeCommitId.1)) = some e ∧ e.posted = false)
    (fun _ s => .seal s.takeCommitId.1)
    (fun c s =>
      let a := (s.takeCommitId.2.waiting ⟨c, .seal s.takeCommitId.1, false⟩).startRun s.takeCommitId.1 0 (c.u8 1 - 1) (c.u8 2) (c.u64 8) reject
      { a with mbx := { a.mbx with deferred := a.mbx.deferred.filter (fun e => !(e.waits == .seal s.takeCommitId.1)) } })) ∧
  (∀ x, Reads 0x0408 .commitStatus (fun c s => s.lay.sets.find? (fun x => x.id == c.u16 0) = some x)
    (fun _ _ => [byte (if x.state = .prepared then 1 else 0), 0, 0, 0] ++ leBytes 8 x.fa)) ∧
  (∀ h, Reads 0x0408 .commitStatus (fun c s => s.lay.sets.find? (fun x => x.id == c.u16 0) = none ∧
      s.lay.history.find? (fun h => h.1 == c.u16 0) = some h) (fun _ _ => [byte h.2.1, 0, 0, 0] ++ leBytes 8 h.2.2)) ∧
  Writes 0x040C .wbSet (fun c s => c.u8 1 ≤ 7 ∧ c.u8 2 ≤ 3 ∧ c.u16 4 ≤ 0xFFF ∧
      imageFits (fun f i => s.r f i) (c.u8 2) (max 1 (c.u8 3)) = true)
    (fun c => [(.layWbOn, 0, HostCmdFlag c 0), (.layWbFeed, 0, c.u8 1), (.layWbScale, 0, c.u8 2), (.layWbDiv, 0, max 1 (c.u8 3)),
      (.layWbDest, 0, c.u16 4)]) ∧
  (∀ b, Completes 0x040D .wbRing (fun c s => s.isHead = true ∧ s.bufOf (c.u32 0) = some b ∧ 2 ≤ c.u8 4 ∧ c.u8 4 ≤ 4 ∧ c.u8 5 ≤ 3 ∧
      c.u32 16 ≠ 0 ∧ 4 * c.u32 16 ≤ b.length / c.u8 4) (fun _ _ => [])
    (fun c s =>
      let x : WbRing := { handle := b.handle, csa := b.csa, bufs := c.u8 4, scale := c.u8 5, x0 := c.s32 8, y0 := c.s32 12,
                          pitch := c.u32 16, frames := [], next := 0, ended := 0 }
      { s with ing := { s.ing with wbRing := some x } }))

/-- The commands of group 0x05 (Table 3.14) run to their own effect. -/
def Obligations.StreamCommandsComplete : Prop :=
  Reads 0x0500 .streamGet (fun c _ => c.u8 0 ≤ 15) (fun c s => leBytes 4 (s.bar0 (0x800 + 0x20 * c.u8 0)) ++
    leBytes 4 (s.bar0 (0x800 + 0x20 * c.u8 0 + 4)) ++ leBytes 8 (s.r .ingFraddr (c.u8 0)) ++
    leBytes 4 (s.bar0 (0x800 + 0x20 * c.u8 0 + 0x10)) ++ leBytes 4 (s.stream (c.u8 0)).framesSent) ∧
  Completes 0x0501 .streamSetup (fun c s =>
      let t := s.stages c.session [(.ingEnable, c.u8 0, b2n (c.u8 1 != 0)), (.ingKind, c.u8 0, c.u8 1), (.ingDpPort, c.u8 0, c.u8 2),
        (.ingGroup, c.u8 0, c.u8 3), (.ingFeedMask, c.u8 0, c.u8 4),
        (.ingFormat, c.u8 0, if c.u8 1 = 1 then s.r .dprFormat (c.u8 2) else c.u8 5), (.ingWidth, c.u8 0, c.u16 6),
        (.ingHeight, c.u8 0, c.u16 8)]
      c.u8 0 ≤ 15 ∧ c.u8 1 ≤ 3 ∧ c.u8 2 ≤ 3 ∧ ((c.u8 1 = 2 ∨ c.u8 1 = 3) → bppOf (c.u8 5) ≠ none) ∧
      t.streamsFit (fun f i => t.seen f i) (t.seen .ftPeriodNum) (t.seen .ftPeriodDen) (t.seen .layGuard) = true) (fun _ _ => [])
    (fun c s => s.stages c.session [(.ingEnable, c.u8 0, b2n (c.u8 1 != 0)), (.ingKind, c.u8 0, c.u8 1), (.ingDpPort, c.u8 0, c.u8 2),
      (.ingGroup, c.u8 0, c.u8 3), (.ingFeedMask, c.u8 0, c.u8 4),
      (.ingFormat, c.u8 0, if c.u8 1 = 1 then s.r .dprFormat (c.u8 2) else c.u8 5), (.ingWidth, c.u8 0, c.u16 6),
      (.ingHeight, c.u8 0, c.u16 8)]) ∧
  Completes 0x0502 .streamSetFrame (fun c s => c.u8 0 ≤ 15 ∧ s.r .ingKind (c.u8 0) = 2 ∧ c.u64 8 % 4096 = 0 ∧ c.u64 8 < 2 ^ 41 ∧
      s.freeing (c.u64 8) (s.streamBytes (c.u8 0)) = false) (fun _ _ => [])
    (fun c s => s.stageAddr (c.u8 0) (c.u64 8)) ∧
  Completes 0x0503 .streamPlayClip (fun c s =>
      let p : Playback := ⟨c.u64 8, c.u64 16, c.u32 4, c.u8 1, c.u8 2 != 0, c.u64 24⟩
      c.u8 0 ≤ 15 ∧ p.count ≠ 0 ∧ p.divider ≠ 0 ∧ s.streamBytes (c.u8 0) ≤ p.stride ∧
      s.freeing (p.range (s.streamBytes (c.u8 0))).1 (p.range (s.streamBytes (c.u8 0))).2 = false ∧ s.latchFrame (c.u8 0) ≤ p.start)
    (fun _ _ => [])
    (fun c s => s.setStream (c.u8 0) (fun x => { x with stagedPlay := some ⟨c.u64 8, c.u64 16, c.u32 4, c.u8 1, c.u8 2 != 0, c.u64 24⟩ })) ∧
  Completes 0x0503 .streamPlayClip (fun c s =>
      let p : Playback := ⟨c.u64 8, c.u64 16, c.u32 4, c.u8 1, c.u8 2 != 0, c.u64 24⟩
      c.u8 0 ≤ 15 ∧ p.count ≠ 0 ∧ p.divider ≠ 0 ∧ s.streamBytes (c.u8 0) ≤ p.stride ∧
      s.freeing (p.range (s.streamBytes (c.u8 0))).1 (p.range (s.streamBytes (c.u8 0))).2 = false ∧ p.start < s.latchFrame (c.u8 0))
    (fun _ _ => [])
    (fun c s => (s.setStream (c.u8 0) (fun x => { x with stagedPlay := some ⟨c.u64 8, c.u64 16, c.u32 4, c.u8 1, c.u8 2 != 0,
      max (c.u64 24 + 1) (s.latchFrame (c.u8 0))⟩ })).raise .ingLateCommit (c.u8 0)) ∧
  Completes 0x0504 .streamStop (fun c _ => c.u8 0 ≤ 15) (fun _ _ => []) (fun c s => s.setStream (c.u8 0) (fun x => { x with stop := true })) ∧
  (∀ b, Completes 0x0505 .dpSet (fun c s => s.bufOf (c.u32 4) = some b ∧ c.u8 0 ≤ 3 ∧ 3 ≤ c.u8 1 ∧ c.u8 1 ≤ 8 ∧
      c.u8 1 * ringFrame ≤ b.length ∧ b.deferred = false) (fun _ _ => [])
    (fun c s =>
      let a := (s.w .dprDpHold (c.u8 0) (min 10000 (c.u16 2))).setRing (c.u8 0) (fun r => { State.ring0 with
        handle := b.handle, csa := b.csa, bufs := c.u8 1, seq := r.seq, refresh := r.refresh, phy := r.phy })
      a.setRing (c.u8 0) (fun r => { r with writing := some (a.nextBuffer (c.u8 0) (c.u8 1 - 1)) }))) ∧
  Reads 0x0506 .dpGet (fun c _ => c.u8 0 ≤ 3) (fun c s => leBytes 4 (s.bar0 (0xC00 + 0x40 * c.u8 0)) ++
    leBytes 4 (s.bar0 (0xC00 + 0x40 * c.u8 0 + 4)) ++ leBytes 4 (s.bar0 (0xC00 + 0x40 * c.u8 0 + 8)))

/-- The commands of group 0x06 on the clip store (Table 3.14) run to their own effect. -/
def Obligations.ClipCommandsComplete : Prop :=
  Reads 0x0600 .clipInfo anyWay (fun _ s => leBytes 8 s.allocEnd ++
    leBytes 8 (s.allocEnd - tableEnd - (s.ing.bufs.map (·.length)).sum) ++ [byte (ones 2 (s.r .cxlLinkUp)), byte (s.r .cxlSplit)]) ∧
  (∀ a, Completes 0x0601 .clipAlloc (fun c s => s.fromHolder c = false ∧ s.freeRange (max 1 (ceilDiv (c.u64 0) 4096) * 4096) = some a)
    (fun _ s => leBytes 4 s.ing.nextHandle ++ leBytes 4 0 ++ leBytes 8 a)
    (fun c s => { s with ing := { s.ing with
      bufs := s.ing.bufs ++ [⟨s.ing.nextHandle, a, max 1 (ceilDiv (c.u64 0) 4096) * 4096, if c.req = .pcie then 0 else 1, false⟩]
      nextHandle := s.ing.nextHandle + 1 } })) ∧
  (∀ b, Completes 0x0602 .clipFree (fun c s => s.bufOf (c.u32 0) = some b ∧ s.servesMonitor b.handle = false ∧ s.bufPinned b = false) (fun _ _ => [])
    (fun _ s => s.freeBuf b.handle)) ∧
  (∀ b, Accepts 0x0602 .clipFree (fun c s => s.bufOf (c.u32 0) = some b ∧ s.servesMonitor b.handle = false ∧ s.bufPinned b = true) Status.pinned (fun _ _ => [])
    (fun _ _ => .clipFree b.handle)
    (fun _ s => { s with ing := { s.ing with
      bufs := s.ing.bufs.map (fun x => if x.handle = b.handle then { x with deferred := true } else x) } })) ∧
  (∀ l, Completes 0x0603 .clipWrite (fun c s => (s.bufAt (c.u64 8) (c.u32 16)).isSome = true ∧ s.clipOk (c.u64 8) (c.u32 16) = true ∧
      s.pinned (c.u64 8) (c.u32 16) = false ∧ s.hostRead c (c.u64 0) (c.u32 16) = some l) (fun _ _ => [])
    (fun c s => s.clipWrite (c.u64 8) l)) ∧
  Fetches 0x0604 .clipRead (fun c s => s.clipOk (c.u64 0) (c.u32 16) = true ∧ s.firstPoison (c.u64 0) (c.u32 16) = none) (fun c => c.u64 8)
    (fun c s => s.clipRead (c.u64 0) (c.u32 16)) (fun _ _ => []) ∧
  (∀ b, Reads 0x0605 .clipPins (fun c s => s.bufOf (c.u32 0) = some b)
    (fun _ s => leBytes 4 (s.pins.filter (meets b.csa b.length)).length ++ leBytes 4 (b2n b.deferred))) ∧
  Writes 0x0606 .clipSetWindow (fun c _ => c.u16 0 ≤ 511) (fun c => [(.cxlWindow, 0, c.u16 0)])

/-- The commands of group 0x07 (Table 6.10) run to their own effect. -/
def Obligations.ColourCommandsComplete : Prop :=
  Reads 0x0700 .colGet anyWay (fun _ s => s.words 0x1600 1 ++ leBytes 2 (s.seen .colSprofEn) ++ [0, 0] ++ s.words 0x1608 4 ++
    [byte (s.r .colDslew), 0, 0, 0] ++ s.words 0x161C 3) ∧
  Completes 0x0701 .colSet (fun c _ => c.u8 1 ≤ 15 ∧ c.u8 2 ≤ 15) (fun _ _ => [])
    (fun c s => (s.stages c.session [(.colDerateOn, 0, b2n (bit (c.u8 0) 0)), (.colDitherOn, 0, b2n (bit (c.u8 0) 1)),
      (.colEmitters4, 0, b2n (bit (c.u8 0) 2)), (.colGProfile, 0, c.u8 1), (.colPProfile, 0, c.u8 2), (.colSprofEn, 0, c.u16 4),
      (.colSprofLo, 0, c.u32 8), (.colSprofHi, 0, c.u32 12), (.colGainE0, 0, c.u16 16), (.colGainE1, 0, c.u16 18),
      (.colGainE2, 0, c.u16 20), (.colGainE3, 0, c.u16 22)]).w .colDslew 0 (max 1 (c.u8 3))) ∧
  (∀ l, Completes 0x0702 .coefLoad (fun c s => s.hostRead c (c.u64 0) (c.u32 8) = some l ∧ s.fileFault l = none ∧ s.inShow = false)
    (fun _ _ => leBytes 4 (getLE l 36 4) ++ leBytes 4 noByte)
    (fun c s => s.putCoef (getLE l 32 4) ((l.drop 64).take (getLE l 36 4)) (bit (c.u8 12) 0))) ∧
  (∀ l, Completes 0x0702 .coefLoad (fun c s => s.hostRead c (c.u64 0) (c.u32 8) = some l ∧ s.fileFault l = none ∧ s.inShow = true)
    (fun _ _ => leBytes 4 (getLE l 36 4) ++ leBytes 4 noByte)
    (fun c s => { s with lay := { s.lay with
      coefStaged := s.lay.coefStaged ++ [⟨getLE l 32 4, (l.drop 64).take (getLE l 36 4), bit (c.u8 12) 0, c.session⟩] } })) ∧
  Fetches 0x0703 .coefRead (fun c _ => c.u32 0 + c.u32 4 ≤ coefEnd) (fun c => c.u64 8)
    (fun c s => mread 0 s.col.store (c.u32 0) (c.u32 4)) (fun _ _ => []) ∧
  Reads 0x0704 .coefSave (fun _ s => s.col.saveRun.isSome = false ∧ s.dirtyBlocks = []) (fun _ _ => leBytes 4 0) ∧
  Awaits 0x0704 .coefSave (fun _ s => s.col.saveRun.isSome = false ∧ s.dirtyBlocks ≠ []) (fun _ _ => .flash)
    (fun _ s => State.flashAsk { s with col := { s.col with
      dirty := [], saveRun := some s.dirtyBlocks.length
      saving := s.col.saving ++ s.dirtyBlocks.map (fun b => ⟨64 * b, mread 0 s.col.store (64 * b) 64, true, 0⟩) } } .save) ∧
  Reads 0x0705 .coefCheck anyWay (fun _ s => leBytes 4 ((List.range (stagingBase / 64)).filter
    (fun b => s.flashBlock b != mread 0 s.col.store (64 * b) 64)).length ++ leBytes 4 (crc32c (mread 0 s.col.store 0 stagingBase))) ∧
  Reads 0x0706 .zoneGet (fun c _ => c.u8 0 ≤ 95) (fun c s => leBytes 2 (s.r .thmZoneTemp (c.u8 0)) ++
    [byte (s.r .thmZoneState (c.u8 0)), 0] ++ (List.range 4).flatMap (fun e => leBytes 2 (s.r (zoneField e) (c.u8 0))) ++
    (List.range 4).flatMap (fun e => leBytes 2 (s.zoneGoal (fun f i => s.r f i) (toInt 16 (s.r .thmZoneTemp (c.u8 0))) e)))

/-- The commands of group 0x08 (Table 7.8) stage their values (R128) or take effect at once. -/
def Obligations.ScanCommandsComplete : Prop :=
  Reads 0x0800 .scanGet anyWay (fun _ s => s.words 0x2000 7) ∧
  Completes 0x0801 .scanSetLanes (fun c _ => c.u8 0 ≤ 95 ∧ c.u8 1 ≤ 95 ∧ c.u8 0 ≤ c.u8 1 ∧ c.u8 2 ≤ 16 ∧ 1 ≤ c.u8 3 ∧ c.u8 3 ≤ 48)
    (fun _ _ => []) (fun c s => s.stages c.session (((List.range (c.u8 1 + 1 - c.u8 0)).map (c.u8 0 + ·)).flatMap (fun n =>
      [(.scnLaneDrivers, n, c.u8 2), (.scnLaneCpd, n, c.u8 3)]))) ∧
  Stages 0x0802 .scanSetTiming (fun c _ => 1 ≤ c.u8 0 ∧ c.u8 0 ≤ 16 ∧ 1 ≤ c.u8 1 ∧ c.u8 1 ≤ 64 ∧ c.u8 2 ≤ 7 ∧ c.u8 3 ≤ 3 ∧ 2 ≤ c.u8 4)
    (fun c => [(.scnGdivM1, 0, c.u8 0 - 1), (.scnMux, 0, c.u8 1), (.scnSegLog2, 0, c.u8 2), (.scnSubLog2, 0, c.u8 3),
      (.scnBlank, 0, c.u8 4), (.scnFf, 0, HostCmdFlag c 5), (.scnScanDelay, 0, c.u32 8)]) ∧
  Stages 0x0803 .scanSetFeed (fun c _ => c.u8 0 ≤ 7) (fun c => [(.scnFeedEnable, c.u8 0, HostCmdFlag c 1),
    (.scnFeedConfine, c.u8 0, HostCmdFlag c 2), (.scnFeedOffset, c.u8 0, c.u32 4), (.scnFeedPitch, c.u8 0, c.u32 8)]) ∧
  Stages 0x0804 .scanSetWindow (fun c _ => c.u8 0 ≤ 7 ∧ 1 ≤ c.u8 4 ∧ c.u8 4 ≤ 16 ∧ c.u8 7 ≤ 3) (fun c =>
    [(.winEnable, c.u8 0, HostCmdFlag c 1), (.winExclusive, c.u8 0, HostCmdFlag c 2), (.winFeedMask, c.u8 0, c.u8 3),
    (.winDivM1, c.u8 0, c.u8 4 - 1), (.winPhase, c.u8 0, c.u8 5), (.winGlCheck, c.u8 0, HostCmdFlag c 6), (.winGlInput, c.u8 0, c.u8 7),
    (.winOffset, c.u8 0, c.u32 8), (.winLength, c.u8 0, c.u32 12), (.winGlExpect, c.u8 0, c.u32 16)]) ∧
  Reads 0x0805 .scanPlan anyWay (fun _ s =>
    let v := overlay s.candidate (s.after s.lay.sets)
    let f := (scanFault v (s.mapOk v) (if s.inShow then some (s.after s.lay.sets) else none)).getD (0, 0, 0, 0)
    [byte f.1, byte f.2.1, byte f.2.2.1, byte f.2.2.2] ++ leBytes 4 (tSub v) ++ leBytes 4 (tLoad v) ++
      leBytes 2 ((startsOf v).filter (fun x => probeAllowed v x.1)).length ++ [0, 0] ++ leBytes 4 (refreshOf v)) ∧
  Completes 0x0806 .genlockSet (fun c _ => c.u8 0 ≤ 3) (fun _ _ => [])
    (fun c s => s.setGenlockIn (c.u8 0) (HostCmdFlag c 1) (HostCmdFlag c 2) (c.u16 4)) ∧
  Reads 0x0807 .genlockGet (fun c _ => c.u8 0 ≤ 3) (fun c s => leBytes 8 (s.r .genStamp (c.u8 0)) ++ leBytes 4 (s.r .genPeriod (c.u8 0)) ++
    leBytes 4 (s.r .genPhase (c.u8 0)) ++ leBytes 4 (s.r .genEdges (c.u8 0)) ++ leBytes 4 (s.r .genMisses (c.u8 0)) ++
    [byte (s.r .genPresent (c.u8 0) + 2 * s.r .genMissed (c.u8 0) + 4 * s.r .genGlitch (c.u8 0))]) ∧
  Writes 0x0808 .shutterSet (fun c _ => c.u8 0 ≤ 3 ∧ c.u8 2 ≤ 7) (fun c => [(.shuEnable, c.u8 0, HostCmdFlag c 1),
    (.shuWindow, c.u8 0, c.u8 2), (.shuActiveLow, c.u8 0, b2n (bit (c.u8 3) 0)), (.shuPulse, c.u8 0, b2n (bit (c.u8 3) 1)),
    (.shuStandby, c.u8 0, b2n (bit (c.u8 3) 2)), (.shuLead, c.u8 0, c.u32 4), (.shuWidth, c.u8 0, clampN 100 10000000 (c.u32 8))]) ∧
  Completes 0x0809 .scanSetTrim (fun c _ => c.u8 0 ≤ 11) (fun _ _ => []) (fun c s => s.setTrim (c.u8 0) (c.u16 2))

/-- The commands of group 0x09 (Table 8.10) run to their own effect; those that read a driver answer when its reply comes (R300). -/
def Obligations.LaneCommandsComplete : Prop :=
  Reads 0x0900 .laneGet (fun c _ => c.u8 0 ≤ 95) (fun c s => s.words (0x2900 + 4 * c.u8 0) 1 ++ leBytes 4 (s.lane (c.u8 0)).crcs.sum ++
    leBytes 4 (s.lane (c.u8 0)).lates.sum ++ leBytes 2 (s.lane (c.u8 0)).obeyB ++ leBytes 2 (s.lane (c.u8 0)).staleMask ++
    leBytes 2 (s.lane (c.u8 0)).foundMask) ∧
  Completes 0x0901 .laneRestart (fun c _ => c.u8 0 ≤ 95 ∧ c.u8 1 ≤ 95 ∧ c.u8 0 ≤ c.u8 1) (fun _ _ => [])
    (fun c s => (List.range 12).foldl State.pump
      (((List.range (c.u8 1 + 1 - c.u8 0)).map (c.u8 0 + ·)).foldl State.restartLane s)) ∧
  Completes 0x0902 .laneReg (fun c s => c.u8 0 ≤ 95 ∧ (c.u8 1 ≤ 15 ∨ c.u8 1 = allDrivers) ∧ c.u8 2 ≠ 0 ∧
      s.r .laneState (c.u8 0) = Lane.run ∧ ¬(0x08 ≤ c.u8 3 ∧ c.u8 3 ≤ 0x0A ∧ s.inShow = true)) (fun c _ => leBytes 4 (c.u32 4))
    (fun c s => s.regWrite (c.u8 0) (c.u8 1) (c.u8 3) (c.u32 4)) ∧
  Awaits 0x0902 .laneReg (fun c s => c.u8 0 ≤ 95 ∧ c.u8 1 ≤ 15 ∧ c.u8 2 = 0 ∧ s.r .laneState (c.u8 0) = Lane.run)
    (fun _ s => .reply s.lan.nextId)
    (fun c s => ({ s with lan := { s.lan with nextId := s.lan.nextId + 1 } } : State).enqueue
      (request (c.u8 0) (c.u8 1) 3 (c.u8 3) 0 s.lan.nextId)) ∧
  Stages 0x0903 .laneSetCurrent anyWay (fun c => [(.llCurrent, 0, c.u32 0)]) ∧
  Completes 0x0904 .laneSetCurmap (fun _ s => s.inShow = false) (fun _ _ => [])
    (fun c s => (s.puts [(.llCurmap, 0, c.u32 0), (.llCurmap, 1, c.u32 4), (.llCurmap, 2, c.u32 8)]).sendCurmap) ∧
  Completes 0x0905 .diagSet anyWay (fun _ _ => [])
    (fun c s =>
      let a := s.puts [(.dgnDiagOn, 0, HostCmdFlag c 0), (.dgnProbeOn, 0, HostCmdFlag c 1), (.llOpenTh, 0, c.u8 2), (.llShortTh, 0, c.u8 3)]
      (List.range 12).foldl State.pump { a with lan := { a.lan with cfgDue := true } }) ∧
  Reads 0x0906 .diagSummary anyWay (fun _ s => s.words 0x2B08 6 ++ s.words 0x2B04 1) ∧
  Fetches 0x0907 .diagReadMap (fun c _ => c.u32 0 % 16 = 0 ∧ c.u32 0 + c.u32 4 ≤ 1048576) (fun c => c.u64 8)
    (fun c s => (List.range ((c.u32 4 + 3) / 4)).map (fun k => s.statusByte (c.u32 0 / 4 + k)))
    (fun c _ => leBytes 4 ((c.u32 4 + 3) / 4)) ∧
  Completes 0x0908 .diagEvents (fun c s => s.hostOk (c.u64 0) = true)
    (fun c s => leBytes 2 (s.lan.events.take (c.u16 8)).length ++ [byte (s.r .dgnEventOverflow)])
    (fun c s => ({ s with lan := { s.lan with events := s.lan.events.drop (c.u16 8) } } : State).hostWrite c (c.u64 0)
      ((s.lan.events.take (c.u16 8)).flatMap (fun e => leBytes 4 (eventWord e)))) ∧
  Awaits 0x0909 .laneEcho (fun c s => c.u8 0 ≤ 95 ∧ c.u8 1 ≤ 15 ∧ s.r .laneState (c.u8 0) = Lane.run ∧ s.inShow = false)
    (fun _ s => .reply s.lan.nextId)
    (fun c s => ({ s with lan := { s.lan with nextId := s.lan.nextId + 1 } } : State).enqueue
      (request (c.u8 0) (c.u8 1) 5 (c.u32 4) 0 s.lan.nextId))

/-- The commands of group 0x0A (Table 11.12) run to their own effect. -/
def Obligations.RedundancyCommandsComplete : Prop :=
  Reads 0x0A00 .redGet anyWay (fun _ s => leBytes 4 (s.bar0 0x380C) ++ leBytes 2 (s.r .redHealth) ++ leBytes 2 (s.r .redTwinHealth) ++
    leBytes 4 (s.r .redTerm) ++ leBytes 2 (s.r .redEpoch) ++ leBytes 2 (s.r .redTwin) ++ leBytes 4 (s.r .redClaim) ++
    leBytes 4 (s.r .redTwinClaim) ++ leBytes 8 (s.r .redSelect) ++ leBytes 4 (s.r .redResilverLeft) ++ leBytes 2 s.controlNow) ∧
  Writes 0x0A01 .redSet (fun c _ => c.u8 0 ≤ 1 ∧ c.u8 1 ≤ 1 ∧ c.u8 2 ≠ 0 ∧ c.u8 3 ≠ 0 ∧ 2000 ≤ c.u16 4 ∧ 250 ≤ c.u16 6 ∧
      c.u16 6 ≤ c.u16 4 / 3 ∧ 1000 ≤ c.u16 8 ∧ c.u16 8 ≤ 10000 ∧ 5 ≤ c.u16 10 ∧ c.u16 10 ≤ 500 ∧ c.u16 12 ≤ 0x7FF ∧ c.u8 14 ≤ 1 ∧ c.u8 15 ≤ 1)
    (fun c => [(.redLeaseMode, 0, c.u8 0), (.redClaimMode, 0, c.u8 1), (.redClaimHold, 0, c.u8 2), (.redDwell, 0, c.u8 3),
      (.redLeaseUs, 0, c.u16 4), (.redRenewUs, 0, c.u16 6), (.redGuardUs, 0, c.u16 8), (.redPickWaitUs, 0, c.u16 10),
      (.redStanddownMask, 0, c.u16 12), (.redPairOn, 0, c.u8 14), (.redPairSide, 0, c.u8 15)]) ∧
  Awaits 0x0A02 .redHandover (fun _ s => s.red.lapsedAt ≠ some s.clk ∧ s.on .redHolder = true ∧ s.ftNs < s.red.leaseEnd ∧
    s.twinEligible = true)
    (fun _ _ => .handover) (fun _ s => s.yield_) ∧
  Reads 0x0A03 .redTakeover (fun _ s => s.isHead = true ∧ s.on .redHolder = true) (fun _ _ => []) ∧
  Awaits 0x0A03 .redTakeover (fun _ s => s.isHead = true ∧ s.on .redHolder = false ∧ s.twinHolds = false ∧ s.net.map = [] ∧ s.twinSeen = false)
    (fun _ _ => .takeover)
    (fun _ s =>
      let term := max (s.r .aonTerm) s.red.heardTerm + 1
      let a := s.puts [(.aonTerm, 0, term), (.redTerm, 0, term), (.redState, 0, Red.candidate)]
      { a with red := { a.red with takeFree := true, candidateAt := a.clk } }) ∧
  Awaits 0x0A03 .redTakeover (fun _ s => s.isHead = true ∧ s.on .redHolder = false ∧ s.twinHolds = false ∧ (s.net.map ≠ [] ∨ s.twinSeen = true))
    (fun _ _ => .takeover) (fun _ s => { s with red := { s.red with takeReq := true, degraded := !s.eligible && !s.twinSeen } }) ∧
  Completes 0x0A04 .redSetSelect (fun _ s => s.on .redHolder = true) (fun _ _ => []) (fun c s => (s.w .redSelect 0 (c.u64 0)).raiseClaim) ∧
  Completes 0x0A05 .redClaim (fun _ s => s.isHead = true)
    (fun _ s => leBytes 2 (s.raiseClaim.r .redEpoch) ++ [0, 0] ++ leBytes 4 (s.raiseClaim.r .redClaim)) (fun _ s => s.raiseClaim) ∧
  Reads 0x0A06 .redResilver (fun c _ => c.u8 0 = 0)
    (fun _ s => leBytes 4 (s.r .redResilverLeft) ++ leBytes 4 (s.r .redResilverLost) ++ [byte (s.r .redPasses)]) ∧
  Completes 0x0A06 .redResilver (fun c s => c.u8 0 = 1 ∧ s.isHead = true ∧ s.on .redHolder = false)
    (fun _ s => leBytes 4 (s.startResilver.r .redResilverLeft) ++ leBytes 4 (s.startResilver.r .redResilverLost) ++
      [byte (s.startResilver.r .redPasses)]) (fun _ s => s.startResilver)

/-- The commands of group 0x0B (Table 14.9) run to their own effect. -/
def Obligations.ThermalCommandsComplete : Prop :=
  Reads 0x0B00 .thmGet anyWay (fun _ s =>
    let zone := (s.hottest 1 (List.range 96)).getD 0
    let out := ((List.range 8).filter (fun i => !s.sensorOk 0 i)).length + ((List.range 96).filter (fun i => !s.sensorOk 1 i)).length
    s.words 0x5004 1 ++ leBytes 2 (((s.hottest 0 ((List.range 8).filter (s.sensorOk 0))).map (fun i => s.r .thmDieTemp i)).getD 0) ++
      leBytes 2 (s.r .thmZoneTemp zone) ++ [byte zone, byte out, 0, 0] ++ leBytes 4 (s.r .thmLevelEvents)) ∧
  Completes 0x0B01 .thmSet (fun c _ => c.u8 3 ≤ 7 ∧ (bit (c.u8 3) 0 = true → c.u8 0 ≤ 1 ∧ 1 ≤ c.u8 1 ∧ c.u8 1 ≤ 4)) (fun _ _ => [])
    (fun c s =>
      let a := if bit (c.u8 3) 0 then s.setLevel (levelIx (c.u8 0) (c.u8 1)) (some (HostCmdFlag c 2)) (some (c.u16 4)) else s
      let a := if bit (c.u8 3) 1 then a.w .thmTscaleDerate 0 (c.u16 6) else a
      if bit (c.u8 3) 2 then a.w .thmTscaleThrottle 0 (c.u16 8) else a) ∧
  Reads 0x0B02 .thmSensor (fun c _ => c.u8 0 ≤ 1 ∧ c.u8 1 < sensorsIn (c.u8 0) ∧ c.u8 2 = 0) (fun c s =>
    leBytes 2 (s.r (tempReg (c.u8 0)) (c.u8 1)) ++ [byte (s.r (stateReg (c.u8 0)) (c.u8 1)), 0] ++
    leBytes 2 (ofInt 16 (s.sensor (c.u8 0) (c.u8 1)).raw) ++ [0, 0] ++ leBytes 4 (s.sensor (c.u8 0) (c.u8 1)).samples) ∧
  (∀ a : HostCmd → State → State, (∀ c s, a c s = if c.u8 2 = 2 then s.readmitCmd (c.u8 0) (c.u8 1)
      else if s.r (stateReg (c.u8 0)) (c.u8 1) = 5 then s else s.cutSensor (c.u8 0) (c.u8 1) 5 false) →
    Completes 0x0B02 .thmSensor (fun c _ => c.u8 0 ≤ 1 ∧ c.u8 1 < sensorsIn (c.u8 0) ∧ (c.u8 2 = 1 ∨ c.u8 2 = 2))
      (fun c s =>
        let t := (if c.u8 0 = 1 then (a c s).refreshZones else a c s).showLevels (c.u8 0)
        leBytes 2 (t.r (tempReg (c.u8 0)) (c.u8 1)) ++ [byte (t.r (stateReg (c.u8 0)) (c.u8 1)), 0] ++
          leBytes 2 (ofInt 16 (t.sensor (c.u8 0) (c.u8 1)).raw) ++ [0, 0] ++ leBytes 4 (t.sensor (c.u8 0) (c.u8 1)).samples)
      (fun c s => (if c.u8 0 = 1 then (a c s).refreshZones else a c s).showLevels (c.u8 0))) ∧
  Completes 0x0B03 .thmNeighSet (fun c _ => c.u8 0 ≤ 95) (fun _ _ => [])
    (fun c s => (s.w .thmNeigh (c.u8 0) (getLE c.body 1 4)).substituteZones) ∧
  (∀ r : HostCmd → State → Run, (∀ c s, r c s = { retRun (c.u8 1) with
      kind := c.u8 0, when_ := c.u8 2, at_ := c.u64 8, cmd := some c, late := decide (c.u8 2 = 2) && decide (c.u64 8 ≤ s.ftNs) }) →
    Accepts 0x0B04 .calRun (fun c s => c.u8 1 < calItems (c.u8 0) ∧ c.u8 2 ≤ 2 ∧ (c.u8 2 = 2 → c.u64 8 ≤ s.ftNs + 600000000000) ∧
        (c.u8 0 = 5 → s.r .ftLockState = 2) ∧ (c.u8 2 = 0 → calDisturbs (c.u8 0) = true → s.calIdle (r c s) = true) ∧
        (s.thm.running.isSome = true ∨ s.calStarts (r c s) = false) ∧ s.thm.cals.length < 16) Status.accepted (fun _ _ => [])
      (fun _ _ => .cal) (fun c s => { s with thm := { s.thm with cals := s.thm.cals ++ [r c s] } }) ∧
    Accepts 0x0B04 .calRun (fun c s => c.u8 1 < calItems (c.u8 0) ∧ c.u8 2 ≤ 2 ∧ (c.u8 2 = 2 → c.u64 8 ≤ s.ftNs + 600000000000) ∧
        (c.u8 0 = 5 → s.r .ftLockState = 2) ∧ (c.u8 2 = 0 → calDisturbs (c.u8 0) = true → s.calIdle (r c s) = true) ∧
        s.thm.running.isSome = false ∧ s.calStarts (r c s) = true) Status.accepted (fun _ _ => []) (fun _ _ => .cal)
      (fun c s => s.startCal (r c s))) ∧
  Reads 0x0B05 .calRead (fun c _ => (c.u8 0 = 0 ∨ c.u8 0 = 2) ∧ c.u8 1 < itemsOf (c.u8 0)) (fun c s => (s.calRecord (c.u8 0) (c.u8 1)).bytes) ∧
  Completes 0x0B06 .calWrite (fun c _ =>
      let r := CalRec.ofBytes (getBytes c.body 0 32)
      (r.kind = 0 ∨ r.kind = 2) ∧ r.index < itemsOf r.kind) (fun _ _ => [])
    (fun c s => s.storeSeed (CalRec.ofBytes (getBytes c.body 0 32))) ∧
  Completes 0x0B07 .calRefSet anyWay (fun _ _ => [])
    (fun c s => (s.puts ((List.range 16).map (fun j => (.calRefComp, j, c.u16 (2 * j))))).freeRun)

/-- The firmware commands of group 0x0C (Table 15.10) run to their own effect. -/
def Obligations.FirmwareCommandsComplete : Prop :=
  Reads 0x0C00 .fwGet anyWay (fun _ s => leBytes 4 (s.bar0 0x5800) ++ leBytes 2 (s.r .fwuFloor) ++ leBytes 2 (s.r .fwuFloorTarget) ++
    leBytes 4 (s.r .fwuSecA) ++ leBytes 4 (s.r .fwuSecB) ++ leBytes 4 (s.r .fwuXferId) ++ leBytes 8 (s.r .fwuBlocksDone) ++
    s.image (s.r .fwuRunning) 32 12) ∧
  Completes 0x0C01 .fwBegin (fun c s => s.flashUp = true ∧ s.inTrial = false ∧ 1025 ≤ c.u32 4 ∧ c.u32 4 ≤ 4194304) (fun _ _ => [])
    (fun c s =>
      let a := (s.setBank s.receiver Bank.receiving 0xFFFFFFFF).puts [(.fwuXferId, 0, c.u32 0), (.fwuBlocksDone, 0, 0)]
      { a with fw := { a.fw with isOpen := true, length := c.u32 4, written := [], fails := [], status := 0, closed :=
        (if s.fw.isOpen then some (s.clk, s.r .fwuXferId) else none) } }) ∧
  (∀ l a n, Awaits 0x0C02 .fwWrite (fun c s => s.flashUp = true ∧ s.hostRead c (c.u64 16) (c.u32 8) = some l ∧
      s.writePiece (c.u32 0) (c.u32 4) l = (a, Status.ok, n)) (fun _ _ => .write Status.ok [])
    (fun _ _ => a.flashAsk .write)) ∧
  (∀ a n, Awaits 0x0C03 .fwWriteData (fun c s => s.flashUp = true ∧
      s.writePiece (c.u32 0) (c.u32 4) (getBytes c.body 8 32) = (a, Status.ok, n)) (fun _ _ => .write Status.ok [])
    (fun _ _ => a.flashAsk .write)) ∧
  Accepts 0x0C04 .fwSpread (fun c s => s.flashUp = true ∧ s.isHead = true ∧ c.u8 0 = 2 ∧ s.bank s.receiver = Bank.ready ∧
      c.u32 4 = s.r .fwuXferId ∧ s.fw.spread.isSome = false) Status.accepted (fun _ _ => []) (fun _ _ => .spread)
    (fun c s =>
      let n := blockCount (headLength (s.headerOf s.receiver))
      let a := s.spreadOn (s.broadcastPorts 4) s.receiver (c.u32 4) (none :: (List.range n).map some)
      { a with fw := { a.fw with spread := some ⟨2, c.u16 2, c.u32 4, a.clk, a.clk, []⟩ } }) ∧
  Accepts 0x0C04 .fwSpread (fun c s => s.flashUp = true ∧ s.isHead = true ∧ c.u8 0 = 0 ∧ s.bank s.receiver = Bank.ready ∧
      c.u32 4 = s.r .fwuXferId ∧ s.fw.spread.isSome = false) Status.accepted (fun _ _ => []) (fun _ _ => .spread)
    (fun c s =>
      let n := blockCount (headLength (s.headerOf s.receiver))
      let a := (none :: (List.range n).map some).foldl (fun a x =>
        let r := a.pieceRange s.receiver x
        a.sendPieceTo (c.u16 2) s.receiver (c.u32 4) r.1 r.2) s
      { a with fw := { a.fw with spread := some ⟨0, c.u16 2, c.u32 4, a.clk, a.clk, []⟩ } }) ∧
  Completes 0x0C05 .fwActivate (fun c s => s.flashUp = true ∧ s.activateStatus (c.u32 0) = Status.ok) (fun _ _ => [])
    (fun c s =>
      let bank := s.receiver
      let a := s.writeActRecord c (c.u32 0)
      let a := a.mbx.sessions.foldl (fun s x => s.lapse x 4) a
      let gone := a.mbx.scheduled
      let a : State := { a with mbx := { a.mbx with scheduled := [] } }
      let a := gone.foldl (fun s d => if d = c then s else s.final d Status.aborted) a
      let a := a.setBank bank Bank.trial (headSec (a.headerOf bank))
      (a.ws [(.aonFwuTrial, 1), (.aonFwuTrialBank, bank), (.aonFwuTrialXfer, c.u32 0), (.aonFwuFallbackSent, 0)]).askRestart true) ∧
  Awaits 0x0C06 .fwConfirm (fun c s => s.flashUp = true ∧ s.inTrial = true ∧ c.u32 0 = s.trialXfer ∧ s.fw.restartDue.isSome = false ∧
      s.revertsNow = false) (fun _ _ => .confirm) (fun _ s => s.flashAsk .write) ∧
  Completes 0x0C07 .fwRevert (fun c s => s.flashUp = true ∧ s.inTrial = true ∧ (c.u32 0 = 0 ∨ c.u32 0 = s.trialXfer)) (fun _ _ => [])
    (fun _ s => (s.completeAll (· == .confirm) Status.denied).endTrial.askRestart false) ∧
  Reads 0x0C07 .fwRevert (fun c s => s.flashUp = true ∧ (s.inTrial = false ∨ (c.u32 0 ≠ 0 ∧ c.u32 0 ≠ s.trialXfer))) (fun _ _ => []) ∧
  Completes 0x0C08 .fwFallbackReq (fun _ s => s.isHead = true ∧ s.on .redHolder = true) (fun _ _ => [])
    (fun c s => s.fallbackFor (c.u32 0) (c.u16 4))

/-- The settings commands of group 0x0C and the trace and test commands of group 0x0D (Tables 15.10, 16.6 and 5.11) run to their own
effect. -/
def Obligations.SettingsTraceTestCommandsComplete : Prop :=
  Fetches 0x0C09 .settingsGet (fun c s => c.u8 12 = 1 ∧ s.slotLength (1 - s.readSlot.elim s.fw.slot (·.1)) ≤ c.u32 8) (fun c => c.u64 0)
    (fun _ s => hideKey (s.flashRead (slotBase (1 - s.readSlot.elim s.fw.slot (·.1))) (s.slotLength (1 - s.readSlot.elim s.fw.slot (·.1)))))
    (fun _ s => leBytes 4 (s.slotLength (1 - s.readSlot.elim s.fw.slot (·.1)))) ∧
  Fetches 0x0C09 .settingsGet (fun c s => c.u8 12 = 0 ∧ s.slotLength (s.readSlot.elim s.fw.slot (·.1)) ≤ c.u32 8) (fun c => c.u64 0)
    (fun _ s => hideKey (s.flashRead (slotBase (s.readSlot.elim s.fw.slot (·.1))) (s.slotLength (s.readSlot.elim s.fw.slot (·.1)))))
    (fun _ s => leBytes 4 (s.slotLength (s.readSlot.elim s.fw.slot (·.1)))) ∧
  (∀ l x, Awaits 0x0C0A .settingsPut (fun c s => s.flashUp = true ∧ s.inTrial = false ∧ s.hostRead c (c.u64 0) (c.u32 8) = some l ∧
      l.length ≤ slotSize ∧ parseSlot l = some x ∧ x.parses = true ∧ s.r .fwuSettingsMin ≤ x.format ∧ x.format ≤ s.r .fwuSettingsFormat)
    (fun _ _ => .write Status.ok [])
    (fun _ s =>
      let k := 1 - s.fw.slot % 2
      let a := (s.flashErase (slotBase k) slotSize).flashWrite (slotBase k) (slotBytes x.format (s.fw.slotSeq + 1) false x.records)
      State.flashAsk { a with fw := { a.fw with slot := k, slotSeq := a.fw.slotSeq + 1 } } .write)) ∧
  Awaits 0x0C0B .settingsSave (fun _ s => s.flashUp = true ∧ s.saveRuns = false ∧ (s.inTrial = false ∨ s.fw.records.all recordOk = true))
    (fun _ s => .write Status.ok (leBytes 4 (32 + (s.recordsNow.flatMap recordBytes).length)))
    (fun _ s => (s.writeSlot s.recordsNow).flashAsk .write) ∧
  Completes 0x0D40 .traceSet (fun c _ => 16 ≤ c.u16 4 ∧ c.u16 4 ≤ 256 ∧ c.u16 4 % 16 = 0) (fun _ _ => [])
    (fun c s => (s.puts [(.clvClassMask, 0, if bit (c.u8 1) 7 then c.u8 1 else c.u8 1 + 128), (.clvStopWhenFull, 0, HostCmdFlag c 2),
      (.clvTraceVc3, 0, HostCmdFlag c 3), (.clvTraceDest, 0, c.u16 6 % 4096)]).setTrace (HostCmdFlag c 0) (c.u16 4)) ∧
  Fetches 0x0D41 .traceRead (fun c s => c.u32 12 ≤ s.traceCap) (fun c => c.u64 0)
    (fun c s => (List.range (min (c.u32 12) (s.r .clvWritten - c.u32 8))).flatMap (fun i =>
      mread 0 s.clv.trace ((c.u32 8 + i) % max 1 s.traceCap * 16) 16))
    (fun c s => leBytes 4 (s.r .clvWritten) ++ leBytes 4 (c.u32 8 + min (c.u32 12) (s.r .clvWritten - c.u32 8)) ++ leBytes 4 (s.r .clvLost)) ∧
  Completes 0x0D42 .pseSetService (fun c s => ¬(c.u16 0 % 4096 = 0 ∧ s.inShow = true)) (fun _ _ => []) (fun c s => s.setService (c.u16 0 % 4096)) ∧
  (∀ r : HostCmd → State → Run, (∀ c s, r c s = { retRun (c.u8 1) with
      kind := c.u8 0, when_ := c.u8 2, at_ := c.u64 8, cmd := some c, late := decide (c.u8 2 = 2) && decide (c.u64 8 ≤ s.ftNs) }) →
    Accepts 0x0D00 .tstRun (fun c s => c.u8 1 < testItems (c.u8 0) ∧ (c.u8 2 = 1 ∨ c.u8 2 = 2) ∧
        (c.u8 2 = 2 → c.u64 8 ≤ s.ftNs + 600000000000) ∧ s.runStarts (r c s) = false ∧ s.thm.tests.length < 16)
      Status.accepted (fun _ _ => []) (fun _ _ => .test) (fun c s => { s with thm := { s.thm with tests := s.thm.tests ++ [r c s] } }) ∧
    Accepts 0x0D00 .tstRun (fun c s => c.u8 1 < testItems (c.u8 0) ∧ c.u8 2 ≤ 2 ∧ (c.u8 2 = 2 → c.u64 8 ≤ s.ftNs + 600000000000) ∧
        s.runStarts (r c s) = true)
      Status.accepted (fun _ _ => []) (fun _ _ => .test) (fun c s => s.startRunT (r c s))) ∧
  (∀ r : HostCmd → State → Run, (∀ c s, r c s = { retRun (c.u8 1) with
      isLoop := true, kind := c.u8 0, code := c.u8 2, when_ := c.u8 3, at_ := c.u64 8, duration := c.u32 4, driver := c.u8 16, cmd := some c,
      late := decide (c.u8 3 = 2) && decide (c.u64 8 ≤ s.ftNs) }) →
    Accepts 0x0D01 .tstLoop (fun c s => s.loopOk (c.u8 0) (c.u8 1) (c.u8 2) = true ∧ (c.u8 3 = 1 ∨ c.u8 3 = 2) ∧
        (c.u8 3 = 2 → c.u64 8 ≤ s.ftNs + 600000000000) ∧ 1 ≤ c.u32 4 ∧ c.u32 4 ≤ 60000 ∧ (c.u8 0 = 1 → c.u8 2 = 3 → c.u8 16 ≤ 15) ∧
        (c.u8 0 = 0 → c.u8 2 = 3 → s.partnerAllows (c.u8 1) = true) ∧ s.runStarts (r c s) = false ∧ s.thm.tests.length < 16)
      Status.accepted (fun _ _ => []) (fun _ _ => .test) (fun c s => { s with thm := { s.thm with tests := s.thm.tests ++ [r c s] } }) ∧
    Accepts 0x0D01 .tstLoop (fun c s => s.loopOk (c.u8 0) (c.u8 1) (c.u8 2) = true ∧ c.u8 3 ≤ 2 ∧
        (c.u8 3 = 2 → c.u64 8 ≤ s.ftNs + 600000000000) ∧ 1 ≤ c.u32 4 ∧ c.u32 4 ≤ 60000 ∧ (c.u8 0 = 1 → c.u8 2 = 3 → c.u8 16 ≤ 15) ∧
        (c.u8 0 = 0 → c.u8 2 = 3 → s.partnerAllows (c.u8 1) = true) ∧ s.runStarts (r c s) = true)
      Status.accepted (fun _ _ => []) (fun _ _ => .test) (fun c s => s.startRunT (r c s))) ∧
  Reads 0x0D02 .tstResult (fun c _ => c.u8 0 ≤ 15) (fun c s => match s.thm.results[c.u8 0]? with
    | some r => r.bytes
    | none => List.replicate 32 0) ∧
  Fetches 0x0D03 .tstCounters anyWay (fun c => c.u64 0)
    (fun c s => (counterOffsets.take (c.u32 8 / 8)).flatMap (fun o => leBytes 4 o ++ leBytes 4 (s.bar0 o)))
    (fun c s => leBytes 4 (counterOffsets.take (c.u32 8 / 8)).length ++ leBytes 8 s.ftNs) ∧
  Writes 0x0D04 .frostExpect (fun c _ => c.u8 0 ≤ 7) (fun c => [(.tstExpect, c.u8 0, c.u32 4), (.tstCheckOn, c.u8 0, HostCmdFlag c 1)])

/-- The commands of groups 0x0E and 0x0F (Table 13.12) run to their own effect. -/
def Obligations.PowerResetCommandsComplete : Prop :=
  Reads 0x0E00 .pwrGet anyWay (fun _ s => [byte (s.r .sysPstate), byte (b2n s.minHolds + 2 * b2n s.tileHolds + 4 * b2n s.headHolds),
    byte (s.r .rstAutoShow), 0] ++ leBytes 8 ((s.missing s.roleDomains).foldl (fun m d => m + 2 ^ d) 0) ++ leBytes 8 s.boot.lastChange) ∧
  Accepts 0x0E01 .pwrSet (fun c s => c.u8 0 = 4 ∧ (s.inStandby = true ∨ (s.inShow = true ∧ s.boot.leaveShow = true)) ∧ s.roleHolds = true ∧ s.darkTest = false ∧
      s.on .thmShutdownHold = false) Status.accepted (fun _ _ => []) (fun c s => .show_ (max (c.u64 8) s.nextFrame))
    (fun c s => (s.completeAll isShowWait Status.aborted).setAutoShow (c.u8 1)) ∧
  Completes 0x0E01 .pwrSet (fun c s => c.u8 0 = 3 ∧ s.inShow = true) (fun _ _ => [])
    (fun c s => ((s.completeAll isShowWait Status.aborted).setAutoShow (c.u8 1)).goTo false) ∧
  Completes 0x0E01 .pwrSet (fun c s => c.u8 0 = 2 ∧ s.inShow = true) (fun _ _ => [])
    (fun c s => ((s.completeAll isShowWait Status.aborted).setAutoShow (c.u8 1)).goTo true) ∧
  Completes 0x0E01 .pwrSet (fun c s => (c.u8 0 = 4 ∧ s.inShow = true ∧ s.boot.leaveShow = false) ∨
      (c.u8 0 = 3 ∧ s.inShow = false ∧ s.inStandby = true) ∨ (c.u8 0 = 2 ∧ s.inShow = false ∧ s.inStandby = false)) (fun _ _ => [])
    (fun c s => (s.completeAll isShowWait Status.aborted).setAutoShow (c.u8 1)) ∧
  Completes 0x0E01 .pwrSet (fun c s => c.u8 0 = 2 ∧ s.inShow = false ∧ s.inStandby = true) (fun _ _ => [])
    (fun c s => ((s.completeAll isShowWait Status.aborted).setAutoShow (c.u8 1)).enterState 2) ∧
  Completes 0x0E01 .pwrSet (fun c s => c.u8 0 = 3 ∧ s.inShow = false ∧ s.inStandby = false ∧ s.roleHolds = true ∧
      (s.boot.reached = 0x1F ∨ s.on .sysRoleActive = true)) (fun _ _ => [])
    (fun c s => ((s.completeAll isShowWait Status.aborted).setAutoShow (c.u8 1)).enterState 3) ∧
  Reads 0x0F00 .rstGet anyWay (fun _ s =>
    [0x100, 0x108, 0x10C, 0x118, 0x110, 0x114, 0x200, 0x204, 0x208, 0x210].flatMap (fun o => leBytes 4 (s.bar0 o))) ∧
  Completes 0x0F01 .rstNode (fun c _ => c.u8 0 ≤ 1) (fun _ _ => [])
    (fun c s => { s with boot := { s.boot with rstDue := some (s.rstSoon (c.u8 0)) } }) ∧
  Completes 0x0F02 .rstBlock (fun c s => (s.writeBlocks (c.req == .pcie) (c.u32 0) (c.u32 4)).1 = Status.ok) (fun _ _ => [])
    (fun c s => (s.writeBlocks (c.req == .pcie) (c.u32 0) (c.u32 4)).2) ∧
  Accepts 0x0F02 .rstBlock (fun c s => (s.writeBlocks (c.req == .pcie) (c.u32 0) (c.u32 4)).1 = Status.accepted) Status.accepted
    (fun _ _ => []) (fun _ _ => .block) (fun c s => (s.writeBlocks (c.req == .pcie) (c.u32 0) (c.u32 4)).2) ∧
  (∀ l, Reads 0x0F03 .aonRead (fun c s => s.aonBytes (c.u8 0) (c.u16 2) (c.u8 4) = some l) (fun _ _ => l)) ∧
  Completes 0x0F04 .aonWrite (fun c _ => c.u8 4 ≠ 0 ∧ c.u8 4 ≤ 32 ∧ c.u8 0 = 0 ∧ 0x20 ≤ c.u16 2 ∧ c.u16 2 + c.u8 4 ≤ 0x40) (fun _ _ => [])
    (fun c s => (getBytes c.body 8 (c.u8 4)).zipIdx.foldl (fun s p => s.scratchByte (c.u16 2 - 0x20 + p.2) p.1) s) ∧
  Completes 0x0F04 .aonWrite (fun c _ => c.u8 4 ≠ 0 ∧ c.u8 4 ≤ 32 ∧ c.u8 0 = 1 ∧ 0xC00 ≤ c.u16 2 ∧ c.u16 2 + c.u8 4 ≤ 0x1000) (fun _ _ => [])
    (fun c s => { s with boot := { s.boot with retained := mwrite 0 s.boot.retained (c.u16 2) (getBytes c.body 8 (c.u8 4)) } }) ∧
  Completes 0x0F05 .bootClear anyWay (fun _ _ => []) (fun _ s => { s with boot := { s.boot with clearDue := true } })

/-! ### Events -/

/-- A node without power, halted or held by a boundary-scan instruction does nothing (R511, R590): only supply and VBAK changes, the reset
pin and JTAG reach it. -/
def Obligations.StoppedNodeDoesNothing : Prop :=
  ∀ i s, s.running = false →
    (match i with
     | .backupEnter | .vbakLoss | .powerOnReset _ _ _ | .powerOnResetAssert | .pinReset _ _ | .jtagInstruction _ => False
     | _ => True) → exec i s = .next s.begun

/-- Host accesses of the register and memory BARs, where the PCIe link is up and nothing keeps them from their effect: register writes of
each size (R487), the latching reads (R49), the completion ring's head (R456), the frame address (R106, R465), the clip store with its pins
and poison (R92, R113), the diagnosis events (R494) and the trace control. -/
def Obligations.BarAccessesComplete : Prop :=
  (∀ off n v, n < 4 → Does (.bar0Write off n v) (fun s => s.pcieUp = true) (fun s => s.raise .mbxBarNarrow)) ∧
  (∀ off v, off % 4 = 0 → Does (.bar0Write off 4 v) (fun s => s.pcieUp = true) (fun s => s.hostWord off (v % 2 ^ 32))) ∧
  (∀ off v, off % 4 = 0 → Does (.bar0Write off 8 v) (fun s => s.pcieUp = true)
    (fun s => (s.hostWord off (v % 2 ^ 32)).hostWord (off + 4) (v / 2 ^ 32 % 2 ^ 32))) ∧
  Does .ftNowRead (fun s => s.pcieUp = true)
    (fun s => ({ s with mbx := { s.mbx with ftLatch := s.time.ft } } : State).emit (.readData (leBytes 4 s.ftNs))) ∧
  (∀ off, isLowWord off = true → Does (.lowWordRead off) (fun s => s.pcieUp = true)
    (fun s => (s.readWord off).2.emit (.readData (leBytes 4 (s.readWord off).1)))) ∧
  (∀ v, Does (.cqHeadWrite v) (fun s => s.pcieUp = true ∧ s.mbx.heldFinals = []) (fun s => s.w .mbxCqHead 0 v)) ∧
  (∀ v, Does (.cqHeadWrite v) (fun s => s.pcieUp = true) (fun s => State.drain s.mbx.heldFinals.length (s.w .mbxCqHead 0 v))) ∧
  (∀ i v, i ≤ 15 → Does (.fraddrWrite i v) (fun s => s.pcieUp = true ∧ s.held 0 = false ∧ s.lockedAt 0x808 = false)
    (fun s => s.store true .ingFraddr i (v % 2 ^ 41))) ∧
  (∀ off l csa, Does (.bar4Write off l) (fun s => s.pcieUp = true ∧ s.bar4Csa off l.length = some csa ∧ s.pinned csa l.length = false)
    (fun s => s.clipWrite csa l)) ∧
  (∀ off l csa, Does (.bar4Write off l) (fun s => s.pcieUp = true ∧ s.bar4Csa off l.length = some csa ∧ s.pinned csa l.length = true)
    (fun s => ((s.w .cxlPinLogCsa 0 csa).count .cxlPinRefusals).emit (.pcieError 0))) ∧
  (∀ off n csa, Does (.bar4Read off n) (fun s => s.pcieUp = true ∧ s.bar4Csa off n = some csa ∧ s.firstPoison csa n = none)
    (fun s => s.emit (.readData (s.clipRead csa n)))) ∧
  (∀ off n, Does (.bar4Read off n) (fun s => s.pcieUp = true ∧ s.bar4Csa off n = none) (fun s => s.emit (.pcieError 1))) ∧
  Does .diagEventRead (fun s => s.pcieUp = true ∧ s.held 10 = false) (fun s =>
    let t := s.emit (.readData (leBytes 4 (s.bar0 0x2B20)))
    { t with lan := { t.lan with events := t.lan.events.drop 1 } }) ∧
  (∀ off v, off = 0x1440 ∨ off = 0x1444 → Does (.traceCtrlWrite off v) (fun s => s.pcieUp = true)
    (fun s => s.writeWord 0 true (s.lockedAt off) off 0xFFFFFFFF (v % 2 ^ 32)))

/-- Writes that restart a port (R333) or reset the node or its blocks (R489, R497), where no session locks them out (R465) and no held
block is named (R494); a key that is wrong resets nothing. -/
def Obligations.ResetWritesComplete : Prop :=
  (∀ p, p < 4 → Does (.restart p) (fun s => s.pcieUp = true ∧ s.held (4 + p) = false ∧ s.holderOf 6 = none) (fun s => s.restartPort p)) ∧
  (∀ p, p < 4 → Does (.restart p) (fun s => s.pcieUp = true ∧ s.held (4 + p) = true) (fun s => s.raise .rstRetry)) ∧
  (∀ p, p < 4 → Does (.restart p) (fun s => s.pcieUp = true ∧ s.held (4 + p) = false ∧ s.holderOf 6 ≠ none) (fun s => s.raise .mbxBarLocked)) ∧
  (∀ k, k % 65536 = 0xD96A → Does (.rstCtrlNode k) (fun s => s.pcieUp = true ∧ s.holderOf 10 = none) (fun s => s.resetNode 0x10 false)) ∧
  (∀ k, k % 65536 ≠ 0xD96A → Does (.rstCtrlNode k) (fun s => s.pcieUp = true ∧ s.holderOf 10 = none) id) ∧
  (∀ k, k % 65536 = 0xD96A → Does (.rstCtrlWarm k) (fun s => s.pcieUp = true ∧ s.holderOf 10 = none) (fun s => s.resetNode 0x20 true)) ∧
  (∀ k, k % 65536 ≠ 0xD96A → Does (.rstCtrlWarm k) (fun s => s.pcieUp = true ∧ s.holderOf 10 = none) id) ∧
  (∀ v, Does (.rstBlockWrite v) (fun s => s.pcieUp = true ∧ s.holderOf 10 = none) (fun s => (s.writeBlocks true 0x3FFF v).2)) ∧
  (∀ t, Does .warmReset (fun s => s.boot.rstDue = some (1, t) ∧ t ≤ s.clk) (fun s => s.resetNode 0x20 true)) ∧
  (∀ t, Does .warmReset (fun s => s.boot.rstDue = some (1, t) ∧ s.clk < t) id)

/-- R451: a doorbell posts each slot it names, in ascending order, and sets its busy bit; one for a busy slot is ignored and sets
doorbell_busy. A command posted whose opcode the spec does not name is answered UNSUPPORTED, and one that it names waits for its row
(R484). During a firmware restart doorbells are held (R561). -/
def Obligations.DoorbellPostsSlots : Prop :=
  (∀ m, Does (.mbxDoorbell m) (fun s => s.held 2 = false ∧ s.mbx.pathsUp = true ∧ (s.isHead = true ∨ s.inMin = true) ∧ s.fw.restartAt = none)
    (fun s => (((List.range 32).filter (bit m)).foldl State.postSlot s).answerUnknown)) ∧
  (∀ (n : Nat) (s : State), n < 32 → bit (s.r .mbxBusy) n = false →
    bit ((s.postSlot n).r .mbxBusy) n = true ∧ (∀ k, k ≠ n → k < 32 → bit ((s.postSlot n).r .mbxBusy) k = bit (s.r .mbxBusy) k) ∧
    (s.postSlot n).mbx.posted = s.mbx.posted ++ [HostCmd.ofBytes .pcie n 0 (mread 0 s.mbx.slots (0x80 * n) 64)] ∧
    (∀ f i, f ≠ .mbxBusy → (s.postSlot n).r f i = s.r f i) ∧ (s.postSlot n).rest = s.rest) ∧
  (∀ (n : Nat) (s : State), bit (s.r .mbxBusy) n = true → Flagged s (s.postSlot n) .mbxDoorbellBusy ∧ (s.postSlot n).mbx = s.mbx ∧
    (∀ f i, f ≠ .mbxDoorbellBusy → f ≠ .mbxEvents → (s.postSlot n).r f i = s.r f i) ∧ (s.postSlot n).rest = s.rest) ∧
  (∀ m, Does (.mbxDoorbell m) (fun s => s.held 2 = false ∧ s.mbx.pathsUp = true ∧ (s.isHead = true ∨ s.inMin = true) ∧ s.fw.restartAt ≠ none)
    (fun s => { s with mbx := { s.mbx with heldBells := s.mbx.heldBells ||| m % 2 ^ 32 } })) ∧
  (∀ c s, Direct c.opcode c s → opcodeNamed c.opcode = false → s.mbx.posted = [c] →
    let t := ({ s with out := [] } : State).answerUnknown
    Sent c t (finalOf c t Status.unsupported [] c.session) ∧ OnlyFields c (s.taken c) t [] []) ∧
  (∀ s : State, (∀ c ∈ s.mbx.posted, opcodeNamed c.opcode = true) → s.answerUnknown = s)

/-- Supply and reset events: VBAK and VDD (R15, R602), power-on and its straps (R3), brown-out, the reset pin (R608), the watchdog (R491)
and lock-ups (Tables 13.1 and 13.2). -/
def Obligations.SupplyAndResetEventsComplete : Prop :=
  (∀ s, s.boot.supply = .off → exec .backupEnter s = .next { s.begun.w .sysPstate 0 1 with
    boot := { s.boot with vbakUp := true, supply := .backup } }) ∧
  (∀ s, s.boot.supply ≠ .off → exec .backupEnter s = .next { s.begun with boot := { s.boot with vbakUp := true } }) ∧
  (∀ s, s.boot.supply = .on → exec .vbakLoss s = .next { s.begun.loseAon with boot := { s.begun.loseAon.boot with vbakUp := false, vbakLost := true } }) ∧
  (∀ s, s.boot.supply = .backup → exec .vbakLoss s = .next { s.begun.loseAon.w .sysPstate 0 0 with
    boot := { s.begun.loseAon.boot with vbakUp := false, vbakLost := true, supply := .off } }) ∧
  (∀ s, s.boot.supply = .on → s.boot.vbakUp = true → exec .powerOnResetAssert s = .next
    ({ s.begun.noteInterrupted.emit .laneIdle with
      boot := { s.begun.noteInterrupted.boot with supply := .backup, otpLoading := false } }.w .sysPstate 0 1)) ∧
  (∀ s, s.boot.supply = .on → s.boot.vbakUp = false → exec .powerOnResetAssert s = .next
    ({ s.begun.noteInterrupted.loseAon.emit .laneIdle with
      boot := { s.begun.noteInterrupted.loseAon.boot with supply := .off, otpLoading := false } }.w .sysPstate 0 0)) ∧
  (∀ s, s.boot.supply ≠ .on → exec .powerOnResetAssert s = .next s.begun) ∧
  (∀ also, Does (.brownOutReset also) (fun _ => True) (fun s => s.resetNode (2 ||| also % 512) false)) ∧
  (∀ low also s, 1000 ≤ low → s.boot.supply = .on → s.on .tstBscan = false → exec (.pinReset low also) s = .next
    (({ s.begun with boot := { s.boot with halted := false } } : State).resetNode (4 ||| also % 512) false)) ∧
  (∀ low also s, low < 1000 → exec (.pinReset low also) s = .next s.begun) ∧
  Does (.watchdogExpire false) (fun s => s.on .rstWdEn = true ∧ s.thm.cpHalted = false ∧
    s.boot.serviced + 1000000 * s.r .rstWdMs ≤ s.clk) (fun s => s.resetNode 8 false) ∧
  Does (.watchdogExpire true) (fun _ => True) (fun s => { s with boot := { s.boot with serviced := s.clk } }) ∧
  Does (.lockupReset .noRetire) (fun s => s.thm.cpHalted = false) (fun s => s.resetNode 0x100 false) ∧
  (∀ cause, cause ≠ .noRetire → Does (.lockupReset cause) (fun _ => True) (fun s =>
    ({ s with boot := { s.boot with retained := mwrite 0 s.boot.retained 0x400 (leBytes 4 1) } } : State).resetNode 0x100 false)) ∧
  (∀ role te ch s, s.boot.supply ≠ .on → Instr.powerOnResetAssert ∉ s.sameCycle → ∃ t, exec (.powerOnReset role te ch) s = .next t ∧ t.boot.supply = .on ∧ t.boot.halted = false ∧
    t.r .sysRoleStrap = (if ch then 3 else role % 4) ∧ t.r .sysTestEn = b2n te ∧ t.lay.graphic = [] ∧ t.lay.pstore = [] ∧ t.col.store = [] ∧
    t.r .rstCause = 1 ∧ t.pending = s.pending) ∧
  (∀ role te ch s, s.boot.supply = .on ∨ Instr.powerOnResetAssert ∈ s.sameCycle → exec (.powerOnReset role te ch) s = .next s.begun)

/-- Clock, rail and boot events: a failed clock and its return (R32, R492 to R496), low rails (R603), PWR_GOOD_IN (R609), the OTP load
(R500 to R502), boot steps that end, time out or are tried again (R504 to R509), auto_show (R515) and a role set that no longer holds
(R513). -/
def Obligations.ClockAndBootEventsComplete : Prop :=
  (∀ d, d < 39 → Does (.clockFailureReset d) (fun s => s.good d = true) (fun s => s.failDomain d)) ∧
  (∀ d, Does (.clockFailureReset d) (fun s => s.good d = false) id) ∧
  (∀ b, b < 14 → Does (.pendingReleaseComplete b) (fun s => bit (s.r .rstPending) b = true ∧ s.blockRuns b = true) (fun s => s.freeBlock b)) ∧
  (∀ b t, Does (.pendingReleaseTimeout b) (fun s => s.boot.pendings.find? (fun p => p.1 = b) = some (b, t) ∧ t + 1000000 ≤ s.clk ∧
      s.blockRuns b = false ∧ s.stillMissing b ≠ [])
    (fun s => (s.stillMissing b).foldl State.failDomain (s.holdBlock b))) ∧
  (∀ b t, Does (.pendingReleaseTimeout b) (fun s => s.boot.pendings.find? (fun p => p.1 = b) = some (b, t) ∧ t + 1000000 ≤ s.clk ∧
      s.blockRuns b = false ∧ s.stillMissing b = []) id) ∧
  (∀ b t, Does (.pendingReleaseTimeout b) (fun s => s.boot.pendings.find? (fun p => p.1 = b) = some (b, t) ∧ t + 1000000 ≤ s.clk ∧
      s.blockRuns b = true) (fun s => s.freeBlock b)) ∧
  (∀ d, d < 20 → Does (.clockSourceRetry d true) (fun s => s.good d = false ∧ s.retryDue d = true) (fun s =>
    let t := s.noteTry d true
    (((failureBlocks d).filter (fun b => bit (t.r .rstBlock) b)).foldl State.releaseBlock (t.setGood d true)).settleReleases.noteRole)) ∧
  (∀ d, d < 20 → Does (.clockSourceRetry d false) (fun s => s.retryDue d = true) (fun s => s.noteTry d false)) ∧
  (∀ d g, d ≠ 39 → Does (.clockSourceRetry d g) (fun s => s.retryDue d = false) id) ∧
  (∀ n f, railLowFlag n = some f → Does (.railLow n) (fun _ => True)
    (fun s => { s.raise f with boot := { (s.raise f).boot with railsLow := setBit s.boot.railsLow n true } })) ∧
  (∀ b n, n < 1000 → Does (.pwrGoodChange b n) (fun _ => True) id) ∧
  (∀ n, 1000 ≤ n → Does (.pwrGoodChange true n) (fun s => s.isHead = false) (fun s => s.w .sysPwrGood 0 1)) ∧
  (∀ n, 1000 ≤ n → Does (.pwrGoodChange false n) (fun s => s.isHead = false)
    (fun s => (s.w .sysPwrGood 0 0).raiseIf (s.r .sysPwrGood == 1) .sysPwrFail)) ∧
  (∀ n, 1000 ≤ n → Does (.pwrGoodChange true n) (fun s => s.isHead = true) (fun s => (s.w .sysPwrGood 0 1).setHealth 0 false)) ∧
  (∀ n, 1000 ≤ n → Does (.pwrGoodChange false n) (fun s => s.isHead = true) (fun s =>
    let t : State := ((s.w .sysPwrGood 0 0).raiseIf (s.r .sysPwrGood == 1) .sysPwrFail).setHealth 0 true
    let t : State := { t with red := { t.red with powerFell := some t.clk } }
    if t.on .redHolder ∧ t.r .redLeaseMode = 0 then t.yield_ else t)) ∧
  Does (.otpLoadDone true) (fun s => s.boot.otpLoading = true ∧ s.boot.otpAt + 327680 ≤ s.clk ∧ s.sameCycle.any s.resetBy = false) (fun s =>
    let t := s.puts [(.aonInterrupted, 0, 0), (.rstTrimsValid, 0, 1), (.rstTrimBad, 0, 0), (.rstOtpCopy, 0, s.boot.otpCopy)]
    (({ t with boot := { t.boot with otpLoading := false } } : State).passStep 4 0).goOn 4) ∧
  Does (.otpLoadDone false) (fun s => s.boot.otpLoading = true ∧ s.boot.otpCopy = 0 ∧ s.boot.otpAt + 327680 ≤ s.clk ∧
      s.sameCycle.any s.resetBy = false) (fun s => { s with boot := { s.boot with otpCopy := 1, otpAt := s.clk } }) ∧
  (∀ ok, Does (.otpLoadDone ok) (fun s => s.sameCycle.any s.resetBy = true) id) ∧
  (∀ n w, n ≠ 4 → Does (.bootStepEnd n none w) (fun s => s.atStep n = true ∧ s.imageRefused n = false ∧ s.stepHolds n = true)
    (fun s => (s.passStep n w).goOn n)) ∧
  (∀ n w, n ≠ 4 → Does (.bootStepEnd n none w) (fun s => s.atStep n = true ∧ s.imageRefused n = true)
    (fun s => (s.raise .fwuVersionRefused).failStep n 1 1)) ∧
  (∀ n r w, n ≠ 4 → Does (.bootStepEnd n (some r) w) (fun s => s.atStep n = true) (fun s => s.failStep n 1 r)) ∧
  (∀ n l, stepLimit n = some l → Does (.bootStepTimeout n) (fun s => s.atStep n = true ∧ s.boot.stepAt + l ≤ s.clk) (fun s => s.failStep n 2 2)) ∧
  (∀ n l, stepLimit n = some l → Does (.bootStepTimeout n) (fun s => s.clk < s.boot.stepAt + l) id) ∧
  Does .bootStepRetry (fun s => s.boot.retrying = true ∧ s.boot.stepAt + 1000000000 ≤ s.clk) (fun s => s.enterStep (s.r .aonBootStep)) ∧
  (∀ t, Does .autoShowEnter (fun s => s.on .rstAutoShow = true ∧ s.time.lockedSince = some t ∧ t + 100000000 ≤ s.clk ∧
      s.boot.standbySince + 100000000 ≤ s.clk ∧ s.showNow = true)
    (fun s => { s with boot := { s.boot with enterShow := some s.nextFrame } })) ∧
  (∀ t, Does .roleSetLost (fun s => s.noteRole.boot.roleLost = some t ∧ s.noteRole.inStandby = true ∧ t + 1000000000 ≤ s.noteRole.clk)
    (fun s => s.noteRole.enterState 2))

/-- A reset of the node (R489, R490, Tables 13.1 and 13.2): the causes, the boot step and what every reset keeps; time goes on over a warm
reset only; commands, sessions and routes are discarded. Of two in one cycle the wider acts, once, and the causes name both. -/
def Obligations.NodeResetKeeps : Prop :=
  (∀ (s : State) (cause : Nat) (warm : Bool), s.boot.resetAt = some s.clk → let t := s.resetNode cause warm
    t.r .rstCause = (cause ||| s.r .rstCause) % 2 ^ FName.rstCause.width ∧
    t.r .aonLastCause = (cause ||| s.r .rstCause) % 2 ^ FName.aonLastCause.width ∧
    (warm = false → s.r .rstCause = 0x20 → t.r .aonBootStep = 1 ∧ t.time.ft = 0 ∧
      t.r .aonResetCount = s.r .aonResetCount % 2 ^ FName.aonResetCount.width) ∧
    (warm = true ∨ s.r .rstCause ≠ 0x20 → t.rest = s.rest ∧ ∀ f i, f ≠ .rstCause → f ≠ .aonLastCause → t.r f i = s.r f i)) ∧
  ∀ (s : State) (cause : Nat) (warm : Bool), s.boot.resetAt ≠ some s.clk → let t := s.resetNode cause warm
    t.r .rstCause = cause % 2 ^ FName.rstCause.width ∧ t.r .aonLastCause = cause % 2 ^ FName.aonLastCause.width ∧
    t.r .aonPrevCause = s.r .aonLastCause % 2 ^ FName.aonPrevCause.width ∧
    t.r .aonResetCount = (s.r .aonResetCount + 1) % 2 ^ FName.aonResetCount.width ∧
    t.r .aonBootStep = (if warm then 6 else 1) ∧ (∀ k, k < 8 → t.r .aonScratch k = s.r .aonScratch k % 2 ^ FName.aonScratch.width) ∧
    t.r .sysRoleStrap = s.r .sysRoleStrap % 2 ^ FName.sysRoleStrap.width ∧ t.r .fabMaxRate = State.reset.r .fabMaxRate ∧
    t.time.ft = (if warm then s.time.ft else 0) ∧ t.ing.clip = s.ing.clip ∧ t.lay.graphic = s.lay.graphic ∧ t.lay.pstore = s.lay.pstore ∧
    t.col.store = s.col.store ∧ t.fw.flash = s.fw.flash ∧ t.mbx = State.reset.mbx ∧ t.net = State.reset.net ∧
    t.lay.sets = [] ∧ t.boot.supply = s.boot.supply ∧ t.pending = s.pending

/-- Fabric time messages between nodes: TIME_SYNC sent by the root and received (R54, R55, R57, R58), the delay measurement (R57, R60) and
PTP at the root and at a head (R52, R78; Tables 2.5 and 2.6). -/
def Obligations.TimeMessagesComplete : Prop :=
  DoesOnly .timeSyncSend (fun s => s.on .ftIsRoot = true) (fun s =>
    let seq := s.time.syncSeq % 65536
    let body (p : Nat) := syncPayload (s.egressStamp p s.ft16) seq 0 (s.id + 4096 * s.r .ftSource) 0 (s.r .ftLockState) s.allowance
    let t := s.upPorts.foldl (fun t p => t.sendPort p 0x08 (body p)) s
    { t with time := { t.time with syncSeq := seq + 1 } }) ∧
  (∀ p k tin tout, k.payload.length = 32 → Does (.timeSyncRx p k tin tout) (fun s => s.on .ftIsRoot = false) (fun s =>
    let s := s.setTimePort p (fun x => { x with hops := min 255 (k.u8 22 + 1), lastSync := some s.clk })
    let s := ({ s with time := { s.time with rootId := k.u16 20, rootState := k.u8 23 } } : State).w .ftTakeoverAllow 0 (k.u16 24)
    let s := if s.bestPort (List.range 4) = some p then s.setParent p else s
    let offset := s.ingressStamp p tin - (((k.u64 0 * 65536 + k.u16 8 : Nat) : Int) + toInt 64 (k.u64 12) + s.portDelay p)
    if s.hasParent ∧ s.r .ftParentPort = p then s.follow p k (s.ingressStamp p tin) offset tout
    else s.w .ftAltOffset 0 (ofInt 32 (shr offset 8)))) ∧
  (∀ tout, Does (.pdelayReqSend tout) (fun _ => True) (fun s =>
    let seq := s.time.pdelaySeq % 65536
    let t := s.upPorts.foldl (fun t p =>
      (t.setTimePort p (fun x => { x with asked := some (seq, ofInt 80 (s.egressStamp p (tout.getD p 0))) })).sendPort p 0x09
        (leBytes 2 seq ++ List.replicate 14 0)) s
    { t with time := { t.time with pdelaySeq := seq + 1 } })) ∧
  (∀ p k tin tout, Does (.pdelayReqRx p k tin tout) (fun _ => True) (fun s => s.sendPort p 0x0A
    (leBytes 2 (k.u16 0) ++ [0, 0, 0, 0, 0, 0] ++ leBytes 8 (ofInt 64 (s.egressStamp p tout - s.ingressStamp p tin))))) ∧
  (∀ p k tin seq t1, Does (.pdelayRespRx p k tin)
    (fun s => (s.time.ports.getD p State.timePort0).asked = some (seq, t1) ∧ seq = k.u16 0) (fun s =>
      let sample := ((s.ingressStamp p tin - t1) - toInt 64 (k.u64 8)).fdiv 2
      (s.setTimePort p (fun x => { x with asked := none, samples := (sample :: x.samples).take 16 })).showDelay p)) ∧
  (∀ ptp dom, Does (.ptpMessageRx ptp dom) (fun s => s.isHead = true ∧ dom = s.time.ptpDomain ∧ s.held 3 = false ∧ s.on .ftIsRoot = true ∧
      s.r .ftSource = 2) (fun s => s.rootOffset ((s.ft16 : Int) - ptp * 65536))) ∧
  (∀ ptp dom, Does (.ptpMessageRx ptp dom) (fun s => s.isHead = true ∧ dom = s.time.ptpDomain ∧ s.held 3 = false ∧ s.on .ftIsRoot = false ∧
      s.rootSource = 2) (fun s => s.measureRef ((ptp : Int) - s.ftNs))) ∧
  (∀ ptp dom, Does (.ptpMessageRx ptp dom) (fun s => s.isHead = false ∨ dom ≠ s.time.ptpDomain ∨ s.held 3 = true) id)

/-- Time lost and found again: a silent parent (R71, R72), a lost reference (R72), the hold and align limits (R73 to R75), the return to
Show (R76) and a reference that disagrees (R78). -/
def Obligations.TimeLimitsComplete : Prop :=
  (∀ q, Does .parentTimeout (fun s => s.on .ftIsRoot = false ∧ s.hasParent = true ∧
      (s.time.ports.getD (s.r .ftParentPort) State.timePort0).lastSync = none ∧
      s.bestPort ((List.range 4).filter (· ≠ s.r .ftParentPort)) = some q) (fun s => s.setParent q)) ∧
  (∀ t, Does .parentTimeout (fun s => s.on .ftIsRoot = false ∧ s.hasParent = true ∧
      (s.time.ports.getD (s.r .ftParentPort) State.timePort0).lastSync = some t ∧ t + 1000000 ≤ s.clk ∧
      s.bestPort ((List.range 4).filter (· ≠ s.r .ftParentPort)) = none ∧ s.r .ftLockState ≠ 0) (fun s => s.setLock 3)) ∧
  (∀ t, Does .parentTimeout (fun s => (s.time.ports.getD (s.r .ftParentPort) State.timePort0).lastSync = some t ∧ s.clk < t + 1000000) id) ∧
  Does .refLost (fun s => s.on .ftIsRoot = true ∧ (s.r .ftSource = 2 ∨ s.r .ftSource = 3)) (fun s =>
    (((({ s with time := { s.time with refPresent := false } } : State).setLock 3).raise .ftRefLost).setHealth 9 true)) ∧
  Does .refLost (fun s => s.on .ftIsRoot = false ∨ (s.r .ftSource ≠ 2 ∧ s.r .ftSource ≠ 3))
    (fun s => { s with time := { s.time with refPresent := false } }) ∧
  DoesOnly .holdLimitExpire (fun s => ∃ t, s.time.holdSince = some t ∧ s.on .ftIsRoot = false ∧
    t + (s.r .ftTakeoverAllow + s.r .ftHoldLimit) * 1000000 < s.clk) (fun s => s.leaveForTime) ∧
  DoesOnly .alignLimitExpire (fun s => ∃ t, s.time.alignSince = some t ∧ t + s.r .ftHoldLimit * 1000000 < s.clk) (fun s => s.leaveForTime) ∧
  DoesOnly .timeReturnShow (fun s => ∃ t, s.time.lockedSince = some t ∧ s.time.returnShow = true ∧ s.inStandby = true ∧ t + 100000000 ≤ s.clk)
    (fun s => { s with boot := { s.boot with enterShow := some s.nextFrame } }) ∧
  (∀ t, Occurs .refDisagreeTimer (fun s => s.time.disagreeSince = some t ∧ s.isHead = true ∧ s.on .ftIsRoot = false ∧ t + 1000000000 ≤ s.clk)
    (fun s u => Flagged s u .ftRefDisagree ∧ EventOnly s s u [.ftRefDisagree, .mbxEvents])) ∧
  (∀ t, Does .refDisagreeTimer (fun s => s.time.disagreeSince = some t ∧ (s.on .ftIsRoot = true ∨ s.clk < t + 1000000000)) id)

/-- The frame: the tick of time (R46), the boundary (R21, R22, R34, R36, R63) and the latch point (R23, R133, R134, R197). -/
def Obligations.FrameEventsComplete : Prop :=
  Does .ftTick (fun _ => True) (fun s => (doFtTick s).noteRole.blowFuse.dueReset 0) ∧
  Does .frameBoundary (fun s => s.frame? = none) id ∧
  (∀ f, Does .frameBoundary (fun s => s.frame? = some f ∧ s.lay.receiving = f + 1) id) ∧
  (∀ f, Does .frameBoundary (fun s => s.frame? = some f ∧ s.lay.receiving ≠ f + 1) (fun s =>
    let v := s.composing
    let t := ((((s.closeFrame).leaveShowAt f (s.bnd f)).applyDue f (s.bnd f)).dueBlocks).enterShowAt f
    let t := (List.range 4).foldl (fun t n => t.w .layVHeld n 0) t
    let t := (feedsOn v).foldl (fun t k => t.endFeed v f (s.bnd f) k) t
    let t := ((((t.noteRole).slewZones).routesAt f).redBoundary f).monitorBoundary f
    let t := t.boundaryLanes
    match t.frame? with
    | some g => ((t.openScan g).replan g (g != f)).openNext (g + 1)
    | none => { t with lay := { t.lay with receiving := 0 }, clv := { t.clv with slices := [], list1 := [], list2 := [] } })) ∧
  (∀ f, Does .latchPoint (fun s => s.lay.receiving = f ∧ (f = 0 ∨ s.frame? ≠ some (f - 1) ∨ s.ftNs < s.latch f ∨ s.lay.latched = f + 1)) id) ∧
  (∀ f, Does .latchPoint (fun s => s.lay.receiving = f + 1 ∧ s.frame? = some f ∧ s.latch (f + 1) ≤ s.ftNs ∧ s.lay.latched ≠ f + 2) (fun s =>
    let before := s.now
    let t := s.applySets (f + 1)
    let v := t.now
    let t := ((List.range 4).filter (bit t.lay.undegrade)).foldl (fun t n => t.w .layVScaleDegraded n 0) t
    let drive := v .scnSegLog2 0 ≠ before .scnSegLog2 0 ∨ blankOf v ≠ blankOf before ∨ v .llCurrent 0 ≠ before .llCurrent 0
    let t := if drive then t.stageNew else t
    let t : State := { t with lay := { t.lay with
      latched := f + 2, undegrade := 0, markers := t.lay.markers.filter (fun m => decide (m.arrived < s.latch (f + 1))) } }
    let t : State := t.fixReady v
    let t := if t.lay.pWriting = [] then t else { t with clv := { t.clv with waitP := true } }
    if t.composes then t.latchClover else t))

/-- GENLOCK inputs and SHUTTER outputs (R264 to R268, Tables 7.6 and 7.7): an edge, one too short, a missed one; an output that asserts and
deasserts. -/
def Obligations.GenlockShutterEventsComplete : Prop :=
  (∀ n rising held half, n ≤ 3 → Does (.genlockEdge n rising held half)
    (fun s => s.on .genEnable n = true ∧ rising ≠ s.on .genFalling n ∧ held < s.r .genFilter n) (fun s => s.raise .genGlitch n)) ∧
  (∀ n rising held half, n ≤ 3 → Does (.genlockEdge n rising held half)
    (fun s => s.on .genEnable n = true ∧ rising ≠ s.on .genFalling n ∧ s.r .genFilter n ≤ held) (fun s =>
      let t := s.takeEdge n half
      let checks := (List.range 8).filter (fun w => t.on .winEnable w && t.on .winGlCheck w && t.r .winGlInput w == n)
      (checks.foldl (fun t w => t.checkSlip half w) t).genlockRef n half)) ∧
  (∀ n rising held half, Does (.genlockEdge n rising held half) (fun s => 3 < n ∨ s.on .genEnable n = false ∨ rising = s.on .genFalling n) id) ∧
  (∀ n, n ≤ 3 → DoesOnly (.genlockMissed n) (fun s => s.on .genEnable n = true ∧ (s.genlock n).last ≠ none ∧ s.r .genPeriod n ≠ 0 ∧
      (s.genlock n).from_ + 3 * s.r .genPeriod n < 2 * s.ftNs) (fun s =>
    let t := s.setGenlock n (fun (x : Genlock) => { x with from_ := x.from_ + 2 * s.r .genPeriod n })
    (((t.count .genMisses n).raise .genMissed n).w .genPresent n 0).genlockMiss n)) ∧
  (∀ n f edge, n ≤ 3 → Does (.shutterAssert n) (fun s => s.shutterLive n = true ∧ s.shutterEdge n = some (f, edge) ∧
      (s.shutterOf n).lastFrame ≠ some f) (fun s =>
    let len : Nat := if s.on .shuPulse n then s.r .shuWidth n else s.windowView f .winLength (s.r .shuWindow n)
    (s.setShutter n (fun _ => { asserted := true, endNs := (edge + len).toNat, lowLevel := s.on .shuActiveLow n, lastFrame := some f })).emit
      (.shutter n (!s.on .shuActiveLow n)))) ∧
  (∀ n f edge, Does (.shutterAssert n) (fun s => s.shutterLive n = false ∨
    (s.shutterEdge n = some (f, edge) ∧ (s.shutterOf n).lastFrame = some f)) id) ∧
  (∀ n, DoesOnly (.shutterDeassert n) (fun s => (s.shutterOf n).asserted = true ∧ ((s.shutterOf n).endNs ≤ s.ftNs ∨ s.shutterLive n = false))
    (fun s => s.deassert n))

/-- The DP sinks and the ingest streams: a captured frame and one dropped (R83 to R85), modes and lost links (R82, R87), send windows and
line slots (R96, R99, R102), the frame-address latch (R104, R105). -/
def Obligations.IngestEventsComplete : Prop :=
  (∀ p l, Does (.dpFrameComplete p l) (fun s => s.isHead = true ∧ s.held 0 = false ∧ (s.ring p).handle ≠ 0 ∧ (s.ring p).phy = false ∧
      s.on .dprVideoValid p = true ∧ (s.ring p).writing = some 0 ∧ 0 < (s.ring p).bufs ∧
      s.clipOk (s.ring p).csa (frameBytes (s.r .dprHActive p) (s.r .dprVActive p) (s.r .dprFormat p)) = true) (fun s =>
    let x : DpFrame :=
      ⟨0, s.ftNs, (s.ring p).seq + 1, s.r .dprHActive p, s.r .dprVActive p, s.r .dprFormat p, s.r .dprColorimetry p⟩
    let t := (s.putLines (s.ring p).csa x.width x.format x.height l).ringFrameIn p x
    let n := t.nextBuffer p 0
    t.setRing p (fun (r : DpRing) =>
      { r with writing := some n, frames := r.frames.take 1 ++ (r.frames.drop 1).filter (fun f => f.buf ≠ n) }))) ∧
  (∀ p l, Does (.dpFrameComplete p l) (fun s => s.isHead = true ∧ s.held 0 = false ∧ (s.ring p).handle ≠ 0 ∧ (s.ring p).phy = false ∧
      s.on .dprVideoValid p = true ∧ (s.ring p).writing = some 0 ∧ 0 < (s.ring p).bufs ∧
      s.clipOk (s.ring p).csa (frameBytes (s.r .dprHActive p) (s.r .dprVActive p) (s.r .dprFormat p)) = false) id) ∧
  (∀ p l, Does (.dpFrameComplete p l) (fun s => s.isHead = true ∧ s.held 0 = false ∧ (s.ring p).handle ≠ 0 ∧ (s.ring p).phy = false ∧
      s.on .dprVideoValid p = true ∧ (s.ring p).writing = some (s.ring p).bufs) (fun s =>
    let n := (s.raise .dprDpDrop p).nextBuffer p (((s.ring p).frames.head?.map (·.buf)).getD 0)
    (s.raise .dprDpDrop p).setRing p (fun (r : DpRing) => { r with writing := some n }))) ∧
  (∀ p m, Does (.dpModeReceived p m) (fun s => s.isHead = true ∧ s.held 0 = false ∧ (s.ring p).phy = false ∧
      modeOk (s.ing.dpcd.getD p State.dpcd0) m = false) (fun s =>
    ((s.puts [(.dprLinkUp, p, 1), (.dprLinkRate, p, m.linkRate), (.dprLanes, p, m.lanes)]).raise .dprUnsupported p).loseVideo p)) ∧
  (∀ p m, Does (.dpModeReceived p m) (fun s => s.isHead = true ∧ s.held 0 = false ∧ (s.ring p).phy = false ∧
      modeOk (s.ing.dpcd.getD p State.dpcd0) m = true) (fun s =>
    (s.puts [(.dprLinkUp, p, 1), (.dprLinkRate, p, m.linkRate), (.dprLanes, p, m.lanes), (.dprHActive, p, m.width),
      (.dprVActive, p, m.height), (.dprFormat, p, m.format), (.dprColorimetry, p, m.colorimetry),
      (.dprVideoValid, p, 1)]).setRing p (fun (r : DpRing) => { r with refresh := m.refresh }))) ∧
  (∀ p, Does (.dpLinkLoss p true) (fun s => s.isHead = true ∧ s.held 0 = false) (fun s => (s.w .dprLinkUp p 1).loseVideo p)) ∧
  (∀ p, Does (.dpLinkLoss p false) (fun s => s.isHead = true ∧ s.held 0 = false)
    (fun s => (s.puts [(.dprLinkUp, p, 0), (.dprLinkRate, p, 0), (.dprLanes, p, 0)]).loseVideo p)) ∧
  (∀ p, DoesOnly (.dpHoldExpire p) (fun s => ∃ t, (s.ring p).lostSince = some t ∧ t + s.r .dprDpHold p * 1000000 ≤ s.clk ∧
    s.twinVideo p = false) (fun s => s.setRing p (fun (r : DpRing) => { r with silent := true }))) ∧
  DoesOnly .sendWindowOpen (fun s => s.isHead = true ∧ s.inMin = false ∧ s.held 0 = false ∧ s.on .redHolder = true) State.openWindows ∧
  (∀ i, i ≤ 15 → Does (.lineSlot i) (fun s => s.on .ingSending i = true ∧ s.held 0 = false ∧ s.ftNs < s.sendEnd (s.stream i).frame ∧
      pacedAt (s.stream i).opened (s.sendEnd (s.stream i).frame) (s.stream i).slots (s.stream i).total ≤ s.ftNs) (fun s =>
    let x := s.stream i
    let feeds := (List.range 8).filter (bit x.feeds)
    let t := if x.slots < x.total then
      s.sendLine i (feeds.getD (x.slots / x.height) 0) (x.slots % x.height) (s.bnd x.frame) else s
    let t : State := { t with ing := { t.ing with ahead := t.ing.ahead - pitchOf x.width x.format } }
    let t := t.setStream i (fun (x : StreamSt) => { x with slots := x.slots + 1 })
    if x.total ≤ x.slots + 1 then t.endFrame i (s.bnd x.frame) else t)) ∧
  (∀ i, i ≤ 15 → Does (.lineSlot i) (fun s => s.on .ingSending i = true ∧ s.held 0 = false ∧ s.sendEnd (s.stream i).frame ≤ s.ftNs)
    (fun s => (s.w .ingSending i 0).raise .ingMarkerWithheld i)) ∧
  (∀ i, Does (.lineSlot i) (fun s => 15 < i ∨ s.on .ingSending i = false ∨ s.held 0 = true) id) ∧
  (∀ i f, i ≤ 15 → Does (.fraddrLatch i) (fun s => s.isHead = true ∧ s.frame? = some f ∧ (s.stream i).latchPast ≠ f + 1 ∧
      s.latchPoint i f ≤ s.ftNs ∧ (s.stream i).stagedPlay = none ∧ (s.stream i).stagedAddr = none)
    (fun s => s.setStream i (fun (x : StreamSt) => { x with latchPast := f + 1 }))) ∧
  (∀ i f a, i ≤ 15 → Does (.fraddrLatch i) (fun s => s.isHead = true ∧ s.frame? = some f ∧ (s.stream i).latchPast ≠ f + 1 ∧
      s.latchPoint i f ≤ s.ftNs ∧ (s.stream i).stagedPlay = none ∧ (s.stream i).stagedAddr = some a ∧ a ≠ (s.stream i).latched)
    (fun s => s.setStream i (fun (x : StreamSt) => { x with
      latched := a, stagedAddr := none, latchStamp := s.ftNs, seq := (x.seq + 1) % 2 ^ 32, latchPast := f + 1 })))

/-- The CXL links, their arbiter and the clip store: a link that comes up or goes down (R88, R121), grants, preemption and cuts (R115 to
R118), a deferred free (R110) and write-back data (R175). -/
def Obligations.ClipStoreEventsComplete : Prop :=
  (∀ l size, l ≤ 1 → Does (.cxlLinkUp l true false size true) (fun s => s.isHead = true ∧ s.held 1 = false) (fun s =>
    let t := s.w .cxlLinkUp 0 (setBit (s.r .cxlLinkUp) l true)
    ({ t with ing := { t.ing with devices := updAt t.ing.devices l (fun _ => size) } } : State).showLinks)) ∧
  (∀ l size, l ≤ 1 → Does (.cxlLinkUp l true false size false) (fun s => s.isHead = true ∧ s.held 1 = false) (fun s =>
    let t := s.w .cxlLinkUp 0 (setBit (s.r .cxlLinkUp) l true)
    (({ t with ing := { t.ing with devices := updAt t.ing.devices l (fun _ => size) } } : State).showLinks).dropTable)) ∧
  (∀ l type3 switched size ok, l ≤ 1 → (type3 = false ∨ switched = true) → Does (.cxlLinkUp l type3 switched size ok)
    (fun s => s.isHead = true ∧ s.held 1 = false)
    (fun s => (s.w .cxlLinkUp 0 (setBit (s.r .cxlLinkUp) l false)).raiseBit .cxlDevError 0 l)) ∧
  (∀ l err, l ≤ 1 → Does (.cxlLinkDown l err) (fun s => s.isHead = true) (fun s =>
    let t := s.w .cxlLinkUp 0 (setBit (s.r .cxlLinkUp) l false)
    (if err then (t.raiseBit .cxlDevError 0 l).poisonDevice l else t).setHealth 4 true)) ∧
  (∀ l rs n r, l ≤ 1 → Does (.arbiterGrant l rs n) (fun s => s.isHead = true ∧ s.held 1 = false ∧
      (s.arb l).burst = none ∧ (s.arb l).cut = none ∧ rotate (s.arb l).pointer rs = some r) (fun s => s.grant l r)) ∧
  (∀ l rs n b, l ≤ 1 → rs.contains .str = true → Does (.arbiterGrant l rs n) (fun s => s.isHead = true ∧ s.held 1 = false ∧
      (s.arb l).burst = some b ∧ b.req ≠ .str ∧ b.guarded = false ∧ s.strUrgent = true) (fun s =>
    let t := (s.moveUnits l n).setArb l (fun (a : ArbSt) => { a with
      preempted := updAt a.preempted (reqIndex b.req) (· + 1), resume_ := setNat a.resume_ (reqIndex b.req) b.first })
    (t.count .cxlPreemptions).grant l .str)) ∧
  (∀ l rs n b, l ≤ 1 → rs.contains .str = true → Does (.arbiterGrant l rs n) (fun s => s.isHead = true ∧ s.held 1 = false ∧
      (s.arb l).burst = some b ∧ b.req ≠ .str ∧ b.guarded = true ∧ s.strUrgent = true) (fun s => s.moveUnits l n)) ∧
  (∀ l rs n b, l ≤ 1 → rs.contains .str = true → Does (.arbiterGrant l rs n) (fun s => s.isHead = true ∧ s.held 1 = false ∧
      (s.arb l).burst = none ∧ (s.arb l).cut = some (b, s.clk) ∧ b.req ≠ .str ∧ b.guarded = false ∧ s.strUrgent = true)
    (fun s => s.preempt l b)) ∧
  (∀ l rs n b, l ≤ 1 → rs.contains .str = false → Does (.arbiterGrant l rs n) (fun s => s.isHead = true ∧ s.held 1 = false ∧
      (s.arb l).burst = some b) (fun s =>
    ((s.moveUnits l n).setArb l (fun (a : ArbSt) => { a with
      burst := none, preempted := setNat a.preempted (reqIndex b.req) 0, resume_ := setNat a.resume_ (reqIndex b.req) 0 })).rotateLink l rs)) ∧
  (∀ l n b, Does (.burstCut ⟨l, n⟩) (fun s => (s.arb l).burst = some b ∧ b.req ≠ .str ∧ s.r .cxlHoldLimit ≤ max b.moved n) (fun s =>
    (s.moveUnits l n).setArb l (fun (a : ArbSt) => { a with
      burst := none, preempted := setNat a.preempted (reqIndex b.req) 0
      resume_ := setNat a.resume_ (reqIndex b.req) (b.first + s.r .cxlHoldLimit)
      cut := some ({ b with moved := s.r .cxlHoldLimit }, s.clk) }))) ∧
  (∀ l n, Does (.burstCut ⟨l, n⟩) (fun s => (s.arb l).burst = none) id) ∧
  (∀ h, DoesOnly (.clipFreeComplete h) (fun s => ∃ b, s.bufOf h = some b ∧ b.deferred = true ∧ s.bufPinned b = false)
    (fun s => (s.freeBuf h).complete (.clipFree h) Status.ok)) ∧
  (∀ k r b x, Does (.wbDataRx k) (fun s => extend s.ftNs (k.u32 8) = some x ∧ s.ing.wbRing = some r ∧ s.bufOf r.handle = some b ∧
      r.takes x = true) (fun s => s.takeImage k r b x)) ∧
  (∀ k r x, Does (.wbDataRx k) (fun s => extend s.ftNs (k.u32 8) = some x ∧ s.ing.wbRing = some r ∧ r.takes x = false) id) ∧
  (∀ k x, Does (.wbDataRx k) (fun s => extend s.ftNs (k.u32 8) = some x ∧ s.ing.wbRing = none) id) ∧
  (∀ k, Does (.wbDataRx k) (fun s => extend s.ftNs (k.u32 8) = none) (fun s => s.raise .ftStampRange))

/-- What a node takes in for its frame: stream packets (R61, R162, R165), frame markers (R149, R150) and the holder's picks (R430 to R432).
-/
def Obligations.StreamArrivalsComplete : Prop :=
  (∀ k x, Does (.streamPacketRx k) (fun s => extend s.ftNs (k.u32 8) = some x ∧ s.forFrame (some x) = false)
    (fun s => { s with lay := { s.lay with wrongTarget := s.lay.wrongTarget + 1 } })) ∧
  (∀ k, Does (.streamPacketRx k) (fun s => extend s.ftNs (k.u32 8) = none) (fun s =>
    let t := s.raise .ftStampRange
    { t with lay := { t.lay with wrongTarget := t.lay.wrongTarget + 1 } })) ∧
  (∀ k x, Does (.streamPacketRx k) (fun s => extend s.ftNs (k.u32 8) = some x ∧ s.forFrame (some x) = true) (fun s =>
    let v := s.receivingView
    let bpp := (bppOf (k.u8 1)).getD 0
    let data := leVal (k.payload.drop 12)
    let stream := k.u8 0 % 16
    let put (m : Store) (i : Nat) : Store :=
      if s.keeps v stream (bits (k.u8 0) 6 4) (k.u16 2) (k.u16 4 + i) then
        sput 0 m (pixelKey stream (bits (k.u8 0) 6 4) (k.u16 2) (k.u16 4 + i)) (data / 2 ^ (bpp * i) % 2 ^ bpp + 1)
      else m
    let t := { s with lay := { s.lay with
      lines := (List.range (min 500 (k.u16 6))).foldl put s.lay.lines, counts := countPacket stream k.src s.lay.counts } }
    if t.clv.frame = t.lay.receiving ∧ !t.held 8 then t.readyVideo.dispatch else t)) ∧
  (∀ p k x, Does (.frameCompleteRx p k) (fun s => extend s.ftNs (k.u32 8) = some x ∧ s.forFrame (some x) = true ∧ s.lay.colours.getD (k.u8 0 % 16) 0 = k.u8 2) (fun s =>
    let stream := k.u8 0 % 16
    let t : State := { s with lay := { s.lay with
      formats := updAt s.lay.formats stream (fun _ => k.u8 1), colours := updAt s.lay.colours stream (fun _ => k.u8 2) } }
    let t := t.noteSlack stream k.src t.lay.receiving
    if t.lay.latched = t.lay.receiving + 1 then t
    else { t with lay := { t.lay with markers := t.lay.markers.filter (fun x => !(x.stream == stream && x.src == k.src)) ++
      [{ stream := stream, src := k.src, format := k.u8 1, colorimetry := k.u8 2, rep := bit (k.u8 3) 0, width := k.u16 4,
         height := k.u16 6, frame := s.lay.receiving, packets := k.u32 12, stamp := k.u32 16, seq := k.u32 20, feeds := k.u8 24,
         arrived := s.ftNs }] } })) ∧
  (∀ p k x, Does (.frameCompleteRx p k) (fun s => extend s.ftNs (k.u32 8) = some x ∧ s.forFrame (some x) = false ∧
      s.pastFrame (some x) = none ∧ s.lay.colours.getD (k.u8 0 % 16) 0 = k.u8 2) (fun s =>
    { s with lay := { s.lay with
      formats := updAt s.lay.formats (k.u8 0 % 16) (fun _ => k.u8 1), colours := updAt s.lay.colours (k.u8 0 % 16) (fun _ => k.u8 2) } })) ∧
  (∀ p k x f, Does (.frameCompleteRx p k) (fun s => extend s.ftNs (k.u32 8) = some x ∧ s.forFrame (some x) = false ∧
      s.pastFrame (some x) = some f ∧ s.lay.colours.getD (k.u8 0 % 16) 0 = k.u8 2) (fun s =>
    let t : State := { s with lay := { s.lay with
      formats := updAt s.lay.formats (k.u8 0 % 16) (fun _ => k.u8 1), colours := updAt s.lay.colours (k.u8 0 % 16) (fun _ => k.u8 2) } }
    t.noteSlack (k.u8 0 % 16) k.src f)) ∧
  (∀ k, Does (.headPickRx k) (fun s => extend s.ftNs (k.u32 0) = none) (fun s => s.raise .ftStampRange)) ∧
  (∀ k, Does (.headPickRx k) (fun s => s.mayOpen = true ∧ extend s.ftNs (k.u32 0) = some (s.bnd (k.u48 8)) ∧ s.frame? = some (k.u48 8 - 1) ∧ k.u48 8 ≠ 0 ∧ s.red.pickFrame ≠ k.u48 8 + 1 ∧
      (s.r .redTwin = 0 ∨ k.src = s.r .redTwin)) (fun s =>
    let n := min 16 (k.u8 4)
    let t := { s with red := { s.red with pickFrame := k.u48 8 + 1 } }
    let t := (List.range n).foldl (fun (t : State) (j : Nat) => t.takePick k j) t
    let t := (List.range 4).foldl State.holdAnew t
    (List.range n).foldl (fun (t : State) (j : Nat) => t.openStream (k.u48 8) (k.u8 (16 + 24 * j) % 16)) t)) ∧
  (∀ f, Does .pickWaitExpire (fun s => s.frame? = some f ∧ s.mayOpen = true ∧ s.bnd f + 1000 * s.r .redPickWaitUs ≤ s.ftNs) (fun s =>
    (s.raiseIf ((List.range 16).any (fun i => s.on .ingEnable i && s.r .ingKind i != 0 && (s.stream i).pick.isNone &&
      (s.stream i).frame != f + 1)) .redPickMissing).openWindows)) ∧
  Does .pickWaitExpire (fun s => s.mayOpen = false) id

/-- The engines of Clover (R202 to R206): a Gust, Lull, the end of a task and an overrun; and the stores' care: the P store's data (R171),
the coefficient copy (R236), the slot clear (R247), a coefficient block read again from flash and a memory scrub (R30, R31). -/
def Obligations.EngineEventsComplete : Prop :=
  Does .gust (fun s => s.held 8 = true) id ∧
  Does .gust (fun s => s.held 8 = false ∧ s.clv.engines.any (fun x => x.plan != [] && !x.awake) = true) (fun s =>
    (s.sleeping.foldl (fun t e => t.wake e) s).trace 0x0C 0xFF 0 0 0 1 0 s.sleeping.length) ∧
  Does .gust (fun s => s.held 8 = false ∧ s.clv.engines.any (fun x => x.plan != [] && !x.awake) = false ∧ s.pixelsHeld = false ∧
      s.clv.list1.length + s.clv.list2.length < s.r .clvGustMin ∧ s.waited = false) State.dispatch ∧
  (∀ e, DoesOnly (.engineLull e) (fun s => e < 12 ∧ (s.engine e).awake = true ∧ (s.engine e).idle = true ∧
      10 * s.r .clvLullDelay ≤ 3 * (s.clk - (s.engine e).idleSince))
    (fun s => (s.setEngine e (fun (x : Engine) => { x with awake := false, outNs := x.outNs + (s.clk - x.wokeAt) })).trace 0x0D e 0 0 0 0)) ∧
  (∀ e k j, e < 12 → Does (.taskComplete e) (fun s => (s.engine e).awake = true ∧ s.held 8 = false ∧ (s.engine e).task = some (k, j))
    (fun s => ((s.completeTask e k j).nextTask e).dispatch)) ∧
  (∀ e, e < 12 → Does (.taskComplete e) (fun s => (s.engine e).awake = true ∧ s.held 8 = false ∧ (s.engine e).task = none ∧
      (s.engine e).service.isSome = true)
    (fun s => ((s.setEngine e (fun (x : Engine) => { x with service := none })).nextTask e).dispatch)) ∧
  (∀ e, e < 12 → Does (.taskComplete e) (fun s => (s.engine e).awake = true ∧ s.held 8 = false ∧ (s.engine e).task = none ∧
      (s.engine e).service = none ∧ (s.engine e).planning = true) (fun s => ((s.completePlan e).nextTask e).dispatch)) ∧
  (∀ e, Does (.taskComplete e) (fun s => 12 ≤ e ∨ (s.engine e).awake = false ∨ s.held 8 = true) id) ∧
  (∀ e k j, e < 12 → Does (.engineOverrun e) (fun s => (s.engine e).task = some (k, j) ∧
      10 * sliceCost s.composing k j + 6000 < 6 * (s.clk - (s.engine e).started)) (fun s => s.failEngine e)) ∧
  (∀ e k j, Does (.engineOverrun e) (fun s => (s.engine e).task = some (k, j) ∧
      6 * (s.clk - (s.engine e).started) ≤ 10 * sliceCost s.composing k j + 6000) id) ∧
  (∀ e, e < 12 → Does (.engineOverrun e) (fun s => (s.engine e).task = none ∧ (s.engine e).planning = true ∧
      10 * shareCost s.composing (s.engine e).plan + 6000 < 6 * (s.clk - (s.engine e).started)) (fun s => s.failEngine e)) ∧
  (∀ e, Does (.engineOverrun e) (fun s => (s.engine e).task = none ∧ ((s.engine e).planning = true →
      6 * (s.clk - (s.engine e).started) ≤ 10 * shareCost s.composing (s.engine e).plan + 6000)) id) ∧
  DoesOnly .pDataWritten (fun s => s.clv.waitP = true ∧ s.held 8 = false) (fun s =>
    let words := s.lay.pWriting.flatMap (fun (d : PLoad) => (List.range ((d.bytes.length + 3) / 4 + 1)).map (d.offset / 4 + ·))
    let t := { s with
      lay := { s.lay with pstore := s.lay.pWriting.foldl (fun m (d : PLoad) => mwrite 0 m d.offset d.bytes) s.lay.pstore, pWriting := [],
                          pBad := s.lay.pBad.filter (fun w => !(w ∈ words)) }
      clv := { s.clv with waitP := false } }
    t.servers.foldl (fun t e => if (t.engine e).task.isNone then t.nextTask e else t) t) ∧
  DoesOnly .coefCopyComplete (fun s => s.clv.waitCopy = true) (fun s =>
    let t := { s with col := { s.col with copying := [] }, clv := { s.clv with waitCopy := false } }
    let t := s.col.copying.foldl (fun (t : State) (d : CoefLoad) => t.putCoef d.offset d.bytes d.save) t
    if t.held 8 then t else t.dispatch) ∧
  DoesOnly .slotClearComplete (fun s => s.clv.waitClear = true) (fun s =>
    let t := { s with col := { s.col with lamps := [] }, clv := { s.clv with waitClear := false } }
    if t.held 8 then t else t.dispatch) ∧
  (∀ b, Does (.coefBlockReload b true) (fun s => s.fw.job = .reload ∧ s.col.wholeReload = true) (fun s => s.readCoef.flashGoOn)) ∧
  (∀ b, Does (.coefBlockReload b false) (fun s => s.fw.job = .reload ∧ s.col.wholeReload = true) (fun s => (s.reloadWhole false).flashGoOn)) ∧
  (∀ b, Does (.coefBlockReload b true) (fun s => s.fw.job = .reload ∧ s.col.wholeReload = false ∧ b ∈ s.col.reloading) (fun s => State.flashGoOn
    { s with col := { s.col with
      reloading := s.col.reloading.filter (· ≠ b), store := mwrite 0 s.col.store (64 * b) (s.flashBlock b),
      bad := s.col.bad.filter (· ≠ b) } })) ∧
  (∀ b, Occurs (.coefBlockReload b false) (fun s => s.fw.job = .reload ∧ s.col.wholeReload = false ∧ b ∈ s.col.reloading) (fun s t =>
    let u : State := { s with col := { s.col with reloading := s.col.reloading.filter (· ≠ b) } }
    Flagged s t .colReloadFail ∧ EventOnly s u.flashGoOn t [.colReloadFail, .mbxEvents])) ∧
  (∀ b ok, Does (.coefBlockReload b ok) (fun s => s.fw.job = .reload ∧ s.col.wholeReload = false ∧ b ∉ s.col.reloading) State.flashGoOn) ∧
  (∀ b ok, Does (.coefBlockReload b ok) (fun s => s.fw.job ≠ .reload) id) ∧
  (∀ m single double, m ∈ [1, 2, 3, 5] → Does (.memoryScrub m single double) (fun s => s.lullGap = true)
    (fun s => ({ s with col := { s.col with
      scrubbed := updAt s.col.scrubbed m (fun _ => some s.clk), corrected := bump s.col.corrected m single.length } } : State).memDouble m double)) ∧
  (∀ m single double, m < 9 → Does (.memoryScrub m single double) (fun s => s.lullGap = false ∨ m ∉ [1, 2, 3, 5])
    (fun s => ({ s with col := { s.col with corrected := bump s.col.corrected m single.length } } : State).memDouble m double)) ∧
  (∀ m single double, 9 ≤ m → Does (.memoryScrub m single double) (fun _ => True) id)

/-- The scan of the lamps: a sub-update that starts (R253, R280), a load (R254, R290) and its probes (R262, R311), and the flag for lamps
long unmeasured. -/
def Obligations.ScanEventsComplete : Prop :=
  (∀ x rest, Does .subUpdateStart (fun s => s.scn.subs = x :: rest ∧ x.start ≤ s.ftNs ∧ x.loaded = true ∧ s.held 9 = false) (fun s =>
    let v : View := fun f i => s.r f i
    let t := { s with scn := { s.scn with
      subs := rest, lastProbeOk := if probeAllowed v (x.start - s.bnd x.frame) then s.clk else s.scn.lastProbeOk } }
    t.sendMarks (x :: rest) ⟨x.start, lineCycles (v .scnSegLog2 0) (blankOf v) * 4 * gdivOf v, 0, v .scnMux 0 * 2 ^ v .scnSegLog2 0⟩)) ∧
  (∀ x rest, Does .subUpdateStart (fun s => s.scn.subs = x :: rest ∧ (s.ftNs < x.start ∨ x.loaded = false ∨ s.held 9 = true)) id) ∧
  Does .subUpdateStart (fun s => s.scn.subs = []) id ∧
  (∀ x, Does .loadStart (fun s => s.scn.subs.find? (fun x => !x.loaded) = some x ∧ x.loadAt ≤ s.ftNs ∧ s.held 9 = false) (fun s =>
    let v : View := fun f i => s.r f i
    let y : Sub := { x with loaded := true, bank := s.scn.bank }
    let t := { s with scn := { s.scn with
      bank := 1 - s.scn.bank % 2, subs := s.scn.subs.map (fun (z : Sub) => if z = x then y else z) } }
    let lanes := t.lanesIn Lane.run
    let t := if x.dark then t else lanes.foldl (fun t n => t.greyLane v x.feed y.bank n) t
    (lanes.foldl (fun t n => t.subLane y n) t).probes v y)) ∧
  (∀ x, Does .loadStart (fun s => s.scn.subs.find? (fun x => !x.loaded) = some x ∧ (s.ftNs < x.loadAt ∨ s.held 9 = true)) id) ∧
  Does .loadStart (fun s => s.scn.subs.find? (fun x => !x.loaded) = none) id ∧
  Occurs .probeStarvedTimer (fun s => s.unmeasured = true ∧ s.scn.lastProbeOk + 1000000000 ≤ s.clk)
    (fun s t => Flagged s t .scnProbeStarved ∧ EventOnly s s t [.scnProbeStarved, .mbxEvents]) ∧
  Does .probeStarvedTimer (fun s => s.unmeasured = false ∨ s.clk < s.scn.lastProbeOk + 1000000000) id

/-- The lanes and their drivers: training that ends and enumeration that begins (R279, R281), replies good and bad and their timeout (R276,
R300), retries (R281), and temperature samples (R301, R520, R521). -/
def Obligations.LaneEventsComplete : Prop :=
  (∀ n, DoesOnly (.laneTrainDone n) (fun s => s.r .laneState n = Lane.train ∧ (s.lane n).since + 100000 ≤ s.clk) (fun s =>
    (((s.enterLane n Lane.enum).setLane n (fun (x : LaneSt) => { x with addr := 0, foundMask := 0 })).control n allDrivers 0x01 [0]).pump (n / 8))) ∧
  (∀ g l r, Does (.laneReplyRx g l) (fun s => s.asking g = some r ∧
      (l.length ≠ 7 + getLE l 3 2 ∨ getLE l (5 + getLE l 3 2) 2 ≠ crc16 (l.take (5 + getLE l 3 2)))) (fun s => s.attemptFailed g r)) ∧
  (∀ g l r, l.length = 7 + getLE l 3 2 → getLE l (5 + getLE l 3 2) 2 = crc16 (l.take (5 + getLE l 3 2)) →
    Does (.laneReplyRx g l) (fun s => s.asking g = some r ∧ getLE l 0 1 = r.driver ∧ getLE l 1 1 = r.tag ∧
      getLE l 2 1 = (if r.kind = 4 then 2 else if r.kind = 5 then 3 else 1) ∧ r.mapGen = s.lan.mapGen)
      (fun s => ((s.setAsking g none).answered r (getBytes l 5 (getLE l 3 2))).pump g) ∧
    Does (.laneReplyRx g l) (fun s => s.asking g = some r ∧ (getLE l 0 1 ≠ r.driver ∨ getLE l 1 1 ≠ r.tag ∨
      getLE l 2 1 ≠ (if r.kind = 4 then 2 else if r.kind = 5 then 3 else 1) ∨ r.mapGen ≠ s.lan.mapGen)) id) ∧
  (∀ g l, Does (.laneReplyRx g l) (fun s => s.asking g = none) id) ∧
  (∀ g, Does (.laneReplyTimeout g) (fun s => s.asking g = none) id) ∧
  (∀ g r, Does (.laneReplyTimeout g) (fun s => s.asking g = some r ∧ r.sentAt + 10000 ≤ s.clk) (fun s => s.attemptFailed g r)) ∧
  (∀ g r, Does (.laneReplyTimeout g) (fun s => s.asking g = some r ∧ s.clk < r.sentAt + 10000) id) ∧
  (∀ n, Does (.laneRetryTimer n) (fun s => (s.lane n).retry = true ∧ (s.lane n).since + 1000000 ≤ s.clk) (fun s => (s.trainLane n).pump (n / 8))) ∧
  (∀ n, Does (.laneRetryTimer n) (fun s => (s.lane n).retry = false ∧ s.r .laneState n = Lane.fault ∧ (s.lane n).since + 1000000000 ≤ s.clk)
    (fun s => (s.freshLane n).pump (n / 8))) ∧
  (∀ n, Does (.laneRetryTimer n) (fun s => (s.lane n).retry = false ∧ s.r .laneState n ≠ Lane.fault) id) ∧
  (∀ i v, i < sensorsIn 0 → Does (.thermalSample 0 i v) (fun s => s.held 11 = false ∧ (s.sensor 0 i).at_ + (s.sensor 0 i).interval ≤ s.clk)
    (fun s => s.sampleDie i v)) ∧
  (∀ i v, i < sensorsIn 1 → Does (.thermalSample 1 i v) (fun s => s.held 11 = false ∧ (s.sensor 1 i).at_ + (s.sensor 1 i).interval ≤ s.clk ∧
      s.r .laneState i ≠ Lane.run ∧ (s.lane i).loop = false) (fun s => s.sampleOut i)) ∧
  (∀ i v, i < sensorsIn 1 → Does (.thermalSample 1 i v) (fun s => s.r .laneState i ≠ Lane.run ∧ (s.lane i).loop = true) id) ∧
  (∀ i v, i < sensorsIn 1 → Does (.thermalSample 1 i v) (fun s => s.held 11 = false ∧ (s.sensor 1 i).at_ + (s.sensor 1 i).interval ≤ s.clk ∧
      s.r .laneState i = Lane.run ∧ s.lan.waiting.getD (i / 8) [] = [] ∧ s.asking (i / 8) = none)
    (fun s => s.enqueue (request i (s.r .laneTempDrv i) 2 0x12 0 0))) ∧
  (∀ cls i v, Does (.thermalSample cls i v) (fun s => 1 < cls ∨ sensorsIn cls ≤ i ∨ s.held 11 = true ∨
    s.clk < (s.sensor cls i).at_ + (s.sensor cls i).interval) id)

/-- The fabric ports: offers (R325 to R327, R337, R338), training (R328 to R334), loss of signal and lock (R335, R336), alignment (R320, R339),
error windows (R340), adaptation (R343 to R345) and the rate policy (R346 to R349). -/
def Obligations.PortEventsComplete : Prop :=
  (∀ p, Does (.offerSend p) (fun s => s.offerDue p = true ∧ (s.r .fabState p = Port.listen ∨
      (s.r .fabState p = Port.base ∧ (s.port p).acks < 3) ∨ (s.r .fabState p = Port.silent ∧ s.clk < (s.port p).since))) (fun s =>
    (s.emit (.line p (offerSet (s.offerBytes p)))).setPort p (fun q => { q with seq := (q.seq + 1) % 256, lastOffer := some s.clk }))) ∧
  (∀ p o, Does (.offerSend p) (fun s => s.offerDue p = true ∧ s.r .fabState p = Port.base ∧ 3 ≤ (s.port p).acks ∧ s.overtaken p = false ∧
      (s.port p).partner = some o ∧ 0 < min (s.proposed p) o.target) (fun s => s.enterTrain p (min (s.proposed p) o.target))) ∧
  (∀ p, Does (.offerSend p) (fun s => s.offerDue p = true ∧ s.r .fabState p = Port.base ∧ 3 ≤ (s.port p).acks ∧ s.overtaken p = false ∧ s.proposed p = 0)
    (fun s => s.enterUp p 0 1)) ∧
  (∀ p t, Does (.offerSend p) (fun s => (s.port p).lastOffer = some t ∧ s.clk < t + 10000) id) ∧
  (∀ p l o t, offerOf l t = some o → o.nonce ≠ ownNonce p → Does (.offerRx p l) (fun s => s.clk = t ∧
      s.r .fabState p = Port.base ∧ (s.port p).resetAt ≠ some t ∧ s.overtaken p = false) (fun s => (s.w .fabAttempts p 0).setPort p (fun q =>
    let same := match q.partner with | some o' => o'.target == o.target | none => false
    { q with partner := some o, acks := if bit o.flags 0 then (if same then q.acks + 1 else 1) else 0 }))) ∧
  (∀ p l o t, offerOf l t = some o → o.nonce ≠ ownNonce p → Does (.offerRx p l) (fun s => s.clk = t ∧
      (s.r .fabState p = Port.listen ∨ s.r .fabState p = Port.silent) ∧ (s.port p).resetAt ≠ some t ∧ s.overtaken p = false) (fun s =>
    ((s.enterPort p Port.base).w .fabAttempts p 0).setPort p (fun q =>
      let same := match q.partner with | some o' => o'.target == o.target | none => false
      { q with partner := some o, acks := if bit o.flags 0 then (if same then q.acks + 1 else 1) else 0 }))) ∧
  (∀ p l o t, offerOf l t = some o → o.nonce = ownNonce p → Does (.offerRx p l) (fun s => s.clk = t ∧
      (s.r .fabState p = Port.listen ∨ s.r .fabState p = Port.base ∨ s.r .fabState p = Port.silent) ∧ (s.port p).resetAt ≠ some t ∧ s.overtaken p = false)
    (fun s => s.raise .fabLoopedCable p)) ∧
  (∀ p l, Does (.offerRx p l) (fun s => (s.port p).resetAt = some s.clk ∨ s.overtaken p = true) id) ∧
  (∀ p l t, offerOf l t = none → Does (.offerRx p l) (fun s => s.clk = t) id) ∧
  (∀ p, DoesOnly (.silentBurst p) (fun s => s.r .fabState p = Port.silent ∧ (s.port p).since + 1000000 * s.r .fabBackoff p ≤ s.clk) (fun s =>
    ((s.w .fabBackoff p (min 2000 (2 * s.r .fabBackoff p))).setPort p (fun q => { q with since := s.clk + 1000000 })).showLine p)) ∧
  (∀ p l control status want ready, parityOk control = true → bits control 11 10 ≠ l →
    Does (.trainingWordRx p l control status ⟨want, ready⟩)
      (fun s => s.r .fabState p = Port.train ∧ bit (s.port p).trainLanes l = true ∧ s.overtaken p = false) (fun s => s.exclude p (2 ^ l))) ∧
  (∀ p l control status want, parityOk control = false → parityOk status = false →
    Does (.trainingWordRx p l control status ⟨want, true⟩)
      (fun s => s.r .fabState p = Port.train ∧ bit (s.port p).trainLanes l = true ∧ s.overtaken p = false) (fun s =>
        ((s.setPort p (fun q => { q with lockLanes := setBit q.lockLanes l true })).setPort p
          (fun q => { q with readyLanes := setBit q.readyLanes l true })).advance p)) ∧
  (∀ p l control status want, parityOk control = true → bits control 11 10 = l → parityOk status = true →
    Does (.trainingWordRx p l control status ⟨want, false⟩) (fun s => s.r .fabState p = Port.train ∧ bit (s.port p).trainLanes l = true ∧ s.overtaken p = false)
      (fun s => ((((s.setPort p (fun q => { q with lockLanes := setBit q.lockLanes l true })).answerControl p l control).seeStatus p l
        status).askAgain p l want).advance p)) ∧
  (∀ p l control status want ready, Does (.trainingWordRx p l control status ⟨want, ready⟩)
    (fun s => s.r .fabState p ≠ Port.train ∨ bit (s.port p).trainLanes l = false ∨ s.overtaken p = true) id) ∧
  (∀ p limit, Does (.trainStageTimeout p) (fun s => s.overtaken p = false ∧ s.stageLimit p = some limit ∧ (s.port p).since + limit ≤ s.clk ∧
      (s.r .fabState p = Port.listen ∨ s.r .fabState p = Port.base)) (fun s => (s.raise .fabTrainTimeout p).failAttempt p)) ∧
  (∀ p limit, Does (.trainStageTimeout p) (fun s => s.overtaken p = false ∧ s.stageLimit p = some limit ∧ (s.port p).since + limit ≤ s.clk ∧
      s.r .fabState p = Port.align) (fun s => (s.raise .fabTrainTimeout p).fallBack p)) ∧
  (∀ p limit, Does (.trainStageTimeout p) (fun s => s.overtaken p = false ∧ s.stageLimit p = some limit ∧ (s.port p).since + limit ≤ s.clk ∧
      s.r .fabState p = Port.train ∧ (s.port p).stage = .done) (fun s => (s.raise .fabTrainTimeout p).fallBack p)) ∧
  (∀ p, Does (.trainStageTimeout p) (fun s => s.overtaken p = false ∧ s.r .fabState p = Port.train ∧ (s.port p).stage ≠ .done ∧ s.lateLanes p ≠ 0) (fun s =>
    ((s.raise .fabTrainTimeout p).exclude p (s.lateLanes p)).advance p)) ∧
  (∀ p limit, Does (.trainStageTimeout p) (fun s => s.stageLimit p = some limit ∧ s.clk < (s.port p).since + limit ∧
      (s.r .fabState p ≠ Port.train ∨ (s.port p).stage = .done)) id) ∧
  (∀ p, Does (.trainStageTimeout p) (fun s => s.overtaken p = true) id) ∧
  (∀ p, DoesOnly (.signalLoss p) (fun s => s.r .fabState p = Port.base ∨ s.r .fabState p = Port.train ∨ s.r .fabState p = Port.align ∨
      s.r .fabState p = Port.up ∨ (s.r .fabState p = Port.loop ∧ (s.port p).loop ∉ [1, 2]))
    (fun s =>
      let t := ((s.dropResults p (fun _ => true)).listen p).w .fabAttempts p 0
      (t.setPort p (fun q => { q with floor := 0, resetAt := some t.clk })).raise .fabUnplugged p)) ∧
  (∀ p, DoesOnly (.lane0LockLoss p) (fun s => (s.r .fabState p = Port.train ∨ s.r .fabState p = Port.align) ∧ s.overtaken p = false) (fun s => s.fallBack p)) ∧
  (∀ p corrected uncorrectable skews, Does (.alignCheck p corrected uncorrectable 0 skews) (fun s => s.r .fabState p = Port.align ∧ s.overtaken p = false ∧
      s.r .fabRate p = 1 ∧ bit ((s.port p).trainLanes &&& deskewed skews) 0 = true ∧ (s.port p).partner = none ∧ (s.port p).loop ≠ 3)
    (fun s => (s.setPort p (fun q => { q with skews := (List.range 4).map (fun l => (skews.getD l none).getD 0) })).enterUp p 1
      (widest ((s.port p).trainLanes &&& deskewed skews)))) ∧
  (∀ p corrected badSync skews o, Does (.alignCheck p corrected 0 badSync skews) (fun s => s.r .fabState p = Port.align ∧ s.overtaken p = false ∧
      s.r .fabRate p ≠ 1 ∧ bit ((s.port p).trainLanes &&& deskewed skews) 0 = true ∧
      corrected ≤ 2 * codewords (s.r .fabRate p) (widest ((s.port p).trainLanes &&& deskewed skews)) 1000 ∧
      (s.port p).partner = some o ∧ bit o.flags 1 = true ∧ (s.port p).loop ≠ 3 ∧ s.on .fabLoopAllow p = true) (fun s =>
    let t := s.setPort p (fun q => { q with skews := (List.range 4).map (fun l => (skews.getD l none).getD 0) })
    (((t.enterPort p Port.loop).w .fabLanesUp p (widest ((s.port p).trainLanes &&& deskewed skews))).setPort p
      (fun q => { q with farTurned := true })).showLine p)) ∧
  (∀ p corrected uncorrectable badSync skews, Does (.alignCheck p corrected uncorrectable badSync skews)
    (fun s => s.r .fabState p ≠ Port.align ∨ bit ((s.port p).trainLanes &&& deskewed skews) 0 = false ∨
      (s.r .fabRate p = 1 ∧ badSync ≠ 0) ∨ (s.r .fabRate p ≠ 1 ∧ uncorrectable ≠ 0) ∨ s.overtaken p = true) id) ∧
  (∀ p corrected uncorrectable burst, 16 < burst → Does (.fecWindow p corrected uncorrectable burst)
    (fun s => s.up p = true ∧ 2 ≤ s.r .fabRate p)
    (fun s => (((s.count .fabFecCorrected p corrected).count .fabFecUncorrectable p uncorrectable).raise .fabFecDegrade p).restartPort p)) ∧
  (∀ p corrected uncorrectable burst, burst ≤ 16 → 0 < uncorrectable → Does (.fecWindow p corrected uncorrectable burst)
    (fun s => s.up p = true ∧ 2 ≤ s.r .fabRate p)
    (fun s => (((s.count .fabFecCorrected p corrected).count .fabFecUncorrectable p uncorrectable).raise .fabFecDegrade p).setPort p
      (fun q => { q with adapting := true }))) ∧
  (∀ p corrected burst, burst ≤ 16 → Does (.fecWindow p corrected 0 burst) (fun s => s.up p = true ∧ 2 ≤ s.r .fabRate p ∧
      corrected ≤ 6 * codewords (((s.count .fabFecCorrected p corrected).count .fabFecUncorrectable p 0).r .fabRate p)
        (((s.count .fabFecCorrected p corrected).count .fabFecUncorrectable p 0).r .fabLanesUp p) 10000)
    (fun s => (s.count .fabFecCorrected p corrected).count .fabFecUncorrectable p 0)) ∧
  (∀ p corrected uncorrectable burst, Does (.fecWindow p corrected uncorrectable burst) (fun s => s.up p = false ∨ s.r .fabRate p < 2) id) ∧
  (∀ p, DoesOnly (.adaptTrigger p) (fun s => s.up p = true ∧ 1 ≤ s.r .fabRate p ∧ (s.port p).lastAdapt + 1000000000 ≤ s.clk)
    (fun s => s.setPort p (fun q => { q with adapting := true, lastAdapt := s.clk }))) ∧
  (∀ p ws, Does (.adaptResult p ws) (fun s => s.up p = true ∧ s.leavesUp p = false ∧ (s.port p).adapting = true ∧ ws.length = widthOf (s.r .fabLanesUp p) ∧
      ws.all (fun w => windowOk w (s.r .fabRate p)) = true) (fun s =>
    let t := s.setPort p (fun q => { q with adapting := false })
    let t := { t with free := t.free + 1 }
    (List.range (widthOf (s.r .fabLanesUp p))).foldl (fun u l => u.applyAdapt p l u.free) t)) ∧
  (∀ p ws, Does (.adaptResult p ws) (fun s => s.up p = true ∧ s.leavesUp p = false ∧ (s.port p).adapting = true ∧
      (ws.length ≠ widthOf (s.r .fabLanesUp p) ∨ ws.all (fun w => windowOk w (s.r .fabRate p)) = false)) (fun s =>
    (((s.setPort p (fun q => { q with adapting := false })).raise .fabCalDeferred p).count .fabCalDeferrals p).calDefer 0)) ∧
  (∀ p ws, Does (.adaptResult p ws) (fun s => s.up p = false ∨ (s.port p).adapting = false ∨ s.leavesUp p = true) id) ∧
  (∀ p, Does (.rateStep p) (fun s => s.noteNeed.rateDue p = true ∧ s.noteNeed.up p = true ∧ s.noteNeed.isShort p = true ∧
      s.noteNeed.inShow = true) (fun s =>
    ((s.noteNeed.raise .fabRateShort p).restartPort p).setPort p (fun q => { q with floor := s.noteNeed.stepRate p }))) ∧
  (∀ p, Does (.rateStep p) (fun s => s.noteNeed.rateDue p = true ∧ (s.noteNeed.isShort p = false ∨ s.noteNeed.inShow = false)) (fun s =>
    (s.noteNeed.restartPort p).setPort p (fun q => { q with floor := s.noteNeed.stepRate p }))) ∧
  (∀ p, Does (.rateStep p) (fun s => s.noteNeed.rateDue p = false ∧ (s.noteNeed.up p = false ∨ s.noteNeed.isShort p = false ∨
      s.noteNeed.inShow = false)) State.noteNeed)

/-- Packets on a link: the checks of a received packet (R356, R359, R371), LINK packets (R365, R366), replay (R372, R373), what an egress
port sends first and what fills the line (R342, R357, R369, R370), loops (R352, R583) and resync (R358). -/
def Obligations.LinkEventsComplete : Prop :=
  (∀ p d l, (l.length < 12 ∨ getLE l 10 2 ≠ crc16 (l.take 10)) → Does (.packetRx p d)
    (fun s => s.up p = true ∧ (s.link p).lostFraming = false ∧ s.arrived p d = l ∧ (l ≠ [] ∨ d = [])) (fun s =>
      ((s.count .fabHdrErrors p).setLink p (fun l => { l with lostFraming := decide (1 ≤ (s.count .fabHdrErrors p).r .fabRate p) })).sendNak p)) ∧
  (∀ p d l, 12 ≤ l.length → getLE l 10 2 = crc16 (l.take 10) → pktGood l = false → Does (.packetRx p d)
    (fun s => s.up p = true ∧ (s.link p).lostFraming = false ∧ s.arrived p d = l) (fun s => (s.count .fabCrcErrors p).sendNak p)) ∧
  (∀ p d l, 12 ≤ l.length → getLE l 10 2 = crc16 (l.take 10) → pktGood l = true → (pktOf l).ptype = 0x01 → Does (.packetRx p d)
    (fun s => s.up p = true ∧ (s.link p).lostFraming = false ∧ s.arrived p d = l) (fun s => s.deliver (pktOf l))) ∧
  (∀ p d l, 12 ≤ l.length → getLE l 10 2 = crc16 (l.take 10) → pktGood l = true → (pktOf l).ptype ≠ 0x01 → Does (.packetRx p d)
    (fun s => s.up p = true ∧ (s.link p).lostFraming = false ∧ s.arrived p d = l ∧ getLE l 9 1 % 128 ≠ (s.link p).expected ∧
      ((s.link p).expected + 128 - getLE l 9 1 % 128) % 128 ≤ 63) id) ∧
  (∀ p d l, 12 ≤ l.length → getLE l 10 2 = crc16 (l.take 10) → pktGood l = true → (pktOf l).ptype ≠ 0x01 → Does (.packetRx p d)
    (fun s => s.up p = true ∧ (s.link p).lostFraming = false ∧ s.arrived p d = l ∧ getLE l 9 1 % 128 ≠ (s.link p).expected ∧
      63 < ((s.link p).expected + 128 - getLE l 9 1 % 128) % 128) (fun s => s.sendNak p)) ∧
  (∀ p d l, 12 ≤ l.length → getLE l 10 2 = crc16 (l.take 10) → pktGood l = true → (pktOf l).ptype ≠ 0x01 → Does (.packetRx p d)
    (fun s => s.up p = true ∧ (s.link p).lostFraming = false ∧ s.arrived p d = l ∧ getLE l 9 1 % 128 = (s.link p).expected ∧
      (s.link p).held.getD (vcClass (pktOf l)) 0 + pktCost (pktOf l) ≤ allocation.getD (vcClass (pktOf l)) 0) (fun s =>
    ((s.setLink p (fun x => { x with expected := (x.expected + 1) % 128, naking := false, linkDue := true, taken := x.taken + 1 })).setLink p
      (fun x => { x with held := updAt x.held (vcClass (pktOf l)) (fun h => h + pktCost (pktOf l)) })).accepted p (pktOf l) (l.take 12))) ∧
  (∀ p d, d ≠ [] → Does (.packetRx p d) (fun s => s.up p = true ∧ s.arrived p d = []) id) ∧
  (∀ p d, Does (.packetRx p d) (fun s => s.up p = true ∧ (s.link p).lostFraming = true) id) ∧
  (∀ p d, Does (.packetRx p d) (fun s => s.up p = false) (fun s => s.turnBack p (packetItem (s.r .fabRate p) d))) ∧
  (∀ p k, bit (k.u8 1) 0 = false → Does (.linkPacketRx p k) (fun s => s.up p = true ∧ (s.link p).lostFraming = false) (fun s =>
    let l := s.link p
    let ack := k.u8 0 % 128
    let un := afterAck ack l.unacked
    let progress := decide (un.length < l.unacked.length)
    ((s.setLink p (fun x => { x with
      unacked := un, replay := afterAck ack x.replay
      replays := if progress then 0 else x.replays, lastAck := if progress then s.clk else x.lastAck
      freedRx := (List.range 8).map (fun i => k.u16 (4 + 2 * i)) })).w .fabAckRx p ack).showCredit p)) ∧
  (∀ p k, Does (.linkPacketRx p k) (fun s => s.up p = false) (fun s => s.turnBack p (packetItem (s.r .fabRate p) (pktBytes k 0)))) ∧
  (∀ p k, Does (.linkPacketRx p k) (fun s => s.up p = true ∧ (s.link p).lostFraming = true) id) ∧
  (∀ p, DoesOnly (.linkSend p) (fun s => s.up p = true ∧ ((s.link p).linkDue = true ∨ (s.link p).lastLink + 1000 ≤ s.clk)) (fun s => s.sendLink p)) ∧
  (∀ p, Does (.egressSelect p) (fun s => (s.up p = false ∨ s.leavesUp p = true) ∧ s.r .fabState p ≠ Port.loop) id) ∧
  (∀ p, Does (.egressSelect p) (fun s => s.r .fabState p = Port.loop) (fun s => s.loopSend p)) ∧
  (∀ p, Does (.egressSelect p) (fun s => s.up p = true ∧ s.leavesUp p = false ∧ (s.link p).linkDue = true) (fun s => s.sendLink p)) ∧
  (∀ p q rest, Does (.egressSelect p) (fun s => s.up p = true ∧ s.leavesUp p = false ∧ (s.link p).linkDue = false ∧ (s.link p).replay = q :: rest)
    (fun s => (s.putLine p q.2 q.1).setLink p (fun l => { l with replay := rest }))) ∧
  (∀ p q rest, Does (.egressSelect p) (fun s => s.up p = true ∧ s.leavesUp p = false ∧ (s.link p).linkDue = false ∧ (s.link p).replay = [] ∧
      (s.link p).unacked.length < 63 ∧ (s.link p).choose s.clk = some (q, rest)) (fun s =>
    let l := s.link p
    let t := ((s.putLine p q.pkt l.nextSeq).setLink p (fun x => { x with
      queue := rest, unacked := x.unacked ++ [(x.nextSeq, q.pkt)], nextSeq := (x.nextSeq + 1) % 128
      debited := updAt x.debited (vcClass q.pkt) (fun d => (d + pktCost q.pkt) % 65536)
      lastAck := if x.unacked = [] then s.clk else x.lastAck })).showCredit p
    match q.frees with | some r => t.release r | none => t)) ∧
  (∀ p, Does (.egressSelect p) (fun s => s.up p = true ∧ s.leavesUp p = false ∧ (s.link p).linkDue = false ∧ (s.link p).replay = [] ∧
      (63 ≤ (s.link p).unacked.length ∨ (s.link p).choose s.clk = none)) (fun s => s.emit (.line p (fillItem (s.r .fabRate p))))) ∧
  (∀ p, DoesOnly (.replayTimeout p) (fun s => s.up p = true ∧ (s.link p).unacked ≠ [] ∧ (s.link p).lastAck + 10000 ≤ s.clk ∧ s.ackNow p = false)
    (fun s => s.startReplay p)) ∧
  (∀ p, DoesOnly (.nakRepeat p) (fun s => s.up p = true ∧ (s.link p).naking = true ∧ (s.link p).lastNak + 2000 ≤ s.clk) (fun s => s.sendLink p)) ∧
  (∀ p, Does (.resyncBlockRx ⟨p, resyncBlock⟩) (fun s => s.up p = true ∧ 1 ≤ s.r .fabRate p)
    (fun s => s.setLink p (fun l => { l with lostFraming := false }))) ∧
  (∀ p b, b ≠ resyncBlock → Does (.resyncBlockRx ⟨p, b⟩) (fun s => s.up p = true) id) ∧
  (∀ p b, Does (.resyncBlockRx ⟨p, b⟩) (fun s => s.up p = false) (fun s => s.turnBack p (.control b)))

/-- Discovery (R374 to R380), routes (R389, R390), bulk data (R479), an answer that no route leads on (Table 10.5) and fences between nodes
(R396, R397, Table 10.9): an answer once every VC it names has come, its completion, and its end after 10 ms. -/
def Obligations.NetworkEventsComplete : Prop :=
  (∀ k, Does (.linkEventRx k) (fun s => s.on .netMaster = false) id) ∧
  (∀ k, Does (.linkEventRx k) (fun s => s.on .netMaster = true ∧ (k.u8 1 = 3 → s.net.map.findIdx? (fun m => m.node = k.src) = none))
    (fun s => { s with net := { s.net with discoverAt := some (match s.net.discoverAt with
      | some a => min a (s.clk + 1000000) | none => s.clk + 1000000) } })) ∧
  (∀ k i, k.u8 1 = 3 → Does (.linkEventRx k) (fun s => s.on .netMaster = true ∧ s.net.map.findIdx? (fun m => m.node = k.src) = some i)
    (fun s =>
      let t : State := { s with net := { s.net with discoverAt := some (match s.net.discoverAt with
        | some a => min a (s.clk + 1000000) | none => s.clk + 1000000) } }
      t.sendTables t.net.map i)) ∧
  DoesOnly .discoveryStart (fun s => s.on .netMaster = true ∧ s.net.discoverAt ≠ none) (fun s =>
    let self := s.selfNode
    let old := (s.net.map.filter (fun m => m.unit ≠ self.unit)).map (fun (m : MapNode) => { m with found := false })
    let t : State := { s with net := { s.net with
      map := old ++ [self], queries := [], toQuery := [], epoch := (s.net.epoch + 1) % 256, discoverAt := none, discovering := true } }
    State.sendQueries 64 (t.addQueries self)) ∧
  (∀ p k, hopsLeft k = true → Does (.discQueryRx p k) (fun _ => True) (fun s => s.sourceForward p k) ∧
    Does (.discReplyRx p k) (fun _ => True) (fun s => s.sourceForward p k) ∧
    Does (.discAssignRx p k) (fun _ => True) (fun s => s.sourceForward p k)) ∧
  (∀ p k, hopsLeft k = false → Does (.discQueryRx p k) (fun _ => True)
    (fun s => s.egress p (s.packet 0x03 0 0 (discHead (pathOf k).reverse (k.u16 18) ++ s.selfDescription)))) ∧
  (∀ p k q, hopsLeft k = false → Does (.discReplyRx p k) (fun s => s.on .netMaster = true ∧ s.net.discovering = true ∧
      s.net.queries.find? (fun q => q.tag = k.u16 18) = some q ∧
      s.net.map.find? (fun x => x.unit = (nodeOfReply k q.path).unit) = none ∧
      s.foundNodes.any (fun x => x.unit = (nodeOfReply k q.path).unit) = false) (fun s =>
    let m := nodeOfReply k q.path
    let t : State := { s with net := { s.net with
      queries := s.net.queries.filter (fun (x : Query) => x.tag ≠ q.tag)
      map := s.net.map.filter (fun (x : MapNode) => x.unit ≠ m.unit) ++ [m] } }
    (t.addQueries m).continueDiscovery)) ∧
  (∀ p k q o, hopsLeft k = false → Does (.discReplyRx p k) (fun s => s.on .netMaster = true ∧ s.net.discovering = true ∧
      s.net.queries.find? (fun q => q.tag = k.u16 18) = some q ∧
      s.net.map.find? (fun x => x.unit = (nodeOfReply k q.path).unit) = some o ∧
      s.foundNodes.any (fun x => x.unit = (nodeOfReply k q.path).unit) = false) (fun s =>
    let m := { nodeOfReply k q.path with node := o.node, groups := o.groups }
    let t : State := { s with net := { s.net with
      queries := s.net.queries.filter (fun (x : Query) => x.tag ≠ q.tag)
      map := s.net.map.filter (fun (x : MapNode) => x.unit ≠ m.unit) ++ [m] } }
    (t.addQueries m).continueDiscovery)) ∧
  (∀ p k q, hopsLeft k = false → Does (.discReplyRx p k) (fun s => s.on .netMaster = true ∧ s.net.discovering = true ∧
      s.net.queries.find? (fun q => q.tag = k.u16 18) = some q ∧
      s.foundNodes.any (fun x => x.unit = (nodeOfReply k q.path).unit) = true) (fun s =>
    ({ s with net := { s.net with queries := s.net.queries.filter (fun (x : Query) => x.tag ≠ q.tag) } } : State).continueDiscovery)) ∧
  (∀ p k, hopsLeft k = false → Does (.discReplyRx p k) (fun s => s.on .netMaster = false ∨ s.net.discovering = false ∨
    s.net.queries.find? (fun q => q.tag = k.u16 18) = none) id) ∧
  (∀ p k, hopsLeft k = false → Does (.discAssignRx p k) (fun _ => True)
    (fun s => s.takeId (k.u16 20 % 4096) (k.u16 22 % 4096) (k.u8 24))) ∧
  (∀ tag q, Does (.discQueryTimeout tag) (fun s => s.net.queries.find? (fun q => q.tag = tag) = some q ∧ q.sentAt + 1000000 ≤ s.clk ∧ q.tries < 3)
    (fun s => ({ s with net := { s.net with queries := s.net.queries.map (fun (x : Query) =>
      if x.tag = tag then { x with tries := x.tries + 1, sentAt := s.clk } else x) } } : State).sendPath 0x02 q.path tag [])) ∧
  (∀ tag q, Does (.discQueryTimeout tag) (fun s => s.net.queries.find? (fun q => q.tag = tag) = some q ∧ q.sentAt + 1000000 ≤ s.clk ∧ 3 ≤ q.tries)
    (fun s => ({ s with net := { s.net with queries := s.net.queries.filter (fun (x : Query) => x.tag ≠ tag) } } : State).continueDiscovery)) ∧
  (∀ tag q, Does (.discQueryTimeout tag) (fun s => s.net.queries.find? (fun q => q.tag = tag) = some q ∧ s.clk < q.sentAt + 1000000) id) ∧
  (∀ tag, Does (.discQueryTimeout tag) (fun s => s.net.queries.find? (fun q => q.tag = tag) = none) id) ∧
  (∀ p k, k.u8 0 = 0 → Does (.bulkDataRx p k) (fun s => (s.takePiece p k).fw.isOpen = false ∨ k.u32 4 ≠ (s.takePiece p k).r .fwuXferId)
    (fun s => ((s.takePiece p k).gather 0 (k.u32 4) k.src 0 (k.u64 8) (k.payload.drop 16)).runAwaiting)) ∧
  (∀ p k, k.u8 0 = 0 → Does (.bulkDataRx p k) (fun s => (s.takePiece p k).fw.isOpen = true ∧ k.u32 4 = (s.takePiece p k).r .fwuXferId)
    (fun s => s.takePiece p k)) ∧
  (∀ p k, k.u8 0 = 1 ∨ k.u8 0 = 2 → Does (.bulkDataRx p k) (fun _ => True)
    (fun s => (s.gather (k.u8 0) (k.u32 4) k.src 0 (k.u64 8) (k.payload.drop 16)).runAwaiting)) ∧
  (∀ p k, k.u8 0 = 5 → Does (.bulkDataRx p k) (fun s => s.isHead = false ∨ s.on .netMaster = true ∨ k.src ≠ s.r .redTwin ∨ k.u64 8 < mapOffset)
    (fun s => { s with net := { s.net with shadow := mwrite 0 s.net.shadow (k.u64 8) (k.payload.drop 16) } })) ∧
  (∀ p k, k.u8 0 = 5 → Does (.bulkDataRx p k) (fun s => s.isHead = true ∧ s.on .netMaster = false ∧ k.src = s.r .redTwin ∧ mapOffset ≤ k.u64 8)
    (fun s =>
      let m := mwrite 0 s.net.shadow (k.u64 8) (k.payload.drop 16)
      { s with net := { s.net with
        shadow := m, map := mapOf (mread 0 m mapOffset (k.u64 8 - mapOffset + (k.payload.drop 16).length)) } })) ∧
  (∀ p k, k.u8 0 = 3 → Does (.bulkDataRx p k) (fun _ => True) (fun s => s.takeGranule k)) ∧
  (∀ p k, k.u8 0 = 4 → Does (.bulkDataRx p k) (fun _ => True) (fun s => s.takeReadback k)) ∧
  (∀ p k, 5 < k.u8 0 → Does (.bulkDataRx p k) (fun _ => True) id) ∧
  (∀ k, Does (.routeSetRx k) (fun _ => True) (fun s => s.routeSet (k.u8 0) (k.u8 1) (k.u32 4) (k.u48 8))) ∧
  (∀ k, k.u8 0 = 0x10 → bit (k.u8 1) 6 = false → Does (.noRouteRx k)
    (fun s => s.mbx.relays.any (fun r => r.cmd.relay && r.cmd.scope == 0 && r.cmd.node == k.u16 2 % 4096) = false) id) ∧
  (∀ k r, k.u8 0 = 0x10 → bit (k.u8 1) 6 = false → Does (.noRouteRx k)
    (fun s => s.mbx.relays.filter (fun r => r.cmd.relay ∧ r.cmd.scope = 0 ∧ r.cmd.node = k.u16 2 % 4096) = [r])
    (fun s => (s.dropRelay r.tag).postMark r.cmd (s.response r.cmd Status.noNode true [] s.ftNs r.cmd.session))) ∧
  (∀ k, k.u8 0 ≠ 0x10 ∨ bit (k.u8 1) 6 = true → Does (.noRouteRx k) (fun _ => True) id) ∧
  (∀ k, Does (.fenceRx k) (fun s => covers (setBit (match s.net.fencesIn.find? (fun x => x.1 = k.src ∧ x.2.1 = k.u16 0) with
      | some x => x.2.2 | none => 0) k.vc true) (k.u8 2 % 16) = true) (fun s =>
    ({ s with net := { s.net with fencesIn := s.net.fencesIn.filter (fun x => !(x.1 = k.src ∧ x.2.1 = k.u16 0)) } } : State).sendTo 0x13 k.src
      (leBytes 2 (k.u16 0) ++ [byte (k.u8 2 % 16), 0, 0, 0, 0, 0]))) ∧
  (∀ k, Does (.fenceRx k) (fun s => s.net.fencesIn.find? (fun x => x.1 = k.src ∧ x.2.1 = k.u16 0) = none ∧
      covers (setBit 0 k.vc true) (k.u8 2 % 16) = false) (fun s =>
    { s with net := { s.net with fencesIn := s.net.fencesIn.filter (fun x => !(x.1 = k.src ∧ x.2.1 = k.u16 0)) ++
      [(k.src, k.u16 0, setBit 0 k.vc true)] } })) ∧
  (∀ k x, Does (.fenceRx k) (fun s => s.net.fencesIn.find? (fun x => x.1 = k.src ∧ x.2.1 = k.u16 0) = some x ∧
      covers (setBit x.2.2 k.vc true) (k.u8 2 % 16) = false) (fun s =>
    { s with net := { s.net with fencesIn := s.net.fencesIn.filter (fun x => !(x.1 = k.src ∧ x.2.1 = k.u16 0)) ++
      [(k.src, k.u16 0, setBit x.2.2 k.vc true)] } })) ∧
  (∀ k f, Does (.fenceDoneRx k) (fun s => s.net.fences.find? (fun f => f.id = k.u16 0 ∧ f.dst = k.src) = some f)
    (fun s => (s.releaseFence f).complete (.fence f.id) Status.ok)) ∧
  (∀ k, Does (.fenceDoneRx k) (fun s => s.net.fences.find? (fun f => f.id = k.u16 0 ∧ f.dst = k.src) = none) id) ∧
  (∀ n f, Does (.fenceTimeout n) (fun s => s.net.fences.find? (fun f => f.id = n) = some f ∧ f.sentAt + 10000000 ≤ s.clk ∧ s.doneNow f = false)
    (fun s => ((s.releaseFence f).raise .netFenceTimeout).complete (.fence n) Status.timeout)) ∧
  (∀ n f, Does (.fenceTimeout n) (fun s => s.net.fences.find? (fun f => f.id = n) = some f ∧ (s.clk < f.sentAt + 10000000 ∨ s.doneNow f = true)) id) ∧
  (∀ n, Does (.fenceTimeout n) (fun s => s.net.fences.find? (fun f => f.id = n) = none) id)

/-- Commands that arrive other than by a slot, and those that begin or end later: MBX_CMD and MBX_RSP (R398, R399, R435), relays that time
out (R400, R475, R478), scheduled and fenced commands (R401, R460), UDP (R457), sessions that lapse (R467) and the PCIe link lost. -/
def Obligations.CommandEventsComplete : Prop :=
  (∀ k data, let c := { HostCmd.ofBytes (.fabric (k.u16 68)) 0xFF (k.u32 64) (k.payload.take 64) with data := data }
    Does (.mbxCmdRx k data) (fun s => s.queuesMirror c = true) (fun s => { s with red := { s.red with mirrored := s.red.mirrored ++ [c] } }) ∧
    (readsTransfer c = none → Does (.mbxCmdRx k data) (fun s => s.queuesMirror c = false) (fun s => s.runRelayed c)) ∧
    (∀ n, readsTransfer c = some n → Does (.mbxCmdRx k data) (fun s => s.queuesMirror c = false ∧ s.wholeTransfer c n = true)
      (fun s => s.runRelayed c)) ∧
    (∀ n, readsTransfer c = some n → Does (.mbxCmdRx k data) (fun s => s.queuesMirror c = false ∧ s.wholeTransfer c n = false ∧
      s.fw.restartAt = none) (fun s => { s.renew c with net := { s.net with awaiting := s.net.awaiting ++ [c] } }))) ∧
  (∀ k, Does (.mbxRspRx k) (fun s => s.fw.restartAt = none ∧ s.fw.fallback = none)
    (fun s => s.relayAnswer (k.u32 64) (k.u16 68) (Response.ofBytes (k.payload.take 64)))) ∧
  (∀ k t, k.u16 8 = Status.ok → Does (.mbxRspRx k) (fun s => s.fw.restartAt = none ∧ s.fw.fallback = some (k.u32 64, t))
    (fun s => { s.w .aonFwuFallbackSent 0 1 with fw := { s.fw with fallback := none } })) ∧
  (∀ k, Does (.mbxRspRx k) (fun s => s.fw.restartAt ≠ none) id) ∧
  (∀ tag r, Does (.relayTimeout tag) (fun s => s.mbx.relays.find? (fun r => r.tag = tag) = some r ∧ s.relayDue r = true ∧
      (r.finals = true ∨ r.endsNow = true ∨ r.responses.any (fun p => !p.2.final) = false)) (fun s => s.finishRelay r)) ∧
  (∀ tag r, Does (.relayTimeout tag) (fun s => s.mbx.relays.find? (fun r => r.tag = tag) = some r ∧ s.relayDue r = true ∧
      r.finals = false ∧ r.endsNow = false ∧ r.responses.any (fun p => !p.2.final) = true) (fun s => s.interimRelay r)) ∧
  (∀ tag r, Does (.relayTimeout tag) (fun s => s.mbx.relays.find? (fun r => r.tag = tag) = some r ∧ s.relayDue r = false) id) ∧
  Does .scheduledActivation (fun s => s.fw.restartAt ≠ none) id ∧
  Does .scheduledActivation (fun s => s.fw.restartAt = none)
    (fun s => State.runDue s.lapseDue.mbx.scheduled.length s.lapseDue) ∧
  Does .scheduledActivation (fun s => s.fw.restartAt = none ∧ s.lapsing = [] ∧ ∀ c ∈ s.mbx.scheduled, s.ftNs < c.activation) id ∧
  (∀ c t, Does .fencedCommandStart (fun s => s.lapseDue = t ∧ t.mbx.fenced.find? t.mayStart = some c ∧ t.fw.restartAt = none) (fun _ =>
    State.start { t with mbx := { t.mbx with fenced := t.mbx.fenced.erase c } } c.opcode (actionOf c.opcode) c)) ∧
  (∀ t, Does .fencedCommandStart (fun s => s.lapseDue = t ∧ (t.mbx.fenced.find? t.mayStart = none ∨ t.fw.restartAt ≠ none)) (fun _ => t)) ∧
  (∀ ip sport l n, l.take 4 = [0x4D, 0x58, 0x55, 0x31] → getLE l 4 1 = n → 1 ≤ n → n ≤ 8 → getLE l 5 1 = 0 → l.length = 8 + 64 * n →
    Does (.udpDatagramRx ip sport l) (fun s => s.mbx.pathsUp = true ∧ s.held 3 = false ∧ s.allowed ip = true ∧ s.fw.restartAt = none)
      (fun s => ((List.range n).foldl (fun t k => t.takeUdp ip sport (getBytes l (8 + 64 * k) 64)) s).answerUnknown)) ∧
  (∀ ip sport l, l.take 4 ≠ [0x4D, 0x58, 0x55, 0x31] →
    Does (.udpDatagramRx ip sport l) (fun s => s.mbx.pathsUp = true ∧ s.held 3 = false ∧ s.allowed ip = true)
      (fun s => { s with mbx := { s.mbx with discarded := s.mbx.discarded + 1 } })) ∧
  (∀ ip sport l, Does (.udpDatagramRx ip sport l) (fun s => s.mbx.pathsUp = false ∨ s.held 3 = true ∨ s.allowed ip = false) id) ∧
  (∀ n, DoesOnly (.sessionLapse n) (fun s => ∃ x, s.mbx.sessions.find? (fun x => x.id = n) = some x ∧ x.expiry ≤ s.clk)
    (fun s => match s.mbx.sessions.find? (fun x => x.id = n) with | some x => s.lapse x 1 | none => s)) ∧
  Does .pcieLinkDown (fun _ => True) (fun s =>
    let t := ((s.mbx.sessions.filter (fun x => x.owner = .pcie)).foldl (fun (t : State) x => t.lapse x 3) s).puts
      [(.pcieLinkUp, 0, 0), (.pcieSpeed, 0, 0), (.pcieWidth, 0, 0)]
    if t.isHead then t.w .redHealth 0 (setBit (t.r .redHealth) 8 true) else t)

/-- The steps of a commit between nodes (R131, R137 to R145, Table 4.6): prepare and its votes, a vote counted, the seal, the abandon and
their time limits. -/
def Obligations.CommitEventsComplete : Prop :=
  (∀ k t, Does (.commitPrepareRx k) (fun s => s.lapseDue = t ∧ t.heedsCommit k.src = false)
    (fun _ => t.sendTo 0x19 k.src (votePayload (k.u16 0) 1 Status.notBound 0))) ∧
  (∀ k t, Does (.commitPrepareRx k) (fun s => s.lapseDue = t ∧ t.heedsCommit k.src = true ∧
      (t.lay.sets.any (fun c => c.state == .prepared) = true ∨ 4 ≤ t.lay.sets.length))
    (fun _ => ({ t with lay := { t.lay with coefStaged := [] } } : State).sendTo 0x19 k.src (votePayload (k.u16 0) 1 Status.busy 0))) ∧
  (∀ k t, Does (.commitPrepareRx k) (fun s => s.lapseDue = t ∧ t.heedsCommit k.src = true ∧
      t.lay.sets.any (fun c => c.state == .prepared) = false ∧ t.lay.sets.length < 4 ∧ t.validate t.candidate = none) (fun _ =>
    ({ t with lay := { t.lay with coefStaged := [] } } : State).sendTo 0x19 k.src (votePayload (k.u16 0) 1 Status.badArg 0))) ∧
  (∀ k reject t, Does (.commitPrepareRx k) (fun s => s.lapseDue = t ∧ t.heedsCommit k.src = true ∧
      t.lay.sets.any (fun c => c.state == .prepared) = false ∧ t.lay.sets.length < 4 ∧ t.validate t.candidate = some reject ∧ t.isHead = false)
    (fun _ =>
    let u := t.capture (k.u16 0) 1 .prepared 0 false reject k.src
    ({ u with lay := { u.lay with
      acted := u.lay.acted.filter (· ≠ k.u16 0), sealed := u.lay.sealed.filter (· ≠ k.u16 0) } } : State).sendTo 0x19 k.src
      (votePayload (k.u16 0) 0 0 reject))) ∧
  (∀ k r w, k.u8 2 = 0 → Does (.commitVoteRx k) (fun s => s.lay.sealRun = some r ∧ r.id = k.u16 0 ∧ s.voteOf r k.src = some w) (fun s =>
    let r := { r with waiting := r.waiting.filter (· ≠ w), reject := r.reject ||| k.u16 6, refusing := r.refusing + 0 }
    ({ s with lay := { s.lay with sealRun := some r } } : State).finishVotes r)) ∧
  (∀ k r w, k.u8 2 ≠ 0 → Does (.commitVoteRx k) (fun s => s.lay.sealRun = some r ∧ r.id = k.u16 0 ∧ s.voteOf r k.src = some w) (fun s =>
    let r := { r with waiting := r.waiting.filter (· ≠ w), reject := r.reject ||| k.u16 6, refusing := r.refusing + 1 }
    ({ s with lay := { s.lay with sealRun := some r } } : State).abandonRun r (k.u16 4))) ∧
  (∀ k r, Does (.commitVoteRx k) (fun s => s.lay.sealRun = some r ∧ (r.id ≠ k.u16 0 ∨ s.voteOf r k.src = none)) id) ∧
  (∀ k, Does (.commitVoteRx k) (fun s => s.lay.sealRun = none) id) ∧
  (∀ k u, Does (.commitSealRx k) (fun s => s.heard k (k.u16 0) = some u) (fun _ =>
    ({ u with lay := { u.lay with sealed := (k.u16 0 :: u.lay.sealed).take 256 } } : State).sealSet (k.u16 0) (k.u16 2) (k.u48 8))) ∧
  (∀ k, Does (.commitSealRx k) (fun s => s.heard k (k.u16 0) = none) id) ∧
  (∀ k u c, Does (.commitAbandonRx k) (fun s => s.heard k (k.u16 0) = some u ∧
      s.lay.sealRun = none ∧ u.lay.sets.find? (fun c => c.id == k.u16 0 && c.state == .prepared) = some c)
    (fun _ => u.discardSet c (k.u16 2))) ∧
  (∀ k u r, Does (.commitAbandonRx k) (fun s => s.heard k (k.u16 0) = some u ∧ s.lay.sealRun = some r ∧ r.id = k.u16 0 ∧
      (u.endSeal r (k.u16 2)).lay.sets = []) (fun _ => u.endSeal r (k.u16 2))) ∧
  (∀ k, Does (.commitAbandonRx k) (fun s => s.heard k (k.u16 0) = none) id) ∧
  (∀ r, Does .voteTimeout (fun s => s.lay.sealRun = some r ∧ r.waiting ≠ [] ∧ r.started + 100000000 ≤ s.clk)
    (fun s => s.abandonRun r Status.timeout)) ∧
  (∀ r, Does .voteTimeout (fun s => s.lay.sealRun = some r ∧ (r.waiting = [] ∨ s.clk < r.started + 100000000)) id) ∧
  (∀ c, Does .preparedSetExpire (fun s =>
      s.lay.sets.find? (fun c => c.state == .prepared && decide (c.at_ + 1000000000 ≤ s.clk)) = some c)
    (fun s => (s.discardSet c Status.aborted).raise .laySealLost)) ∧
  Does .preparedSetExpire (fun s => s.lay.sets = []) id

/-- The heads' lease (R406 to R411, R414, R418, R419, Table 11.2): renewals, grants, yields, silence, the guard and a candidate's limit. -/
def Obligations.LeaseEventsComplete : Prop :=
  DoesOnly .leaseRenewSend (fun s => s.isHead = true ∧ (s.on .redHolder = true ∨ s.r .redState = Red.candidate) ∧ s.held 12 = false ∧
    s.red.sentAt + 1000 * s.r .redRenewUs ≤ s.clk) (fun s => s.sendRenew) ∧
  (∀ p k, p < 4 → k.u8 0 = 0 → bit (k.u8 1) 4 = false → ∀ u, Does (.leaseRenewRx p k)
    (fun s => s.firstCopy (leaseOrigin k) 0x1C (k.u16 16) = some u ∧ u.isHead = false) (fun _ =>
      let isB := bit (k.u16 26) 15
      let ids := if k.src = 0 then u.red.headIds else updAt u.red.headIds (b2n isB) (fun _ => k.src)
      let t := ({ u with red := { u.red with expiries := noteExpiry isB (k.u64 8) u.red.expiries, headIds := ids } } : State).followRenew k
      if bit (k.u8 1) 0 ∧ t.id ≠ 0 ∧ t.mayGrant isB then t.sendAck k else t)) ∧
  (∀ p k, p < 4 → k.u8 0 = 0 → bit (k.u8 1) 4 = false → ∀ u, Does (.leaseRenewRx p k)
    (fun s => s.firstCopy (leaseOrigin k) 0x1C (k.u16 16) = some u ∧ u.isHead = true ∧ u.fromTwin k = false) (fun _ => u)) ∧
  (∀ p k, p < 4 → k.u8 0 = 0 → bit (k.u8 1) 4 = false → ∀ u, Does (.leaseRenewRx p k)
    (fun s => s.firstCopy (leaseOrigin k) 0x1C (k.u16 16) = some u ∧ u.isHead = true ∧ u.fromTwin k = true ∧ (u.noteTwin k).ignores k = true)
    (fun _ => u.noteTwin k)) ∧
  (∀ p k, p < 4 → k.u8 0 = 0 → bit (k.u8 1) 4 = false → ∀ u, Does (.leaseRenewRx p k)
    (fun s => s.firstCopy (leaseOrigin k) 0x1C (k.u16 16) = some u ∧ u.isHead = true ∧ u.fromTwin k = true ∧ (u.noteTwin k).ignores k = false)
    (fun _ =>
      let w := (u.noteTwin k).giveWay k
      let t := { w with red := { w.red with
        expiries := noteExpiry (bit (k.u16 26) 15) (k.u64 8) w.red.expiries, renewAt := some w.clk, taking := false } }
      let t := if k.u8 2 = Red.active then t.hearHolder.complete .handover Status.ok else t
      if t.mayGrant (bit (k.u16 26) 15) then t.sendAck k else t)) ∧
  (∀ p k, k.u8 0 ≠ 0 ∨ bit (k.u8 1) 4 = true → Does (.leaseRenewRx p k) (fun _ => True) id) ∧
  (∀ k u e, k.u8 0 = 1 → k.u64 8 = e → Does (.leaseAckRx k) (fun s => s.isHead = true ∧
      s.firstCopy (leaseOrigin k) 0x1C (k.u16 16) = some u ∧ u.fromTwin k = true ∧ (u.noteTwin k).red.asked = some e ∧
      bit (k.u16 26) 15 = (u.noteTwin k).isHeadB ∧ (u.noteTwin k).red.witness = false ∧ (u.noteTwin k).fromTwin k = true)
    (fun _ => (u.noteTwin k).granted e)) ∧
  (∀ k, Does (.leaseAckRx k) (fun s => s.isHead = false ∨ k.u8 0 ≠ 1) id) ∧
  (∀ k u, k.u8 0 = 2 → bit (k.u8 1) 4 = false → Does (.leaseYieldRx k) (fun s => s.firstCopy (leaseOrigin k) 0x1C (k.u16 16) = some u ∧
      u.fromTwin k = true ∧ u.held 12 = false ∧ (u.noteTwin k).r .redState ≠ Red.candidate ∧ (u.noteTwin k).on .redHolder = false) (fun _ =>
    ({ u.noteTwin k with red := { (u.noteTwin k).red with yieldFrame := some (k.u48 32), degraded := false } } : State).enterCandidate)) ∧
  (∀ k, k.u8 0 ≠ 2 ∨ bit (k.u8 1) 4 = true → Does (.leaseYieldRx k) (fun _ => True) id) ∧
  Does .leaseEnd (fun s => s.on .redHolder = true ∧ s.red.leaseEnd ≤ s.ftNs ∧ s.acksNow.red.leaseEnd ≤ s.acksNow.ftNs) (fun s =>
    let t := s.acksNow.cease Red.lapsed
    { t with red := { t.red with lapsedAt := some t.clk } }) ∧
  Does .leaseEnd (fun s => s.on .redHolder = true ∧ s.red.leaseEnd ≤ s.ftNs ∧ s.acksNow.ftNs < s.acksNow.red.leaseEnd) State.acksNow ∧
  Does .leaseEnd (fun s => s.on .redHolder = false ∨ s.ftNs < s.red.leaseEnd) id ∧
  Does .leaseSilence (fun s => s.isHead = true ∧ s.red.begunAt.isSome = true ∧ s.r .redLeaseMode = 0 ∧ s.r .redState ≠ Red.candidate ∧
      s.r .redState ≠ Red.active ∧ s.held 12 = false ∧ s.silence = true ∧ s.eligible = true)
    (fun s => { s with red := { s.red with taking := true, degraded := false } }) ∧
  Does .leaseSilence (fun s => s.isHead = false ∨ s.red.begunAt = none ∨ s.r .redLeaseMode ≠ 0 ∨ s.r .redState = Red.candidate ∨
    s.r .redState = Red.active ∨ s.held 12 = true) id ∧
  Does .guardEnd (fun s => s.isHead = true ∧ let t := s.renewsNow
    t.isHead = true ∧ t.r .redState ≠ Red.candidate ∧ t.r .redState ≠ Red.active ∧ t.held 12 = false ∧
    ((t.red.taking = true ∧ t.r .redLeaseMode = 0) ∨ t.red.takeReq = true) ∧ t.guardOver = true) (fun s => s.renewsNow.enterCandidate) ∧
  Does .guardEnd (fun s => s.isHead = true ∧ let t := s.renewsNow
    t.r .redState = Red.candidate ∨ t.r .redState = Red.active ∨ t.held 12 = true ∨
    (t.red.takeReq = false ∧ (t.red.taking = false ∨ t.r .redLeaseMode ≠ 0)) ∨ t.guardOver = false) State.renewsNow ∧
  Does .guardEnd (fun s => s.isHead = false) id ∧
  DoesOnly .candidateTimeout (fun s => s.isHead = true ∧ s.r .redState = Red.candidate ∧ s.red.granted = false ∧
    s.red.candidateAt + 1000 * s.r .redLeaseUs ≤ s.clk) (fun s => s.withdraw Status.timeout) ∧
  DoesOnly .renewMissed (fun s => ∃ t, s.red.renewAt = some t ∧ s.on .redHolder = false ∧ t + 1000 * s.r .redRenewUs + 100000 ≤ s.clk ∧
    s.on .redRenewMissed = false) (fun s => (s.raise .redRenewMissed).count .redRenewsMissed)

/-- Head claims (R421 to R426, Table 11.3), the pair controller that stands down (R440), and the copy of the clip store to a new standby
(R441 to R443, Table 11.8). -/
def Obligations.RedundancyEventsComplete : Prop :=
  (∀ p k u, p < 4 → Does (.headClaimRx p k) (fun s => s.firstCopy (8192 + k.u32 4 % 2) 0x1D (k.u48 16 % 65536) = some u ∧ u.isHead = true ∧
      (k.u32 4 % 2 = 1 ↔ u.isHeadB = false)) (fun _ =>
    { u.w .redTwinClaim 0 (k.u32 4) with red := { u.red with
      twinHeard := true, twinClaim := k.u32 4, twinEpoch := k.u16 0, heardEpoch := max u.red.heardEpoch (k.u16 0) } })) ∧
  (∀ p k u, p < 4 → Does (.headClaimRx p k) (fun s => s.firstCopy (8192 + k.u32 4 % 2) 0x1D (k.u48 16 % 65536) = some u ∧ u.isHead = false ∧
      (u.red.claims.getD (k.u32 4 % 2) State.claim0).liveAt (u.r .redClaimHold) u.frameNow = true ∧
      pairLt (k.u16 0, k.u32 4) ((u.red.claims.getD (k.u32 4 % 2) State.claim0).epoch, (u.red.claims.getD (k.u32 4 % 2) State.claim0).claim) = true)
    (fun _ => u.raise .redClaimRejected)) ∧
  (∀ p k u, p < 4 → Does (.headClaimRx p k) (fun s => s.firstCopy (8192 + k.u32 4 % 2) 0x1D (k.u48 16 % 65536) = some u ∧ u.isHead = false ∧
      (u.red.claims.getD (k.u32 4 % 2) State.claim0).liveAt (u.r .redClaimHold) u.frameNow = false ∧ u.red.standdownAt = none) (fun _ =>
    { u with red := { u.red with claims := updAt u.red.claims (k.u32 4 % 2) (fun _ =>
      { epoch := k.u16 0, claim := k.u32 4, select := k.u64 8, apply := k.u48 16, oldEpoch := 0, oldClaim := 0, oldSelect := 0,
        lastFrame := u.frameNow, live := true }) } })) ∧
  (∀ p k, Does (.headClaimRx p k) (fun s => s.firstCopy (8192 + k.u32 4 % 2) 0x1D (k.u48 16 % 65536) = none) id) ∧
  DoesOnly .pairStanddown (fun s => s.isTile = true ∧ s.on .redPairOn = true ∧ s.unwell = true ∧ s.red.standdownAt = none) (fun s =>
    ({ s.emit .laneIdle with red := { s.red with standdownAt := some s.frameNow } } : State).raise .redPairStanddown) ∧
  (∀ k u, k.u8 0 = 0 → Does (.resilverRx k) (fun s => s.isHead = true ∧ k.src ≠ s.id ∧
      s.firstCopy (8192 + b2n (!s.isHeadB)) 0x1E (k.u32 16 % 8192 * 8 + 0) = some u) (fun _ =>
    if u.on .redHolder then u.serveResilver else u.startResilver)) ∧
  (∀ k u, k.u8 0 = 2 → Does (.resilverRx k) (fun s => s.isHead = true ∧ k.src ≠ s.id ∧
      s.firstCopy (8192 + b2n (!s.isHeadB)) 0x1E (k.u32 16 % 8192 * 8 + 2) = some u ∧ u.r .redState = Red.resilver) (fun _ =>
    u.puts [(.redState, 0, Red.standby), (.redMirrorComplete, 0, 1), (.redResilverLeft, 0, 0)])) ∧
  (∀ k u, k.u8 0 = 3 → Does (.resilverRx k) (fun s => s.isHead = true ∧ k.src ≠ s.id ∧
      s.firstCopy (8192 + b2n (!s.isHeadB)) 0x1E (k.u32 16 % 8192 * 8 + 3) = some u ∧ u.granuleOk (k.u64 8 / 4096) = true)
    (fun _ => u.sendGranules [k.u64 8 / 4096])) ∧
  (∀ k u, k.u8 0 = 4 → Does (.resilverRx k) (fun s => s.isHead = true ∧ k.src ≠ s.id ∧
      s.firstCopy (8192 + b2n (!s.isHeadB)) 0x1E (k.u32 16 % 8192 * 8 + 4) = some u)
    (fun _ => (u.count .redResilverLost 0 (k.u32 4)).unlist (k.u64 8 / 4096))) ∧
  (∀ k, Does (.resilverRx k) (fun s => s.isHead = false ∨ k.src = s.id) id) ∧
  Does .resilverPassDone (fun s => s.red.reading = false) id ∧
  Does .resilverPassDone (fun s => s.red.reading = true ∧ s.red.dirty = []) (fun s =>
    let t := ({ s with net := { s.net with nextTransfer := s.net.nextTransfer + 1 } } : State).w .redPasses 0 (s.r .redPasses + 1)
    ({ t with red := { t.red with reading := false, dirty := [] } } : State).sendResilver 2 0 0 s.net.nextTransfer)

/-- Calibration runs (R533 to R537), tests and loops (R576 to R586), JTAG (R589, R590) and the debug port (R591, R592). The answer to a
debug response rests on two functions the spec leaves to cryptography, which Config leaves open. -/
def Obligations.CalibrationTestEventsComplete : Prop :=
  Does .calRunStart (fun _ => True) State.nextCal ∧
  (∀ o, Does (.calRunDone o) (fun s => s.thm.running = none) id) ∧
  (∀ o r, Does (.calRunDone o) (fun s => s.thm.running = some r ∧ r.sweeping = true) id) ∧
  (∀ o r, Does (.calRunDone o) (fun s => s.thm.running = some r ∧ r.aborting = true) (fun s =>
    let t := { s with thm := { s.thm with running := none } }.raiseIf r.cmd.isSome .thmCalDone
    (t.finishRun .cal r Status.aborted []).nextCal)) ∧
  (∀ o r, Does (.calRunDone o) (fun s => s.thm.running = some r ∧ r.aborting = false ∧ r.sweeping = false ∧
      ({ s with thm := { s.thm with running := none } } : State).calPasses o r = true ∧ ({ s with thm := { s.thm with running := none } } : State).calBlock r = true) (fun s =>
    let t := (({ s with thm := { s.thm with running := none } } : State).applyCal r o).raiseIf r.cmd.isSome .thmCalDone
    (t.finishRun .cal r (if r.late then Status.late else Status.ok) []).nextCal)) ∧
  (∀ o r, Does (.calRunDone o) (fun s => s.thm.running = some r ∧ r.aborting = false ∧ r.sweeping = false ∧
      ({ s with thm := { s.thm with running := none } } : State).calPasses o r = false ∧ ({ s with thm := { s.thm with running := none } } : State).calBlock r = true) (fun s =>
    let t := (({ s with thm := { s.thm with running := none } } : State).calDefer r.kind).raiseIf r.cmd.isSome .thmCalDone
    (t.finishRun .cal r (if r.late then Status.late else Status.ok) []).nextCal)) ∧
  (∀ o r, Does (.calRunDone o) (fun s => s.thm.running = some r ∧ r.aborting = false ∧ r.sweeping = false ∧
      ({ s with thm := { s.thm with running := none } } : State).calBlock r = false) (fun s =>
    let t := { s with thm := { s.thm with running := none } }.raiseIf r.cmd.isSome .thmCalDone
    (t.finishRun .cal r (if r.late then Status.late else Status.ok) []).nextCal)) ∧
  Does .testRunStart (fun _ => True) State.nextTest ∧
  (∀ l k x c, Does (.testChunkDone l ⟨k, x⟩ c) (fun s => s.chunkRun l k x = none) id) ∧
  (∀ l k x c r, (l = true ∨ k ≠ 4) → Does (.testChunkDone l ⟨k, x⟩ c) (fun s => s.chunkRun l k x = some r ∧ s.runEnded (r.add c) = true)
    (fun s => (s.setRun r (r.add c)).endRun (r.add c) (b2n ((r.add c).errors != 0)))) ∧
  (∀ x c r, Does (.testChunkDone false ⟨4, x⟩ c) (fun s => s.chunkRun false 4 x = some r ∧ s.runEnded (r.add c) = true)
    (fun s => ((s.setRun r (r.add c)).readErrors x c).endRun (r.add c) (b2n ((r.add c).errors != 0)))) ∧
  (∀ l k x c r, (l = true ∨ k ≠ 4) → Does (.testChunkDone l ⟨k, x⟩ c)
    (fun s => s.chunkRun l k x = some r ∧ s.runEnded (r.add c) = false ∧ r.aborting = true)
    (fun s => (s.setRun r (r.add c)).endRun (r.add c) 2)) ∧
  (∀ k x c r, k ≠ 4 → Does (.testChunkDone false ⟨k, x⟩ c)
    (fun s => s.chunkRun false k x = some r ∧ s.runEnded (r.add c) = false ∧ r.aborting = false)
    (fun s => (s.setRun r (r.add c)).readyChunk (r.add c))) ∧
  (∀ x c r, r.code = 3 → Does (.testChunkDone true ⟨1, x⟩ c)
    (fun s => s.chunkRun true 1 x = some r ∧ s.runEnded (r.add c) = false ∧ r.aborting = false)
    (fun s => (s.setRun r (r.add c)).echoOn (r.add c))) ∧
  (∀ i s, i ∈ [Jtag.extest, Jtag.clamp, Jtag.highz] → s.boot.supply = .on → s.on .tstBscan = false →
    exec (.jtagInstruction i) s = .next ((({ s.begun with thm := { s.thm with jtag := i } } : State).emit .laneIdle).w .tstBscan 0 1)) ∧
  (∀ i s, i ∉ [Jtag.extest, Jtag.clamp, Jtag.highz, Jtag.idcode] → s.boot.supply = .on → s.on .tstBscan = true → s.boot.halted = false →
    exec (.jtagInstruction i) s = .next ((({ s.begun with thm := { s.thm with jtag := i } } : State).w .tstBscan 0 0).resetNode 0x40 false)) ∧
  (∀ s, s.boot.supply = .on → s.on .tstBscan = false → exec (.jtagInstruction .idcode) s = .next
    (({ s.begun with thm := { s.thm with jtag := .idcode } } : State).emit
      (.readData (leBytes 4 (2 ^ 28 + 0x0D96 * 2 ^ 12 + Config.manufacturer % 2 ^ 11 * 2 + 1))))) ∧
  (∀ i s, s.boot.supply ≠ .on → exec (.jtagInstruction i) s = .next s.begun) ∧
  (∀ sig too, Does (.debugResponse sig too) (fun s => Config.debugFused = true ∨ s.on .tstDebugRefusing = true) id) ∧
  (∀ sig, Does (.debugResponse sig false) (fun s => Config.debugFused = false ∧ s.on .tstDebugRefusing = false ∧
      s.sameCycle.any s.resetBy = false ∧ s.boot.resetAt ≠ some s.clk ∧
      Config.debugSignatureOk (Config.sha384 (leBytes 16 Config.unitId ++ leBytes 16 (s.draw 128).1)) sig = true) (fun s =>
    let t := { (s.draw 128).2 with thm := { (s.draw 128).2.thm with challenges := (s.draw 128).2.thm.challenges + 1 } }
    (t.w .tstDebugUnlocked 0 1).event 15)) ∧
  (∀ sig too, Does (.debugResponse sig too) (fun s => Config.debugFused = false ∧ s.on .tstDebugRefusing = false ∧
      Config.debugSignatureOk (Config.sha384 (leBytes 16 Config.unitId ++ leBytes 16 (s.draw 128).1)) sig = false) (fun s =>
    let d := (s.draw 128).2
    let t := { d with thm := { d.thm with challenges := d.thm.challenges + 1, wrong := d.thm.wrong + 1 } }
    if 4 ≤ t.thm.wrong then t.w .tstDebugRefusing 0 1 else t))

/-- The firmware's restart (R559 to R563), its spread over the fabric (R555, R557), the fallback request (R571, R572) and the flash's
writes (R238, R544). -/
def Obligations.FirmwareEventsComplete : Prop :=
  (∀ t parsed, Does (.firmwareRestart parsed) (fun s => s.fw.restartAt = some t) (fun s => s.endRestart t parsed)) ∧
  (∀ d parsed, Does (.firmwareRestart parsed) (fun s => s.fw.restartAt = none ∧ s.fw.restartDue = some d ∧ s.restartReady d = true)
    State.beginRestart) ∧
  (∀ d parsed, Does (.firmwareRestart parsed) (fun s => s.fw.restartAt = none ∧ s.fw.restartDue = some d ∧ s.restartReady d = false) id) ∧
  (∀ parsed, Does (.firmwareRestart parsed) (fun s => s.fw.restartAt = none ∧ s.fw.restartDue = none) id) ∧
  DoesOnly .firmwareRestartTimeout (fun s => ∃ t, s.fw.restartAt = some t ∧ t + 1000000000 ≤ s.clk) (fun s => s.resetNode 8 false) ∧
  DoesOnly .fallbackReqRepeat (fun s => ∃ f, s.fw.fallback = some f ∧ f.2 + 10000000 ≤ s.clk) (fun s => s.sendFallback) ∧
  (∀ sp, Does .spreadPoll (fun s => s.fw.spread = some sp ∧ sp.polled + 1000000000 ≤ s.clk ∧ s.spreadDone sp = true) (fun s => s.endSpread sp)) ∧
  (∀ sp, Does .spreadPoll (fun s => s.fw.spread = some sp ∧ sp.polled + 1000000000 ≤ s.clk ∧ s.spreadDone sp = false)
    (fun s => (s.resend sp).pollSpread sp)) ∧
  (∀ sp, Does .spreadPoll (fun s => s.fw.spread = some sp ∧ s.clk < sp.polled + 1000000000) id) ∧
  Does .spreadPoll (fun s => s.fw.spread = none) id ∧
  (∀ sp, Does .spreadTimeout (fun s => s.fw.spread = some sp ∧ sp.started + 1000000000 * s.r .fwuSpreadLimit ≤ s.clk) (fun s => s.endSpread sp)) ∧
  (∀ sp, Does .spreadTimeout (fun s => s.fw.spread = some sp ∧ s.clk < sp.started + 1000000000 * s.r .fwuSpreadLimit) id) ∧
  Does .spreadTimeout (fun s => s.fw.spread = none) id ∧
  (∀ c st l, Does .flashWriteComplete (fun s => s.fw.job = .write ∧ s.mbx.deferred = [⟨c, .write st l, true⟩]) (fun s =>
    (({ s with mbx := { s.mbx with deferred := [] } } : State).final c st l).flashFree)) ∧
  (∀ c, Does .flashWriteComplete (fun s => s.fw.job = .write ∧ s.mbx.deferred = [⟨c, .confirm, true⟩] ∧ s.inTrial = true) (fun s =>
    let b := s.trialBank
    let t := ({ s with mbx := { s.mbx with deferred := [] } } : State).confirmSlot
    let t := ((t.writeSelection b (max (t.r .fwuFloorTarget) (t.r (secReg b)))).clearTrial).w (bankReg b) 0 Bank.confirmed
    let t := if t.bank (1 - b) = Bank.confirmed then t.w (bankReg (1 - b)) 0 Bank.ready else t
    (({ t with mbx := { t.mbx with deferred := t.mbx.deferred ++ [⟨c, .fuses, true⟩] } } : State).startFuses).flashFree)) ∧
  Does .flashWriteComplete (fun s => s.fw.job = .save) (fun s => s.savedCoef.flashFree) ∧
  Does .flashWriteComplete (fun s => s.fw.job = .idle ∨ s.fw.job = .reload) id

/-! ### The block -/

/-- The block takes the command at the front of its queue and carries it out on what is left of the queue; with no command in its queue it
idles (the idling is the model's choice, log entry 2). -/
def Obligations.StepRunsTheFrontCommand : Prop :=
  (∀ (c : Instr) (rest : List Instr) (s : State), s.pending = c :: rest → step s = exec c { s with pending := rest }) ∧
  (∀ s : State, s.pending = [] → step s = .next s)

/-- Every command of the table runs: no step of the block ends in a fault or a refusal, whatever its state. -/
def Obligations.EveryStepSafe : Prop := ∀ s : State, Safe (step s)

/-- A command changes what is in the block but not the queue of the commands that wait. -/
def Obligations.CommandsLeaveTheQueue : Prop := ∀ (c : Instr) (s t : State), exec c s = .next t → t.pending = s.pending

/-- The state after reset has its register file and its stores in canonical form. -/
def Obligations.ResetCanonical : Prop := State.Canonical State.reset

/-- Every step, of any command in any state, keeps the canonical form of the register file, with each field held to its width, and of every
store: equal contents stay equal data. -/
def Obligations.StepKeepsCanonical : Prop := ∀ s t : State, s.Canonical → step s = .next t → t.Canonical

/-! ### What the rules compute -/

/-- R62: the boundary of every frame from F0 on, in exact integers; and the current frame index is the largest whose boundary has come,
none before B(F0). -/
def Obligations.BoundariesAndCurrentFrame : Prop :=
  ∀ s : State, 0 < s.r .ftPeriodNum → 0 < s.r .ftPeriodDen →
    (∀ f, s.r .ftAnchorFrame ≤ f →
      s.bnd f = s.r .ftAnchorFt + (f - s.r .ftAnchorFrame) * s.r .ftPeriodNum / s.r .ftPeriodDen) ∧
    (∀ f, s.frame? = some f ↔ s.r .ftAnchorFrame ≤ f ∧ s.bnd f ≤ s.ftNs ∧ s.ftNs < s.bnd (f + 1)) ∧
    (s.frame? = none ↔ s.ftNs < s.bnd (s.r .ftAnchorFrame))

/-- R213: a component code of 6 to 12 bits widens by replicating its bits; a 12-bit code is unchanged. -/
def Obligations.WidenedCodes : Prop :=
  (∀ b x : Nat, 6 ≤ b → b ≤ 12 → x < 2 ^ b → widen b x = (x <<< (12 - b)) ||| (x >>> (2 * b - 12))) ∧ (∀ x : Nat, widen 12 x = x)

/-- R221: the working code of a working value is the largest code of 0 to 1,023 that meets its condition, and 0 where no code from 1 on
does. -/
def Obligations.WorkingCodes : Prop :=
  ∀ w : Nat, workCode w 1 ≤ 1023 ∧
    (workCode w 1 ≠ 0 → (2 * workCode w 1 - 1) ^ 2 * 8388608 ≤ 4186116 * w) ∧
    (∀ c, 1 ≤ c → c ≤ 1023 → (2 * c - 1) ^ 2 * 8388608 ≤ 4186116 * w → c ≤ workCode w 1)

/-- After reset every field reads its table's reset value (R11, Table 0.5 and the register tables), but for the port states, the power-on
cause and count, the boot step and bank A, which the state after a power-on reset sets (R490, R504, R543, R622; log entry 16); nothing is
staged, no session is open and no command waits. -/
def Obligations.ResetValues : Prop :=
  (∀ (f : FName) (i : Nat), i < 128 → f ∉ [FName.rstCause, .aonLastCause, .aonResetCount, .aonBootStep, .fwuStateA, .fabState] →
    State.reset.r f i = resetVal f i) ∧
  State.reset.r .layGuard = 64 ∧ State.reset.r .ingStreamMargin = 20 ∧ State.reset.r .rstWdEn = 1 ∧ State.reset.r .rstWdMs = 500 ∧
  State.reset.r .sysPstate = 2 ∧ State.reset.r .rstCause = 1 ∧ State.reset.r .aonBootStep = 1 ∧ State.reset.r .fwuStateA = 4 ∧
  (∀ p, p < 4 → State.reset.r .fabState p = 0) ∧ State.reset.running = true ∧ State.reset.ftNs = 0 ∧ State.reset.shadow = [] ∧
  State.reset.staged = [] ∧ State.reset.mbx.sessions = [] ∧ State.reset.mbx.scheduled = [] ∧ State.reset.mbx.posted = [] ∧
  State.reset.pending = []
end

