-- ==== Sys2Proof/Laws/Bytes.lean ====
section
/-! SUPPORT. Bytes and checks: a number read back from its bytes, the range of CRC-32C, and an offer read back from its block. -/

namespace Sys2Proof.Machine

/-- A number that fits its bytes is what they hold. -/
theorem leVal_leBytes (n v : Nat) (h : v < 256 ^ n) : leVal (leBytes n v) = v := by
  induction n generalizing v with
  | zero => simp [leBytes, leVal] at *; omega
  | succ n ih =>
    have : v / 256 < 256 ^ n := by rw [Nat.pow_succ] at h; omega
    simp only [leBytes, leVal, byte, BitVec.toNat_ofNat, ih _ this]
    omega

/-- Bytes read at the place they stand in. -/
theorem getLE_append (a b c : List Byte) : getLE (a ++ b ++ c) a.length b.length = leVal b := by
  simp [getLE]

theorem crc32Bit_lt {p c : Nat} (hp : p < 2 ^ 32) (hc : c < 2 ^ 32) : crc32Bit p c < 2 ^ 32 := by
  unfold crc32Bit
  have : c / 2 < 2 ^ 32 := by omega
  split
  · exact Nat.xor_lt_two_pow this hp
  · exact this

theorem repeat_crc32Bit_lt {p : Nat} (hp : p < 2 ^ 32) : ∀ n c, c < 2 ^ 32 → Nat.repeat (crc32Bit p) n c < 2 ^ 32
  | 0, _, h => h
  | n + 1, c, h => crc32Bit_lt hp (repeat_crc32Bit_lt hp n c h)

/-- CRC-32C has 32 bits. -/
theorem crc32c_lt (l : List Byte) : crc32c l < 2 ^ 32 := by
  have fold : ∀ (l : List Byte) (i : Nat), i < 2 ^ 32 →
      l.foldl (fun c b => Nat.repeat (crc32Bit 0x82F63B78) 8 (c ^^^ b.toNat)) i < 2 ^ 32 := by
    intro l
    induction l with
    | nil => intro i h; exact h
    | cons b l ih =>
      intro i h
      exact ih _ (repeat_crc32Bit_lt (by decide) 8 _ (Nat.xor_lt_two_pow h (Nat.lt_trans b.isLt (by decide))))
  exact Nat.xor_lt_two_pow (fold l _ (by decide)) (by decide)

/-- An offer block with a nonce, every other field 0 (Table 9.5). -/
def offerWith (nonce : Nat) : List Byte :=
  let b := [1, 0, 0, 0, 0, 0, 0, 0, 0, 0] ++ leBytes 4 nonce ++ [0, 0]
  b ++ leBytes 4 (crc32c b)

/-- An offer's nonce is read back from its block. -/
theorem offerOf_offerWith {n : Nat} (h : n < 2 ^ 32) (now : Nat) : ∃ o, offerOf (offerWith n) now = some o ∧ o.nonce = n := by
  have hn : getLE (offerWith n) 10 4 = n := by
    have e : offerWith n = [1, 0, 0, 0, 0, 0, 0, 0, 0, 0] ++ leBytes 4 n ++
        ([0, 0] ++ leBytes 4 (crc32c ([1, 0, 0, 0, 0, 0, 0, 0, 0, 0] ++ leBytes 4 n ++ [0, 0]))) := by
      simp [offerWith]
    rw [e]
    exact (getLE_append _ (leBytes 4 n) _).trans (leVal_leBytes 4 n (by omega))
  have ht : (offerWith n).take 16 = [1, 0, 0, 0, 0, 0, 0, 0, 0, 0] ++ leBytes 4 n ++ [0, 0] := by
    simp [offerWith, leBytes]
  have hc : getLE (offerWith n) 16 4 = crc32c ((offerWith n).take 16) := by
    have e : offerWith n = ((offerWith n).take 16) ++ leBytes 4 (crc32c ((offerWith n).take 16)) ++ [] := by
      rw [ht]; simp [offerWith]
    have l16 : ((offerWith n).take 16).length = 16 := by simp [ht, leBytes]
    have := getLE_append ((offerWith n).take 16) (leBytes 4 (crc32c ((offerWith n).take 16))) []
    rw [← e, l16] at this
    exact this.trans (leVal_leBytes 4 _ (crc32c_lt _))
  have h1 : getLE (offerWith n) 0 1 = 1 := by simp [offerWith, getLE, leVal]
  have hl : (offerWith n).length = 20 := by simp [offerWith, leBytes]
  exact ⟨_, by rw [offerOf, if_pos ⟨hl, h1, hc⟩], hn⟩

/-- Some offer block carries a port's own nonce, and some block another. -/
theorem own_offer (p now : Nat) : ∃ l o, offerOf l now = some o ∧ o.nonce = ownNonce p :=
  have h : ownNonce p < 2 ^ 32 := Nat.mod_lt _ (by decide)
  ⟨_, offerOf_offerWith h now⟩

theorem other_offer (p now : Nat) : ∃ l o, offerOf l now = some o ∧ o.nonce ≠ ownNonce p := by
  obtain ⟨o, h, e⟩ := offerOf_offerWith (n := 0) (by decide) now
  obtain ⟨o', h', e'⟩ := offerOf_offerWith (n := 1) (by decide) now
  by_cases hp : ownNonce p = 0
  · exact ⟨_, o', h', by omega⟩
  · exact ⟨_, o, h, by omega⟩

end Sys2Proof.Machine
end

