-- ==== Sys2Proof/Laws/Store.lean ====
section
/-! SUPPORT. The laws of sparse stores: a key reads what was written to it, every other key is unchanged, and the canonical
form is kept, for one key, a list of bytes, and the register file. -/

namespace Sys2Proof

variable {α : Type}

/-- What a lookup finds after an entry is set. -/
theorem assoc_assocPut (l : List (Nat × α)) (k j : Nat) (v : α) :
    assoc (assocPut l k v) j = if j = k then some v else assoc l j := by
  fun_induction assocPut l k v <;> grind [assoc]

/-- What a lookup finds after an entry is taken out. -/
theorem assoc_assocDel (l : List (Nat × α)) (k j : Nat) : assoc (assocDel l k) j = if j = k then none else assoc l j := by
  fun_induction assocDel l k <;> grind [assoc]

/-- A key of a store reads what was written to it. -/
@[simp] theorem sget_sput_same [DecidableEq α] (d : α) (l : List (Nat × α)) (k : Nat) (v : α) :
    sget d (sput d l k v) k = v := by
  unfold sget sput; split <;> simp [assoc_assocDel, assoc_assocPut, *]

/-- Every other key reads as before. -/
theorem sget_sput_other [DecidableEq α] (d : α) (l : List (Nat × α)) {k j : Nat} (v : α) (h : j ≠ k) :
    sget d (sput d l k v) j = sget d l j := by
  unfold sget sput; split <;> simp [assoc_assocDel, assoc_assocPut, h]

/-! ### The canonical form -/

/-- Every key of the list lies above the bound. -/
def Above (lo : Option Nat) (k : Nat) : Prop := ∀ b, lo = some b → b < k

theorem rising_cons (lo : Option Nat) (k : Nat) (v : α) (r : List (Nat × α)) :
    rising lo ((k, v) :: r) = true ↔ Above lo k ∧ rising (some k) r = true := by
  cases lo <;> simp [rising, Above]

/-- A lower bound of rising keys may be lowered. -/
theorem rising_lower {l : List (Nat × α)} {lo : Option Nat} {b : Nat} (h : Above lo b) (hr : rising (some b) l = true) :
    rising lo l = true := by
  cases l <;> grind [rising, rising_cons, Above]

theorem rising_assocPut (l : List (Nat × α)) (lo : Option Nat) (k : Nat) (v : α) (hl : Above lo k)
    (h : rising lo l = true) : rising lo (assocPut l k v) = true := by
  induction l generalizing lo <;> grind [assocPut, rising, rising_cons, Above]

theorem rising_filter (p : Nat × α → Bool) (l : List (Nat × α)) (lo : Option Nat) (h : rising lo l = true) :
    rising lo (l.filter p) = true := by
  induction l generalizing lo <;> grind [rising, rising_cons, rising_lower]

theorem assocDel_filter (l : List (Nat × α)) (k : Nat) : assocDel l k = l.filter (fun e => e.1 != k) := by
  fun_induction assocDel l k <;> grind

/-- A property of every entry holds after one more that has it is set. -/
theorem all_assocPut (p : Nat × α → Bool) (l : List (Nat × α)) (k : Nat) (v : α) (hv : p (k, v) = true) (hl : l.all p = true) :
    (assocPut l k v).all p = true := by
  fun_induction assocPut l k v <;> grind

/-- An empty store is canonical. -/
theorem swf_nil [DecidableEq α] (d : α) : swf d ([] : List (Nat × α)) = true := rfl

/-- Dropping entries keeps the canonical form. -/
theorem swf_filter [DecidableEq α] (d : α) (p : Nat × α → Bool) (l : List (Nat × α)) (h : swf d l = true) :
    swf d (l.filter p) = true := by
  have := rising_filter p l none
  grind [swf]

/-- A write of one key keeps the canonical form. -/
theorem swf_sput [DecidableEq α] (d : α) (l : List (Nat × α)) (k : Nat) (v : α) (h : swf d l = true) :
    swf d (sput d l k v) = true := by
  unfold sput
  split
  · rw [assocDel_filter]; exact swf_filter d _ l h
  · have := rising_assocPut l none k v
    have := all_assocPut (fun e => decide (e.2 ≠ d)) l k v
    grind [swf, Above]

namespace Machine

/-- A byte store keeps its canonical form when bytes are written. -/
theorem mwrite_wf (d : Byte) (m : Mem) (a : Nat) (l : List Byte) (h : Memory.wf d m = true) :
    Memory.wf d (mwrite d m a l) = true := by
  induction l generalizing m a with
  | nil => exact h
  | cons b r ih => exact ih _ _ (swf_sput d m a b h)

/-- A byte outside the range written is unchanged. -/
theorem mget_mwrite_other (d : Byte) (m : Mem) (a : Nat) (l : List Byte) (x : Nat) (h : x < a ∨ a + l.length ≤ x) :
    mget d (mwrite d m a l) x = mget d m x := by
  induction l generalizing m a with
  | nil => rfl
  | cons b r ih =>
    have h' : x < a + 1 ∨ a + 1 + r.length ≤ x := by simp at h; omega
    have hx : x ≠ a := by simp at h; omega
    simp only [mwrite]
    rw [ih _ _ h']
    exact sget_sput_other d m b hx

/-- A range reads as before where the range written lies outside it. -/
theorem mread_mwrite_other (d : Byte) (m : Mem) (a : Nat) (l : List Byte) (x n : Nat) (h : x + n ≤ a ∨ a + l.length ≤ x) :
    mread d (mwrite d m a l) x n = mread d m x n := by
  induction n generalizing x with
  | zero => rfl
  | succ n ih =>
    simp only [mread]
    rw [mget_mwrite_other d m a l x (by omega), ih (x + 1) (by omega)]

/-- Bytes written are read back. -/
theorem mread_mwrite_same (d : Byte) (m : Mem) (a : Nat) (l : List Byte) : mread d (mwrite d m a l) a l.length = l := by
  induction l generalizing m a with
  | nil => rfl
  | cons b r ih =>
    simp only [mwrite, List.length_cons, mread]
    rw [ih]
    congr 1
    rw [mget_mwrite_other d _ (a + 1) r a (by omega)]
    simp [mget]

@[simp] theorem mread_length (d : Byte) (m : Mem) (a n : Nat) : (mread d m a n).length = n := by
  induction n generalizing a with
  | zero => rfl
  | succ n ih => simp [mread, ih]

end Machine

end Sys2Proof
end

