-- ==== Sys2Proof/Laws/RegFile.lean ====
section
/-! SUPPORT. The laws of the register file: a field reads what was written to it, held to its width; every other field, and every
other index of an array, is unchanged; and the canonical form of the file is kept. -/

namespace Sys2Proof.Machine

theorem FName.ctorIdx_inj {f g : FName} (h : f.ctorIdx = g.ctorIdx) : f = g := by
  have := congrArg FName.ofNat h
  rwa [FName.ofNat_ctorIdx, FName.ofNat_ctorIdx] at this

theorem FName.all_idx : FName.all.map FName.ctorIdx = List.range 516 := by decide +kernel

theorem FName.ctorIdx_lt (f : FName) : f.ctorIdx < 516 := by cases f <;> decide

/-- The list of field names has each name at its own number. -/
theorem FName.all_get (f : FName) : FName.all[f.ctorIdx]? = some f := by
  have h : (FName.all.map FName.ctorIdx)[f.ctorIdx]? = some f.ctorIdx := by
    rw [FName.all_idx, List.getElem?_range f.ctorIdx_lt]
  rw [List.getElem?_map] at h
  cases hx : FName.all[f.ctorIdx]? with
  | none => rw [hx] at h; simp at h
  | some g => rw [hx] at h; exact congrArg some (FName.ctorIdx_inj (Option.some.inj h))

/-- The key of a field names the field. -/
theorem fieldOf_key (f : FName) (i : Nat) : fieldOf (f.key i) = some (f, i % 128) := by
  have h : (f.ctorIdx * 128 + i % 128) / 128 = f.ctorIdx := by omega
  have h' : (f.ctorIdx * 128 + i % 128) % 128 = i % 128 := by omega
  simp [fieldOf, FName.key, h, h', FName.all_get]

theorem key_eq_iff (f g : FName) (i j : Nat) : f.key i = g.key j ↔ f = g ∧ i % 128 = j % 128 := by
  constructor
  · intro h
    have := congrArg fieldOf h
    simpa [fieldOf_key] using this
  · rintro ⟨rfl, h⟩; simp [FName.key, h]

theorem key_ne {f g : FName} (h : f ≠ g) (i j : Nat) : f.key i ≠ g.key j := fun e => h ((key_eq_iff f g i j).mp e).1

/-- What a field reads after a field is written: the value held to its width where both name one entry, else what it read before. -/
theorem rget_rput (g : Store) (f f' : FName) (i j v : Nat) :
    rget (rput g f i v) f' j = if f' = f ∧ j % 128 = i % 128 then v % 2 ^ f.width else rget g f' j := by
  unfold rget rput
  split <;> simp only [assoc_assocDel, assoc_assocPut, key_eq_iff] <;> split <;> simp_all

/-- A field reads what was written to it, held to its width. -/
@[simp] theorem rget_rput_same (g : Store) (f : FName) (i v : Nat) : rget (rput g f i v) f i = v % 2 ^ f.width := by
  simp [rget_rput]

/-- A field with another name is unchanged. -/
@[simp] theorem rget_rput_other (g : Store) {f f' : FName} (i j v : Nat) (h : f' ≠ f) :
    rget (rput g f i v) f' j = rget g f' j := by
  simp [rget_rput, h]

/-- Another entry of an array is unchanged. -/
theorem rget_rput_index (g : Store) (f f' : FName) (i j v : Nat) (h : ¬(f' = f ∧ j % 128 = i % 128)) :
    rget (rput g f i v) f' j = rget g f' j := by
  rw [rget_rput, if_neg h]

/-- Writing a field keeps the canonical form. -/
theorem regWf_rput (g : Store) (f : FName) (i v : Nat) (h : regWf g = true) : regWf (rput g f i v) = true := by
  unfold regWf at *
  rw [Bool.and_eq_true] at *
  unfold rput
  split
  · rw [assocDel_filter]
    refine ⟨rising_filter _ g none h.1, ?_⟩
    exact List.all_eq_true.mpr fun e he => List.all_eq_true.mp h.2 e (List.mem_filter.mp he).1
  · rename_i hv
    refine ⟨rising_assocPut g none _ _ (by simp [Above]) h.1, all_assocPut _ g _ _ ?_ h.2⟩
    simp [fieldOf_key, hv, Nat.mod_lt _ (Nat.two_pow_pos f.width)]

theorem regWf_rputs (l : List (FName × Nat)) (g : Store) (h : regWf g = true) : regWf (rputs g l) = true := by
  induction l generalizing g with
  | nil => exact h
  | cons p r ih => exact ih _ (regWf_rput g p.1 0 p.2 h)

/-- An empty register file, with every field at its reset value, is canonical. -/
theorem regWf_nil : regWf [] = true := rfl

end Sys2Proof.Machine
end

