-- ==== Sys2Proof/Laws/State.lean ====
section
/-! SUPPORT. One lemma per field per update: what the shared operations on the state leave alone, true by unfolding. -/

namespace Sys2Proof.Machine

/-! ### Register fields in effect -/

@[simp] theorem r_w_same (s : State) (f : FName) (i v : Nat) : (s.w f i v).r f i = v % 2 ^ f.width := rget_rput_same _ _ _ _
@[simp] theorem r_w_other (s : State) {f g : FName} (i j v : Nat) (h : g ≠ f) : (s.w f i v).r g j = s.r g j :=
  rget_rput_other _ _ _ _ h
theorem r_w_index (s : State) (f g : FName) (i j v : Nat) (h : ¬(g = f ∧ j % 128 = i % 128)) :
    (s.w f i v).r g j = s.r g j := rget_rput_index _ _ _ _ _ _ h

@[simp] theorem w_shadow (s : State) (f : FName) (i v : Nat) : (s.w f i v).shadow = s.shadow := rfl
@[simp] theorem w_staged (s : State) (f : FName) (i v : Nat) : (s.w f i v).staged = s.staged := rfl
@[simp] theorem w_clk (s : State) (f : FName) (i v : Nat) : (s.w f i v).clk = s.clk := rfl
@[simp] theorem w_hot (s : State) (f : FName) (i v : Nat) : (s.w f i v).hot = s.hot := rfl
@[simp] theorem w_upSince (s : State) (f : FName) (i v : Nat) : (s.w f i v).upSince = s.upSince := rfl
@[simp] theorem w_free (s : State) (f : FName) (i v : Nat) : (s.w f i v).free = s.free := rfl
@[simp] theorem w_time (s : State) (f : FName) (i v : Nat) : (s.w f i v).time = s.time := rfl
@[simp] theorem w_ing (s : State) (f : FName) (i v : Nat) : (s.w f i v).ing = s.ing := rfl
@[simp] theorem w_lay (s : State) (f : FName) (i v : Nat) : (s.w f i v).lay = s.lay := rfl
@[simp] theorem w_clv (s : State) (f : FName) (i v : Nat) : (s.w f i v).clv = s.clv := rfl
@[simp] theorem w_col (s : State) (f : FName) (i v : Nat) : (s.w f i v).col = s.col := rfl
@[simp] theorem w_scn (s : State) (f : FName) (i v : Nat) : (s.w f i v).scn = s.scn := rfl
@[simp] theorem w_lan (s : State) (f : FName) (i v : Nat) : (s.w f i v).lan = s.lan := rfl
@[simp] theorem w_ports (s : State) (f : FName) (i v : Nat) : (s.w f i v).ports = s.ports := rfl
@[simp] theorem w_links (s : State) (f : FName) (i v : Nat) : (s.w f i v).links = s.links := rfl
@[simp] theorem w_net (s : State) (f : FName) (i v : Nat) : (s.w f i v).net = s.net := rfl
@[simp] theorem w_red (s : State) (f : FName) (i v : Nat) : (s.w f i v).red = s.red := rfl
@[simp] theorem w_thm (s : State) (f : FName) (i v : Nat) : (s.w f i v).thm = s.thm := rfl
@[simp] theorem w_fw (s : State) (f : FName) (i v : Nat) : (s.w f i v).fw = s.fw := rfl
@[simp] theorem w_mbx (s : State) (f : FName) (i v : Nat) : (s.w f i v).mbx = s.mbx := rfl
@[simp] theorem w_boot (s : State) (f : FName) (i v : Nat) : (s.w f i v).boot = s.boot := rfl
@[simp] theorem w_out (s : State) (f : FName) (i v : Nat) : (s.w f i v).out = s.out := rfl
@[simp] theorem w_pending (s : State) (f : FName) (i v : Nat) : (s.w f i v).pending = s.pending := rfl

/-! ### Bits set in this TB cycle (R12) -/

@[simp] theorem heat_regs (s : State) (f : FName) (i m : Nat) : (s.heat f i m).regs = s.regs := rfl
@[simp] theorem heat_r (s : State) (f : FName) (i m : Nat) (g : FName) (j : Nat) : (s.heat f i m).r g j = s.r g j := rfl
@[simp] theorem heat_shadow (s : State) (f : FName) (i m : Nat) : (s.heat f i m).shadow = s.shadow := rfl
@[simp] theorem heat_staged (s : State) (f : FName) (i m : Nat) : (s.heat f i m).staged = s.staged := rfl
@[simp] theorem heat_mbx (s : State) (f : FName) (i m : Nat) : (s.heat f i m).mbx = s.mbx := rfl
@[simp] theorem heat_out (s : State) (f : FName) (i m : Nat) : (s.heat f i m).out = s.out := rfl
@[simp] theorem heat_pending (s : State) (f : FName) (i m : Nat) : (s.heat f i m).pending = s.pending := rfl
@[simp] theorem heat_clk (s : State) (f : FName) (i m : Nat) : (s.heat f i m).clk = s.clk := rfl
@[simp] theorem heat_upSince (s : State) (f : FName) (i m : Nat) : (s.heat f i m).upSince = s.upSince := rfl
@[simp] theorem heat_free (s : State) (f : FName) (i m : Nat) : (s.heat f i m).free = s.free := rfl
@[simp] theorem heat_time (s : State) (f : FName) (i m : Nat) : (s.heat f i m).time = s.time := rfl
@[simp] theorem heat_ing (s : State) (f : FName) (i m : Nat) : (s.heat f i m).ing = s.ing := rfl
@[simp] theorem heat_lay (s : State) (f : FName) (i m : Nat) : (s.heat f i m).lay = s.lay := rfl
@[simp] theorem heat_clv (s : State) (f : FName) (i m : Nat) : (s.heat f i m).clv = s.clv := rfl
@[simp] theorem heat_col (s : State) (f : FName) (i m : Nat) : (s.heat f i m).col = s.col := rfl
@[simp] theorem heat_scn (s : State) (f : FName) (i m : Nat) : (s.heat f i m).scn = s.scn := rfl
@[simp] theorem heat_lan (s : State) (f : FName) (i m : Nat) : (s.heat f i m).lan = s.lan := rfl
@[simp] theorem heat_ports (s : State) (f : FName) (i m : Nat) : (s.heat f i m).ports = s.ports := rfl
@[simp] theorem heat_links (s : State) (f : FName) (i m : Nat) : (s.heat f i m).links = s.links := rfl
@[simp] theorem heat_net (s : State) (f : FName) (i m : Nat) : (s.heat f i m).net = s.net := rfl
@[simp] theorem heat_red (s : State) (f : FName) (i m : Nat) : (s.heat f i m).red = s.red := rfl
@[simp] theorem heat_thm (s : State) (f : FName) (i m : Nat) : (s.heat f i m).thm = s.thm := rfl
@[simp] theorem heat_fw (s : State) (f : FName) (i m : Nat) : (s.heat f i m).fw = s.fw := rfl
@[simp] theorem heat_boot (s : State) (f : FName) (i m : Nat) : (s.heat f i m).boot = s.boot := rfl

/-! ### Outputs -/

@[simp] theorem emit_r (s : State) (o : Out) (f : FName) (i : Nat) : (s.emit o).r f i = s.r f i := rfl
@[simp] theorem emit_regs (s : State) (o : Out) : (s.emit o).regs = s.regs := rfl
@[simp] theorem emit_shadow (s : State) (o : Out) : (s.emit o).shadow = s.shadow := rfl
@[simp] theorem emit_staged (s : State) (o : Out) : (s.emit o).staged = s.staged := rfl
@[simp] theorem emit_mbx (s : State) (o : Out) : (s.emit o).mbx = s.mbx := rfl
@[simp] theorem emit_out (s : State) (o : Out) : (s.emit o).out = s.out ++ [o] := rfl
@[simp] theorem emit_pending (s : State) (o : Out) : (s.emit o).pending = s.pending := rfl
@[simp] theorem emit_clk (s : State) (o : Out) : (s.emit o).clk = s.clk := rfl
@[simp] theorem emit_upSince (s : State) (o : Out) : (s.emit o).upSince = s.upSince := rfl
@[simp] theorem emit_free (s : State) (o : Out) : (s.emit o).free = s.free := rfl
@[simp] theorem emit_hot (s : State) (o : Out) : (s.emit o).hot = s.hot := rfl
@[simp] theorem emit_time (s : State) (o : Out) : (s.emit o).time = s.time := rfl
@[simp] theorem emit_ing (s : State) (o : Out) : (s.emit o).ing = s.ing := rfl
@[simp] theorem emit_lay (s : State) (o : Out) : (s.emit o).lay = s.lay := rfl
@[simp] theorem emit_clv (s : State) (o : Out) : (s.emit o).clv = s.clv := rfl
@[simp] theorem emit_col (s : State) (o : Out) : (s.emit o).col = s.col := rfl
@[simp] theorem emit_scn (s : State) (o : Out) : (s.emit o).scn = s.scn := rfl
@[simp] theorem emit_lan (s : State) (o : Out) : (s.emit o).lan = s.lan := rfl
@[simp] theorem emit_ports (s : State) (o : Out) : (s.emit o).ports = s.ports := rfl
@[simp] theorem emit_links (s : State) (o : Out) : (s.emit o).links = s.links := rfl
@[simp] theorem emit_net (s : State) (o : Out) : (s.emit o).net = s.net := rfl
@[simp] theorem emit_red (s : State) (o : Out) : (s.emit o).red = s.red := rfl
@[simp] theorem emit_thm (s : State) (o : Out) : (s.emit o).thm = s.thm := rfl
@[simp] theorem emit_fw (s : State) (o : Out) : (s.emit o).fw = s.fw := rfl
@[simp] theorem emit_boot (s : State) (o : Out) : (s.emit o).boot = s.boot := rfl

/-! ### Staging -/

@[simp] theorem stage_r (s : State) (n : Nat) (f : FName) (i v : Nat) (g : FName) (j : Nat) : (s.stage n f i v).r g j = s.r g j := rfl
@[simp] theorem stage_regs (s : State) (n : Nat) (f : FName) (i v : Nat) : (s.stage n f i v).regs = s.regs := rfl
@[simp] theorem stage_mbx (s : State) (n : Nat) (f : FName) (i v : Nat) : (s.stage n f i v).mbx = s.mbx := rfl
@[simp] theorem stage_out (s : State) (n : Nat) (f : FName) (i v : Nat) : (s.stage n f i v).out = s.out := rfl
@[simp] theorem stage_pending (s : State) (n : Nat) (f : FName) (i v : Nat) : (s.stage n f i v).pending = s.pending := rfl
@[simp] theorem stage_time (s : State) (n : Nat) (f : FName) (i v : Nat) : (s.stage n f i v).time = s.time := rfl
@[simp] theorem stage_clk (s : State) (n : Nat) (f : FName) (i v : Nat) : (s.stage n f i v).clk = s.clk := rfl
@[simp] theorem stage_upSince (s : State) (n : Nat) (f : FName) (i v : Nat) : (s.stage n f i v).upSince = s.upSince := rfl
@[simp] theorem stage_free (s : State) (n : Nat) (f : FName) (i v : Nat) : (s.stage n f i v).free = s.free := rfl
@[simp] theorem stage_hot (s : State) (n : Nat) (f : FName) (i v : Nat) : (s.stage n f i v).hot = s.hot := rfl
@[simp] theorem stage_ing (s : State) (n : Nat) (f : FName) (i v : Nat) : (s.stage n f i v).ing = s.ing := rfl
@[simp] theorem stage_lay (s : State) (n : Nat) (f : FName) (i v : Nat) : (s.stage n f i v).lay = s.lay := rfl
@[simp] theorem stage_clv (s : State) (n : Nat) (f : FName) (i v : Nat) : (s.stage n f i v).clv = s.clv := rfl
@[simp] theorem stage_col (s : State) (n : Nat) (f : FName) (i v : Nat) : (s.stage n f i v).col = s.col := rfl
@[simp] theorem stage_scn (s : State) (n : Nat) (f : FName) (i v : Nat) : (s.stage n f i v).scn = s.scn := rfl
@[simp] theorem stage_lan (s : State) (n : Nat) (f : FName) (i v : Nat) : (s.stage n f i v).lan = s.lan := rfl
@[simp] theorem stage_ports (s : State) (n : Nat) (f : FName) (i v : Nat) : (s.stage n f i v).ports = s.ports := rfl
@[simp] theorem stage_links (s : State) (n : Nat) (f : FName) (i v : Nat) : (s.stage n f i v).links = s.links := rfl
@[simp] theorem stage_net (s : State) (n : Nat) (f : FName) (i v : Nat) : (s.stage n f i v).net = s.net := rfl
@[simp] theorem stage_red (s : State) (n : Nat) (f : FName) (i v : Nat) : (s.stage n f i v).red = s.red := rfl
@[simp] theorem stage_thm (s : State) (n : Nat) (f : FName) (i v : Nat) : (s.stage n f i v).thm = s.thm := rfl
@[simp] theorem stage_fw (s : State) (n : Nat) (f : FName) (i v : Nat) : (s.stage n f i v).fw = s.fw := rfl
@[simp] theorem stage_boot (s : State) (n : Nat) (f : FName) (i v : Nat) : (s.stage n f i v).boot = s.boot := rfl

@[simp] theorem stage_shadow_same (s : State) (n : Nat) (f : FName) (i v : Nat) :
    rget (s.stage n f i v).shadow f i = v % 2 ^ f.width := rget_rput_same _ _ _ _
@[simp] theorem stage_shadow_other (s : State) (n : Nat) {f g : FName} (i j v : Nat) (h : g ≠ f) :
    rget (s.stage n f i v).shadow g j = rget s.shadow g j := rget_rput_other _ _ _ _ h
theorem stage_marks (s : State) (n : Nat) (f : FName) (i v : Nat) : ⟨f.key i, n⟩ ∈ (s.stage n f i v).staged := by
  simp [State.stage]
theorem stage_marks_keep (s : State) (n : Nat) (f : FName) (i v : Nat) (x : Staged) (h : x ∈ s.staged) (hk : x.key ≠ f.key i) :
    x ∈ (s.stage n f i v).staged := by
  simp only [State.stage, List.mem_append, List.mem_filter]
  exact .inl ⟨h, by simpa using hk⟩

/-! ### Ports, links, streams, rings, lanes and engines: every other part stays -/

@[simp] theorem setPort_r (s : State) (n : Nat) (g : PortSt → PortSt) (f : FName) (i : Nat) : (s.setPort n g).r f i = s.r f i := rfl
@[simp] theorem setPort_regs (s : State) (n : Nat) (g : PortSt → PortSt) : (s.setPort n g).regs = s.regs := rfl
@[simp] theorem setPort_shadow (s : State) (n : Nat) (g : PortSt → PortSt) : (s.setPort n g).shadow = s.shadow := rfl
@[simp] theorem setPort_staged (s : State) (n : Nat) (g : PortSt → PortSt) : (s.setPort n g).staged = s.staged := rfl
@[simp] theorem setPort_clk (s : State) (n : Nat) (g : PortSt → PortSt) : (s.setPort n g).clk = s.clk := rfl
@[simp] theorem setPort_upSince (s : State) (n : Nat) (g : PortSt → PortSt) : (s.setPort n g).upSince = s.upSince := rfl
@[simp] theorem setPort_free (s : State) (n : Nat) (g : PortSt → PortSt) : (s.setPort n g).free = s.free := rfl
@[simp] theorem setPort_hot (s : State) (n : Nat) (g : PortSt → PortSt) : (s.setPort n g).hot = s.hot := rfl
@[simp] theorem setPort_time (s : State) (n : Nat) (g : PortSt → PortSt) : (s.setPort n g).time = s.time := rfl
@[simp] theorem setPort_ing (s : State) (n : Nat) (g : PortSt → PortSt) : (s.setPort n g).ing = s.ing := rfl
@[simp] theorem setPort_lay (s : State) (n : Nat) (g : PortSt → PortSt) : (s.setPort n g).lay = s.lay := rfl
@[simp] theorem setPort_clv (s : State) (n : Nat) (g : PortSt → PortSt) : (s.setPort n g).clv = s.clv := rfl
@[simp] theorem setPort_col (s : State) (n : Nat) (g : PortSt → PortSt) : (s.setPort n g).col = s.col := rfl
@[simp] theorem setPort_scn (s : State) (n : Nat) (g : PortSt → PortSt) : (s.setPort n g).scn = s.scn := rfl
@[simp] theorem setPort_lan (s : State) (n : Nat) (g : PortSt → PortSt) : (s.setPort n g).lan = s.lan := rfl
@[simp] theorem setPort_links (s : State) (n : Nat) (g : PortSt → PortSt) : (s.setPort n g).links = s.links := rfl
@[simp] theorem setPort_net (s : State) (n : Nat) (g : PortSt → PortSt) : (s.setPort n g).net = s.net := rfl
@[simp] theorem setPort_red (s : State) (n : Nat) (g : PortSt → PortSt) : (s.setPort n g).red = s.red := rfl
@[simp] theorem setPort_thm (s : State) (n : Nat) (g : PortSt → PortSt) : (s.setPort n g).thm = s.thm := rfl
@[simp] theorem setPort_fw (s : State) (n : Nat) (g : PortSt → PortSt) : (s.setPort n g).fw = s.fw := rfl
@[simp] theorem setPort_mbx (s : State) (n : Nat) (g : PortSt → PortSt) : (s.setPort n g).mbx = s.mbx := rfl
@[simp] theorem setPort_boot (s : State) (n : Nat) (g : PortSt → PortSt) : (s.setPort n g).boot = s.boot := rfl
@[simp] theorem setPort_out (s : State) (n : Nat) (g : PortSt → PortSt) : (s.setPort n g).out = s.out := rfl
@[simp] theorem setPort_pending (s : State) (n : Nat) (g : PortSt → PortSt) : (s.setPort n g).pending = s.pending := rfl

@[simp] theorem setLink_r (s : State) (n : Nat) (g : LinkSt → LinkSt) (f : FName) (i : Nat) : (s.setLink n g).r f i = s.r f i := rfl
@[simp] theorem setLink_regs (s : State) (n : Nat) (g : LinkSt → LinkSt) : (s.setLink n g).regs = s.regs := rfl
@[simp] theorem setLink_shadow (s : State) (n : Nat) (g : LinkSt → LinkSt) : (s.setLink n g).shadow = s.shadow := rfl
@[simp] theorem setLink_staged (s : State) (n : Nat) (g : LinkSt → LinkSt) : (s.setLink n g).staged = s.staged := rfl
@[simp] theorem setLink_clk (s : State) (n : Nat) (g : LinkSt → LinkSt) : (s.setLink n g).clk = s.clk := rfl
@[simp] theorem setLink_upSince (s : State) (n : Nat) (g : LinkSt → LinkSt) : (s.setLink n g).upSince = s.upSince := rfl
@[simp] theorem setLink_free (s : State) (n : Nat) (g : LinkSt → LinkSt) : (s.setLink n g).free = s.free := rfl
@[simp] theorem setLink_hot (s : State) (n : Nat) (g : LinkSt → LinkSt) : (s.setLink n g).hot = s.hot := rfl
@[simp] theorem setLink_time (s : State) (n : Nat) (g : LinkSt → LinkSt) : (s.setLink n g).time = s.time := rfl
@[simp] theorem setLink_ing (s : State) (n : Nat) (g : LinkSt → LinkSt) : (s.setLink n g).ing = s.ing := rfl
@[simp] theorem setLink_lay (s : State) (n : Nat) (g : LinkSt → LinkSt) : (s.setLink n g).lay = s.lay := rfl
@[simp] theorem setLink_clv (s : State) (n : Nat) (g : LinkSt → LinkSt) : (s.setLink n g).clv = s.clv := rfl
@[simp] theorem setLink_col (s : State) (n : Nat) (g : LinkSt → LinkSt) : (s.setLink n g).col = s.col := rfl
@[simp] theorem setLink_scn (s : State) (n : Nat) (g : LinkSt → LinkSt) : (s.setLink n g).scn = s.scn := rfl
@[simp] theorem setLink_lan (s : State) (n : Nat) (g : LinkSt → LinkSt) : (s.setLink n g).lan = s.lan := rfl
@[simp] theorem setLink_ports (s : State) (n : Nat) (g : LinkSt → LinkSt) : (s.setLink n g).ports = s.ports := rfl
@[simp] theorem setLink_net (s : State) (n : Nat) (g : LinkSt → LinkSt) : (s.setLink n g).net = s.net := rfl
@[simp] theorem setLink_red (s : State) (n : Nat) (g : LinkSt → LinkSt) : (s.setLink n g).red = s.red := rfl
@[simp] theorem setLink_thm (s : State) (n : Nat) (g : LinkSt → LinkSt) : (s.setLink n g).thm = s.thm := rfl
@[simp] theorem setLink_fw (s : State) (n : Nat) (g : LinkSt → LinkSt) : (s.setLink n g).fw = s.fw := rfl
@[simp] theorem setLink_mbx (s : State) (n : Nat) (g : LinkSt → LinkSt) : (s.setLink n g).mbx = s.mbx := rfl
@[simp] theorem setLink_boot (s : State) (n : Nat) (g : LinkSt → LinkSt) : (s.setLink n g).boot = s.boot := rfl
@[simp] theorem setLink_out (s : State) (n : Nat) (g : LinkSt → LinkSt) : (s.setLink n g).out = s.out := rfl
@[simp] theorem setLink_pending (s : State) (n : Nat) (g : LinkSt → LinkSt) : (s.setLink n g).pending = s.pending := rfl

@[simp] theorem setTimePort_r (s : State) (n : Nat) (g : TimePort → TimePort) (f : FName) (i : Nat) : (s.setTimePort n g).r f i = s.r f i := rfl
@[simp] theorem setTimePort_regs (s : State) (n : Nat) (g : TimePort → TimePort) : (s.setTimePort n g).regs = s.regs := rfl
@[simp] theorem setTimePort_shadow (s : State) (n : Nat) (g : TimePort → TimePort) : (s.setTimePort n g).shadow = s.shadow := rfl
@[simp] theorem setTimePort_staged (s : State) (n : Nat) (g : TimePort → TimePort) : (s.setTimePort n g).staged = s.staged := rfl
@[simp] theorem setTimePort_clk (s : State) (n : Nat) (g : TimePort → TimePort) : (s.setTimePort n g).clk = s.clk := rfl
@[simp] theorem setTimePort_upSince (s : State) (n : Nat) (g : TimePort → TimePort) : (s.setTimePort n g).upSince = s.upSince := rfl
@[simp] theorem setTimePort_free (s : State) (n : Nat) (g : TimePort → TimePort) : (s.setTimePort n g).free = s.free := rfl
@[simp] theorem setTimePort_hot (s : State) (n : Nat) (g : TimePort → TimePort) : (s.setTimePort n g).hot = s.hot := rfl
@[simp] theorem setTimePort_ing (s : State) (n : Nat) (g : TimePort → TimePort) : (s.setTimePort n g).ing = s.ing := rfl
@[simp] theorem setTimePort_lay (s : State) (n : Nat) (g : TimePort → TimePort) : (s.setTimePort n g).lay = s.lay := rfl
@[simp] theorem setTimePort_clv (s : State) (n : Nat) (g : TimePort → TimePort) : (s.setTimePort n g).clv = s.clv := rfl
@[simp] theorem setTimePort_col (s : State) (n : Nat) (g : TimePort → TimePort) : (s.setTimePort n g).col = s.col := rfl
@[simp] theorem setTimePort_scn (s : State) (n : Nat) (g : TimePort → TimePort) : (s.setTimePort n g).scn = s.scn := rfl
@[simp] theorem setTimePort_lan (s : State) (n : Nat) (g : TimePort → TimePort) : (s.setTimePort n g).lan = s.lan := rfl
@[simp] theorem setTimePort_ports (s : State) (n : Nat) (g : TimePort → TimePort) : (s.setTimePort n g).ports = s.ports := rfl
@[simp] theorem setTimePort_links (s : State) (n : Nat) (g : TimePort → TimePort) : (s.setTimePort n g).links = s.links := rfl
@[simp] theorem setTimePort_net (s : State) (n : Nat) (g : TimePort → TimePort) : (s.setTimePort n g).net = s.net := rfl
@[simp] theorem setTimePort_red (s : State) (n : Nat) (g : TimePort → TimePort) : (s.setTimePort n g).red = s.red := rfl
@[simp] theorem setTimePort_thm (s : State) (n : Nat) (g : TimePort → TimePort) : (s.setTimePort n g).thm = s.thm := rfl
@[simp] theorem setTimePort_fw (s : State) (n : Nat) (g : TimePort → TimePort) : (s.setTimePort n g).fw = s.fw := rfl
@[simp] theorem setTimePort_mbx (s : State) (n : Nat) (g : TimePort → TimePort) : (s.setTimePort n g).mbx = s.mbx := rfl
@[simp] theorem setTimePort_boot (s : State) (n : Nat) (g : TimePort → TimePort) : (s.setTimePort n g).boot = s.boot := rfl
@[simp] theorem setTimePort_out (s : State) (n : Nat) (g : TimePort → TimePort) : (s.setTimePort n g).out = s.out := rfl
@[simp] theorem setTimePort_pending (s : State) (n : Nat) (g : TimePort → TimePort) : (s.setTimePort n g).pending = s.pending := rfl

@[simp] theorem setStream_r (s : State) (n : Nat) (g : StreamSt → StreamSt) (f : FName) (i : Nat) : (s.setStream n g).r f i = s.r f i := rfl
@[simp] theorem setStream_regs (s : State) (n : Nat) (g : StreamSt → StreamSt) : (s.setStream n g).regs = s.regs := rfl
@[simp] theorem setStream_shadow (s : State) (n : Nat) (g : StreamSt → StreamSt) : (s.setStream n g).shadow = s.shadow := rfl
@[simp] theorem setStream_staged (s : State) (n : Nat) (g : StreamSt → StreamSt) : (s.setStream n g).staged = s.staged := rfl
@[simp] theorem setStream_clk (s : State) (n : Nat) (g : StreamSt → StreamSt) : (s.setStream n g).clk = s.clk := rfl
@[simp] theorem setStream_upSince (s : State) (n : Nat) (g : StreamSt → StreamSt) : (s.setStream n g).upSince = s.upSince := rfl
@[simp] theorem setStream_free (s : State) (n : Nat) (g : StreamSt → StreamSt) : (s.setStream n g).free = s.free := rfl
@[simp] theorem setStream_hot (s : State) (n : Nat) (g : StreamSt → StreamSt) : (s.setStream n g).hot = s.hot := rfl
@[simp] theorem setStream_time (s : State) (n : Nat) (g : StreamSt → StreamSt) : (s.setStream n g).time = s.time := rfl
@[simp] theorem setStream_lay (s : State) (n : Nat) (g : StreamSt → StreamSt) : (s.setStream n g).lay = s.lay := rfl
@[simp] theorem setStream_clv (s : State) (n : Nat) (g : StreamSt → StreamSt) : (s.setStream n g).clv = s.clv := rfl
@[simp] theorem setStream_col (s : State) (n : Nat) (g : StreamSt → StreamSt) : (s.setStream n g).col = s.col := rfl
@[simp] theorem setStream_scn (s : State) (n : Nat) (g : StreamSt → StreamSt) : (s.setStream n g).scn = s.scn := rfl
@[simp] theorem setStream_lan (s : State) (n : Nat) (g : StreamSt → StreamSt) : (s.setStream n g).lan = s.lan := rfl
@[simp] theorem setStream_ports (s : State) (n : Nat) (g : StreamSt → StreamSt) : (s.setStream n g).ports = s.ports := rfl
@[simp] theorem setStream_links (s : State) (n : Nat) (g : StreamSt → StreamSt) : (s.setStream n g).links = s.links := rfl
@[simp] theorem setStream_net (s : State) (n : Nat) (g : StreamSt → StreamSt) : (s.setStream n g).net = s.net := rfl
@[simp] theorem setStream_red (s : State) (n : Nat) (g : StreamSt → StreamSt) : (s.setStream n g).red = s.red := rfl
@[simp] theorem setStream_thm (s : State) (n : Nat) (g : StreamSt → StreamSt) : (s.setStream n g).thm = s.thm := rfl
@[simp] theorem setStream_fw (s : State) (n : Nat) (g : StreamSt → StreamSt) : (s.setStream n g).fw = s.fw := rfl
@[simp] theorem setStream_mbx (s : State) (n : Nat) (g : StreamSt → StreamSt) : (s.setStream n g).mbx = s.mbx := rfl
@[simp] theorem setStream_boot (s : State) (n : Nat) (g : StreamSt → StreamSt) : (s.setStream n g).boot = s.boot := rfl
@[simp] theorem setStream_out (s : State) (n : Nat) (g : StreamSt → StreamSt) : (s.setStream n g).out = s.out := rfl
@[simp] theorem setStream_pending (s : State) (n : Nat) (g : StreamSt → StreamSt) : (s.setStream n g).pending = s.pending := rfl

@[simp] theorem setRing_r (s : State) (n : Nat) (g : DpRing → DpRing) (f : FName) (i : Nat) : (s.setRing n g).r f i = s.r f i := rfl
@[simp] theorem setRing_regs (s : State) (n : Nat) (g : DpRing → DpRing) : (s.setRing n g).regs = s.regs := rfl
@[simp] theorem setRing_shadow (s : State) (n : Nat) (g : DpRing → DpRing) : (s.setRing n g).shadow = s.shadow := rfl
@[simp] theorem setRing_staged (s : State) (n : Nat) (g : DpRing → DpRing) : (s.setRing n g).staged = s.staged := rfl
@[simp] theorem setRing_clk (s : State) (n : Nat) (g : DpRing → DpRing) : (s.setRing n g).clk = s.clk := rfl
@[simp] theorem setRing_upSince (s : State) (n : Nat) (g : DpRing → DpRing) : (s.setRing n g).upSince = s.upSince := rfl
@[simp] theorem setRing_free (s : State) (n : Nat) (g : DpRing → DpRing) : (s.setRing n g).free = s.free := rfl
@[simp] theorem setRing_hot (s : State) (n : Nat) (g : DpRing → DpRing) : (s.setRing n g).hot = s.hot := rfl
@[simp] theorem setRing_time (s : State) (n : Nat) (g : DpRing → DpRing) : (s.setRing n g).time = s.time := rfl
@[simp] theorem setRing_lay (s : State) (n : Nat) (g : DpRing → DpRing) : (s.setRing n g).lay = s.lay := rfl
@[simp] theorem setRing_clv (s : State) (n : Nat) (g : DpRing → DpRing) : (s.setRing n g).clv = s.clv := rfl
@[simp] theorem setRing_col (s : State) (n : Nat) (g : DpRing → DpRing) : (s.setRing n g).col = s.col := rfl
@[simp] theorem setRing_scn (s : State) (n : Nat) (g : DpRing → DpRing) : (s.setRing n g).scn = s.scn := rfl
@[simp] theorem setRing_lan (s : State) (n : Nat) (g : DpRing → DpRing) : (s.setRing n g).lan = s.lan := rfl
@[simp] theorem setRing_ports (s : State) (n : Nat) (g : DpRing → DpRing) : (s.setRing n g).ports = s.ports := rfl
@[simp] theorem setRing_links (s : State) (n : Nat) (g : DpRing → DpRing) : (s.setRing n g).links = s.links := rfl
@[simp] theorem setRing_net (s : State) (n : Nat) (g : DpRing → DpRing) : (s.setRing n g).net = s.net := rfl
@[simp] theorem setRing_red (s : State) (n : Nat) (g : DpRing → DpRing) : (s.setRing n g).red = s.red := rfl
@[simp] theorem setRing_thm (s : State) (n : Nat) (g : DpRing → DpRing) : (s.setRing n g).thm = s.thm := rfl
@[simp] theorem setRing_fw (s : State) (n : Nat) (g : DpRing → DpRing) : (s.setRing n g).fw = s.fw := rfl
@[simp] theorem setRing_mbx (s : State) (n : Nat) (g : DpRing → DpRing) : (s.setRing n g).mbx = s.mbx := rfl
@[simp] theorem setRing_boot (s : State) (n : Nat) (g : DpRing → DpRing) : (s.setRing n g).boot = s.boot := rfl
@[simp] theorem setRing_out (s : State) (n : Nat) (g : DpRing → DpRing) : (s.setRing n g).out = s.out := rfl
@[simp] theorem setRing_pending (s : State) (n : Nat) (g : DpRing → DpRing) : (s.setRing n g).pending = s.pending := rfl

@[simp] theorem setLane_r (s : State) (n : Nat) (g : LaneSt → LaneSt) (f : FName) (i : Nat) : (s.setLane n g).r f i = s.r f i := rfl
@[simp] theorem setLane_regs (s : State) (n : Nat) (g : LaneSt → LaneSt) : (s.setLane n g).regs = s.regs := rfl
@[simp] theorem setLane_shadow (s : State) (n : Nat) (g : LaneSt → LaneSt) : (s.setLane n g).shadow = s.shadow := rfl
@[simp] theorem setLane_staged (s : State) (n : Nat) (g : LaneSt → LaneSt) : (s.setLane n g).staged = s.staged := rfl
@[simp] theorem setLane_clk (s : State) (n : Nat) (g : LaneSt → LaneSt) : (s.setLane n g).clk = s.clk := rfl
@[simp] theorem setLane_upSince (s : State) (n : Nat) (g : LaneSt → LaneSt) : (s.setLane n g).upSince = s.upSince := rfl
@[simp] theorem setLane_free (s : State) (n : Nat) (g : LaneSt → LaneSt) : (s.setLane n g).free = s.free := rfl
@[simp] theorem setLane_hot (s : State) (n : Nat) (g : LaneSt → LaneSt) : (s.setLane n g).hot = s.hot := rfl
@[simp] theorem setLane_time (s : State) (n : Nat) (g : LaneSt → LaneSt) : (s.setLane n g).time = s.time := rfl
@[simp] theorem setLane_ing (s : State) (n : Nat) (g : LaneSt → LaneSt) : (s.setLane n g).ing = s.ing := rfl
@[simp] theorem setLane_lay (s : State) (n : Nat) (g : LaneSt → LaneSt) : (s.setLane n g).lay = s.lay := rfl
@[simp] theorem setLane_clv (s : State) (n : Nat) (g : LaneSt → LaneSt) : (s.setLane n g).clv = s.clv := rfl
@[simp] theorem setLane_col (s : State) (n : Nat) (g : LaneSt → LaneSt) : (s.setLane n g).col = s.col := rfl
@[simp] theorem setLane_scn (s : State) (n : Nat) (g : LaneSt → LaneSt) : (s.setLane n g).scn = s.scn := rfl
@[simp] theorem setLane_ports (s : State) (n : Nat) (g : LaneSt → LaneSt) : (s.setLane n g).ports = s.ports := rfl
@[simp] theorem setLane_links (s : State) (n : Nat) (g : LaneSt → LaneSt) : (s.setLane n g).links = s.links := rfl
@[simp] theorem setLane_net (s : State) (n : Nat) (g : LaneSt → LaneSt) : (s.setLane n g).net = s.net := rfl
@[simp] theorem setLane_red (s : State) (n : Nat) (g : LaneSt → LaneSt) : (s.setLane n g).red = s.red := rfl
@[simp] theorem setLane_thm (s : State) (n : Nat) (g : LaneSt → LaneSt) : (s.setLane n g).thm = s.thm := rfl
@[simp] theorem setLane_fw (s : State) (n : Nat) (g : LaneSt → LaneSt) : (s.setLane n g).fw = s.fw := rfl
@[simp] theorem setLane_mbx (s : State) (n : Nat) (g : LaneSt → LaneSt) : (s.setLane n g).mbx = s.mbx := rfl
@[simp] theorem setLane_boot (s : State) (n : Nat) (g : LaneSt → LaneSt) : (s.setLane n g).boot = s.boot := rfl
@[simp] theorem setLane_out (s : State) (n : Nat) (g : LaneSt → LaneSt) : (s.setLane n g).out = s.out := rfl
@[simp] theorem setLane_pending (s : State) (n : Nat) (g : LaneSt → LaneSt) : (s.setLane n g).pending = s.pending := rfl

@[simp] theorem setEngine_r (s : State) (n : Nat) (g : Engine → Engine) (f : FName) (i : Nat) : (s.setEngine n g).r f i = s.r f i := rfl
@[simp] theorem setEngine_regs (s : State) (n : Nat) (g : Engine → Engine) : (s.setEngine n g).regs = s.regs := rfl
@[simp] theorem setEngine_shadow (s : State) (n : Nat) (g : Engine → Engine) : (s.setEngine n g).shadow = s.shadow := rfl
@[simp] theorem setEngine_staged (s : State) (n : Nat) (g : Engine → Engine) : (s.setEngine n g).staged = s.staged := rfl
@[simp] theorem setEngine_clk (s : State) (n : Nat) (g : Engine → Engine) : (s.setEngine n g).clk = s.clk := rfl
@[simp] theorem setEngine_upSince (s : State) (n : Nat) (g : Engine → Engine) : (s.setEngine n g).upSince = s.upSince := rfl
@[simp] theorem setEngine_free (s : State) (n : Nat) (g : Engine → Engine) : (s.setEngine n g).free = s.free := rfl
@[simp] theorem setEngine_hot (s : State) (n : Nat) (g : Engine → Engine) : (s.setEngine n g).hot = s.hot := rfl
@[simp] theorem setEngine_time (s : State) (n : Nat) (g : Engine → Engine) : (s.setEngine n g).time = s.time := rfl
@[simp] theorem setEngine_ing (s : State) (n : Nat) (g : Engine → Engine) : (s.setEngine n g).ing = s.ing := rfl
@[simp] theorem setEngine_lay (s : State) (n : Nat) (g : Engine → Engine) : (s.setEngine n g).lay = s.lay := rfl
@[simp] theorem setEngine_col (s : State) (n : Nat) (g : Engine → Engine) : (s.setEngine n g).col = s.col := rfl
@[simp] theorem setEngine_scn (s : State) (n : Nat) (g : Engine → Engine) : (s.setEngine n g).scn = s.scn := rfl
@[simp] theorem setEngine_lan (s : State) (n : Nat) (g : Engine → Engine) : (s.setEngine n g).lan = s.lan := rfl
@[simp] theorem setEngine_ports (s : State) (n : Nat) (g : Engine → Engine) : (s.setEngine n g).ports = s.ports := rfl
@[simp] theorem setEngine_links (s : State) (n : Nat) (g : Engine → Engine) : (s.setEngine n g).links = s.links := rfl
@[simp] theorem setEngine_net (s : State) (n : Nat) (g : Engine → Engine) : (s.setEngine n g).net = s.net := rfl
@[simp] theorem setEngine_red (s : State) (n : Nat) (g : Engine → Engine) : (s.setEngine n g).red = s.red := rfl
@[simp] theorem setEngine_thm (s : State) (n : Nat) (g : Engine → Engine) : (s.setEngine n g).thm = s.thm := rfl
@[simp] theorem setEngine_fw (s : State) (n : Nat) (g : Engine → Engine) : (s.setEngine n g).fw = s.fw := rfl
@[simp] theorem setEngine_mbx (s : State) (n : Nat) (g : Engine → Engine) : (s.setEngine n g).mbx = s.mbx := rfl
@[simp] theorem setEngine_boot (s : State) (n : Nat) (g : Engine → Engine) : (s.setEngine n g).boot = s.boot := rfl
@[simp] theorem setEngine_out (s : State) (n : Nat) (g : Engine → Engine) : (s.setEngine n g).out = s.out := rfl
@[simp] theorem setEngine_pending (s : State) (n : Nat) (g : Engine → Engine) : (s.setEngine n g).pending = s.pending := rfl

/-! ### Free values -/

@[simp] theorem draw_regs (s : State) (w : Nat) : (s.draw w).2.regs = s.regs := rfl
@[simp] theorem draw_shadow (s : State) (w : Nat) : (s.draw w).2.shadow = s.shadow := rfl
@[simp] theorem draw_staged (s : State) (w : Nat) : (s.draw w).2.staged = s.staged := rfl
@[simp] theorem draw_clk (s : State) (w : Nat) : (s.draw w).2.clk = s.clk := rfl
@[simp] theorem draw_upSince (s : State) (w : Nat) : (s.draw w).2.upSince = s.upSince := rfl
@[simp] theorem draw_hot (s : State) (w : Nat) : (s.draw w).2.hot = s.hot := rfl
@[simp] theorem draw_time (s : State) (w : Nat) : (s.draw w).2.time = s.time := rfl
@[simp] theorem draw_ing (s : State) (w : Nat) : (s.draw w).2.ing = s.ing := rfl
@[simp] theorem draw_lay (s : State) (w : Nat) : (s.draw w).2.lay = s.lay := rfl
@[simp] theorem draw_clv (s : State) (w : Nat) : (s.draw w).2.clv = s.clv := rfl
@[simp] theorem draw_col (s : State) (w : Nat) : (s.draw w).2.col = s.col := rfl
@[simp] theorem draw_scn (s : State) (w : Nat) : (s.draw w).2.scn = s.scn := rfl
@[simp] theorem draw_lan (s : State) (w : Nat) : (s.draw w).2.lan = s.lan := rfl
@[simp] theorem draw_ports (s : State) (w : Nat) : (s.draw w).2.ports = s.ports := rfl
@[simp] theorem draw_links (s : State) (w : Nat) : (s.draw w).2.links = s.links := rfl
@[simp] theorem draw_net (s : State) (w : Nat) : (s.draw w).2.net = s.net := rfl
@[simp] theorem draw_red (s : State) (w : Nat) : (s.draw w).2.red = s.red := rfl
@[simp] theorem draw_thm (s : State) (w : Nat) : (s.draw w).2.thm = s.thm := rfl
@[simp] theorem draw_fw (s : State) (w : Nat) : (s.draw w).2.fw = s.fw := rfl
@[simp] theorem draw_mbx (s : State) (w : Nat) : (s.draw w).2.mbx = s.mbx := rfl
@[simp] theorem draw_boot (s : State) (w : Nat) : (s.draw w).2.boot = s.boot := rfl
@[simp] theorem draw_out (s : State) (w : Nat) : (s.draw w).2.out = s.out := rfl
@[simp] theorem draw_pending (s : State) (w : Nat) : (s.draw w).2.pending = s.pending := rfl

end Sys2Proof.Machine
end

