-- ==== Sys2Proof/Laws/Host.lean ====
section
/-! SUPPORT. What every host command shares: a command that nothing keeps from running is its action on the state it was taken in,
and the final response that follows goes out on its path and changes nothing else. -/

namespace Sys2Proof.Machine

/-! ### Bits of a mask -/

theorem bit_eq_testBit (v i : Nat) : bit v i = v.testBit i := by
  simp [bit, Nat.testBit_eq_decide_div_mod_eq, Bool.beq_eq_decide_eq]

theorem bit_mod (v w i : Nat) (h : i < w) : bit (v % 2 ^ w) i = bit v i := by
  simp [bit_eq_testBit, Nat.testBit_mod_two_pow, h]

/-- The bits above bit `i` are those of the quotient by `2 ^ (i + 1)`. -/
theorem testBit_above (v i k : Nat) : v.testBit (i + 1 + k) = (v / 2 ^ (i + 1)).testBit k := by
  rw [Nat.testBit_div_two_pow, Nat.add_comm k]

/-- Setting a bit that is 0 adds its weight and leaves every other bit. -/
theorem testBit_add_pow (v i j : Nat) (h : v.testBit i = false) : (v + 2 ^ i).testBit j = if j = i then true else v.testBit j := by
  by_cases hj : j = i
  · subst hj
    rw [Nat.add_comm, Nat.testBit_two_pow_add_eq, h]; simp
  · simp only [hj, if_false]
    rcases Nat.lt_or_gt_of_ne hj with hlt | hgt
    · rw [Nat.add_comm, Nat.testBit_two_pow_add_gt hlt]
    · obtain ⟨k, rfl⟩ := Nat.exists_eq_add_of_lt hgt
      have e : i + k + 1 = i + 1 + k := by omega
      rw [e, testBit_above, testBit_above]
      congr 1
      have hm : v % 2 ^ (i + 1) < 2 ^ i := by
        have h1 : v / 2 ^ i % 2 = 0 := by
          rw [Nat.testBit_eq_decide_div_mod_eq] at h
          have := of_decide_eq_false h
          omega
        have h2 : v % 2 ^ (i + 1) = v % 2 ^ i + 2 ^ i * (v / 2 ^ i % 2) := by
          rw [Nat.pow_succ]; exact Nat.mod_mul
        rw [h2, h1]
        simpa using Nat.mod_lt v (Nat.two_pow_pos i)
      have hv := Nat.div_add_mod v (2 ^ (i + 1))
      have hp : 2 ^ (i + 1) = 2 * 2 ^ i := by rw [Nat.pow_succ]; omega
      have : v + 2 ^ i = (v % 2 ^ (i + 1) + 2 ^ i) + 2 ^ (i + 1) * (v / 2 ^ (i + 1)) := by omega
      rw [this, Nat.add_mul_div_left _ _ (Nat.two_pow_pos _), Nat.div_eq_of_lt (by omega), Nat.zero_add]

/-- Clearing a bit that is 1 takes its weight away and leaves every other bit. -/
theorem testBit_sub_pow (v i j : Nat) (h : v.testBit i = true) : (v - 2 ^ i).testBit j = if j = i then false else v.testBit j := by
  have hle : 2 ^ i ≤ v := Nat.ge_two_pow_of_testBit h
  have h0 : (v - 2 ^ i).testBit i = false := by
    have := Nat.testBit_two_pow_add_eq (v - 2 ^ i) i
    rw [show 2 ^ i + (v - 2 ^ i) = v by omega, h] at this
    simpa using this.symm
  by_cases hj : j = i
  · simp [hj, h0]
  · have := testBit_add_pow (v - 2 ^ i) i j h0
    rw [show v - 2 ^ i + 2 ^ i = v by omega] at this
    simp [hj] at this ⊢
    exact this.symm

theorem bit_setBit (v i j : Nat) (b : Bool) : bit (setBit v i b) j = if j = i then b else bit v j := by
  simp only [bit_eq_testBit, setBit]
  cases hv : v.testBit i <;> cases b
  · by_cases hj : j = i <;> simp [hj, hv]
  · simp [testBit_add_pow v i j hv]
  · simp [testBit_sub_pow v i j hv]
  · by_cases hj : j = i <;> simp [hj, hv]

/-! ### The state a command is taken in -/

@[simp] theorem arrive_eq (s : State) (c : HostCmd) : (s.arrive c).regs = s.regs ∧ (s.arrive c).shadow = s.shadow ∧
    (s.arrive c).staged = s.staged ∧ (s.arrive c).out = s.out ∧ (s.arrive c).rest = s.rest := by
  unfold State.arrive State.renew
  split <;> exact ⟨rfl, rfl, rfl, rfl, rfl⟩

@[simp] theorem taken_regs (s : State) (c : HostCmd) : (s.taken c).regs = s.regs := (arrive_eq _ c).1
@[simp] theorem taken_shadow (s : State) (c : HostCmd) : (s.taken c).shadow = s.shadow := (arrive_eq _ c).2.1
@[simp] theorem taken_staged (s : State) (c : HostCmd) : (s.taken c).staged = s.staged := (arrive_eq _ c).2.2.1
@[simp] theorem taken_out (s : State) (c : HostCmd) : (s.taken c).out = [] := (arrive_eq _ c).2.2.2.1
@[simp] theorem taken_rest (s : State) (c : HostCmd) : (s.taken c).rest = s.rest := (arrive_eq _ c).2.2.2.2
@[simp] theorem taken_r (s : State) (c : HostCmd) (f : FName) (i : Nat) : (s.taken c).r f i = s.r f i := by
  simp [State.r]
@[simp] theorem taken_slots (s : State) (c : HostCmd) : (s.taken c).mbx.slots = s.mbx.slots := by
  unfold State.taken State.arrive State.renew; split <;> rfl

/-- Two states with the same rest agree on each part. -/
theorem rest_time {s t : State} (h : t.rest = s.rest) : t.time = s.time := show t.rest.time = s.rest.time by rw [h]
theorem rest_clk {s t : State} (h : t.rest = s.rest) : t.clk = s.clk := show t.rest.clk = s.rest.clk by rw [h]
theorem rest_upSince {s t : State} (h : t.rest = s.rest) : t.upSince = s.upSince := show t.rest.upSince = s.rest.upSince by rw [h]
theorem rest_free {s t : State} (h : t.rest = s.rest) : t.free = s.free := show t.rest.free = s.rest.free by rw [h]
theorem rest_ing {s t : State} (h : t.rest = s.rest) : t.ing = s.ing := show t.rest.ing = s.rest.ing by rw [h]
theorem rest_lay {s t : State} (h : t.rest = s.rest) : t.lay = s.lay := show t.rest.lay = s.rest.lay by rw [h]
theorem rest_clv {s t : State} (h : t.rest = s.rest) : t.clv = s.clv := show t.rest.clv = s.rest.clv by rw [h]
theorem rest_col {s t : State} (h : t.rest = s.rest) : t.col = s.col := show t.rest.col = s.rest.col by rw [h]
theorem rest_scn {s t : State} (h : t.rest = s.rest) : t.scn = s.scn := show t.rest.scn = s.rest.scn by rw [h]
theorem rest_lan {s t : State} (h : t.rest = s.rest) : t.lan = s.lan := show t.rest.lan = s.rest.lan by rw [h]
theorem rest_ports {s t : State} (h : t.rest = s.rest) : t.ports = s.ports := show t.rest.ports = s.rest.ports by rw [h]
theorem rest_links {s t : State} (h : t.rest = s.rest) : t.links = s.links := show t.rest.links = s.rest.links by rw [h]
theorem rest_net {s t : State} (h : t.rest = s.rest) : t.net = s.net := show t.rest.net = s.rest.net by rw [h]
theorem rest_red {s t : State} (h : t.rest = s.rest) : t.red = s.red := show t.rest.red = s.rest.red by rw [h]
theorem rest_thm {s t : State} (h : t.rest = s.rest) : t.thm = s.thm := show t.rest.thm = s.rest.thm by rw [h]
theorem rest_fw {s t : State} (h : t.rest = s.rest) : t.fw = s.fw := show t.rest.fw = s.rest.fw by rw [h]
theorem rest_boot {s t : State} (h : t.rest = s.rest) : t.boot = s.boot := show t.rest.boot = s.rest.boot by rw [h]
theorem rest_pending {s t : State} (h : t.rest = s.rest) : t.pending = s.pending := show t.rest.pending = s.rest.pending by rw [h]

@[simp] theorem taken_time (s : State) (c : HostCmd) : (s.taken c).time = s.time := rest_time (taken_rest s c)
@[simp] theorem taken_clk (s : State) (c : HostCmd) : (s.taken c).clk = s.clk := rest_clk (taken_rest s c)
@[simp] theorem taken_upSince (s : State) (c : HostCmd) : (s.taken c).upSince = s.upSince := rest_upSince (taken_rest s c)
@[simp] theorem taken_ing (s : State) (c : HostCmd) : (s.taken c).ing = s.ing := rest_ing (taken_rest s c)
@[simp] theorem taken_lay (s : State) (c : HostCmd) : (s.taken c).lay = s.lay := rest_lay (taken_rest s c)
@[simp] theorem taken_clv (s : State) (c : HostCmd) : (s.taken c).clv = s.clv := rest_clv (taken_rest s c)
@[simp] theorem taken_col (s : State) (c : HostCmd) : (s.taken c).col = s.col := rest_col (taken_rest s c)
@[simp] theorem taken_scn (s : State) (c : HostCmd) : (s.taken c).scn = s.scn := rest_scn (taken_rest s c)
@[simp] theorem taken_lan (s : State) (c : HostCmd) : (s.taken c).lan = s.lan := rest_lan (taken_rest s c)
@[simp] theorem taken_ports (s : State) (c : HostCmd) : (s.taken c).ports = s.ports := rest_ports (taken_rest s c)
@[simp] theorem taken_links (s : State) (c : HostCmd) : (s.taken c).links = s.links := rest_links (taken_rest s c)
@[simp] theorem taken_net (s : State) (c : HostCmd) : (s.taken c).net = s.net := rest_net (taken_rest s c)
@[simp] theorem taken_red (s : State) (c : HostCmd) : (s.taken c).red = s.red := rest_red (taken_rest s c)
@[simp] theorem taken_thm (s : State) (c : HostCmd) : (s.taken c).thm = s.thm := rest_thm (taken_rest s c)
@[simp] theorem taken_fw (s : State) (c : HostCmd) : (s.taken c).fw = s.fw := rest_fw (taken_rest s c)
@[simp] theorem taken_boot (s : State) (c : HostCmd) : (s.taken c).boot = s.boot := rest_boot (taken_rest s c)
@[simp] theorem taken_pending (s : State) (c : HostCmd) : (s.taken c).pending = s.pending := rest_pending (taken_rest s c)

@[simp] theorem w_rest (s : State) (f : FName) (i v : Nat) : (s.w f i v).rest = s.rest := rfl
@[simp] theorem stage_rest (s : State) (n : Nat) (f : FName) (i v : Nat) : (s.stage n f i v).rest = s.rest := rfl
@[simp] theorem emit_rest (s : State) (o : Out) : (s.emit o).rest = s.rest := rfl

/-! ### Carrying a command out -/

/-- Every host row carries out its opcode's action. -/
theorem hostRows_exec : ∀ p ∈ hostRows, ∃ act, ∀ c s, exec (p.2 c) s = .next (runHost p.1 act c s) := by
  simp only [hostRows, List.mem_append, List.mem_cons, List.not_mem_nil, or_false, or_assoc]
  intro p hp
  repeat (rcases hp with rfl | hp; exact ⟨_, fun _ _ => rfl⟩)

/-- A command that nothing keeps from running is its action on the state it was taken in, and the response to what it answers. -/
theorem runHost_direct {op : Nat} {c : HostCmd} {s : State} (act : Action) (h : Direct op c s) :
    runHost op act c s = conclude c true false (act c (s.taken c)) := by
  have hc : { c with opcode := op } = c := by rw [← h.opcode]
  have hrun : ({ s with out := [] } : State).running = true := h.running
  have hh : ({ s with out := [] } : State).hears c = true := h.heard
  have hw : ({ s with out := [] } : State).mustWait op c = false := h.inOrder
  have hr : ({ s with out := [] } : State).fw.restartAt = none := h.noRestart
  have hrole : (s.taken c).roleBad c = false := by
    have := h.passes
    unfold State.refusal at this
    by_cases hx : (s.taken c).roleBad c = true
    · simp [hx] at this
    · simpa using hx
  have hl : ({ s with out := [] } : State).lapseDue = { s with out := [] } := by
    have : ({ s with out := [] } : State).lapsing = [] := h.noLapse
    simp [State.lapseDue, this]
  unfold runHost State.receive
  simp only [hl, hc, hrun, hh, hw, h.noRestart, Bool.not_true, Bool.or_self, Option.isSome_none, Bool.false_eq_true, if_false]
  change State.start (s.taken c) op act c = _
  unfold State.start
  simp only [h.header, hrole, h.notRelayed, h.notSpread, h.notMirrored]
  simp [State.here, h.notScheduled, State.carry, h.passes]

/-! ### The final response -/

@[simp] theorem leBytes_length (n v : Nat) : (leBytes n v).length = n := by
  induction n generalizing v with
  | zero => rfl
  | succ n ih => simp [leBytes, ih]

@[simp] theorem getBytes_length (l : List Byte) (off n : Nat) : (getBytes l off n).length = n := by
  simp only [getBytes, List.length_append, List.length_take, List.length_drop, List.length_replicate]
  omega

@[simp] theorem padTo_length (n : Nat) (l : List Byte) : (padTo n l).length = n := getBytes_length _ _ _

@[simp] theorem response_length (r : Response) : r.bytes.length = 64 := by simp [Response.bytes]

theorem notLocal {c : HostCmd} (h : ownPath c) (n : Nat) : c.req ≠ .fabric n := by
  rcases h with ⟨h, -⟩ | ⟨a, b, h⟩ <;> simp [h]

/-- What a final response leaves: it has gone out on its path, and nothing else has changed. -/
theorem respond_final {c : HostCmd} (s : State) (h : ownPath c) (status : Nat) (data : List Byte) (session : Nat) :
    let t := (s.respond c (s.response c status true data s.ftNs session)).1
    Sent c t (finalOf c t status data session) ∧ OnlyFields c s t [] [] ∧ t.pending = s.pending := by
  intro t
  have ht : t = (s.post c (s.response c status true data s.ftNs session)).1 := by
    simp [t, State.respond, notLocal h s.id]
  rcases h with ⟨hq, hs⟩ | ⟨ip, sp, hq⟩
  · have e : t = (s.slotWrite c.slot (s.response c status true data s.ftNs session)).slotComplete c.slot := by
      rw [ht]; simp [State.post, hq, show ¬ 256 ≤ c.slot by omega, State.response]
    have hid : t.id = s.id := by rw [e]; simp [State.id, State.slotComplete, State.slotWrite, State.r, State.emit, State.w, State.heat]
    have hft : t.ftNs = s.ftNs := by rw [e]; rfl
    have hresp : finalOf c t status data session = s.response c status true data s.ftNs session := by
      simp [finalOf, State.response, hid, hft]
    have hslots : t.mbx.slots = mwrite 0 s.mbx.slots (0x80 * c.slot + 0x40) (s.response c status true data s.ftNs session).bytes := by
      rw [e]; rfl
    have hdone : ∀ n, n < 32 → bit (t.r .mbxDone) n = if n = c.slot then true else bit (s.r .mbxDone) n := by
      intro n hn
      have : t.r .mbxDone = setBit (s.r .mbxDone) c.slot true % 2 ^ 32 := by
        rw [e]; simp [State.slotComplete, State.slotWrite, State.r, State.emit, State.w, State.heat]; rfl
      rw [this, bit_mod _ _ _ hn, bit_setBit]
    have hbusy : ∀ n, n < 32 → bit (t.r .mbxBusy) n = if n = c.slot then false else bit (s.r .mbxBusy) n := by
      intro n hn
      have : t.r .mbxBusy = setBit (s.r .mbxBusy) c.slot false % 2 ^ 32 := by
        rw [e]; simp [State.slotComplete, State.slotWrite, State.r, State.emit, State.w, State.heat]; rfl
      rw [this, bit_mod _ _ _ hn, bit_setBit]
    refine ⟨?_, ⟨?_, ⟨fun f i _ => ?_, fun _ => ?_⟩, ?_, ?_⟩, ?_⟩
    · rw [hresp]
      simp only [Sent, hq]
      refine ⟨?_, by simp [hdone _ hs], by simp [hbusy _ hs], ?_⟩
      · rw [hslots]
        simpa using mread_mwrite_same 0 s.mbx.slots (0x80 * c.slot + 0x40) (s.response c status true data s.ftNs session).bytes
      · rw [e]; simp [State.slotComplete]
    · intro f i _ h1 h2
      rw [e]; simp [State.slotComplete, State.slotWrite, State.r, State.emit, State.w, State.heat, h1, h2]
    · rw [e]; rfl
    · rw [e]; rfl
    · rw [e]; rfl
    · refine ⟨by rw [e]; rfl, fun a ha => ?_, fun n hn hl => ?_, fun n hn hl => ?_⟩
      · rw [hslots]; exact mget_mwrite_other _ _ _ _ _ (by simp; omega)
      · simp [hdone n hl, hn]
      · simp [hbusy n hl, hn]
    · rw [e]; rfl
  · have e : t = { s.emit (.datagram ip sp (datagramOf (s.response c status true data s.ftNs session))) with
        mbx := { s.mbx with kept := keepFinal s.mbx.kept ip sp (s.response c status true data s.ftNs session) } } := by
      rw [ht]; simp [State.post, hq, State.response, State.emit]
    have hresp : finalOf c t status data session = s.response c status true data s.ftNs session := by
      rw [e]; rfl
    refine ⟨?_, ⟨fun f i _ _ _ => ?_, ⟨fun f i _ => ?_, fun _ => ?_⟩, ?_, ⟨by rw [e], fun a _ => ?_, fun n _ _ => ?_, fun n _ _ => ?_⟩⟩, ?_⟩
    · rw [hresp]
      simp only [Sent, hq]
      rw [e]; simp
    all_goals first | (rw [e]; done) | (rw [e]; rfl)

/-- The answer of an action that completes at once. -/
theorem conclude_done {c : HostCmd} (a : Ack) (h : ownPath c) (hw : a.waits = none) (hs : a.silent = false) :
    let t := conclude c true false a
    Sent c t (finalOf c t a.status a.data (a.opened.getD c.session)) ∧ OnlyFields c a.s t [] [] ∧ t.pending = a.s.pending := by
  have e : conclude c true false a = (a.s.respond c (a.s.response c a.status true a.data a.s.ftNs (a.opened.getD c.session))).1 := by
    simp [conclude, hw, hs]
  rw [e]
  exact respond_final a.s h _ _ _

end Sys2Proof.Machine
end

