-- ==== Sys2Proof/Laws/Claims.lean ====
section
/-! SUPPORT. From what an action does to the claims of Safety.lean: a command that reads, one that puts values into effect, one that
stages values. -/

namespace Sys2Proof.Machine

/-! ### Several fields at once -/

/-- No two entries name the same field and index. -/
def distinctKeys (l : List (FName × Nat × Nat)) : Prop := l.Pairwise (fun a b => ¬(a.1 = b.1 ∧ a.2.1 % 128 = b.2.1 % 128))

theorem puts_r_other (l : List (FName × Nat × Nat)) (s : State) (f : FName) (i : Nat)
    (h : ∀ e ∈ l, ¬(e.1 = f ∧ e.2.1 % 128 = i % 128)) : (s.puts l).r f i = s.r f i := by
  induction l generalizing s with
  | nil => rfl
  | cons p r ih =>
    have hp := h p (by simp)
    show (State.puts (s.w p.1 p.2.1 p.2.2) r).r f i = _
    rw [ih _ (fun e he => h e (by simp [he]))]
    exact r_w_index s p.1 f p.2.1 i p.2.2 (fun hh => hp ⟨hh.1.symm, hh.2.symm⟩)

theorem puts_r (l : List (FName × Nat × Nat)) (s : State) (hd : distinctKeys l) :
    ∀ e ∈ l, (s.puts l).r e.1 e.2.1 = e.2.2 % 2 ^ e.1.width := by
  induction l generalizing s with
  | nil => simp
  | cons p r ih =>
    obtain ⟨h1, h2⟩ := List.pairwise_cons.mp hd
    intro e he
    rcases List.mem_cons.mp he with rfl | he
    · show (State.puts (s.w e.1 e.2.1 e.2.2) r).r e.1 e.2.1 = _
      rw [puts_r_other _ _ _ _ (fun x hx hh => h1 x hx ⟨hh.1.symm, hh.2.symm⟩), r_w_same]
    · exact ih _ h2 e he

@[simp] theorem puts_rest (l : List (FName × Nat × Nat)) (s : State) : (s.puts l).rest = s.rest := by
  induction l generalizing s with
  | nil => rfl
  | cons p r ih => exact ih _
@[simp] theorem puts_shadow (l : List (FName × Nat × Nat)) (s : State) : (s.puts l).shadow = s.shadow := by
  induction l generalizing s with
  | nil => rfl
  | cons p r ih => exact ih _
@[simp] theorem puts_staged (l : List (FName × Nat × Nat)) (s : State) : (s.puts l).staged = s.staged := by
  induction l generalizing s with
  | nil => rfl
  | cons p r ih => exact ih _
@[simp] theorem puts_mbx (l : List (FName × Nat × Nat)) (s : State) : (s.puts l).mbx = s.mbx := by
  induction l generalizing s with
  | nil => rfl
  | cons p r ih => exact ih _

theorem stages_shadow_other (l : List (FName × Nat × Nat)) (s : State) (n : Nat) (f : FName) (i : Nat)
    (h : ∀ e ∈ l, ¬(e.1 = f ∧ e.2.1 % 128 = i % 128)) : rget (s.stages n l).shadow f i = rget s.shadow f i := by
  induction l generalizing s with
  | nil => rfl
  | cons p r ih =>
    have hp := h p (by simp)
    show rget (State.stages (s.stage n p.1 p.2.1 p.2.2) n r).shadow f i = _
    rw [ih _ (fun e he => h e (by simp [he]))]
    exact rget_rput_index _ p.1 f p.2.1 i p.2.2 (fun hh => hp ⟨hh.1.symm, hh.2.symm⟩)

theorem stages_shadow (l : List (FName × Nat × Nat)) (s : State) (n : Nat) (hd : distinctKeys l) :
    ∀ e ∈ l, rget (s.stages n l).shadow e.1 e.2.1 = e.2.2 % 2 ^ e.1.width := by
  induction l generalizing s with
  | nil => simp
  | cons p r ih =>
    obtain ⟨h1, h2⟩ := List.pairwise_cons.mp hd
    intro e he
    rcases List.mem_cons.mp he with rfl | he
    · show rget (State.stages (s.stage n e.1 e.2.1 e.2.2) n r).shadow e.1 e.2.1 = _
      rw [stages_shadow_other _ _ _ _ _ (fun x hx hh => h1 x hx ⟨hh.1.symm, hh.2.symm⟩), stage_shadow_same]
    · exact ih _ h2 e he

theorem stages_marks_keep (l : List (FName × Nat × Nat)) (s : State) (n : Nat) (x : Staged) (hx : x ∈ s.staged)
    (h : ∀ e ∈ l, x.key ≠ e.1.key e.2.1) : x ∈ (s.stages n l).staged := by
  induction l generalizing s with
  | nil => exact hx
  | cons p r ih =>
    exact ih _ (stage_marks_keep s n p.1 p.2.1 p.2.2 x hx (h p (by simp))) (fun e he => h e (by simp [he]))

theorem stages_marks (l : List (FName × Nat × Nat)) (s : State) (n : Nat) (hd : distinctKeys l) :
    ∀ e ∈ l, ⟨e.1.key e.2.1, n⟩ ∈ (s.stages n l).staged := by
  induction l generalizing s with
  | nil => simp
  | cons p r ih =>
    obtain ⟨h1, h2⟩ := List.pairwise_cons.mp hd
    intro e he
    rcases List.mem_cons.mp he with rfl | he
    · exact stages_marks_keep r _ n _ (stage_marks s n e.1 e.2.1 e.2.2)
        (fun x hx hh => h1 x hx ((key_eq_iff _ _ _ _).mp hh))
    · exact ih _ h2 e he

@[simp] theorem stages_regs (l : List (FName × Nat × Nat)) (s : State) (n : Nat) : (s.stages n l).regs = s.regs := by
  induction l generalizing s with
  | nil => rfl
  | cons p r ih => exact ih _
@[simp] theorem stages_rest (l : List (FName × Nat × Nat)) (s : State) (n : Nat) : (s.stages n l).rest = s.rest := by
  induction l generalizing s with
  | nil => rfl
  | cons p r ih => exact ih _
@[simp] theorem stages_mbx (l : List (FName × Nat × Nat)) (s : State) (n : Nat) : (s.stages n l).mbx = s.mbx := by
  induction l generalizing s with
  | nil => rfl
  | cons p r ih => exact ih _

/-! ### From the action to the claim -/

theorem mailboxKept_of {c : HostCmd} {s a t : State} (h : MailboxKept c a t) (hs : a.mbx = s.mbx)
    (hd : a.r .mbxDone = s.r .mbxDone) (hb : a.r .mbxBusy = s.r .mbxBusy) : MailboxKept c s t :=
  ⟨by rw [h.unit, hs], fun x hx => by rw [h.slots x hx, hs], fun n h1 h2 => by rw [h.done n h1 h2, hd],
    fun n h1 h2 => by rw [h.busy n h1 h2, hb]⟩

theorem reads_of {op : Nat} {mk : HostCmd → Instr} {ok : HostCmd → State → Prop} {data : HostCmd → State → List Byte}
    (act : Action) (he : ∀ c s, exec (mk c) s = .next (runHost op act c s))
    (ha : ∀ c s, Direct op c s → ok c (s.taken c) → act c (s.taken c) = done (s.taken c) (data c (s.taken c))) : Reads op mk ok data := by
  intro c s hd hok
  have hr := runHost_direct act hd
  rw [ha c s hd hok] at hr
  obtain ⟨h1, h2, -⟩ := conclude_done (c := c) (done (s.taken c) (data c (s.taken c))) hd.path rfl rfl
  refine ⟨_, by rw [he, hr], h1, ⟨fun f i a b d => ?_, ⟨fun f i a => ?_, fun _ => ?_⟩, ?_, ?_⟩⟩
  · simpa [done] using h2.regs f i a b d
  · simpa [done] using h2.shadow.1 f i a
  · simpa [done] using h2.shadow.2 rfl
  · simpa [done] using h2.rest
  · exact mailboxKept_of h2.mailbox (by simp [done]) (by simp [done]) (by simp [done])

theorem writes_of {op : Nat} {mk : HostCmd → Instr} {ok : HostCmd → State → Prop}
    {vals : HostCmd → List (FName × Nat × Nat)} (act : Action)
    (he : ∀ c s, exec (mk c) s = .next (runHost op act c s))
    (ha : ∀ c s, Direct op c s → ok c (s.taken c) → act c (s.taken c) = done ((s.taken c).puts (vals c)))
    (hk : ∀ c s, Direct op c s → ok c (s.taken c) → distinctKeys (vals c))
    (hn : ∀ c, ∀ e ∈ vals c, e.1 ≠ .mbxDone ∧ e.1 ≠ .mbxBusy) : Writes op mk ok vals := by
  intro c s hd hok
  have hr := runHost_direct act hd
  rw [ha c s hd hok] at hr
  obtain ⟨h1, h2, -⟩ := conclude_done (c := c) (done ((s.taken c).puts (vals c))) hd.path rfl rfl
  have hdone : ((s.taken c).puts (vals c)).r .mbxDone 0 = s.r .mbxDone := by
    rw [puts_r_other _ _ _ _ (fun e he hh => (hn c e he).1 hh.1)]; simp
  have hbusy : ((s.taken c).puts (vals c)).r .mbxBusy 0 = s.r .mbxBusy := by
    rw [puts_r_other _ _ _ _ (fun e he hh => (hn c e he).2 hh.1)]; simp
  refine ⟨_, by rw [he, hr], h1, fun e hm => ?_, ⟨fun f i a b d => ?_, ⟨fun f i a => ?_, fun _ => ?_⟩, ?_, ?_⟩⟩
  · have := h2.regs e.1 e.2.1 (by simp) (hn c e hm).1 (hn c e hm).2
    rw [this]
    exact puts_r _ _ (hk c s hd hok) e hm
  · have := h2.regs f i (by simp) b d
    rw [this]
    simp only [done]
    rw [puts_r_other _ _ _ _ (fun e he hh => a (List.mem_map.mpr ⟨e, he, hh.1⟩))]
  · simpa [done] using h2.shadow.1 f i a
  · simpa [done] using h2.shadow.2 rfl
  · simpa [done] using h2.rest
  · exact mailboxKept_of h2.mailbox (by simp [done]) (by rw [taken_r]; exact hdone) (by rw [taken_r]; exact hbusy)

theorem stages_of {op : Nat} {mk : HostCmd → Instr} {ok : HostCmd → State → Prop}
    {vals : HostCmd → List (FName × Nat × Nat)} (act : Action)
    (he : ∀ c s, exec (mk c) s = .next (runHost op act c s))
    (ha : ∀ c s, Direct op c s → ok c (s.taken c) → act c (s.taken c) = done ((s.taken c).stages c.session (vals c)))
    (hk : ∀ c s, Direct op c s → ok c (s.taken c) → distinctKeys (vals c))
    (h0 : ∀ c, vals c ≠ []) : Stages op mk ok vals := by
  intro c s hd hok
  have hr := runHost_direct act hd
  rw [ha c s hd hok] at hr
  obtain ⟨h1, h2, -⟩ := conclude_done (c := c) (done ((s.taken c).stages c.session (vals c))) hd.path rfl rfl
  refine ⟨_, by rw [he, hr], h1, fun e hm => ⟨?_, ?_⟩, ⟨fun f i a b d => ?_, ⟨fun f i a => ?_, fun hz => ?_⟩, ?_, ?_⟩⟩
  · have := h2.shadow.1 e.1 e.2.1 (by simp)
    rw [this]; exact stages_shadow _ _ _ (hk c s hd hok) e hm
  · rw [h2.shadow.2 rfl]; exact stages_marks _ _ _ (hk c s hd hok) e hm
  · have := h2.regs f i (by simp) b d
    rw [this]; simp [done, State.r]
  · rw [h2.shadow.1 f i (by simp)]
    simp only [done]
    rw [stages_shadow_other _ _ _ _ _ (fun e he hh => a (List.mem_map.mpr ⟨e, he, hh.1⟩))]
  · exact absurd (List.map_eq_nil_iff.mp hz) (h0 c)
  · simpa [done] using h2.rest
  · exact mailboxKept_of h2.mailbox (by simp [done]) (by simp [done, State.r]) (by simp [done, State.r])

theorem completes_of {op : Nat} {mk : HostCmd → Instr} {ok : HostCmd → State → Prop} {data : HostCmd → State → List Byte}
    {after : HostCmd → State → State} (act : Action) (he : ∀ c s, exec (mk c) s = .next (runHost op act c s))
    (ha : ∀ c s, ok c s → act c s = done (after c s) (data c s)) : Completes op mk ok data after := by
  intro c s hd hok
  have hr := runHost_direct act hd
  rw [ha c _ hok] at hr
  obtain ⟨h1, h2, -⟩ := conclude_done (c := c) (done (after c (s.taken c)) (data c (s.taken c))) hd.path rfl rfl
  exact ⟨_, by rw [he, hr], h1, h2⟩

theorem refuses_of {op : Nat} {mk : HostCmd → Instr} {bad : HostCmd → State → Prop} {status : Nat}
    (act : Action) (he : ∀ c s, exec (mk c) s = .next (runHost op act c s))
    (ha : ∀ c s, bad c s → act c s = refuse s status) : Refuses op mk bad status := by
  intro c s hd hok
  have hr := runHost_direct act hd
  rw [ha c _ hok] at hr
  obtain ⟨h1, h2, -⟩ := conclude_done (c := c) (refuse (s.taken c) status) hd.path rfl rfl
  refine ⟨_, by rw [he, hr], h1, ⟨fun f i a b d => ?_, ⟨fun f i a => ?_, fun _ => ?_⟩, ?_, ?_⟩⟩
  · simpa [refuse] using h2.regs f i a b d
  · simpa [refuse] using h2.shadow.1 f i a
  · simpa [refuse] using h2.shadow.2 rfl
  · simpa [refuse] using h2.rest
  · exact mailboxKept_of h2.mailbox (by simp [refuse]) (by simp [refuse]) (by simp [refuse])

theorem awaits_of {op : Nat} {mk : HostCmd → Instr} {ok : HostCmd → State → Prop} {w : HostCmd → State → Waits}
    {after : HostCmd → State → State} (act : Action) (he : ∀ c s, exec (mk c) s = .next (runHost op act c s))
    (ha : ∀ c s, ok c s → act c s = await (after c s) (w c s)) : Awaits op mk ok w after := by
  intro c s hd hok
  have hr := runHost_direct act hd
  rw [ha c _ hok] at hr
  rw [he, hr]
  rfl

/-- What an interim response leaves: it has gone out on its path, and nothing else has changed. -/
theorem respond_interim {c : HostCmd} (s : State) (h : ownPath c) (status : Nat) (data : List Byte) :
    let p := s.respond c (s.response c status false data s.ftNs c.session)
    Interim c s p.1 status data ∧ OnlyFields c s p.1 [] [] ∧ p.1.mbx.deferred = s.mbx.deferred ∧ p.2 = waitingAs c s := by
  intro p
  have hp : p = s.post c (s.response c status false data s.ftNs c.session) := by
    simp [p, State.respond, notLocal h s.id]
  rcases h with ⟨hq, hs⟩ | ⟨ip, sp, hq⟩
  · have e : p = if s.on .mbxCqEnable then
        ((s.slotWrite c.slot (s.response c status false data s.ftNs c.session)).slotComplete c.slot, c.released)
        else (s.slotWrite c.slot (s.response c status false data s.ftNs c.session), c) := by
      rw [hp]; simp [State.post, hq, show ¬ 256 ≤ c.slot by omega, State.response]
    by_cases hcq : s.on .mbxCqEnable = true
    · rw [if_pos hcq] at e
      have e1 : p.1 = (s.slotWrite c.slot (s.response c status false data s.ftNs c.session)).slotComplete c.slot := by rw [e]
      have hid : p.1.id = s.id := by rw [e1]; simp [State.id, State.slotComplete, State.slotWrite, State.r, State.emit, State.w]
      have hft : p.1.ftNs = s.ftNs := by rw [e1]; rfl
      have hresp : ({ finalOf c p.1 status data c.session with final := false } : Response) =
          s.response c status false data s.ftNs c.session := by simp [finalOf, State.response, hid, hft]
      have hslots : p.1.mbx.slots = mwrite 0 s.mbx.slots (0x80 * c.slot + 0x40) (s.response c status false data s.ftNs c.session).bytes := by
        rw [e1]; rfl
      have hdone : ∀ n, n < 32 → bit (p.1.r .mbxDone) n = if n = c.slot then true else bit (s.r .mbxDone) n := by
        intro n hn
        have : p.1.r .mbxDone = setBit (s.r .mbxDone) c.slot true % 2 ^ 32 := by
          rw [e1]; simp [State.slotComplete, State.slotWrite, State.r, State.emit, State.w]; rfl
        rw [this, bit_mod _ _ _ hn, bit_setBit]
      have hbusy : ∀ n, n < 32 → bit (p.1.r .mbxBusy) n = if n = c.slot then false else bit (s.r .mbxBusy) n := by
        intro n hn
        have : p.1.r .mbxBusy = setBit (s.r .mbxBusy) c.slot false % 2 ^ 32 := by
          rw [e1]; simp [State.slotComplete, State.slotWrite, State.r, State.emit, State.w]; rfl
        rw [this, bit_mod _ _ _ hn, bit_setBit]
      refine ⟨?_, ⟨fun f i _ h1 h2 => ?_, ⟨fun f i _ => ?_, fun _ => ?_⟩, ?_, ⟨by rw [e1]; rfl, fun a ha => ?_, fun n hn hl => ?_, fun n hn hl => ?_⟩⟩, ?_, ?_⟩
      · simp only [Interim, hq, hresp]
        refine ⟨?_, by simp [hdone _ hs, hcq], by simp [hbusy _ hs, hcq]⟩
        rw [hslots]
        simpa using mread_mwrite_same 0 s.mbx.slots (0x80 * c.slot + 0x40) (s.response c status false data s.ftNs c.session).bytes
      · rw [e1]; simp [State.slotComplete, State.slotWrite, State.r, State.emit, State.w, h1, h2]
      · rw [e1]; rfl
      · rw [e1]; rfl
      · rw [e1]; rfl
      · rw [hslots]; exact mget_mwrite_other _ _ _ _ _ (by simp; omega)
      · simp [hdone n hl, hn]
      · simp [hbusy n hl, hn]
      · rw [e1]; rfl
      · rw [e]; simp [waitingAs, hq, hcq]
    · rw [if_neg hcq] at e
      have e1 : p.1 = s.slotWrite c.slot (s.response c status false data s.ftNs c.session) := by rw [e]
      have hresp : ({ finalOf c p.1 status data c.session with final := false } : Response) =
          s.response c status false data s.ftNs c.session := by rw [e1]; rfl
      have hslots : p.1.mbx.slots = mwrite 0 s.mbx.slots (0x80 * c.slot + 0x40) (s.response c status false data s.ftNs c.session).bytes := by
        rw [e1]; rfl
      have hr : ∀ f i, p.1.r f i = s.r f i := by intro f i; rw [e1]; rfl
      refine ⟨?_, ⟨fun f i _ _ _ => hr f i, ⟨fun f i _ => ?_, fun _ => ?_⟩, ?_, ⟨by rw [e1]; rfl, fun a ha => ?_, fun n hn hl => ?_, fun n hn hl => ?_⟩⟩, ?_, ?_⟩
      · simp only [Interim, hq, hresp]
        refine ⟨?_, by simp [hr, hcq], by simp [hr, hcq]⟩
        rw [hslots]
        simpa using mread_mwrite_same 0 s.mbx.slots (0x80 * c.slot + 0x40) (s.response c status false data s.ftNs c.session).bytes
      · rw [e1]; rfl
      · rw [e1]; rfl
      · rw [e1]; rfl
      · rw [hslots]; exact mget_mwrite_other _ _ _ _ _ (by simp; omega)
      · rw [hr]
      · rw [hr]
      · rw [e1]; rfl
      · rw [e]; simp [waitingAs, hcq]
  · have e : p = (s.emit (.datagram ip sp (datagramOf (s.response c status false data s.ftNs c.session))), c) := by
      rw [hp]; simp [State.post, hq, State.response]
    have hresp : ({ finalOf c p.1 status data c.session with final := false } : Response) =
        s.response c status false data s.ftNs c.session := by rw [e]; rfl
    refine ⟨?_, ⟨fun f i _ _ _ => ?_, ⟨fun f i _ => ?_, fun _ => ?_⟩, ?_, ⟨by rw [e]; rfl, fun a _ => ?_, fun n _ _ => ?_, fun n _ _ => ?_⟩⟩, ?_, ?_⟩
    · simp only [Interim, hq, hresp]; rw [e]; simp
    all_goals first | (rw [e]; done) | (rw [e]; rfl) | (rw [e]; simp [waitingAs, hq])

theorem accepts_of {op : Nat} {mk : HostCmd → Instr} {ok : HostCmd → State → Prop} {status : Nat}
    {data : HostCmd → State → List Byte} {w : HostCmd → State → Waits} {after : HostCmd → State → State}
    (act : Action) (he : ∀ c s, exec (mk c) s = .next (runHost op act c s))
    (ha : ∀ c s, ok c s → act c s = accept (after c s) (w c s) status (data c s)) : Accepts op mk ok status data w after := by
  intro c s hd hok
  have hr := runHost_direct act hd
  rw [ha c _ hok] at hr
  obtain ⟨h1, h2, h3, h4⟩ := respond_interim (c := c) (after c (s.taken c)) hd.path status (data c (s.taken c))
  have e : conclude c true false (accept (after c (s.taken c)) (w c (s.taken c)) status (data c (s.taken c))) =
      { ((after c (s.taken c)).respond c ((after c (s.taken c)).response c status false (data c (s.taken c)) (after c (s.taken c)).ftNs c.session)).1 with
        mbx := { ((after c (s.taken c)).respond c ((after c (s.taken c)).response c status false (data c (s.taken c)) (after c (s.taken c)).ftNs c.session)).1.mbx with
          deferred := ((after c (s.taken c)).respond c ((after c (s.taken c)).response c status false (data c (s.taken c)) (after c (s.taken c)).ftNs c.session)).1.mbx.deferred ++
            [⟨((after c (s.taken c)).respond c ((after c (s.taken c)).response c status false (data c (s.taken c)) (after c (s.taken c)).ftNs c.session)).2, w c (s.taken c), true⟩] } } := by
    simp [conclude, accept]
  rw [e, h4, h3] at hr
  refine ⟨_, by rw [he, hr], ?_, ?_⟩
  · exact h1
  · exact ⟨h2.regs, h2.shadow, h2.rest, ⟨by show _ = _; rw [h2.mailbox.unit]; rfl, h2.mailbox.slots, h2.mailbox.done, h2.mailbox.busy⟩⟩

/-- What putting bytes where a payload says leaves. -/
theorem hostWrite_rest {c : HostCmd} (s : State) (h : ownPath c) (addr : Nat) (l : List Byte) :
    (s.hostWrite c addr l).regs = s.regs ∧ (s.hostWrite c addr l).shadow = s.shadow ∧ (s.hostWrite c addr l).staged = s.staged ∧
    (s.hostWrite c addr l).mbx = s.mbx ∧ (uploadAt addr = none → Out.hostWrite addr l ∈ (s.hostWrite c addr l).out) ∧
    (s.hostWrite c addr l).rest = (match uploadAt addr with
      | some a => ({ s with ing := { s.ing with upload := mwrite 0 s.ing.upload a l } } : State).rest
      | none => s.rest) := by
  unfold State.hostWrite
  cases hu : uploadAt addr with
  | some a => simp [State.rest]
  | none => rcases h with ⟨hq, -⟩ | ⟨ip, sp, hq⟩ <;> simp [hq, State.emit, State.rest]

/-- A final response keeps the outputs that stand. -/
theorem respond_final_out {c : HostCmd} (s : State) (h : ownPath c) (status : Nat) (data : List Byte) (session : Nat) (o : Out)
    (ho : o ∈ s.out) : o ∈ (s.respond c (s.response c status true data s.ftNs session)).1.out := by
  have : s.respond c (s.response c status true data s.ftNs session) = s.post c (s.response c status true data s.ftNs session) := by
    simp [State.respond, notLocal h s.id]
  rw [this]
  rcases h with ⟨hq, hs⟩ | ⟨ip, sp, hq⟩
  · simp [State.post, hq, show ¬ 256 ≤ c.slot by omega, State.response, State.slotComplete, State.slotWrite, ho]
  · simp [State.post, hq, State.response, ho]

theorem fetches_of {op : Nat} {mk : HostCmd → Instr} {ok : HostCmd → State → Prop} {addr : HostCmd → Nat}
    {bytes data : HostCmd → State → List Byte} (act : Action) (he : ∀ c s, exec (mk c) s = .next (runHost op act c s))
    (ha : ∀ c s, ok c s → s.hostOk (addr c) = true → act c s = done (s.hostWrite c (addr c) (bytes c s)) (data c s)) :
    Fetches op mk ok addr bytes data := by
  intro c s hd hok hh
  have hr := runHost_direct act hd
  have hh' : (s.taken c).hostOk (addr c) = true := by
    have : (s.taken c).hostOk (addr c) = s.hostOk (addr c) := by
      simp [State.hostOk, State.hasClip, State.isHead]
    rw [this]; exact hh
  rw [ha c _ hok hh'] at hr
  obtain ⟨h1, h2, -⟩ := conclude_done (c := c) (done ((s.taken c).hostWrite c (addr c) (bytes c (s.taken c))) (data c (s.taken c))) hd.path rfl rfl
  obtain ⟨g1, g2, g3, g4, g5, g6⟩ := hostWrite_rest (c := c) (s.taken c) hd.path (addr c) (bytes c (s.taken c))
  have hreg : ∀ f i, ((s.taken c).hostWrite c (addr c) (bytes c (s.taken c))).r f i = s.r f i := by
    intro f i; simp [State.r, g1]
  refine ⟨_, by rw [he, hr], h1, ?_, fun f i a b d => ?_, ⟨fun f i a => ?_, fun _ => ?_⟩, ?_⟩
  · unfold Placed
    cases hu : uploadAt (addr c) with
    | some a =>
      rw [hu] at g6
      show _ = _
      rw [h2.rest]
      show ((s.taken c).hostWrite c (addr c) (bytes c (s.taken c))).rest = _
      rw [g6]
      have := taken_rest s c
      simp only [State.rest, State.mk.injEq] at this ⊢
      simp [this]
    | none =>
      rw [hu] at g6
      refine ⟨?_, ?_⟩
      · rw [h2.rest]; show ((s.taken c).hostWrite c (addr c) (bytes c (s.taken c))).rest = _
        rw [g6, taken_rest]
      · simpa [conclude, done] using respond_final_out (c := c) _ hd.path _ _ _ _ (g5 hu)
  · rw [h2.regs f i a b d]; exact hreg f i
  · rw [h2.shadow.1 f i a]; show rget ((s.taken c).hostWrite c (addr c) (bytes c (s.taken c))).shadow f i = _
    rw [g2, taken_shadow]
  · rw [h2.shadow.2 rfl]; show ((s.taken c).hostWrite c (addr c) (bytes c (s.taken c))).staged = _
    rw [g3, taken_staged]
  · exact mailboxKept_of h2.mailbox (by show ((s.taken c).hostWrite c (addr c) (bytes c (s.taken c))).mbx = _; rw [g4]) (by rw [taken_r]; exact hreg _ _) (by rw [taken_r]; exact hreg _ _)

end Sys2Proof.Machine
end

