-- ==== Sys2Proof/Laws/Flags.lean ====
section
/-! SUPPORT. What setting a flag and an event bit do: the flag is set, the event bit of its register with it, and nothing else but
the outputs changes. -/

namespace Sys2Proof.Machine

/-- An event bit: nothing but MBX_EVENTS, the marks of the TB cycle and the outputs changes. -/
theorem event_parts (s : State) (b : Nat) :
    s.event b = { s with regs := (s.event b).regs, hot := (s.event b).hot, out := (s.event b).out } := by
  unfold State.event
  by_cases h1 : bit (s.r .mbxEvents) b = true
  · simp [h1]; rfl
  · by_cases h2 : bit (s.r .mbxEventEn) b = true <;> simp [h1, h2] <;> rfl

theorem event_r_other (s : State) (b : Nat) {f : FName} (i : Nat) (h : f ≠ .mbxEvents) : (s.event b).r f i = s.r f i := by
  unfold State.event
  by_cases h1 : bit (s.r .mbxEvents) b = true <;> by_cases h2 : bit (s.r .mbxEventEn) b = true <;> simp [h1, h2, h]

theorem event_bit (s : State) (b : Nat) (h : b < FName.mbxEvents.width) : bit ((s.event b).r .mbxEvents) b = true := by
  unfold State.event
  by_cases h1 : bit (s.r .mbxEvents) b = true
  · simp [h1]
  · have e : bit ((s.r .mbxEvents + 2 ^ b) % 2 ^ FName.mbxEvents.width) b = true := by
      rw [bit_mod _ _ _ h, bit_eq_testBit, testBit_add_pow]
      · simp
      · simpa [bit_eq_testBit] using h1
    by_cases h2 : bit (s.r .mbxEventEn) b = true <;> simp [h1, h2, e]

theorem raiseBit_parts (s : State) (f : FName) (i b : Nat) :
    s.raiseBit f i b = { s with regs := (s.raiseBit f i b).regs, hot := (s.raiseBit f i b).hot, out := (s.raiseBit f i b).out } := by
  unfold State.raiseBit
  dsimp only
  split
  · rfl
  · cases eventOf f with
    | none => rfl
    | some e => exact event_parts ((s.heat f i (2 ^ b)).w f i (s.r f i + 2 ^ b)) e

theorem raiseBit_r_other (s : State) (f : FName) (i b : Nat) {g : FName} (j : Nat) (h1 : g ≠ f) (h2 : g ≠ .mbxEvents) :
    (s.raiseBit f i b).r g j = s.r g j := by
  unfold State.raiseBit
  dsimp only
  split
  · rfl
  · cases eventOf f with
    | none => simp [h1]
    | some e => simp [event_r_other _ _ _ h2, h1]

theorem raise_parts (s : State) (f : FName) (i : Nat) :
    s.raise f i = { s with regs := (s.raise f i).regs, hot := (s.raise f i).hot, out := (s.raise f i).out } :=
  raiseBit_parts s f i 0

@[simp] theorem raise_r_other (s : State) (f : FName) (i : Nat) {g : FName} (j : Nat) (h1 : g ≠ f) (h2 : g ≠ .mbxEvents) :
    (s.raise f i).r g j = s.r g j := raiseBit_r_other s f i 0 j h1 h2

/-- A raised flag reads 1 in its lowest bit. -/
theorem raise_set (s : State) (f : FName) (i : Nat) (h : f ≠ .mbxEvents) (hw : 0 < f.width) : bit ((s.raise f i).r f i) 0 = true := by
  unfold State.raise State.raiseBit
  dsimp only
  split
  · assumption
  · rename_i hb
    have e : bit ((s.r f i + 2 ^ 0) % 2 ^ f.width) 0 = true := by
      rw [bit_mod _ _ _ hw, bit_eq_testBit, testBit_add_pow]
      · simp
      · simpa [bit_eq_testBit] using hb
    cases eventOf f with
    | none => simpa using e
    | some b => simpa [event_r_other _ _ _ h] using e

/-- A flag that goes from 0 to 1 sets the event bit of its register. -/
theorem raise_event (s : State) (f : FName) (i : Nat) (e : Nat) (he : eventOf f = some e) (hw : e < FName.mbxEvents.width)
    (h : bit (s.r f i) 0 = false) : bit ((s.raise f i).r .mbxEvents) e = true := by
  unfold State.raise State.raiseBit
  dsimp only
  rw [if_neg (by simp [h])]
  simp only [he]
  exact event_bit _ _ hw

theorem some_lt_of_ite {p : Prop} [Decidable p] {a n e : Nat} {x : Option Nat} (h : (if p then some a else x) = some e) (ha : a < n)
    (hx : x = some e → e < n) : e < n := by
  by_cases hp : p
  · rw [if_pos hp] at h; cases h; exact ha
  · rw [if_neg hp] at h; exact hx h

theorem eventOf_lt (f : FName) (e : Nat) (h : eventOf f = some e) : e < FName.mbxEvents.width := by
  have hw : FName.mbxEvents.width = 16 := rfl
  rw [hw]
  unfold eventOf at h
  iterate 16 refine some_lt_of_ite h (by decide) (fun h => ?_)
  cases h

/-- A raised flag, as claims state it. -/
theorem raise_flagged (s : State) (f : FName) (i : Nat) (h : f ≠ .mbxEvents) (hw : 0 < f.width) : Flagged s (s.raise f i) f i :=
  ⟨raise_set s f i h hw, fun hb e he => raise_event s f i e he (eventOf_lt f e he) hb⟩

@[simp] theorem raise_rest (s : State) (f : FName) (i : Nat) : (s.raise f i).rest = s.rest := by rw [raise_parts]; rfl
@[simp] theorem raise_shadow (s : State) (f : FName) (i : Nat) : (s.raise f i).shadow = s.shadow := by rw [raise_parts]
@[simp] theorem raise_staged (s : State) (f : FName) (i : Nat) : (s.raise f i).staged = s.staged := by rw [raise_parts]
@[simp] theorem raise_mbx (s : State) (f : FName) (i : Nat) : (s.raise f i).mbx = s.mbx := by rw [raise_parts]

theorem raiseIf_parts (s : State) (c : Bool) (f : FName) (i : Nat) :
    s.raiseIf c f i = { s with regs := (s.raiseIf c f i).regs, hot := (s.raiseIf c f i).hot, out := (s.raiseIf c f i).out } := by
  cases c
  · rfl
  · exact raise_parts s f i

@[simp] theorem raiseIf_r_other (s : State) (c : Bool) (f : FName) (i : Nat) {g : FName} (j : Nat) (h1 : g ≠ f) (h2 : g ≠ .mbxEvents) :
    (s.raiseIf c f i).r g j = s.r g j := by
  cases c
  · rfl
  · exact raise_r_other s f i j h1 h2

/-- What a counter's step leaves. -/
@[simp] theorem count_r_same (s : State) (f : FName) (i n : Nat) : (s.count f i n).r f i = (s.r f i + n) % 2 ^ f.width := r_w_same _ _ _ _
@[simp] theorem count_r_other (s : State) {f g : FName} (i n j : Nat) (h : g ≠ f) : (s.count f i n).r g j = s.r g j := r_w_other _ _ _ _ h
theorem count_parts (s : State) (f : FName) (i n : Nat) : s.count f i n = { s with regs := (s.count f i n).regs } := rfl
theorem w_parts (s : State) (f : FName) (i v : Nat) : s.w f i v = { s with regs := (s.w f i v).regs } := rfl
theorem emit_parts (s : State) (o : Out) : s.emit o = { s with out := s.out ++ [o] } := rfl

end Sys2Proof.Machine
end

