-- ==== Sys2Proof/Laws/Events.lean ====
section
/-! SUPPORT. What every event of the block does: nothing on a node that does not run, and its own effect on one that does. -/

namespace Sys2Proof.Machine

theorem event_run {d : State → State} {s : State} (h : s.running = true) : event d s = .next (d s.begun) :=
  congrArg Host.Outcome.next (if_pos h)

theorem event_stopped {d : State → State} {s : State} (h : s.running = false) : event d s = .next s.begun :=
  congrArg Host.Outcome.next (if_neg (by show ¬ s.running = true; simp [h]))

theorem runHost_stopped (op : Nat) (act : Action) (c : HostCmd) {s : State} (h : s.running = false) :
    Host.Outcome.next (φ := Fault) (ρ := Refusal) (runHost op act c s) = .next s.begun := by
  have : ({ s with out := [] } : State).running = false := h
  unfold runHost State.receive
  simp [this, State.begun]

@[simp] theorem begun_running (s : State) : s.begun.running = s.running := rfl

/-- An event whose operation is `d` does `f` in the states that `g` names, where `d` and `f` agree there. -/
theorem does_of {i : Instr} {d f : State → State} {g : State → Prop} (he : ∀ s, exec i s = event d s)
    (h : ∀ s, s.running = true → g s → d s = f s) : Does i g f := by
  intro s hr hg
  rw [he, event_run hr, h s.begun hr hg]

/-- An event whose operation is guarded by `g` does `f` in the states that `g` names and nothing in every other. -/
theorem doesOnly_of {i : Instr} {d f : State → State} {g : State → Prop} (he : ∀ s, exec i s = event d s)
    (h : ∀ s, g s → d s = f s) (h' : ∀ s, ¬ g s → d s = s) : DoesOnly i g f :=
  ⟨does_of he (fun s _ hg => h s hg), does_of he (fun s _ hg => h' s hg)⟩

end Sys2Proof.Machine
end

