-- ==== Sys2Proof/Tests/Slice0.lean ====
section
/-! SUPPORT. The tests: worked values of the spec, the WellFormed smoke, what the decoder answers, and for every statement with
hypotheses a state and operands that meet them (each clause of a statement has its own). -/

namespace Sys2Proof.Tests
open Sys2Proof.Machine

-- Proofs one at a time: each runs on a thread with a deep stack, and many at once run out of threads.
set_option Elab.async false

/-! ### States and commands -/

/-- The state after reset with some fields set, its paths up. -/
def node (l : List (FName × Nat × Nat)) : State :=
  let s : State := State.reset.puts l
  { s with mbx := { s.mbx with pathsUp := true } }

/-- A command by UDP with a payload, padded with zeros; the same command in a slot. -/
def cmd (op : Nat) (l : List Byte) : HostCmd :=
  { req := .udp 1 2, slot := 0xFF, tag := 0, opcode := op, target := 0, session := 0, seq := 0, flags := 0, reserved := 0, activation := 0,
    payload := l ++ List.replicate (40 - l.length) 0, dmaPayload := [], data := [] }
def slotted (c : HostCmd) : HostCmd := { c with req := .pcie, slot := 31 }

/-- A packet with a payload. -/
def pkt (src : Nat) (l : List Byte) : Pkt := ⟨0, false, false, 0, 0, src, 0, false, l⟩

/-- A tile and a head in Standby, the head a holder; a tile in Show; a head that does not hold. -/
def tile : State := node [(.sysPstate, 0, 3), (.netNodeId, 0, 5)]
def head : State := node [(.sysRoleStrap, 0, 1), (.sysPstate, 0, 3), (.redHolder, 0, 1), (.netNodeId, 0, 1)]
def lit : State := node [(.sysPstate, 0, 4), (.netNodeId, 0, 5)]
def standby : State := head.puts [(.redHolder, 0, 0)]

/-- A tile that is network master; a head that is the time root; nodes whose flash is there. -/
def master : State := tile.puts [(.netMaster, 0, 1)]
def root : State := head.puts [(.ftIsRoot, 0, 1)]
def flashy : State := tile.puts [(.clkGood3932, 0, 64)]
def flashyHead : State := head.puts [(.clkGood3932, 0, 64)]

/-- A tile with every clock, its trims and its time. -/
def able : State := tile.puts [(.clkGood310, 0, 0xFFFFFFFF), (.clkGood3932, 0, 0xFF), (.rstTrimsValid, 0, 1), (.ftIsRoot, 0, 1), (.ftLockState, 0, 2)]

/-- A head with a device, and two buffers of its clip store; a clip of the first staged for stream 0. -/
def buf : ClipBuf := ⟨1, tableEnd, 0x10000, 0, false⟩
def big : ClipBuf := ⟨2, 0x2000000, 3 * ringFrame, 0, false⟩
def clip : State := { head.puts [(.cxlLinkUp, 0, 1)] with ing := { head.ing with devices := [2 ^ 30, 0], bufs := [buf, big], nextHandle := 3 } }
def pinnedClip : State :=
  { clip with ing := { clip.ing with streams := updAt clip.ing.streams 0 (fun x => { x with stagedPlay := some ⟨tableEnd, 4096, 3, 1, false, 0⟩ }) } }

/-- A head that sends a frame of 64 × 64 pixels on stream 15 for frame 1; a state at another time, in ns; a head whose arbiter of link 1 has
a burst in progress, or one cut in this cycle. -/
def sending : State :=
  (clip.puts [(.ingSending, 15, 1)]).setStream 15 (fun x => { x with frame := 1, width := 64, height := 64, format := 3, feeds := 1 })
def setAt (s : State) (ns : Nat) : State := { s with time := { s.time with ft := ns * 2 ^ 32 } }
def bursting (b : Burst) : State := sending.setArb 1 (fun a => { a with burst := some b })
def cutting (b : Burst) : State := sending.setArb 1 (fun a => { a with cut := some (b, sending.clk) })

/-- A tile with an open session of the requester; one with a command that waits for its time; one with a route to node 7. -/
def opened : State := { tile with mbx := { tile.mbx with sessions := [⟨256, 0, .udp 1 2, 500000000, false⟩] } }
def later : HostCmd := { cmd 2 [] with activation := 1, flags := 2 }
def queued : State := { tile with mbx := { tile.mbx with scheduled := [later] } }
def routed : State := { tile with net := { tile.net with unicast := mwrite 0 [] 7 [0x80] } }

/-- A tile with a pending set and the outcome of another. -/
def set1 : CommitSet :=
  { id := 1, mode := 0, state := .accepted, fields := [], early := false, undo := [], coef := [], pdata := [], fa := 9, late := false, reject := 0,
    units := [], at_ := 0, origin := 0 }
def committed : State := { tile with lay := { tile.lay with sets := [set1], history := [(2, 2, 5)] } }

/-- A tile that receives an image. -/
def receiving : State := { flashy with fw := { flashy.fw with isOpen := true, length := 2000 } }

/-- A coefficient file (Table 6.8) and a settings slot (Table 15.5). -/
def coefFile (kind off : Nat) (l : List Byte) : List Byte :=
  let h := [0x4D, 0x43, 0x4F, 0x46] ++ leBytes 2 1 ++ leBytes 2 kind ++ List.replicate 20 0 ++ [4, 0, 0, 0] ++ leBytes 4 off ++ leBytes 4 l.length ++
    leBytes 4 (crc32c l) ++ List.replicate 16 0
  h ++ leBytes 4 (crc32c h) ++ l
def slotFile (format : Nat) : List Byte :=
  [0x4D, 0x53, 0x45, 0x54] ++ leBytes 2 format ++ [1, 0] ++ leBytes 4 0 ++ leBytes 4 0 ++ leBytes 4 (crc32c []) ++ List.replicate 12 0

/-- A holder whose map holds a second node on its ring. -/
def linked : State :=
  { head with net := { head.net with
      map := [⟨1, 1, 1, 1, 1, 1, [1, 2, 3, 4], [5, 0, 0, 0], [], [], true⟩, ⟨2, 5, 0, 1, 5, 5, [5, 6, 7, 8], [1, 0, 0, 0], [], [0], true⟩] } }

/-- A tile in minimum service with its ID in which a command has been posted. -/
def posting (c : HostCmd) : State := let s := tile.puts [(.sysPstate, 0, 2)]; { s with mbx := { s.mbx with posted := [c] } }

/-- A node with no supply; a tile with a request to a driver outstanding, and the reply to it; a tile with a control head. -/
def off : State := { tile with boot := { tile.boot with supply := .off } }
def asked (tag : Nat) : State := { tile with lan := { tile.lan with requests := updAt tile.lan.requests 11 (fun _ => some ⟨88, 0, 1, 0, 0, tag, 0, false, 0, 0⟩) } }
def reply : List Byte := [0, 0, 1, 0, 0] ++ leBytes 2 (crc16 [0, 0, 1, 0, 0])
def led : State := { tile.puts [(.redControlHead, 0, 1)] with red := { tile.red with renewAt := some 0 } }

/-- A tile with an image received whose signature is its check that the spec leaves open (log entry 6); a head that copies its twin's store; a command from node 2, relayed. -/
def image : List Byte :=
  [0x4D, 0x46, 0x57, 0x49, 1, 0, 0, 0] ++ leBytes 4 Config.hardwareType ++ leBytes 4 0 ++ leBytes 8 0 ++ leBytes 4 1025
def ready : State :=
  { flashy.puts [(.fwuStateA, 0, Bank.ready)] with fw := { flashy.fw with flash := mwrite erased [] (bankBase 0) image } }
def resilvering : State := standby.puts [(.redState, 0, Red.resilver), (.redTwin, 0, 2)]
def relayed (op len : Nat) : Pkt :=
  pkt 2 (leBytes 2 op ++ List.replicate 22 0 ++ leBytes 8 (2 ^ 62) ++ leBytes 4 len ++ List.replicate 28 0 ++ leBytes 4 0 ++ leBytes 2 2)

/-! ### Terms that no sender can make -/

/-- Table 12.2, Table 12.3 and R446: one command for each check. -/
theorem test_ill_formed_commands : ([{ cmd 2 [] with slot := 256 }, { cmd 2 [] with tag := 2 ^ 32 }, { cmd 2 [] with opcode := 65536 },
    { cmd 2 [] with target := 65536 }, { cmd 2 [] with session := 65536 }, { cmd 2 [] with seq := 65536 }, { cmd 2 [] with flags := 65536 },
    { cmd 2 [] with reserved := 2 ^ 48 }, { cmd 2 [] with activation := 2 ^ 64 }, { cmd 2 [] with payload := [] },
    { cmd 2 [] with dmaPayload := List.replicate 513 0 }, { cmd 2 [] with req := .udp (2 ^ 32) 0 }, { cmd 2 [] with req := .udp 0 65536 },
    { cmd 2 [] with req := .fabric 4096 }] : List HostCmd).all (fun c => !c.wf && !(Instr.sysPing c).wf) = true := by decide +kernel

/-- Table 10.1 and Tables 3.2 and 3.6: one packet and one mode for each check. -/
theorem test_ill_formed_packets : ([{ pkt 1 [] with ptype := 256 }, { pkt 1 [] with vc := 4 }, { pkt 1 [] with dst := 4096 }, pkt 4096 [],
    { pkt 1 [] with ttl := 256 }, pkt 1 (List.replicate 513 0)] : List Pkt).all (fun k => !k.wf && !(Instr.fenceRx k).wf) = true := by
  decide +kernel
theorem test_ill_formed_modes : ([⟨16, 0, 0, 0, 0, 0, 0, 0, true⟩, ⟨0, 4, 0, 0, 0, 0, 0, 0, true⟩, ⟨0, 0, 65536, 0, 0, 0, 0, 0, true⟩,
    ⟨0, 0, 0, 65536, 0, 0, 0, 0, true⟩, ⟨0, 0, 0, 0, 16, 0, 0, 0, true⟩] : List DpMode).all (fun m => !(Instr.dpModeReceived 0 m).wf) = true := by
  decide +kernel

/-- The numbers of ports, lanes, streams, engines, domains, blocks and the rest: one event for each check. -/
theorem test_ill_formed_events : ([.bar0Write 65536 4 0, .bar0Write 0 4 (2 ^ 32), .lowWordRead 65536, .mbxDoorbell (2 ^ 32), .cqHeadWrite (2 ^ 32),
    .fraddrWrite 16 0, .fraddrWrite 0 (2 ^ 41), .bar4Write (2 ^ 32) [], .bar4Read (2 ^ 32) 1, .restart 4, .rstCtrlNode (2 ^ 32), .rstCtrlWarm (2 ^ 32),
    .rstBlockWrite (2 ^ 32), .traceCtrlWrite 65536 0, .traceCtrlWrite 0 (2 ^ 32), .powerOnReset 4 false false, .clockFailureReset 40,
    .pendingReleaseComplete 14, .pendingReleaseTimeout 14, .clockSourceRetry 40 true, .railLow 4, .bootStepEnd 32 none 0, .bootStepTimeout 32,
    .timeSyncRx 4 (pkt 1 []) 0 [0, 0, 0, 0], .timeSyncRx 0 (pkt 1 []) 0 [], .pdelayReqSend [], .pdelayReqRx 4 (pkt 1 []) 0 0,
    .pdelayRespRx 4 (pkt 1 []) 0, .ptpMessageRx 0 256, .genlockEdge 4 true 0 0, .genlockMissed 4, .shutterAssert 4, .shutterDeassert 4] :
    List Instr).all (fun i => !i.wf) = true := by decide +kernel
theorem test_ill_formed_events_more : ([.dpFrameComplete 4 [], .dpLinkLoss 4 true, .dpHoldExpire 4, .lineSlot 16, .fraddrLatch 16,
    .cxlLinkUp 2 true false 0 true, .arbiterGrant 2 [] 0, .burstCut ⟨2, 0⟩, .frameCompleteRx 4 (pkt 1 []), .engineLull 12, .taskComplete 12,
    .engineOverrun 12, .coefBlockReload 196608 true, .memoryScrub 9 [] [], .laneTrainDone 96, .laneReplyRx 12 [], .laneReplyTimeout 12,
    .laneRetryTimer 96, .offerSend 4, .offerRx 4 (List.replicate 20 0), .offerRx 0 [], .silentBurst 4, .trainingWordRx 4 0 0 0 ⟨0, true⟩,
    .trainingWordRx 0 4 0 0 ⟨0, true⟩, .trainingWordRx 0 0 65536 0 ⟨0, true⟩, .trainingWordRx 0 0 0 65536 ⟨0, true⟩, .trainingWordRx 0 0 0 0 ⟨65536, true⟩, .trainStageTimeout 4, .signalLoss 4,
    .lane0LockLoss 4, .alignCheck 4 0 0 0 [], .alignCheck 0 0 0 0 [none, none, none, none, none], .fecWindow 4 0 0 0, .adaptTrigger 4, .adaptResult 4 [], .rateStep 4,
    .packetRx 4 [], .linkPacketRx 4 (pkt 1 []), .linkSend 4, .egressSelect 4, .replayTimeout 4, .nakRepeat 4, .discQueryRx 4 (pkt 1 []),
    .discReplyRx 4 (pkt 1 []), .discQueryTimeout 65536, .discAssignRx 4 (pkt 1 []), .bulkDataRx 4 (pkt 1 []), .fenceTimeout 65536,
    .relayTimeout (2 ^ 32), .udpDatagramRx (2 ^ 32) 0 [], .udpDatagramRx 0 65536 [], .udpDatagramRx 0 0 (List.replicate 1473 0), .sessionLapse 65536,
    .leaseRenewRx 4 (pkt 1 []), .headClaimRx 4 (pkt 1 []), .thermalSample 2 0 none, .thermalSample 0 96 none,
    .calRunDone ⟨true, ⟨0, 0, 0, [], 0⟩, 65536, [], 0, 0, 0, 0, 0⟩, .debugResponse [] false, .cxlLinkDown 2 true, .resyncBlockRx ⟨4, []⟩, .resyncBlockRx ⟨0, []⟩] :
    List Instr).all (fun i => !i.wf) = true := by decide +kernel

/-- A term that every check passes, and the words of the table, of which none has bits. -/
theorem test_well_formed : (Instr.sysPing (cmd 2 [])).wf = true := by decide +kernel
theorem test_no_word_spells_a_command (nbits w : Nat) : decodeTableWord nbits w = none := rfl

/-! ### Worked values of the spec -/

/-- Table 2.9a: boundaries of frames of 25,025,000 / 3 ns around FT 1.7e18. -/
def wall : State := State.reset.puts [(.ftPeriodNum, 0, 25025000), (.ftPeriodDen, 0, 3)]
theorem test_boundaries_of_table_2_9a : ([0, 1, 2, 3] : List Nat).map (fun k => wall.bnd (203796203796 + k)) =
    [1699999999998300000, 1700000000006641666, 1700000000014983333, 1700000000023325000] := by decide +kernel
theorem test_frame_of_table_2_9a :
    ({ wall with time := { wall.time with ft := 1700000000000000000 * 2 ^ 32 } } : State).frame? = some 203796203796 := by decide +kernel

/-- The example at Table 6.11 and Table 6.12: matrix rows, gains, offsets and curves of pixel 1,029. -/
def row (e : Nat) (a b c : Int) (m : Mem) : Mem := mwrite 0 m (24 * 1029 + 6 * e) (leBytes 2 (ofInt 16 a) ++ leBytes 2 (ofInt 16 b) ++ leBytes 2 (ofInt 16 c))
def curve (e i a b : Nat) (m : Mem) : Mem := mwrite 0 m (tableBase + 0x1000 + 0x2000 * e + 4 * i) (leBytes 4 a ++ leBytes 4 b)
def pixel : Mem := [] |> row 0 6554 (-164) 82 |> row 1 410 5734 246 |> row 2 0 164 6144 |> row 3 1638 1638 1638
  |> (mwrite 0 · (gainBase + 2 * 4116) (leBytes 2 31457 ++ leBytes 2 32113 ++ leBytes 2 33423 ++ leBytes 2 30802))
  |> (mwrite 0 · (offsetBase + 4116) [3, 0xFE, 5, 0])
  |> curve 0 375 384310 385330 |> curve 1 159 163050 164070 |> curve 2 32 33240 34255 |> curve 3 139 142600 143622
theorem test_matrix_sums_of_table_6_12 : ([0, 1, 2, 3] : List Nat).map (fun e => emitterSum pixel 1029 e ⟨4247712, 1605227, 304133⟩) =
    [27601186126, 11020750256, 2131850380, 10085283936] := by decide +kernel
theorem test_grey_values_of_table_6_12 : (([31130, 32440, 32604, 32276] : List Nat).zipIdx.map (fun p =>
    greyValue pixel true p.1 1029 p.2 5 2 9 ⟨4247712, 1605227, 304133⟩)) = [24028, 10210, 2097, 8922] := by decide +kernel
theorem test_widened_code_of_table_6_11 : ([192, 128, 64] : List Nat).map (widen 8) = [3084, 2056, 1028] := by decide

/-- The check values of CRC-32C and of the CRC-16 of R275 over the digits 1 to 9, as catalogues of CRCs give them. -/
theorem test_crc_check_values : crc32c [0x31, 0x32, 0x33, 0x34, 0x35, 0x36, 0x37, 0x38, 0x39] = 0xE3069283 ∧
    crc16 [0x31, 0x32, 0x33, 0x34, 0x35, 0x36, 0x37, 0x38, 0x39] = 0x29B1 := by decide +kernel

/-- A step takes the command in front; on an empty queue the block idles. -/
theorem test_step_takes_the_front : ∃ t, step { tile with pending := [.sysPing (cmd 2 []), .ftTick] } = .next t ∧ t.pending = [.ftTick] := ⟨_, rfl, rfl⟩
theorem test_empty_queue_idles : step tile = .next tile := rfl

/-! ### What a statement asks for -/

/-- The conditions of Arrives, Weighed and Direct, computed. -/
def arrives (op : Nat) (c : HostCmd) (s : State) : Bool :=
  c.opcode == op && s.lapsing.isEmpty && s.running && s.hears c && s.fw.restartAt.isNone &&
    (match c.req with | .udp _ _ => true | .pcie => decide (c.slot < 32) | _ => false) && !s.mustWait op c
def weighed (op : Nat) (c : HostCmd) (s : State) : Bool :=
  arrives op c s && (!(s.taken c).headerBad c && !c.relay && ((s.taken c).commitForm op c).isNone && !(s.taken c).mirrors op c)
def directly (op : Nat) (c : HostCmd) (s : State) : Bool := weighed op c s && (!c.isScheduled && ((s.taken c).refusal op c).isNone)

theorem arrives_of {op : Nat} {c : HostCmd} {s : State} (h : arrives op c s = true) : Arrives op c s := by
  simp only [arrives, Bool.and_eq_true, Bool.not_eq_true', beq_iff_eq, Option.isNone_iff_eq_none, List.isEmpty_iff] at h
  obtain ⟨⟨⟨⟨⟨⟨h1, h0⟩, h2⟩, h3⟩, h4⟩, h5⟩, h6⟩ := h
  refine ⟨h1, h0, h2, h3, h4, ?_, h6⟩
  unfold ownPath
  cases hq : c.req with
  | udp ip sp => exact .inr ⟨ip, sp, rfl⟩
  | pcie => rw [hq] at h5; exact .inl ⟨rfl, by simpa using h5⟩
  | fabric n => rw [hq] at h5; simp at h5

theorem weighed_of {op : Nat} {c : HostCmd} {s : State} (h : weighed op c s = true) : Weighed op c s := by
  simp only [weighed, Bool.and_eq_true, Bool.not_eq_true', Option.isNone_iff_eq_none] at h
  obtain ⟨h1, ⟨⟨h2, h3⟩, h4⟩, h5⟩ := h
  exact ⟨arrives_of h1, h2, h3, h4, h5⟩

theorem direct_of {op : Nat} {c : HostCmd} {s : State} (h : directly op c s = true) : Direct op c s := by
  simp only [directly, Bool.and_eq_true, Bool.not_eq_true', Option.isNone_iff_eq_none] at h
  exact ⟨weighed_of h.1, h.2.1, h.2.2⟩

/-- Some command and state meet what a statement on a host command asks for; and what one that writes host memory asks for. -/
def Meets (op : Nat) (ok : HostCmd → State → Prop) : Prop := ∃ c s, Direct op c s ∧ ok c (s.taken c)
def MeetsHost (op : Nat) (ok : HostCmd → State → Prop) (addr : HostCmd → Nat) : Prop :=
  ∃ c s, Direct op c s ∧ ok c (s.taken c) ∧ s.hostOk (addr c) = true

theorem meets_of {op : Nat} {ok : HostCmd → State → Prop} (c : HostCmd) (s : State) (h : directly op c s = true) (h' : ok c (s.taken c)) :
    Meets op ok := ⟨c, s, direct_of h, h'⟩
theorem meets_host {op : Nat} {ok : HostCmd → State → Prop} {addr : HostCmd → Nat} (c : HostCmd) (s : State) (h : directly op c s = true)
    (h' : ok c (s.taken c)) (h'' : s.hostOk (addr c) = true) : MeetsHost op ok addr := ⟨c, s, direct_of h, h', h''⟩

/-- Some running state meets what a statement on an event asks for. -/
def Met (_ : Instr) (g : State → Prop) : Prop := ∃ s : State, s.running = true ∧ g s.begun

/-! ### Witnesses -/

/-- Witnesses for UnheardCommandDoesNothing. -/
theorem test_witness_unheard_command_does_nothing :
    (∃ s : State, s.running = false) ∧
    (∃ (c : HostCmd) (s : State), s.running = true ∧ ({ s with out := [] } : State).hears c = false) :=
  ⟨⟨off, by decide +kernel⟩,
    ⟨cmd 2 [], State.reset, by decide +kernel, by decide +kernel⟩⟩

/-- Witnesses for RestartHoldsOrDiscardsCommands. -/
theorem test_witness_restart_holds_or_discards_commands :
    (∃ p ∈ hostRows, ∃ (c : HostCmd) (s : State), c.opcode = p.1 ∧ s.running = true ∧ s.hears c = true ∧ s.fw.restartAt ≠ none ∧ c.req = .pcie) ∧
    (∃ p ∈ hostRows, ∃ (c : HostCmd) (s : State), c.opcode = p.1 ∧ s.running = true ∧ s.hears c = true ∧ s.fw.restartAt ≠ none ∧ c.req = .udp 1 2) :=
  ⟨⟨(0x0002, .sysPing), by simp [hostRows], slotted (cmd 2 []), { head with fw := { head.fw with restartAt := some 0 } }, rfl, by decide +kernel, by decide +kernel, by decide +kernel, rfl⟩,
    ⟨(0x0002, .sysPing), by simp [hostRows], cmd 2 [], { head with fw := { head.fw with restartAt := some 0 } }, rfl, by decide +kernel, by decide +kernel, by decide +kernel, rfl⟩⟩

/-- Witnesses for FencedCommandsWait. -/
theorem test_witness_fenced_commands_wait :
    (∃ p ∈ hostRows, ∃ (c : HostCmd) (s : State), c.opcode = p.1 ∧ s.running = true ∧ s.hears c = true ∧ s.fw.restartAt = none ∧ s.lapsing = [] ∧ s.mbx.fenced.any (fun d => d.req = c.req) = true) ∧
    (∃ p ∈ hostRows, ∃ (c : HostCmd) (s : State), c.opcode = p.1 ∧ s.running = true ∧ s.hears c = true ∧ s.fw.restartAt = none ∧ s.lapsing = [] ∧ s.fenceOpen c.req = true) ∧
    (∃ p ∈ hostRows, ∃ (c : HostCmd) (s : State), c.opcode = p.1 ∧ s.running = true ∧ s.hears c = true ∧ s.fw.restartAt = none ∧ s.lapsing = [] ∧ c.fence = true ∧ s.earlier c = true) :=
  ⟨⟨(0x0002, .sysPing), by simp [hostRows], cmd 2 [], { tile with mbx := { tile.mbx with fenced := [cmd 3 []] } }, rfl, by decide +kernel, by decide +kernel, rfl, by decide +kernel, by decide +kernel⟩,
    ⟨(0x0002, .sysPing), by simp [hostRows], cmd 2 [], { tile with mbx := { tile.mbx with deferred := [⟨{ cmd 3 [] with flags := 1 }, .cal, false⟩] } }, rfl, by decide +kernel, by decide +kernel, rfl, by decide +kernel, by decide +kernel⟩,
    ⟨(0x0002, .sysPing), by simp [hostRows], { cmd 2 [] with flags := 1 }, { tile with mbx := { tile.mbx with deferred := [⟨cmd 3 [], .cal, false⟩] } }, rfl, by decide +kernel, by decide +kernel, rfl, by decide +kernel, by decide +kernel, by decide +kernel⟩⟩

/-- Witnesses for CommitIsAlwaysFenced. -/
theorem test_witness_commit_is_always_fenced :
    (∃ (c : HostCmd) (s : State), c.opcode = 0x0407 ∧ s.running = true ∧ s.hears c = true ∧ s.fw.restartAt = none ∧ s.lapsing = [] ∧ s.earlier c = true) :=
  ⟨cmd 0x0407 [], { tile with mbx := { tile.mbx with deferred := [⟨cmd 3 [], .cal, false⟩] } }, rfl, by decide +kernel, by decide +kernel, rfl, by decide +kernel, by decide +kernel⟩

/-- Witnesses for BadHeaderAnsweredBadArg. -/
theorem test_witness_bad_header_answered_bad_arg :
    (∃ p ∈ hostRows, ∃ (c : HostCmd) (s : State), Arrives p.1 c s ∧ c.reserved ≠ 0) ∧
    (∃ p ∈ hostRows, ∃ (c : HostCmd) (s : State), Arrives p.1 c s ∧ 16 ≤ c.flags) ∧
    (∃ p ∈ hostRows, ∃ (c : HostCmd) (s : State), Arrives p.1 c s ∧ 0x4000 ≤ c.target) ∧
    (∃ p ∈ hostRows, ∃ (c : HostCmd) (s : State), Arrives p.1 c s ∧ c.scope = 3) ∧
    (∃ p ∈ hostRows, ∃ (c : HostCmd) (s : State), Arrives p.1 c s ∧ c.dma = true ∧ c.req ≠ .pcie) ∧
    (∃ p ∈ hostRows, ∃ (c : HostCmd) (s : State), Arrives p.1 c s ∧ c.dma = true ∧ c.req = .pcie ∧ getLE c.payload 8 2 = 0) ∧
    (∃ p ∈ hostRows, ∃ (c : HostCmd) (s : State), Arrives p.1 c s ∧ c.dma = true ∧ c.req = .pcie ∧ 512 < getLE c.payload 8 2) :=
  ⟨⟨(0x0002, .sysPing), by simp [hostRows], { cmd 2 [] with reserved := 1 }, tile, arrives_of (by decide +kernel), by decide +kernel⟩,
    ⟨(0x0002, .sysPing), by simp [hostRows], { cmd 2 [] with flags := 16 }, tile, arrives_of (by decide +kernel), by decide +kernel⟩,
    ⟨(0x0002, .sysPing), by simp [hostRows], { cmd 2 [] with target := 0x4000 }, tile, arrives_of (by decide +kernel), by decide +kernel⟩,
    ⟨(0x0002, .sysPing), by simp [hostRows], { cmd 2 [] with target := 0x3000 }, tile, arrives_of (by decide +kernel), by decide +kernel⟩,
    ⟨(0x0002, .sysPing), by simp [hostRows], { cmd 2 [] with flags := 8 }, tile, arrives_of (by decide +kernel), by decide +kernel⟩,
    ⟨(0x0002, .sysPing), by simp [hostRows], { slotted (cmd 2 []) with flags := 8 }, head, arrives_of (by decide +kernel), by decide +kernel⟩,
    ⟨(0x0002, .sysPing), by simp [hostRows], { slotted (cmd 2 [0, 0, 0, 0, 0, 0, 0, 0, 1, 2]) with flags := 8 }, head, arrives_of (by decide +kernel), by decide +kernel⟩⟩

/-- Witnesses for RefusedCommandsChangeNothing. -/
theorem test_witness_refused_commands_change_nothing :
    (∃ p ∈ hostRows, ∃ (c : HostCmd) (s : State), Weighed p.1 c s ∧ c.isScheduled = false ∧ s.isHead = false ∧ (c.group = 5 ∨ c.group = 6)) ∧
    (∃ p ∈ hostRows, ∃ (c : HostCmd) (s : State), Weighed p.1 c s ∧ c.isScheduled = false ∧ (s.taken c).roleBad c = false ∧ s.inMin = true ∧ 4 ≤ c.group ∧ c.group ≤ 0x0A) ∧
    (∃ p ∈ hostRows, ∃ (c : HostCmd) (s : State), Weighed p.1 c s ∧ c.isScheduled = false ∧ (s.taken c).roleBad c = false ∧ s.inMin = true ∧ 4 ≤ c.group ∧ c.group ≤ 0x0A) ∧
    (∃ p ∈ hostRows, ∃ (c : HostCmd) (s : State), Weighed p.1 c s ∧ c.isScheduled = false ∧ (s.taken c).roleBad c = false ∧ (s.taken c).serviceBad c = false ∧ c.session ≠ 0 ∧ (s.taken c).mbx.sessions.find? (fun x => x.id = c.session) = none) ∧
    (∃ p ∈ hostRows, ∃ (c : HostCmd) (s : State), ∃ x, Weighed p.1 c s ∧ c.isScheduled = false ∧ (s.taken c).roleBad c = false ∧ (s.taken c).serviceBad c = false ∧ c.session ≠ 0 ∧
    (s.taken c).mbx.sessions.find? (fun x => x.id = c.session) = some x ∧ x.owner ≠ c.req ∧ x.rebind = false) ∧
    (∃ p ∈ hostRows, ∃ (c : HostCmd) (s : State), Weighed p.1 c s ∧ c.isScheduled = false ∧ (s.taken c).roleBad c = false ∧ (s.taken c).serviceBad c = false ∧ (s.taken c).sessionBad c = none ∧ s.isHead = true ∧ s.on .redHolder = false ∧
    4 ≤ c.group ∧ c.group ≤ 6 ∧ readsOnly p.1 c = false) ∧
    (∃ p ∈ hostRows, ∃ (c : HostCmd) (s : State), ∃ a x, Weighed p.1 c s ∧ c.isScheduled = false ∧ (s.taken c).roleBad c = false ∧ (s.taken c).serviceBad c = false ∧ (s.taken c).sessionBad c = none ∧
    (s.taken c).controlBad p.1 c = false ∧ (s.taken c).holderBad p.1 c = false ∧ readsOnly p.1 c = false ∧ areaOf p.1 c = some a ∧
    (s.taken c).holderOf a = some x ∧ x.id ≠ c.session) ∧
    (∃ p ∈ hostRows, ∃ (c : HostCmd) (s : State), ∃ b, Weighed p.1 c s ∧ c.isScheduled = false ∧ (s.taken c).roleBad c = false ∧ (s.taken c).serviceBad c = false ∧ (s.taken c).sessionBad c = none ∧
    (s.taken c).controlBad p.1 c = false ∧ (s.taken c).holderBad p.1 c = false ∧ readsOnly p.1 c = false ∧ blockOf p.1 c = some b ∧ s.held b = true ∧
    ∀ a x, areaOf p.1 c = some a → (s.taken c).holderOf a = some x → x.id = c.session) :=
  ⟨⟨(0x0500, .streamGet), by simp [hostRows], cmd 0x0500 [], tile, weighed_of (by decide +kernel), by decide +kernel, by decide +kernel, by decide +kernel⟩,
    ⟨(0x0400, .layerGet), by simp [hostRows], cmd 0x0400 [], node [], weighed_of (by decide +kernel), by decide +kernel, by decide +kernel, by decide +kernel, by decide +kernel, by decide +kernel⟩,
    ⟨(0x0A00, .redGet), by simp [hostRows], cmd 0x0A00 [], node [], weighed_of (by decide +kernel), by decide +kernel, by decide +kernel, by decide +kernel, by decide +kernel, by decide +kernel⟩,
    ⟨(0x0002, .sysPing), by simp [hostRows], { cmd 2 [] with session := 7 }, tile, weighed_of (by decide +kernel), by decide +kernel, by decide +kernel, by decide +kernel, by decide +kernel, by decide +kernel⟩,
    ⟨(0x0002, .sysPing), by simp [hostRows], { cmd 2 [] with session := 256 }, { tile with mbx := { tile.mbx with sessions := [⟨256, 0, .pcie, 1, false⟩] } },
      ⟨256, 0, .pcie, 1, false⟩, weighed_of (by decide +kernel), by decide +kernel, by decide +kernel, by decide +kernel, by decide +kernel, by decide +kernel, by decide +kernel, by decide +kernel⟩,
    ⟨(0x0504, .streamStop), by simp [hostRows], cmd 0x0504 [], standby, weighed_of (by decide +kernel), by decide +kernel, by decide +kernel, by decide +kernel, by decide +kernel, by decide +kernel, by decide +kernel, by decide +kernel, by decide +kernel⟩,
    ⟨(0x0306, .timeSetHold), by simp [hostRows], cmd 0x0306 [], { tile with mbx := { tile.mbx with sessions := [⟨256, 0x40, .pcie, 1, false⟩] } }, 6,
      ⟨256, 0x40, .pcie, 1, false⟩, weighed_of (by decide +kernel), by decide +kernel, by decide +kernel, by decide +kernel, by decide +kernel, by decide +kernel, by decide +kernel, by decide +kernel, by decide +kernel, by decide +kernel, by decide +kernel⟩,
    ⟨(0x0901, .laneRestart), by simp [hostRows], cmd 0x0901 [], tile.puts [(.rstBlock, 0, 0x400)], 10, weighed_of (by decide +kernel), by decide +kernel, by decide +kernel, by decide +kernel, by decide +kernel, by decide +kernel, by decide +kernel, by decide +kernel, by decide +kernel, by decide +kernel, fun _ _ _ h => by rw [State.holderOf, show (State.taken _ _).mbx.sessions = [] from rfl] at h; cases h⟩⟩

/-- Witnesses for ScheduledCommandIsQueued. -/
theorem test_witness_scheduled_command_is_queued :
    (∃ p ∈ hostRows, p.1 ≠ 0x0C05 ∧ ∃ (c : HostCmd) (s : State), Weighed p.1 c s ∧ c.isScheduled = true ∧ (s.taken c).roleBad c = false ∧
    (s.taken c).sessionBad c = none ∧ s.ftNs < c.activation ∧ c.activation ≤ s.ftNs + 600000000000 ∧ s.mbx.scheduled.length < 64) ∧
    (∃ p ∈ hostRows, p.1 ≠ 0x0C05 ∧ ∃ (c : HostCmd) (s : State), Weighed p.1 c s ∧ c.isScheduled = true ∧ (s.taken c).roleBad c = false ∧
    (s.taken c).sessionBad c = none ∧ s.ftNs < c.activation ∧ s.ftNs + 600000000000 < c.activation) ∧
    (∃ p ∈ hostRows, p.1 ≠ 0x0C05 ∧ ∃ (c : HostCmd) (s : State), Weighed p.1 c s ∧ c.isScheduled = true ∧ (s.taken c).roleBad c = false ∧
    (s.taken c).sessionBad c = none ∧ s.ftNs < c.activation ∧ c.activation ≤ s.ftNs + 600000000000 ∧ 64 ≤ s.mbx.scheduled.length) :=
  ⟨⟨(0x0002, .sysPing), by simp [hostRows], by decide, { later with activation := 600000000000 }, tile, weighed_of (by decide +kernel), by decide +kernel, by decide +kernel, by decide +kernel, by decide +kernel, by decide +kernel, by decide +kernel⟩,
    ⟨(0x0002, .sysPing), by simp [hostRows], by decide, { later with activation := 600000000001 }, tile, weighed_of (by decide +kernel), by decide +kernel, by decide +kernel, by decide +kernel, by decide +kernel, by decide +kernel⟩,
    ⟨(0x0002, .sysPing), by simp [hostRows], by decide, { later with activation := 1 }, { tile with mbx := { tile.mbx with scheduled := List.replicate 64 later } }, weighed_of (by decide +kernel), by decide +kernel, by decide +kernel, by decide +kernel, by decide +kernel, by decide +kernel, by decide +kernel⟩⟩

/-- Witnesses for OperandRefusals. -/
theorem test_witness_operand_refusals :
    Meets 0x0003 (fun c _ => c.u32 0 % 4 ≠ 0 ∨ c.u8 4 = 0 ∨ 8 < c.u8 4) ∧
    Meets 0x0200 (fun c _ => 3 < c.u8 0) ∧
    Meets 0x0206 (fun c _ => 0xFFF ≤ c.u16 0) ∧
    Meets 0x0207 (fun _ s => s.on .netMaster = false) ∧
    Meets 0x020D (fun c s => s.routeTo (c.u16 0) = none) ∧
    Meets 0x0302 (fun c _ => periodOk (c.u64 0) (c.u16 8) = false) ∧
    Meets 0x0304 (fun _ s => s.on .ftIsRoot = false) ∧
    Meets 0x0401 (fun c _ => 3 < c.u8 0) ∧
    Meets 0x0502 (fun c s => s.r .ingKind (c.u8 0) ≠ 2 ∨ c.u64 8 % 4096 ≠ 0) ∧
    Meets 0x0603 (fun c s => (s.bufAt (c.u64 8) (c.u32 16)).isSome = true ∧ s.clipOk (c.u64 8) (c.u32 16) = true ∧
    s.pinned (c.u64 8) (c.u32 16) = true) ∧
    Meets 0x0606 (fun c _ => 511 < c.u16 0) ∧
    Meets 0x0706 (fun c _ => 95 < c.u8 0) ∧
    Meets 0x0809 (fun c _ => 11 < c.u8 0) ∧
    Meets 0x0904 (fun _ s => s.inShow = true) ∧
    Meets 0x0A02 (fun _ s => s.red.lapsedAt ≠ some s.clk ∧ s.on .redHolder = false) ∧
    Meets 0x0A02 (fun _ s => s.red.lapsedAt = some s.clk) ∧
    Meets 0x0B03 (fun c _ => 95 < c.u8 0) ∧
    Meets 0x0C06 (fun _ s => s.flashUp = true ∧ s.inTrial = false) ∧
    Meets 0x0D02 (fun c _ => 15 < c.u8 0) ∧
    Meets 0x0E01 (fun c s => c.u8 0 = 4 ∧ s.inShow = false ∧ (s.inStandby = false ∨ s.roleHolds = false ∨ s.darkTest = true ∨
    s.on .thmShutdownHold = true)) ∧
    Meets 0x0F01 (fun c _ => 1 < c.u8 0) :=
  ⟨meets_of (cmd 0x0003 ([])) tile (by decide +kernel) (by decide +kernel),
    meets_of (cmd 0x0200 ([4])) tile (by decide +kernel) (by decide +kernel),
    meets_of (cmd 0x0206 ([0xFF, 0x0F])) tile (by decide +kernel) (by decide +kernel),
    meets_of (cmd 0x0207 ([])) tile (by decide +kernel) (by decide +kernel),
    meets_of (cmd 0x020D ([])) tile (by decide +kernel) (by decide +kernel),
    meets_of (cmd 0x0302 ([])) tile (by decide +kernel) (by decide +kernel),
    meets_of (cmd 0x0304 ([])) tile (by decide +kernel) (by decide +kernel),
    meets_of (cmd 0x0401 ([4])) tile (by decide +kernel) (by decide +kernel),
    meets_of (cmd 0x0502 ([])) head (by decide +kernel) (by decide +kernel),
    meets_of (cmd 0x0603 (leBytes 8 0 ++ leBytes 8 tableEnd ++ leBytes 4 64)) pinnedClip (by decide +kernel) (by decide +kernel),
    meets_of (cmd 0x0606 ([0, 2])) head (by decide +kernel) (by decide +kernel),
    meets_of (cmd 0x0706 ([96])) tile (by decide +kernel) (by decide +kernel),
    meets_of (cmd 0x0809 ([12])) tile (by decide +kernel) (by decide +kernel),
    meets_of (cmd 0x0904 ([])) lit (by decide +kernel) (by decide +kernel),
    meets_of (cmd 0x0A02 ([])) tile (by decide +kernel) (by decide +kernel),
    meets_of (cmd 0x0A02 ([])) ({ head with red := { head.red with lapsedAt := some 0 } }) (by decide +kernel) (by decide +kernel),
    meets_of (cmd 0x0B03 ([96])) tile (by decide +kernel) (by decide +kernel),
    meets_of (cmd 0x0C06 ([])) flashy (by decide +kernel) (by decide +kernel),
    meets_of (cmd 0x0D02 ([16])) tile (by decide +kernel) (by decide +kernel),
    meets_of (cmd 0x0E01 ([4])) (tile) (by decide +kernel) (by decide +kernel),
    meets_of (cmd 0x0F01 ([2])) tile (by decide +kernel) (by decide +kernel)⟩

/-- Witnesses for SystemCommandsComplete. -/
theorem test_witness_system_commands_complete :
    Meets 0x0000 anyWay ∧
    Meets 0x0001 anyWay ∧
    Meets 0x0002 anyWay ∧
    Meets 0x0003 (fun c _ => c.u32 0 % 4 = 0 ∧ 1 ≤ c.u8 4 ∧ c.u8 4 ≤ 8 ∧ c.u32 0 + 4 * c.u8 4 ≤ 0x8000) ∧
    Meets 0x0004 (fun c s => c.u32 0 % 4 = 0 ∧ c.u32 0 ≤ 0x7FFF ∧ c.u32 0 ≠ 0x104 ∧
      s.imageBreaks (c.u32 0) (c.u32 4) (c.u32 8) = false) ∧
    Meets 0x0005 anyWay ∧
    Meets 0x0006 (fun c s => s.hasClip = true ∧ 1 ≤ c.u8 4 ∧ c.u8 4 ≤ 32 ∧ c.u32 0 + c.u8 4 ≤ uploadSize) ∧
    MeetsHost 0x0007 (fun c _ => c.u16 10 ≤ 64) (fun c => c.u64 0) :=
  ⟨meets_of (cmd 0x0000 ([])) tile (by decide +kernel) trivial,
    meets_of (cmd 0x0001 ([])) tile (by decide +kernel) trivial,
    meets_of (cmd 0x0002 ([])) tile (by decide +kernel) trivial,
    meets_of (cmd 0x0003 (leBytes 4 0x7FFC ++ [1])) tile (by decide +kernel) (by decide +kernel),
    meets_of (cmd 0x0004 ([])) tile (by decide +kernel) (by decide +kernel),
    meets_of (cmd 0x0005 ([])) tile (by decide +kernel) trivial,
    meets_of (cmd 0x0006 (leBytes 4 (uploadSize - 32) ++ [32])) clip (by decide +kernel) (by decide +kernel),
    meets_host (cmd 0x0007 ([])) tile (by decide +kernel) (by decide +kernel) (by decide +kernel)⟩

/-- Witnesses for SessionCommandsComplete. -/
theorem test_witness_session_commands_complete :
    Meets 0x0100 (fun c s => c.u16 2 = 0 ∧ c.u16 0 ≤ 0x7FF ∧ s.mbx.sessions.length < 16 ∧ s.conflict (c.u16 0) = none) ∧
    (∃ x, Meets 0x0101 (fun c s => s.ownSession c (c.u16 0) = .ok x ∧ c.u8 2 = 0)) ∧
    (∃ x, Meets 0x0101 (fun c s => s.ownSession c (c.u16 0) = .ok x ∧ c.u8 2 ≠ 0)) ∧
    (∃ x, Meets 0x0102 (fun c s => s.ownSession c (c.u16 0) = .ok x)) ∧
    Meets 0x0103 anyWay ∧
    (∃ d, Meets 0x0104 (fun c s => s.mbx.relays.find? (fun r => named c r.cmd) = none ∧ s.mbx.fenced.find? (named c) = none ∧
      s.mbx.scheduled.find? (named c) = some d ∧ s.ftNs < d.activation)) :=
  ⟨meets_of (cmd 0x0100 [0xFF, 7]) tile (by decide +kernel) (by decide +kernel),
    ⟨⟨256, 0, .udp 1 2, 500000000, false⟩, meets_of (cmd 0x0101 ([0, 1])) opened (by decide +kernel) (by and_intros <;> exact rfl)⟩,
    ⟨⟨256, 0, .udp 1 2, 500000000, false⟩, meets_of (cmd 0x0101 ([0, 1, 1])) opened (by decide +kernel) (by and_intros <;> first | exact rfl | decide +kernel)⟩,
    ⟨⟨256, 0, .udp 1 2, 500000000, false⟩, meets_of (cmd 0x0102 ([0, 1])) opened (by decide +kernel) rfl⟩,
    meets_of (cmd 0x0103 ([])) tile (by decide +kernel) trivial,
    ⟨later, meets_of (cmd 0x0104 ([0, 0, 0, 0, 2])) queued (by decide +kernel) (by decide +kernel)⟩⟩

/-- Witnesses for PortCommandsComplete. -/
theorem test_witness_port_commands_complete :
    Meets 0x0200 (fun c _ => c.u8 0 ≤ 3) ∧
    Meets 0x0201 (fun c _ => c.u8 0 ≤ 3 ∧ c.u8 1 ≤ 1 ∧ c.u8 2 ≤ 1 ∧ c.u8 3 ≤ 3 ∧ c.u8 4 ≤ 15 ∧ c.u8 5 ≤ 1 ∧
      1 ≤ c.u8 6 ∧ c.u8 6 ≤ 4 ∧ 1 ≤ c.u8 7 ∧ c.u8 7 ≤ 4) ∧
    Meets 0x0202 (fun c s => ¬(s.inShow = true ∧ s.hasParent = true ∧ bit (c.u8 0) (s.r .ftParentPort) = true)) ∧
    Meets 0x0203 (fun c s => c.u8 0 ≤ 3 ∧ c.u8 1 ≤ 3 ∧ ¬(s.up (c.u8 0) = true ∧ s.inShow = true) ∧
      s.rateDue (c.u8 0) = false ∧ s.steppedNow (c.u8 0) = false ∧ (c.u8 1 = 3 → s.partnerAllows (c.u8 0) = true)) ∧
    Meets 0x0204 (fun c _ => c.u8 0 ≤ 3 ∧ c.u8 1 ≤ 3) ∧
    Meets 0x020B (fun c _ => c.u8 0 ≤ 3) :=
  ⟨meets_of (cmd 0x0200 ([])) tile (by decide +kernel) (by decide +kernel),
    meets_of (cmd 0x0201 ([3, 1, 1, 3, 15, 1, 4, 4])) tile (by decide +kernel) (by decide +kernel),
    meets_of (cmd 0x0202 ([])) tile (by decide +kernel) (by decide +kernel),
    meets_of (cmd 0x0203 ([])) tile (by decide +kernel) (by decide +kernel),
    meets_of (cmd 0x0204 ([])) tile (by decide +kernel) (by decide +kernel),
    meets_of (cmd 0x020B ([])) tile (by decide +kernel) (by decide +kernel)⟩

/-- Witnesses for NetworkCommandsComplete. -/
theorem test_witness_network_commands_complete :
    Meets 0x0205 anyWay ∧
    Meets 0x0206 (fun c _ => c.u16 0 < 0xFFF) ∧
    Meets 0x0207 (fun _ s => s.on .netMaster = true) ∧
    MeetsHost 0x0208 (fun _ s => s.on .netMaster = true) (fun c => c.u64 0) ∧
    Meets 0x0209 (fun c s => s.r .netMember (c.u8 0 / 32) ≠ setBit (s.r .netMember (c.u8 0 / 32)) (c.u8 0 % 32) (c.u8 1 != 0)) ∧
    Meets 0x0209 (fun c s => s.r .netMember (c.u8 0 / 32) = setBit (s.r .netMember (c.u8 0 / 32)) (c.u8 0 % 32) (c.u8 1 != 0)) ∧
    Meets 0x020A (fun c _ => c.u8 2 = 0 ∧ c.u16 0 ≤ 0xFFF) ∧
    Meets 0x020A (fun c _ => c.u8 2 = 1 ∧ c.u16 0 ≤ 0xFF) ∧
    Meets 0x020C (fun c _ => c.u8 0 ≤ 15 ∧ c.u8 1 = 0) ∧
    Meets 0x020C (fun c _ => c.u8 0 ≤ 15 ∧ c.u8 1 ≠ 0) ∧
    Meets 0x020D (fun c s => s.id ≠ 0 ∧ c.u16 0 ≤ 0xFFE ∧ s.routeTo (c.u16 0) ≠ none ∧ c.u8 2 % 16 ≠ 0) ∧
    Meets 0x020D (fun c s => s.id ≠ 0 ∧ c.u16 0 ≤ 0xFFE ∧ s.routeTo (c.u16 0) ≠ none ∧ c.u8 2 % 16 = 0) :=
  ⟨meets_of (cmd 0x0205 ([])) tile (by decide +kernel) trivial,
    meets_of (cmd 0x0206 ([])) tile (by decide +kernel) (by decide +kernel),
    meets_of (cmd 0x0207 ([])) master (by decide +kernel) (by decide +kernel),
    meets_host (cmd 0x0208 ([])) master (by decide +kernel) (by decide +kernel) (by decide +kernel),
    meets_of (cmd 0x0209 ([0, 1])) tile (by decide +kernel) (by decide +kernel),
    meets_of (cmd 0x0209 ([])) tile (by decide +kernel) (by decide +kernel),
    meets_of (cmd 0x020A ([])) tile (by decide +kernel) (by decide +kernel),
    meets_of (cmd 0x020A ([0xFF, 0, 1])) tile (by decide +kernel) (by decide +kernel),
    meets_of (cmd 0x020C ([])) tile (by decide +kernel) (by decide +kernel),
    meets_of (cmd 0x020C ([15, 1])) tile (by decide +kernel) (by decide +kernel),
    meets_of (cmd 0x020D ([7, 0, 1])) routed (by decide +kernel) (by decide +kernel),
    meets_of (cmd 0x020D ([7, 0, 0])) routed (by decide +kernel) (by decide +kernel)⟩

/-- Witnesses for TimeCommandsComplete. -/
theorem test_witness_time_commands_complete :
    Meets 0x0300 anyWay ∧
    Meets 0x0301 (fun c s => s.on .ftIsRoot = true ∧ c.u8 0 = 0) ∧
    Meets 0x0301 (fun c s => s.on .ftIsRoot = true ∧ c.u8 0 = 2 ∧ s.isHead = true ∧ c.u8 8 ≤ 127) ∧
    Meets 0x0301 (fun c s => s.on .ftIsRoot = true ∧ c.u8 0 = 3 ∧ c.u8 1 ≤ 3 ∧ 1 ≤ c.u8 2 ∧ c.u8 2 ≤ 40 ∧
      s.genlockFits (c.u8 1) (c.u8 2) = true) ∧
    Meets 0x0302 (fun c _ => periodOk (c.u64 0) (c.u16 8) = true) ∧
    Meets 0x0303 (fun c s => s.inShow = false ∧ c.u64 8 < 2 ^ 48) ∧
    Meets 0x0304 (fun _ s => s.on .ftIsRoot = true ∧ s.r .ftSource = 0 ∧ s.inShow = false) ∧
    Meets 0x0305 (fun c _ => c.u8 0 ≤ 3) ∧
    Meets 0x0306 anyWay :=
  ⟨meets_of (cmd 0x0300 ([])) tile (by decide +kernel) trivial,
    meets_of (cmd 0x0301 ([0])) root (by decide +kernel) (by decide +kernel),
    meets_of (cmd 0x0301 ([2, 0, 0, 0, 0, 0, 0, 0, 127])) root (by decide +kernel) (by decide +kernel),
    meets_of (cmd 0x0301 ([3, 3, 40])) (root.puts [(.genPeriod, 3, 666666667)]) (by decide +kernel) (by decide +kernel),
    meets_of (cmd 0x0302 (leBytes 8 41708333 ++ leBytes 2 1)) tile (by decide +kernel) (by decide +kernel),
    meets_of (cmd 0x0303 ([])) tile (by decide +kernel) (by decide +kernel),
    meets_of (cmd 0x0304 ([])) root (by decide +kernel) (by decide +kernel),
    meets_of (cmd 0x0305 ([])) tile (by decide +kernel) (by decide +kernel),
    meets_of (cmd 0x0306 ([])) tile (by decide +kernel) trivial⟩

/-- Witnesses for LayerCommandsComplete. -/
theorem test_witness_layer_commands_complete :
    Meets 0x0400 (fun c _ => c.u8 0 ≤ 8) ∧
    Meets 0x0401 (fun c _ => c.u8 0 ≤ 3 ∧ c.u8 2 ≤ 15) ∧
    Meets 0x0402 (fun c _ => 4 ≤ c.u8 0 ∧ c.u8 0 ≤ 7) ∧
    (∃ l, Meets 0x0403 (fun c s => 4 ≤ c.u8 0 ∧ c.u8 0 ≤ 7 ∧ c.u8 1 ≤ 1 ∧ c.u32 4 + c.u32 8 ≤ bufferSize ∧
      s.graphicShut (c.u8 0 - 4) (c.u8 1) = false ∧ s.hostRead c (c.u64 16) (c.u32 8) = some l)) ∧
    Meets 0x0404 anyWay ∧
    Meets 0x0405 anyWay ∧
    Meets 0x0406 anyWay ∧
    (∃ a, Meets 0x0409 (fun c s => s.checkKey (c.u64 0) = .ok a)) ∧
    (∃ a l, Meets 0x040A (fun c s => s.checkKey (c.u64 0) = .ok a ∧ c.u32 8 + c.u32 12 ≤ bufferSize ∧
      (a.lay.pStaged.map (·.bytes.length)).sum + c.u32 12 ≤ 0x40000 ∧ a.hostRead c (c.u64 16) (c.u32 12) = some l)) ∧
    (∃ a, Meets 0x040B (fun c s => s.checkKey (c.u64 0) = .ok a)) ∧
    Meets 0x040F anyWay ∧
    Meets 0x040E (fun c s => (c.u16 0 = 0 ∨ c.u16 0 = s.id) ∧ c.u8 2 ≤ 7) ∧
    (∃ x, Meets 0x040E (fun c s => c.u16 0 ≠ 0 ∧ c.u16 0 ≠ s.id ∧
      s.lay.reports.find? (fun x => x.node == c.u16 0 && x.feed == c.u8 2) = some x)) ∧
    MeetsHost 0x0410 (fun c _ => 14352 ≤ c.u32 8) (fun c => c.u64 0) ∧
    Meets 0x0411 (fun c _ => c.u8 0 ≤ 15 ∧ c.u8 1 ≤ 15 ∧ c.u8 2 ≤ 15) ∧
    Meets 0x0412 anyWay :=
  ⟨meets_of (cmd 0x0400 ([])) tile (by decide +kernel) (by decide +kernel),
    meets_of (cmd 0x0401 ([])) tile (by decide +kernel) (by decide +kernel),
    meets_of (cmd 0x0402 ([4])) tile (by decide +kernel) (by decide +kernel),
    ⟨[0], meets_of (cmd 0x0403 ([7, 1, 0, 0] ++ leBytes 4 (bufferSize - 1) ++ leBytes 4 1)) tile (by decide +kernel) (by decide +kernel)⟩,
    meets_of (cmd 0x0404 ([])) tile (by decide +kernel) trivial,
    meets_of (cmd 0x0405 ([])) tile (by decide +kernel) trivial,
    meets_of (cmd 0x0406 ([])) tile (by decide +kernel) trivial,
    ⟨_, meets_of (cmd 0x0409 ([])) tile (by decide +kernel) rfl⟩,
    ⟨_, [0], meets_of (cmd 0x040A (leBytes 8 0 ++ leBytes 4 (bufferSize - 1) ++ leBytes 4 1)) tile (by decide +kernel) (by and_intros <;> first | exact rfl | decide +kernel)⟩,
    ⟨_, meets_of (cmd 0x040B ([])) tile (by decide +kernel) rfl⟩,
    meets_of (cmd 0x040F ([])) tile (by decide +kernel) trivial,
    meets_of (cmd 0x040E ([])) tile (by decide +kernel) (by decide +kernel),
    ⟨⟨7, 0, [], 0, 0⟩, meets_of (cmd 0x040E ([7])) ({ head with lay := { head.lay with reports := [⟨7, 0, [], 0, 0⟩] } }) (by decide +kernel) (by decide +kernel)⟩,
    meets_host (cmd 0x0410 (leBytes 8 0 ++ leBytes 4 14352)) tile (by decide +kernel) (by decide +kernel) (by decide +kernel),
    meets_of (cmd 0x0411 ([])) tile (by decide +kernel) (by decide +kernel),
    meets_of (cmd 0x0412 ([])) tile (by decide +kernel) trivial⟩

/-- Witnesses for CommitCommandsComplete. -/
theorem test_witness_commit_commands_complete :
    (∃ reject, Meets 0x0407 (fun c s => c.u8 0 = 0 ∧ c.u8 1 = 0 ∧ c.u64 8 < 2 ^ 48 ∧ s.foreignStaged c = false ∧
      s.periodStaged = false ∧ s.lay.sets.length < 4 ∧ s.tooFar (c.u64 8) = false ∧ s.validate s.candidate = some reject)) ∧
    (∃ reject, Meets 0x0407 (fun c s => c.u8 0 = 1 ∧ c.u8 1 = 0 ∧ c.u64 8 < 2 ^ 48 ∧ s.foreignStaged c = false ∧
      s.lay.sealRun.isSome = false ∧ s.lay.sets.length < 4 ∧ s.tooFar (c.u64 8) = false ∧ s.validate s.candidate = some reject)) ∧
    (∃ reject e, Meets 0x0407 (fun c s => c.u8 0 = 1 ∧ (c.u8 1 = 1 ∨ c.u8 1 = 2) ∧ c.u64 8 < 2 ^ 48 ∧ s.foreignStaged c = false ∧
      s.isHead = true ∧ s.on .redHolder = true ∧ s.lay.sealRun.isSome = false ∧ s.lay.sets.length < 4 ∧ s.tooFar (c.u64 8) = false ∧
      s.validate s.candidate = some reject ∧ s.takeCommitId.2.lay.sets.any (fun x => x.state == .prepared) = false ∧
      (((s.takeCommitId.2.waiting ⟨c, .seal s.takeCommitId.1, false⟩).startRun s.takeCommitId.1 0 (c.u8 1 - 1) (c.u8 2) (c.u64 8)
        reject).mbx.deferred.find? (fun e => e.waits == .seal s.takeCommitId.1)) = some e ∧ e.posted = false)) ∧
    (∃ x, Meets 0x0408 (fun c s => s.lay.sets.find? (fun x => x.id == c.u16 0) = some x)) ∧
    (∃ h, Meets 0x0408 (fun c s => s.lay.sets.find? (fun x => x.id == c.u16 0) = none ∧
      s.lay.history.find? (fun h => h.1 == c.u16 0) = some h)) ∧
    Meets 0x040C (fun c s => c.u8 1 ≤ 7 ∧ c.u8 2 ≤ 3 ∧ c.u16 4 ≤ 0xFFF ∧
      imageFits (fun f i => s.r f i) (c.u8 2) (max 1 (c.u8 3)) = true) ∧
    (∃ b, Meets 0x040D (fun c s => s.isHead = true ∧ s.bufOf (c.u32 0) = some b ∧ 2 ≤ c.u8 4 ∧ c.u8 4 ≤ 4 ∧ c.u8 5 ≤ 3 ∧
      c.u32 16 ≠ 0 ∧ 4 * c.u32 16 ≤ b.length / c.u8 4)) :=
  ⟨⟨0, meets_of (cmd 0x0407 ([])) tile (by decide +kernel) (by decide +kernel)⟩,
    ⟨0, meets_of (cmd 0x0407 ([1])) tile (by decide +kernel) (by decide +kernel)⟩,
    ⟨0, ⟨cmd 0x0407 [1, 1], .seal 1, false⟩, meets_of (cmd 0x0407 ([1, 1])) linked (by decide +kernel) (by decide +kernel)⟩,
    ⟨set1, meets_of (cmd 0x0408 ([1])) committed (by decide +kernel) (by decide +kernel)⟩,
    ⟨(2, 2, 5), meets_of (cmd 0x0408 ([2])) committed (by decide +kernel) (by decide +kernel)⟩,
    meets_of (cmd 0x040C ([])) tile (by decide +kernel) (by decide +kernel),
    ⟨buf, meets_of (cmd 0x040D (leBytes 4 1 ++ [4, 3] ++ leBytes 2 0 ++ leBytes 8 0 ++ leBytes 4 1)) clip (by decide +kernel) (by decide +kernel)⟩⟩

/-- Witnesses for StreamCommandsComplete. -/
theorem test_witness_stream_commands_complete :
    Meets 0x0500 (fun c _ => c.u8 0 ≤ 15) ∧
    Meets 0x0501 (fun c s =>
      let t := s.stages c.session [(.ingEnable, c.u8 0, b2n (c.u8 1 != 0)), (.ingKind, c.u8 0, c.u8 1), (.ingDpPort, c.u8 0, c.u8 2),
        (.ingGroup, c.u8 0, c.u8 3), (.ingFeedMask, c.u8 0, c.u8 4),
        (.ingFormat, c.u8 0, if c.u8 1 = 1 then s.r .dprFormat (c.u8 2) else c.u8 5), (.ingWidth, c.u8 0, c.u16 6),
        (.ingHeight, c.u8 0, c.u16 8)]
      c.u8 0 ≤ 15 ∧ c.u8 1 ≤ 3 ∧ c.u8 2 ≤ 3 ∧ ((c.u8 1 = 2 ∨ c.u8 1 = 3) → bppOf (c.u8 5) ≠ none) ∧
      t.streamsFit (fun f i => t.seen f i) (t.seen .ftPeriodNum) (t.seen .ftPeriodDen) (t.seen .layGuard) = true) ∧
    Meets 0x0502 (fun c s => c.u8 0 ≤ 15 ∧ s.r .ingKind (c.u8 0) = 2 ∧ c.u64 8 % 4096 = 0 ∧ c.u64 8 < 2 ^ 41 ∧
      s.freeing (c.u64 8) (s.streamBytes (c.u8 0)) = false) ∧
    Meets 0x0503 (fun c s =>
      let p : Playback := ⟨c.u64 8, c.u64 16, c.u32 4, c.u8 1, c.u8 2 != 0, c.u64 24⟩
      c.u8 0 ≤ 15 ∧ p.count ≠ 0 ∧ p.divider ≠ 0 ∧ s.streamBytes (c.u8 0) ≤ p.stride ∧
      s.freeing (p.range (s.streamBytes (c.u8 0))).1 (p.range (s.streamBytes (c.u8 0))).2 = false ∧ s.latchFrame (c.u8 0) ≤ p.start) ∧
    Meets 0x0503 (fun c s =>
      let p : Playback := ⟨c.u64 8, c.u64 16, c.u32 4, c.u8 1, c.u8 2 != 0, c.u64 24⟩
      c.u8 0 ≤ 15 ∧ p.count ≠ 0 ∧ p.divider ≠ 0 ∧ s.streamBytes (c.u8 0) ≤ p.stride ∧
      s.freeing (p.range (s.streamBytes (c.u8 0))).1 (p.range (s.streamBytes (c.u8 0))).2 = false ∧ p.start < s.latchFrame (c.u8 0)) ∧
    Meets 0x0504 (fun c _ => c.u8 0 ≤ 15) ∧
    (∃ b, Meets 0x0505 (fun c s => s.bufOf (c.u32 4) = some b ∧ c.u8 0 ≤ 3 ∧ 3 ≤ c.u8 1 ∧ c.u8 1 ≤ 8 ∧
      c.u8 1 * ringFrame ≤ b.length ∧ b.deferred = false)) ∧
    Meets 0x0506 (fun c _ => c.u8 0 ≤ 3) :=
  ⟨meets_of (cmd 0x0500 ([])) head (by decide +kernel) (by decide +kernel),
    meets_of (cmd 0x0501 ([])) head (by decide +kernel) (by decide +kernel),
    meets_of (cmd 0x0502 ([])) (head.puts [(.ingKind, 0, 2)]) (by decide +kernel) (by decide +kernel),
    meets_of (cmd 0x0503 ([0, 1, 0, 0] ++ leBytes 4 1 ++ leBytes 8 0 ++ leBytes 8 37324800 ++ leBytes 8 2)) head (by decide +kernel) (by decide +kernel),
    meets_of (cmd 0x0503 ([0, 1, 0, 0] ++ leBytes 4 1 ++ leBytes 8 0 ++ leBytes 8 37324800 ++ leBytes 8 1)) head (by decide +kernel) (by decide +kernel),
    meets_of (cmd 0x0504 ([])) head (by decide +kernel) (by decide +kernel),
    ⟨big, meets_of (cmd 0x0505 ([3, 3, 0, 0] ++ leBytes 4 2)) clip (by decide +kernel) (by decide +kernel)⟩,
    meets_of (cmd 0x0506 ([])) head (by decide +kernel) (by decide +kernel)⟩

/-- Witnesses for ClipCommandsComplete. -/
theorem test_witness_clip_commands_complete :
    Meets 0x0600 anyWay ∧
    (∃ a, Meets 0x0601 (fun c s => s.fromHolder c = false ∧ s.freeRange (max 1 (ceilDiv (c.u64 0) 4096) * 4096) = some a)) ∧
    (∃ b, Meets 0x0602 (fun c s => s.bufOf (c.u32 0) = some b ∧ s.servesMonitor b.handle = false ∧ s.bufPinned b = false)) ∧
    (∃ b, Meets 0x0602 (fun c s => s.bufOf (c.u32 0) = some b ∧ s.servesMonitor b.handle = false ∧ s.bufPinned b = true)) ∧
    (∃ l, Meets 0x0603 (fun c s => (s.bufAt (c.u64 8) (c.u32 16)).isSome = true ∧ s.clipOk (c.u64 8) (c.u32 16) = true ∧
      s.pinned (c.u64 8) (c.u32 16) = false ∧ s.hostRead c (c.u64 0) (c.u32 16) = some l)) ∧
    MeetsHost 0x0604 (fun c s => s.clipOk (c.u64 0) (c.u32 16) = true ∧ s.firstPoison (c.u64 0) (c.u32 16) = none) (fun c => c.u64 8) ∧
    (∃ b, Meets 0x0605 (fun c s => s.bufOf (c.u32 0) = some b)) ∧
    Meets 0x0606 (fun c _ => c.u16 0 ≤ 511) :=
  ⟨meets_of (cmd 0x0600 ([])) head (by decide +kernel) trivial,
    ⟨16842752, meets_of (cmd 0x0601 (leBytes 8 4096)) clip (by decide +kernel) (by decide +kernel)⟩,
    ⟨buf, meets_of (cmd 0x0602 ([1])) clip (by decide +kernel) (by decide +kernel)⟩,
    ⟨buf, meets_of (cmd 0x0602 ([1])) pinnedClip (by decide +kernel) (by decide +kernel)⟩,
    ⟨List.replicate 64 0, meets_of (cmd 0x0603 (leBytes 8 0 ++ leBytes 8 tableEnd ++ leBytes 4 64)) clip (by decide +kernel) (by decide +kernel)⟩,
    meets_host (cmd 0x0604 ([])) clip (by decide +kernel) (by decide +kernel) (by decide +kernel),
    ⟨buf, meets_of (cmd 0x0605 ([1])) clip (by decide +kernel) (by decide +kernel)⟩,
    meets_of (cmd 0x0606 ([])) head (by decide +kernel) (by decide +kernel)⟩

/-- Witnesses for ColourCommandsComplete. -/
theorem test_witness_colour_commands_complete :
    Meets 0x0700 anyWay ∧
    Meets 0x0701 (fun c _ => c.u8 1 ≤ 15 ∧ c.u8 2 ≤ 15) ∧
    (∃ l, Meets 0x0702 (fun c s => s.hostRead c (c.u64 0) (c.u32 8) = some l ∧ s.fileFault l = none ∧ s.inShow = false)) ∧
    (∃ l, Meets 0x0702 (fun c s => s.hostRead c (c.u64 0) (c.u32 8) = some l ∧ s.fileFault l = none ∧ s.inShow = true)) ∧
    MeetsHost 0x0703 (fun c _ => c.u32 0 + c.u32 4 ≤ coefEnd) (fun c => c.u64 8) ∧
    Meets 0x0704 (fun _ s => s.col.saveRun.isSome = false ∧ s.dirtyBlocks = []) ∧
    Meets 0x0704 (fun _ s => s.col.saveRun.isSome = false ∧ s.dirtyBlocks ≠ []) ∧
    Meets 0x0705 anyWay ∧
    Meets 0x0706 (fun c _ => c.u8 0 ≤ 95) :=
  ⟨meets_of (cmd 0x0700 ([])) tile (by decide +kernel) trivial,
    meets_of (cmd 0x0701 ([])) tile (by decide +kernel) (by decide +kernel),
    ⟨coefFile 3 0x8FFFFC [0, 0, 0, 0], meets_of ({ cmd 0x0702 (leBytes 8 0 ++ leBytes 4 68) with data := coefFile 3 0x8FFFFC [0, 0, 0, 0] }) tile (by decide +kernel) (by decide +kernel)⟩,
    ⟨coefFile 3 0x8FFFFC [0, 0, 0, 0], meets_of ({ cmd 0x0702 (leBytes 8 0 ++ leBytes 4 68) with data := coefFile 3 0x8FFFFC [0, 0, 0, 0] }) lit (by decide +kernel) (by decide +kernel)⟩,
    meets_host (cmd 0x0703 ([])) tile (by decide +kernel) (by decide +kernel) (by decide +kernel),
    meets_of (cmd 0x0704 ([])) tile (by decide +kernel) (by decide +kernel),
    meets_of (cmd 0x0704 ([])) ({ tile with col := { tile.col with dirty := [1] } }) (by decide +kernel) (by decide +kernel),
    meets_of (cmd 0x0705 ([])) tile (by decide +kernel) trivial,
    meets_of (cmd 0x0706 ([])) tile (by decide +kernel) (by decide +kernel)⟩

/-- Witnesses for ScanCommandsComplete. -/
theorem test_witness_scan_commands_complete :
    Meets 0x0800 anyWay ∧
    Meets 0x0801 (fun c _ => c.u8 0 ≤ 95 ∧ c.u8 1 ≤ 95 ∧ c.u8 0 ≤ c.u8 1 ∧ c.u8 2 ≤ 16 ∧ 1 ≤ c.u8 3 ∧ c.u8 3 ≤ 48) ∧
    Meets 0x0802 (fun c _ => 1 ≤ c.u8 0 ∧ c.u8 0 ≤ 16 ∧ 1 ≤ c.u8 1 ∧ c.u8 1 ≤ 64 ∧ c.u8 2 ≤ 7 ∧ c.u8 3 ≤ 3 ∧ 2 ≤ c.u8 4) ∧
    Meets 0x0803 (fun c _ => c.u8 0 ≤ 7) ∧
    Meets 0x0804 (fun c _ => c.u8 0 ≤ 7 ∧ 1 ≤ c.u8 4 ∧ c.u8 4 ≤ 16 ∧ c.u8 7 ≤ 3) ∧
    Meets 0x0805 anyWay ∧
    Meets 0x0806 (fun c _ => c.u8 0 ≤ 3) ∧
    Meets 0x0807 (fun c _ => c.u8 0 ≤ 3) ∧
    Meets 0x0808 (fun c _ => c.u8 0 ≤ 3 ∧ c.u8 2 ≤ 7) ∧
    Meets 0x0809 (fun c _ => c.u8 0 ≤ 11) :=
  ⟨meets_of (cmd 0x0800 ([])) tile (by decide +kernel) trivial,
    meets_of (cmd 0x0801 ([95, 95, 16, 48])) tile (by decide +kernel) (by decide +kernel),
    meets_of (cmd 0x0802 ([16, 64, 7, 3, 2])) tile (by decide +kernel) (by decide +kernel),
    meets_of (cmd 0x0803 ([])) tile (by decide +kernel) (by decide +kernel),
    meets_of (cmd 0x0804 ([7, 0, 0, 0, 16, 0, 0, 3])) tile (by decide +kernel) (by decide +kernel),
    meets_of (cmd 0x0805 ([])) tile (by decide +kernel) trivial,
    meets_of (cmd 0x0806 ([])) tile (by decide +kernel) (by decide +kernel),
    meets_of (cmd 0x0807 ([])) tile (by decide +kernel) (by decide +kernel),
    meets_of (cmd 0x0808 ([])) tile (by decide +kernel) (by decide +kernel),
    meets_of (cmd 0x0809 ([])) tile (by decide +kernel) (by decide +kernel)⟩

/-- Witnesses for LaneCommandsComplete. -/
theorem test_witness_lane_commands_complete :
    Meets 0x0900 (fun c _ => c.u8 0 ≤ 95) ∧
    Meets 0x0901 (fun c _ => c.u8 0 ≤ 95 ∧ c.u8 1 ≤ 95 ∧ c.u8 0 ≤ c.u8 1) ∧
    Meets 0x0902 (fun c s => c.u8 0 ≤ 95 ∧ (c.u8 1 ≤ 15 ∨ c.u8 1 = allDrivers) ∧ c.u8 2 ≠ 0 ∧
      s.r .laneState (c.u8 0) = Lane.run ∧ ¬(0x08 ≤ c.u8 3 ∧ c.u8 3 ≤ 0x0A ∧ s.inShow = true)) ∧
    Meets 0x0902 (fun c s => c.u8 0 ≤ 95 ∧ c.u8 1 ≤ 15 ∧ c.u8 2 = 0 ∧ s.r .laneState (c.u8 0) = Lane.run) ∧
    Meets 0x0903 anyWay ∧
    Meets 0x0904 (fun _ s => s.inShow = false) ∧
    Meets 0x0905 anyWay ∧
    Meets 0x0906 anyWay ∧
    MeetsHost 0x0907 (fun c _ => c.u32 0 % 16 = 0 ∧ c.u32 0 + c.u32 4 ≤ 1048576) (fun c => c.u64 8) ∧
    Meets 0x0908 (fun c s => s.hostOk (c.u64 0) = true) ∧
    Meets 0x0909 (fun c s => c.u8 0 ≤ 95 ∧ c.u8 1 ≤ 15 ∧ s.r .laneState (c.u8 0) = Lane.run ∧ s.inShow = false) :=
  ⟨meets_of (cmd 0x0900 ([])) tile (by decide +kernel) (by decide +kernel),
    meets_of (cmd 0x0901 ([])) tile (by decide +kernel) (by decide +kernel),
    meets_of (cmd 0x0902 ([95, 15, 1])) (tile.puts [(.laneState, 95, Lane.run)]) (by decide +kernel) (by decide +kernel),
    meets_of (cmd 0x0902 ([95, 15])) (tile.puts [(.laneState, 95, Lane.run)]) (by decide +kernel) (by decide +kernel),
    meets_of (cmd 0x0903 ([])) tile (by decide +kernel) trivial,
    meets_of (cmd 0x0904 ([])) tile (by decide +kernel) (by decide +kernel),
    meets_of (cmd 0x0905 ([])) tile (by decide +kernel) trivial,
    meets_of (cmd 0x0906 ([])) tile (by decide +kernel) trivial,
    meets_host (cmd 0x0907 ([])) tile (by decide +kernel) (by decide +kernel) (by decide +kernel),
    meets_of (cmd 0x0908 ([])) tile (by decide +kernel) (by decide +kernel),
    meets_of (cmd 0x0909 ([95, 15])) (tile.puts [(.laneState, 95, Lane.run)]) (by decide +kernel) (by decide +kernel)⟩

/-- Witnesses for RedundancyCommandsComplete. -/
theorem test_witness_redundancy_commands_complete :
    Meets 0x0A00 anyWay ∧
    Meets 0x0A01 (fun c _ => c.u8 0 ≤ 1 ∧ c.u8 1 ≤ 1 ∧ c.u8 2 ≠ 0 ∧ c.u8 3 ≠ 0 ∧ 2000 ≤ c.u16 4 ∧ 250 ≤ c.u16 6 ∧
      c.u16 6 ≤ c.u16 4 / 3 ∧ 1000 ≤ c.u16 8 ∧ c.u16 8 ≤ 10000 ∧ 5 ≤ c.u16 10 ∧ c.u16 10 ≤ 500 ∧ c.u16 12 ≤ 0x7FF ∧ c.u8 14 ≤ 1 ∧ c.u8 15 ≤ 1) ∧
    Meets 0x0A02 (fun _ s => s.red.lapsedAt ≠ some s.clk ∧ s.on .redHolder = true ∧ s.ftNs < s.red.leaseEnd ∧
    s.twinEligible = true) ∧
    Meets 0x0A03 (fun _ s => s.isHead = true ∧ s.on .redHolder = true) ∧
    Meets 0x0A03 (fun _ s => s.isHead = true ∧ s.on .redHolder = false ∧ s.twinHolds = false ∧ s.net.map = [] ∧ s.twinSeen = false) ∧
    Meets 0x0A03 (fun _ s => s.isHead = true ∧ s.on .redHolder = false ∧ s.twinHolds = false ∧ (s.net.map ≠ [] ∨ s.twinSeen = true)) ∧
    Meets 0x0A04 (fun _ s => s.on .redHolder = true) ∧
    Meets 0x0A05 (fun _ s => s.isHead = true) ∧
    Meets 0x0A06 (fun c _ => c.u8 0 = 0) ∧
    Meets 0x0A06 (fun c s => c.u8 0 = 1 ∧ s.isHead = true ∧ s.on .redHolder = false) :=
  ⟨meets_of (cmd 0x0A00 ([])) tile (by decide +kernel) trivial,
    meets_of (cmd 0x0A01 ([1, 1, 1, 1] ++ leBytes 2 2000 ++ leBytes 2 250 ++ leBytes 2 1000 ++ leBytes 2 5 ++ leBytes 2 0x7FF ++ [1, 1])) head (by decide +kernel) (by decide +kernel),
    meets_of (cmd 0x0A02 ([])) ({ head with red := { head.red with leaseEnd := 1, twinAt := some 0, twinState := Red.standby } }) (by decide +kernel) (by decide +kernel),
    meets_of (cmd 0x0A03 ([])) head (by decide +kernel) (by decide +kernel),
    meets_of (cmd 0x0A03 ([])) standby (by decide +kernel) (by decide +kernel),
    meets_of (cmd 0x0A03 ([])) ({ standby with red := { standby.red with twinAt := some 0 } }) (by decide +kernel) (by decide +kernel),
    meets_of (cmd 0x0A04 ([])) head (by decide +kernel) (by decide +kernel),
    meets_of (cmd 0x0A05 ([])) head (by decide +kernel) (by decide +kernel),
    meets_of (cmd 0x0A06 ([])) tile (by decide +kernel) (by decide +kernel),
    meets_of (cmd 0x0A06 ([1])) standby (by decide +kernel) (by decide +kernel)⟩

/-- Witnesses for ThermalCommandsComplete. -/
theorem test_witness_thermal_commands_complete :
    Meets 0x0B00 anyWay ∧
    Meets 0x0B01 (fun c _ => c.u8 3 ≤ 7 ∧ (bit (c.u8 3) 0 = true → c.u8 0 ≤ 1 ∧ 1 ≤ c.u8 1 ∧ c.u8 1 ≤ 4)) ∧
    Meets 0x0B02 (fun c _ => c.u8 0 ≤ 1 ∧ c.u8 1 < sensorsIn (c.u8 0) ∧ c.u8 2 = 0) ∧
    (∃ a : HostCmd → State → State, ((∀ c s, a c s = if c.u8 2 = 2 then s.readmitCmd (c.u8 0) (c.u8 1) else if s.r (stateReg (c.u8 0)) (c.u8 1) = 5 then s else s.cutSensor (c.u8 0) (c.u8 1) 5 false)) ∧ Meets 0x0B02 (fun c _ => c.u8 0 ≤ 1 ∧ c.u8 1 < sensorsIn (c.u8 0) ∧ (c.u8 2 = 1 ∨ c.u8 2 = 2))) ∧
    Meets 0x0B03 (fun c _ => c.u8 0 ≤ 95) ∧
    (∃ r : HostCmd → State → Run, ((∀ c s, r c s = { retRun (c.u8 1) with kind := c.u8 0, when_ := c.u8 2, at_ := c.u64 8, cmd := some c, late := decide (c.u8 2 = 2) && decide (c.u64 8 ≤ s.ftNs) })) ∧ Meets 0x0B04 (fun c s => c.u8 1 < calItems (c.u8 0) ∧ c.u8 2 ≤ 2 ∧ (c.u8 2 = 2 → c.u64 8 ≤ s.ftNs + 600000000000) ∧
        (c.u8 0 = 5 → s.r .ftLockState = 2) ∧ (c.u8 2 = 0 → calDisturbs (c.u8 0) = true → s.calIdle (r c s) = true) ∧
        (s.thm.running.isSome = true ∨ s.calStarts (r c s) = false) ∧ s.thm.cals.length < 16)) ∧
    (∃ r : HostCmd → State → Run, ((∀ c s, r c s = { retRun (c.u8 1) with kind := c.u8 0, when_ := c.u8 2, at_ := c.u64 8, cmd := some c, late := decide (c.u8 2 = 2) && decide (c.u64 8 ≤ s.ftNs) })) ∧ Meets 0x0B04 (fun c s => c.u8 1 < calItems (c.u8 0) ∧ c.u8 2 ≤ 2 ∧ (c.u8 2 = 2 → c.u64 8 ≤ s.ftNs + 600000000000) ∧
        (c.u8 0 = 5 → s.r .ftLockState = 2) ∧ (c.u8 2 = 0 → calDisturbs (c.u8 0) = true → s.calIdle (r c s) = true) ∧
        s.thm.running.isSome = false ∧ s.calStarts (r c s) = true)) ∧
    Meets 0x0B05 (fun c _ => (c.u8 0 = 0 ∨ c.u8 0 = 2) ∧ c.u8 1 < itemsOf (c.u8 0)) ∧
    Meets 0x0B06 (fun c _ =>
      let r := CalRec.ofBytes (getBytes c.body 0 32)
      (r.kind = 0 ∨ r.kind = 2) ∧ r.index < itemsOf r.kind) ∧
    Meets 0x0B07 anyWay :=
  ⟨meets_of (cmd 0x0B00 ([])) tile (by decide +kernel) trivial,
    meets_of (cmd 0x0B01 ([])) tile (by decide +kernel) (by decide +kernel),
    meets_of (cmd 0x0B02 ([])) tile (by decide +kernel) (by decide +kernel),
    ⟨_, fun _ _ => rfl, meets_of (cmd 0x0B02 ([0, 7, 2])) tile (by decide +kernel) (by decide +kernel)⟩,
    meets_of (cmd 0x0B03 ([])) tile (by decide +kernel) (by decide +kernel),
    ⟨_, fun _ _ => rfl, meets_of (cmd 0x0B04 ([0, 15, 0])) ({ tile with thm := { tile.thm with running := some (retRun 0) } }) (by decide +kernel) (by decide +kernel)⟩,
    ⟨_, fun _ _ => rfl, meets_of (cmd 0x0B04 ([2, 11, 0])) (tile) (by decide +kernel) (by decide +kernel)⟩,
    meets_of (cmd 0x0B05 ([])) tile (by decide +kernel) (by decide +kernel),
    meets_of (cmd 0x0B06 ([])) tile (by decide +kernel) (by decide +kernel),
    meets_of (cmd 0x0B07 ([])) tile (by decide +kernel) trivial⟩

/-- Witnesses for FirmwareCommandsComplete. -/
theorem test_witness_firmware_commands_complete :
    Meets 0x0C00 anyWay ∧
    Meets 0x0C01 (fun c s => s.flashUp = true ∧ s.inTrial = false ∧ 1025 ≤ c.u32 4 ∧ c.u32 4 ≤ 4194304) ∧
    (∃ l a n, Meets 0x0C02 (fun c s => s.flashUp = true ∧ s.hostRead c (c.u64 16) (c.u32 8) = some l ∧
      s.writePiece (c.u32 0) (c.u32 4) l = (a, Status.ok, n))) ∧
    (∃ a n, Meets 0x0C03 (fun c s => s.flashUp = true ∧
      s.writePiece (c.u32 0) (c.u32 4) (getBytes c.body 8 32) = (a, Status.ok, n))) ∧
    Meets 0x0C04 (fun c s => s.flashUp = true ∧ s.isHead = true ∧ c.u8 0 = 2 ∧ s.bank s.receiver = Bank.ready ∧
      c.u32 4 = s.r .fwuXferId ∧ s.fw.spread.isSome = false) ∧
    Meets 0x0C04 (fun c s => s.flashUp = true ∧ s.isHead = true ∧ c.u8 0 = 0 ∧ s.bank s.receiver = Bank.ready ∧
      c.u32 4 = s.r .fwuXferId ∧ s.fw.spread.isSome = false) ∧
    (ready.activateStatus 0 = Status.ok → Meets 0x0C05 (fun c s => s.flashUp = true ∧ s.activateStatus (c.u32 0) = Status.ok)) ∧
    Meets 0x0C06 (fun c s => s.flashUp = true ∧ s.inTrial = true ∧ c.u32 0 = s.trialXfer ∧ s.fw.restartDue.isSome = false ∧
      s.revertsNow = false) ∧
    Meets 0x0C07 (fun c s => s.flashUp = true ∧ s.inTrial = true ∧ (c.u32 0 = 0 ∨ c.u32 0 = s.trialXfer)) ∧
    Meets 0x0C07 (fun c s => s.flashUp = true ∧ (s.inTrial = false ∨ (c.u32 0 ≠ 0 ∧ c.u32 0 ≠ s.trialXfer))) ∧
    Meets 0x0C08 (fun _ s => s.isHead = true ∧ s.on .redHolder = true) :=
  ⟨meets_of (cmd 0x0C00 ([])) tile (by decide +kernel) trivial,
    meets_of (cmd 0x0C01 (leBytes 4 0 ++ leBytes 4 1025)) flashy (by decide +kernel) (by decide +kernel),
    ⟨[1, 2, 3, 4], _, _, meets_of ({ cmd 0x0C02 (leBytes 4 0 ++ leBytes 4 0 ++ leBytes 4 4 ++ leBytes 4 0 ++ leBytes 8 0) with data := [1, 2, 3, 4] }) receiving (by decide +kernel) (by and_intros <;> exact rfl)⟩,
    ⟨_, _, meets_of (cmd 0x0C03 (leBytes 4 0 ++ leBytes 4 0)) receiving (by decide +kernel) (by and_intros <;> exact rfl)⟩,
    meets_of (cmd 0x0C04 ([2])) (flashyHead.puts [(.fwuStateA, 0, Bank.ready)]) (by decide +kernel) (by decide +kernel),
    meets_of (cmd 0x0C04 ([0])) (flashyHead.puts [(.fwuStateA, 0, Bank.ready)]) (by decide +kernel) (by decide +kernel),
    fun h => ⟨cmd 0x0C05 [], ready, direct_of (by decide +kernel), (by decide +kernel), h⟩,
    meets_of (cmd 0x0C06 ([])) (flashy.puts [(.aonFwuTrial, 0, 1)]) (by decide +kernel) (by decide +kernel),
    meets_of (cmd 0x0C07 ([])) (flashy.puts [(.aonFwuTrial, 0, 1)]) (by decide +kernel) (by decide +kernel),
    meets_of (cmd 0x0C07 ([])) flashy (by decide +kernel) (by decide +kernel),
    meets_of (cmd 0x0C08 ([])) head (by decide +kernel) (by decide +kernel)⟩

/-- Witnesses for SettingsTraceTestCommandsComplete. -/
theorem test_witness_settings_trace_test_commands_complete :
    MeetsHost 0x0C09 (fun c s => c.u8 12 = 1 ∧ s.slotLength (1 - s.readSlot.elim s.fw.slot (·.1)) ≤ c.u32 8) (fun c => c.u64 0) ∧
    MeetsHost 0x0C09 (fun c s => c.u8 12 = 0 ∧ s.slotLength (s.readSlot.elim s.fw.slot (·.1)) ≤ c.u32 8) (fun c => c.u64 0) ∧
    (∃ l x, Meets 0x0C0A (fun c s => s.flashUp = true ∧ s.inTrial = false ∧ s.hostRead c (c.u64 0) (c.u32 8) = some l ∧
      l.length ≤ slotSize ∧ parseSlot l = some x ∧ x.parses = true ∧ s.r .fwuSettingsMin ≤ x.format ∧ x.format ≤ s.r .fwuSettingsFormat)) ∧
    Meets 0x0C0B (fun _ s => s.flashUp = true ∧ s.saveRuns = false ∧ (s.inTrial = false ∨ s.fw.records.all recordOk = true)) ∧
    Meets 0x0D40 (fun c _ => 16 ≤ c.u16 4 ∧ c.u16 4 ≤ 256 ∧ c.u16 4 % 16 = 0) ∧
    MeetsHost 0x0D41 (fun c s => c.u32 12 ≤ s.traceCap) (fun c => c.u64 0) ∧
    Meets 0x0D42 (fun c s => ¬(c.u16 0 % 4096 = 0 ∧ s.inShow = true)) ∧
    (∃ r : HostCmd → State → Run, ((∀ c s, r c s = { retRun (c.u8 1) with kind := c.u8 0, when_ := c.u8 2, at_ := c.u64 8, cmd := some c, late := decide (c.u8 2 = 2) && decide (c.u64 8 ≤ s.ftNs) })) ∧ Meets 0x0D00 (fun c s => c.u8 1 < testItems (c.u8 0) ∧ (c.u8 2 = 1 ∨ c.u8 2 = 2) ∧
        (c.u8 2 = 2 → c.u64 8 ≤ s.ftNs + 600000000000) ∧ s.runStarts (r c s) = false ∧ s.thm.tests.length < 16)) ∧
    (∃ r : HostCmd → State → Run, ((∀ c s, r c s = { retRun (c.u8 1) with kind := c.u8 0, when_ := c.u8 2, at_ := c.u64 8, cmd := some c, late := decide (c.u8 2 = 2) && decide (c.u64 8 ≤ s.ftNs) })) ∧ Meets 0x0D00 (fun c s => c.u8 1 < testItems (c.u8 0) ∧ c.u8 2 ≤ 2 ∧ (c.u8 2 = 2 → c.u64 8 ≤ s.ftNs + 600000000000) ∧
        s.runStarts (r c s) = true)) ∧
    (∃ r : HostCmd → State → Run, ((∀ c s, r c s = { retRun (c.u8 1) with isLoop := true, kind := c.u8 0, code := c.u8 2, when_ := c.u8 3, at_ := c.u64 8, duration := c.u32 4, driver := c.u8 16, cmd := some c, late := decide (c.u8 3 = 2) && decide (c.u64 8 ≤ s.ftNs) })) ∧ Meets 0x0D01 (fun c s => s.loopOk (c.u8 0) (c.u8 1) (c.u8 2) = true ∧ (c.u8 3 = 1 ∨ c.u8 3 = 2) ∧
        (c.u8 3 = 2 → c.u64 8 ≤ s.ftNs + 600000000000) ∧ 1 ≤ c.u32 4 ∧ c.u32 4 ≤ 60000 ∧ (c.u8 0 = 1 → c.u8 2 = 3 → c.u8 16 ≤ 15) ∧
        (c.u8 0 = 0 → c.u8 2 = 3 → s.partnerAllows (c.u8 1) = true) ∧ s.runStarts (r c s) = false ∧ s.thm.tests.length < 16)) ∧
    (∃ r : HostCmd → State → Run, ((∀ c s, r c s = { retRun (c.u8 1) with isLoop := true, kind := c.u8 0, code := c.u8 2, when_ := c.u8 3, at_ := c.u64 8, duration := c.u32 4, driver := c.u8 16, cmd := some c, late := decide (c.u8 3 = 2) && decide (c.u64 8 ≤ s.ftNs) })) ∧ Meets 0x0D01 (fun c s => s.loopOk (c.u8 0) (c.u8 1) (c.u8 2) = true ∧ c.u8 3 ≤ 2 ∧
        (c.u8 3 = 2 → c.u64 8 ≤ s.ftNs + 600000000000) ∧ 1 ≤ c.u32 4 ∧ c.u32 4 ≤ 60000 ∧ (c.u8 0 = 1 → c.u8 2 = 3 → c.u8 16 ≤ 15) ∧
        (c.u8 0 = 0 → c.u8 2 = 3 → s.partnerAllows (c.u8 1) = true) ∧ s.runStarts (r c s) = true)) ∧
    Meets 0x0D02 (fun c _ => c.u8 0 ≤ 15) ∧
    MeetsHost 0x0D03 anyWay (fun c => c.u64 0) ∧
    Meets 0x0D04 (fun c _ => c.u8 0 ≤ 7) :=
  ⟨meets_host (cmd 0x0C09 ([0, 0, 0, 0, 0, 0, 0, 0, 0, 0, 0, 0, 1])) tile (by decide +kernel) (by decide +kernel) (by decide +kernel),
    meets_host (cmd 0x0C09 ([])) tile (by decide +kernel) (by decide +kernel) (by decide +kernel),
    ⟨slotFile 1, ⟨1, true, 0, []⟩, meets_of ({ cmd 0x0C0A (leBytes 8 0 ++ leBytes 4 (slotFile 1).length) with data := slotFile 1 }) (flashy.puts [(.fwuSettingsFormat, 0, 1)]) (by decide +kernel) (by and_intros <;> first | exact rfl | decide +kernel)⟩,
    meets_of (cmd 0x0C0B ([])) flashy (by decide +kernel) (by decide +kernel),
    meets_of (cmd 0x0D40 ([0, 0, 0, 0, 0, 1])) tile (by decide +kernel) (by decide +kernel),
    meets_host (cmd 0x0D41 ([])) tile (by decide +kernel) (by decide +kernel) (by decide +kernel),
    meets_of (cmd 0x0D42 ([])) tile (by decide +kernel) (by decide +kernel),
    ⟨_, fun _ _ => rfl, meets_of (cmd 0x0D00 ([1, 11, 2, 0, 0, 0, 0, 0] ++ leBytes 8 5)) (tile) (by decide +kernel) (by decide +kernel)⟩,
    ⟨_, fun _ _ => rfl, meets_of (cmd 0x0D00 ([1, 11, 0])) (tile) (by decide +kernel) (by decide +kernel)⟩,
    ⟨_, fun _ _ => rfl, meets_of (cmd 0x0D01 ([1, 95, 1, 2] ++ leBytes 4 60000 ++ leBytes 8 5)) (tile) (by decide +kernel) (by decide +kernel)⟩,
    ⟨_, fun _ _ => rfl, meets_of (cmd 0x0D01 ([1, 95, 1, 0] ++ leBytes 4 60000)) (tile) (by decide +kernel) (by decide +kernel)⟩,
    meets_of (cmd 0x0D02 ([])) tile (by decide +kernel) (by decide +kernel),
    meets_host (cmd 0x0D03 ([])) tile (by decide +kernel) trivial (by decide +kernel),
    meets_of (cmd 0x0D04 ([])) tile (by decide +kernel) (by decide +kernel)⟩

/-- Witnesses for PowerResetCommandsComplete. -/
theorem test_witness_power_reset_commands_complete :
    Meets 0x0E00 anyWay ∧
    Meets 0x0E01 (fun c s => c.u8 0 = 4 ∧ (s.inStandby = true ∨ (s.inShow = true ∧ s.boot.leaveShow = true)) ∧ s.roleHolds = true ∧ s.darkTest = false ∧
      s.on .thmShutdownHold = false) ∧
    Meets 0x0E01 (fun c s => c.u8 0 = 3 ∧ s.inShow = true) ∧
    Meets 0x0E01 (fun c s => c.u8 0 = 2 ∧ s.inShow = true) ∧
    Meets 0x0E01 (fun c s => (c.u8 0 = 4 ∧ s.inShow = true ∧ s.boot.leaveShow = false) ∨
      (c.u8 0 = 3 ∧ s.inShow = false ∧ s.inStandby = true) ∨ (c.u8 0 = 2 ∧ s.inShow = false ∧ s.inStandby = false)) ∧
    Meets 0x0E01 (fun c s => c.u8 0 = 2 ∧ s.inShow = false ∧ s.inStandby = true) ∧
    Meets 0x0E01 (fun c s => c.u8 0 = 3 ∧ s.inShow = false ∧ s.inStandby = false ∧ s.roleHolds = true ∧
      (s.boot.reached = 0x1F ∨ s.on .sysRoleActive = true)) ∧
    Meets 0x0F00 anyWay ∧
    Meets 0x0F01 (fun c _ => c.u8 0 ≤ 1) ∧
    Meets 0x0F02 (fun c s => (s.writeBlocks (c.req == .pcie) (c.u32 0) (c.u32 4)).1 = Status.ok) ∧
    Meets 0x0F02 (fun c s => (s.writeBlocks (c.req == .pcie) (c.u32 0) (c.u32 4)).1 = Status.accepted) ∧
    (∃ l, Meets 0x0F03 (fun c s => s.aonBytes (c.u8 0) (c.u16 2) (c.u8 4) = some l)) ∧
    Meets 0x0F04 (fun c _ => c.u8 4 ≠ 0 ∧ c.u8 4 ≤ 32 ∧ c.u8 0 = 0 ∧ 0x20 ≤ c.u16 2 ∧ c.u16 2 + c.u8 4 ≤ 0x40) ∧
    Meets 0x0F04 (fun c _ => c.u8 4 ≠ 0 ∧ c.u8 4 ≤ 32 ∧ c.u8 0 = 1 ∧ 0xC00 ≤ c.u16 2 ∧ c.u16 2 + c.u8 4 ≤ 0x1000) ∧
    Meets 0x0F05 anyWay :=
  ⟨meets_of (cmd 0x0E00 ([])) tile (by decide +kernel) trivial,
    meets_of (cmd 0x0E01 ([4])) able (by decide +kernel) (by decide +kernel),
    meets_of (cmd 0x0E01 ([3])) lit (by decide +kernel) (by decide +kernel),
    meets_of (cmd 0x0E01 ([2])) (lit) (by decide +kernel) (by decide +kernel),
    meets_of (cmd 0x0E01 ([3])) tile (by decide +kernel) (by decide +kernel),
    meets_of (cmd 0x0E01 ([2])) tile (by decide +kernel) (by decide +kernel),
    meets_of (cmd 0x0E01 ([3])) ({ able.puts [(.sysPstate, 0, 2)] with boot := { able.boot with reached := 0x1F } }) (by decide +kernel) (by decide +kernel),
    meets_of (cmd 0x0F00 ([])) tile (by decide +kernel) trivial,
    meets_of (cmd 0x0F01 ([])) tile (by decide +kernel) (by decide +kernel),
    meets_of (cmd 0x0F02 ([])) tile (by decide +kernel) (by decide +kernel),
    meets_of (cmd 0x0F02 (leBytes 4 0x100 ++ leBytes 4 0x100)) lit (by decide +kernel) (by decide +kernel),
    ⟨List.replicate 32 0, meets_of (cmd 0x0F03 ([1, 0, 0xE0, 0x0F, 32])) tile (by decide +kernel) (by decide +kernel)⟩,
    meets_of (cmd 0x0F04 ([0, 0, 0x20, 0, 32])) tile (by decide +kernel) (by decide +kernel),
    meets_of (cmd 0x0F04 ([1, 0, 0xE0, 0x0F, 32])) tile (by decide +kernel) (by decide +kernel),
    meets_of (cmd 0x0F05 ([])) tile (by decide +kernel) trivial⟩

/-- Witnesses for StoppedNodeDoesNothing. -/
theorem test_witness_stopped_node_does_nothing :
    (∃ s : State, s.running = false) :=
  ⟨off, by decide +kernel⟩

/-- Witnesses for BarAccessesComplete. -/
theorem test_witness_bar_accesses_complete :
    (∃ off n v, (n < 4) ∧ Met (.bar0Write off n v) (fun s => s.pcieUp = true)) ∧
    (∃ off v, (off % 4 = 0) ∧ Met (.bar0Write off 4 v) (fun s => s.pcieUp = true)) ∧
    (∃ off v, (off % 4 = 0) ∧ Met (.bar0Write off 8 v) (fun s => s.pcieUp = true)) ∧
    Met .ftNowRead (fun s => s.pcieUp = true) ∧
    (∃ off, (isLowWord off = true) ∧ Met (.lowWordRead off) (fun s => s.pcieUp = true)) ∧
    (∃ v, Met (.cqHeadWrite v) (fun s => s.pcieUp = true ∧ s.mbx.heldFinals = [])) ∧
    (∃ v, Met (.cqHeadWrite v) (fun s => s.pcieUp = true)) ∧
    (∃ i v, (i ≤ 15) ∧ Met (.fraddrWrite i v) (fun s => s.pcieUp = true ∧ s.held 0 = false ∧ s.lockedAt 0x808 = false)) ∧
    (∃ off l csa, Met (.bar4Write off l) (fun s => s.pcieUp = true ∧ s.bar4Csa off l.length = some csa ∧ s.pinned csa l.length = false)) ∧
    (∃ off l csa, Met (.bar4Write off l) (fun s => s.pcieUp = true ∧ s.bar4Csa off l.length = some csa ∧ s.pinned csa l.length = true)) ∧
    (∃ off n csa, Met (.bar4Read off n) (fun s => s.pcieUp = true ∧ s.bar4Csa off n = some csa ∧ s.firstPoison csa n = none)) ∧
    (∃ off n, Met (.bar4Read off n) (fun s => s.pcieUp = true ∧ s.bar4Csa off n = none)) ∧
    Met .diagEventRead (fun s => s.pcieUp = true ∧ s.held 10 = false) ∧
    (∃ off v, (off = 0x1440 ∨ off = 0x1444) ∧ Met (.traceCtrlWrite off v) (fun s => s.pcieUp = true)) :=
  ⟨⟨0, 3, 0, (by decide +kernel), head, by decide +kernel, by decide +kernel⟩,
    ⟨0x7FFC, 1, (by decide +kernel), head, by decide +kernel, by decide +kernel⟩,
    ⟨0x7FF8, 1, (by decide +kernel), head, by decide +kernel, by decide +kernel⟩,
    ⟨head, by decide +kernel, by decide +kernel⟩,
    ⟨0x420, (by decide +kernel), head, by decide +kernel, by decide +kernel⟩,
    ⟨0, head, by decide +kernel, by decide +kernel⟩,
    ⟨0, head, by decide +kernel, by decide +kernel⟩,
    ⟨15, 0, (by decide +kernel), head, by decide +kernel, by decide +kernel⟩,
    ⟨tableEnd, [1], tableEnd, clip, by decide +kernel, by decide +kernel⟩,
    ⟨tableEnd, [1], tableEnd, pinnedClip, by decide +kernel, by decide +kernel⟩,
    ⟨tableEnd, 64, tableEnd, clip, by decide +kernel, by decide +kernel⟩,
    ⟨0, 4, clip, by decide +kernel, by decide +kernel⟩,
    ⟨head, by decide +kernel, by decide +kernel⟩,
    ⟨0x1444, 0, (by decide +kernel), head, by decide +kernel, by decide +kernel⟩⟩

/-- Witnesses for ResetWritesComplete. -/
theorem test_witness_reset_writes_complete :
    (∃ p, (p < 4) ∧ Met (.restart p) (fun s => s.pcieUp = true ∧ s.held (4 + p) = false ∧ s.holderOf 6 = none)) ∧
    (∃ p, (p < 4) ∧ Met (.restart p) (fun s => s.pcieUp = true ∧ s.held (4 + p) = true)) ∧
    (∃ p, (p < 4) ∧ Met (.restart p) (fun s => s.pcieUp = true ∧ s.held (4 + p) = false ∧ s.holderOf 6 ≠ none)) ∧
    (∃ k, (k % 65536 = 0xD96A) ∧ Met (.rstCtrlNode k) (fun s => s.pcieUp = true ∧ s.holderOf 10 = none)) ∧
    (∃ k, (k % 65536 ≠ 0xD96A) ∧ Met (.rstCtrlNode k) (fun s => s.pcieUp = true ∧ s.holderOf 10 = none)) ∧
    (∃ k, (k % 65536 = 0xD96A) ∧ Met (.rstCtrlWarm k) (fun s => s.pcieUp = true ∧ s.holderOf 10 = none)) ∧
    (∃ k, (k % 65536 ≠ 0xD96A) ∧ Met (.rstCtrlWarm k) (fun s => s.pcieUp = true ∧ s.holderOf 10 = none)) ∧
    (∃ v, Met (.rstBlockWrite v) (fun s => s.pcieUp = true ∧ s.holderOf 10 = none)) ∧
    (∃ t, Met .warmReset (fun s => s.boot.rstDue = some (1, t) ∧ t ≤ s.clk)) ∧
    (∃ t, Met .warmReset (fun s => s.boot.rstDue = some (1, t) ∧ s.clk < t)) :=
  ⟨⟨3, (by decide +kernel), head, by decide +kernel, by decide +kernel⟩,
    ⟨3, (by decide +kernel), head.puts [(.rstBlock, 0, 0x80)], by decide +kernel, by decide +kernel⟩,
    ⟨3, (by decide +kernel), { head with mbx := { head.mbx with sessions := [⟨256, 0x40, .pcie, 0, false⟩] } }, by decide +kernel, by decide +kernel⟩,
    ⟨0xD96A, (by decide +kernel), head, by decide +kernel, by decide +kernel⟩,
    ⟨0, (by decide +kernel), head, by decide +kernel, by decide +kernel⟩,
    ⟨0xD96A, (by decide +kernel), head, by decide +kernel, by decide +kernel⟩,
    ⟨0, (by decide +kernel), head, by decide +kernel, by decide +kernel⟩,
    ⟨0, head, by decide +kernel, by decide +kernel⟩,
    ⟨5, { head with clk := 5, boot := { head.boot with rstDue := some (1, 5) } }, by decide +kernel, by decide +kernel⟩,
    ⟨5, { head with clk := 4, boot := { head.boot with rstDue := some (1, 5) } }, by decide +kernel, by decide +kernel⟩⟩

/-- Witnesses for DoorbellPostsSlots. -/
theorem test_witness_doorbell_posts_slots :
    (∃ m, Met (.mbxDoorbell m) (fun s => s.held 2 = false ∧ s.mbx.pathsUp = true ∧ (s.isHead = true ∨ s.inMin = true) ∧ s.fw.restartAt = none)) ∧
    (∃ (n : Nat) (s : State), n < 32 ∧ bit (s.r .mbxBusy) n = false) ∧
    (∃ (n : Nat) (s : State), bit (s.r .mbxBusy) n = true) ∧
    (∃ m, Met (.mbxDoorbell m) (fun s => s.held 2 = false ∧ s.mbx.pathsUp = true ∧ (s.isHead = true ∨ s.inMin = true) ∧ s.fw.restartAt ≠ none)) ∧
    (∃ c s, Direct c.opcode c s ∧ opcodeNamed c.opcode = false ∧ s.mbx.posted = [c]) ∧
    (∃ s : State, (∀ c ∈ s.mbx.posted, opcodeNamed c.opcode = true) ∧ s.mbx.posted ≠ []) :=
  ⟨⟨1, head, by decide +kernel, by decide +kernel⟩,
    ⟨31, tile, by decide, by decide +kernel⟩,
    ⟨31, tile.puts [(.mbxBusy, 0, 2 ^ 31)], by decide +kernel⟩,
    ⟨1, { head with fw := { head.fw with restartAt := some 0 } }, by decide +kernel, by decide +kernel⟩,
    ⟨slotted (cmd 0x0008 []), posting (slotted (cmd 0x0008 [])), direct_of (by decide +kernel), by decide, rfl⟩,
    ⟨posting (cmd 2 []), by decide +kernel, by decide +kernel⟩⟩

/-- Witnesses for SupplyAndResetEventsComplete. -/
theorem test_witness_supply_and_reset_events_complete :
    (∃ s : State, s.boot.supply = .off) ∧
    (∃ s : State, s.boot.supply ≠ .off) ∧
    (∃ s : State, s.boot.supply = .on) ∧
    (∃ s : State, s.boot.supply = .backup) ∧
    (∃ s : State, s.boot.supply = .on ∧ s.boot.vbakUp = true) ∧
    (∃ s : State, s.boot.supply = .on ∧ s.boot.vbakUp = false) ∧
    (∃ s : State, s.boot.supply ≠ .on) ∧
    (∃ also, Met (.brownOutReset also) (fun _ => True)) ∧
    (∃ (low : Nat) (s : State), 1000 ≤ low ∧ s.boot.supply = .on ∧ s.on .tstBscan = false) ∧
    (∃ low : Nat, low < 1000) ∧
    Met (.watchdogExpire false) (fun s => s.on .rstWdEn = true ∧ s.thm.cpHalted = false ∧
    s.boot.serviced + 1000000 * s.r .rstWdMs ≤ s.clk) ∧
    Met (.watchdogExpire true) (fun _ => True) ∧
    Met (.lockupReset .noRetire) (fun s => s.thm.cpHalted = false) ∧
    (∃ cause, (cause ≠ .noRetire) ∧ Met (.lockupReset cause) (fun _ => True)) ∧
    (∃ s : State, s.boot.supply ≠ .on ∧ Instr.powerOnResetAssert ∉ s.sameCycle) ∧
    (∃ s : State, s.boot.supply = .on) ∧
    (∃ s : State, Instr.powerOnResetAssert ∈ s.sameCycle) :=
  ⟨⟨off, rfl⟩,
    ⟨tile, by decide +kernel⟩,
    ⟨tile, rfl⟩,
    ⟨{ off with boot := { off.boot with supply := .backup } }, rfl⟩,
    ⟨State.reset, rfl, rfl⟩,
    ⟨{ tile with boot := { tile.boot with vbakUp := false } }, rfl, rfl⟩,
    ⟨off, by decide +kernel⟩,
    ⟨0, tile, by decide +kernel, by decide +kernel⟩,
    ⟨1000, tile, by decide, rfl, by decide +kernel⟩,
    ⟨999, by decide⟩,
    ⟨{ able with clk := 10 ^ 12 }, by decide +kernel, by decide +kernel⟩,
    ⟨tile, by decide +kernel, by decide +kernel⟩,
    ⟨tile, by decide +kernel, by decide +kernel⟩,
    ⟨.doubleFault, (by decide +kernel), tile, by decide +kernel, by decide +kernel⟩,
    ⟨off, by decide +kernel, by decide +kernel⟩,
    ⟨tile, rfl⟩,
    ⟨{ tile with pending := [.powerOnResetAssert] }, by decide +kernel⟩⟩

/-- Witnesses for ClockAndBootEventsComplete. -/
theorem test_witness_clock_and_boot_events_complete :
    (∃ d, (d < 39) ∧ Met (.clockFailureReset d) (fun s => s.good d = true)) ∧
    (∃ d, Met (.clockFailureReset d) (fun s => s.good d = false)) ∧
    (∃ b, (b < 14) ∧ Met (.pendingReleaseComplete b) (fun s => bit (s.r .rstPending) b = true ∧ s.blockRuns b = true)) ∧
    (∃ b t, Met (.pendingReleaseTimeout b) (fun s => s.boot.pendings.find? (fun p => p.1 = b) = some (b, t) ∧ t + 1000000 ≤ s.clk ∧
      s.blockRuns b = false ∧ s.stillMissing b ≠ [])) ∧
    (∃ b t, Met (.pendingReleaseTimeout b) (fun s => s.boot.pendings.find? (fun p => p.1 = b) = some (b, t) ∧ t + 1000000 ≤ s.clk ∧
      s.blockRuns b = false ∧ s.stillMissing b = [])) ∧
    (∃ b t, Met (.pendingReleaseTimeout b) (fun s => s.boot.pendings.find? (fun p => p.1 = b) = some (b, t) ∧ t + 1000000 ≤ s.clk ∧
      s.blockRuns b = true)) ∧
    (∃ d, (d < 20) ∧ Met (.clockSourceRetry d true) (fun s => s.good d = false ∧ s.retryDue d = true)) ∧
    (∃ d, (d < 20) ∧ Met (.clockSourceRetry d false) (fun s => s.retryDue d = true)) ∧
    (∃ d g, (d ≠ 39) ∧ Met (.clockSourceRetry d g) (fun s => s.retryDue d = false)) ∧
    (∃ n f, (railLowFlag n = some f) ∧ Met (.railLow n) (fun _ => True)) ∧
    (∃ b n, (n < 1000) ∧ Met (.pwrGoodChange b n) (fun _ => True)) ∧
    (∃ n, (1000 ≤ n) ∧ Met (.pwrGoodChange true n) (fun s => s.isHead = false)) ∧
    (∃ n, (1000 ≤ n) ∧ Met (.pwrGoodChange false n) (fun s => s.isHead = false)) ∧
    (∃ n, (1000 ≤ n) ∧ Met (.pwrGoodChange true n) (fun s => s.isHead = true)) ∧
    (∃ n, (1000 ≤ n) ∧ Met (.pwrGoodChange false n) (fun s => s.isHead = true)) ∧
    Met (.otpLoadDone true) (fun s => s.boot.otpLoading = true ∧ s.boot.otpAt + 327680 ≤ s.clk ∧ s.sameCycle.any s.resetBy = false) ∧
    Met (.otpLoadDone false) (fun s => s.boot.otpLoading = true ∧ s.boot.otpCopy = 0 ∧ s.boot.otpAt + 327680 ≤ s.clk ∧
      s.sameCycle.any s.resetBy = false) ∧
    (∃ ok, Met (.otpLoadDone ok) (fun s => s.sameCycle.any s.resetBy = true)) ∧
    (∃ n w, (n ≠ 4) ∧ Met (.bootStepEnd n none w) (fun s => s.atStep n = true ∧ s.imageRefused n = false ∧ s.stepHolds n = true)) ∧
    (∃ n w, (n ≠ 4) ∧ Met (.bootStepEnd n none w) (fun s => s.atStep n = true ∧ s.imageRefused n = true)) ∧
    (∃ n r w, (n ≠ 4) ∧ Met (.bootStepEnd n (some r) w) (fun s => s.atStep n = true)) ∧
    (∃ n l, (stepLimit n = some l) ∧ Met (.bootStepTimeout n) (fun s => s.atStep n = true ∧ s.boot.stepAt + l ≤ s.clk)) ∧
    (∃ n l, (stepLimit n = some l) ∧ Met (.bootStepTimeout n) (fun s => s.clk < s.boot.stepAt + l)) ∧
    Met .bootStepRetry (fun s => s.boot.retrying = true ∧ s.boot.stepAt + 1000000000 ≤ s.clk) ∧
    (∃ t, Met .autoShowEnter (fun s => s.on .rstAutoShow = true ∧ s.time.lockedSince = some t ∧ t + 100000000 ≤ s.clk ∧
      s.boot.standbySince + 100000000 ≤ s.clk ∧ s.showNow = true)) ∧
    (∃ t, Met .roleSetLost (fun s => s.noteRole.boot.roleLost = some t ∧ s.noteRole.inStandby = true ∧ t + 1000000000 ≤ s.noteRole.clk)) :=
  ⟨⟨38, (by decide +kernel), flashy, by decide +kernel, by decide +kernel⟩,
    ⟨38, tile, by decide +kernel, by decide +kernel⟩,
    ⟨13, (by decide +kernel), able.puts [(.rstPending, 0, 0x2000)], by decide +kernel, by decide +kernel⟩,
    ⟨9, 0, { tile with clk := 1000000, boot := { tile.boot with pendings := [(9, 0)] } }, by decide +kernel, by decide +kernel⟩,
    ⟨9, 0, { tile with clk := 1000000, boot := { tile.boot with pendings := [(9, 0)] }, pending := [.clockSourceRetry 19 true] }, by decide +kernel, by decide +kernel⟩,
    ⟨9, 0, { able with clk := 1000000, boot := { able.boot with pendings := [(9, 0)] } }, by decide +kernel, by decide +kernel⟩,
    ⟨19, (by decide +kernel), tile, by decide +kernel, by decide +kernel⟩,
    ⟨19, (by decide +kernel), tile, by decide +kernel, by decide +kernel⟩,
    ⟨19, true, (by decide +kernel), { tile with boot := { tile.boot with tries := [(19, 0)] } }, by decide +kernel, by decide +kernel⟩,
    ⟨3, .sysVdd33Low, (by decide +kernel), tile, by decide +kernel, by decide +kernel⟩,
    ⟨true, 999, (by decide +kernel), tile, by decide +kernel, by decide +kernel⟩,
    ⟨1000, (by decide +kernel), tile, by decide +kernel, by decide +kernel⟩,
    ⟨1000, (by decide +kernel), tile, by decide +kernel, by decide +kernel⟩,
    ⟨1000, (by decide +kernel), head, by decide +kernel, by decide +kernel⟩,
    ⟨1000, (by decide +kernel), head, by decide +kernel, by decide +kernel⟩,
    ⟨{ tile with clk := 327680, boot := { tile.boot with otpLoading := true } }, by decide +kernel, by decide +kernel⟩,
    ⟨{ tile with clk := 327680, boot := { tile.boot with otpLoading := true } }, by decide +kernel, by decide +kernel⟩,
    ⟨true, { tile with pending := [.powerOnResetAssert] }, by decide +kernel, by decide +kernel⟩,
    ⟨3, 0, (by decide +kernel), tile.puts [(.aonBootStep, 0, 3)], by decide +kernel, by decide +kernel⟩,
    ⟨9, 0, (by decide +kernel), { tile.puts [(.aonBootStep, 0, 9)] with fw := { tile.fw with flash := mwrite erased [] (bankBase 0) [0x4D, 0x46, 0x57, 0x49] } }, by decide +kernel, by decide +kernel⟩,
    ⟨3, 1, 0, (by decide +kernel), tile.puts [(.aonBootStep, 0, 3)], by decide +kernel, by decide +kernel⟩,
    ⟨3, 1000000, (by decide +kernel), { tile.puts [(.aonBootStep, 0, 3)] with clk := 1000000 }, by decide +kernel, by decide +kernel⟩,
    ⟨3, 1000000, (by decide +kernel), tile, by decide +kernel, by decide +kernel⟩,
    ⟨{ tile with clk := 1000000000, boot := { tile.boot with retrying := true } }, by decide +kernel, by decide +kernel⟩,
    ⟨0, { able.puts [(.rstAutoShow, 0, 1)] with clk := 100000000, time := { able.time with lockedSince := some 0 } }, by decide +kernel, by decide +kernel⟩,
    ⟨0, { tile with clk := 1000000000, boot := { tile.boot with roleLost := some 0 } }, by decide +kernel, by decide +kernel⟩⟩

/-- Witnesses for NodeResetKeeps. -/
theorem test_witness_node_reset_keeps :
    (∃ s : State, s.boot.resetAt = some s.clk ∧ s.r .rstCause = 0x20) ∧
    (∃ s : State, s.boot.resetAt = some s.clk ∧ s.r .rstCause ≠ 0x20) ∧
    (∃ s : State, s.boot.resetAt ≠ some s.clk) :=
  ⟨⟨{ tile.puts [(.rstCause, 0, 0x20)] with boot := { tile.boot with resetAt := some 0 } }, by decide +kernel⟩,
    ⟨{ tile with boot := { tile.boot with resetAt := some 0 } }, by decide +kernel⟩,
    ⟨tile, by decide +kernel⟩⟩

/-- Witnesses for TimeMessagesComplete. -/
theorem test_witness_time_messages_complete :
    Met .timeSyncSend (fun s => s.on .ftIsRoot = true) ∧
    Met .timeSyncSend (fun s => ¬ (s.on .ftIsRoot = true)) ∧
    (∃ p k tin tout, (k.payload.length = 32) ∧ Met (.timeSyncRx p k tin tout) (fun s => s.on .ftIsRoot = false)) ∧
    (∃ tout, Met (.pdelayReqSend tout) (fun _ => True)) ∧
    (∃ p k tin tout, Met (.pdelayReqRx p k tin tout) (fun _ => True)) ∧
    (∃ p k tin seq t1, Met (.pdelayRespRx p k tin) (fun s => (s.time.ports.getD p State.timePort0).asked = some (seq, t1) ∧ seq = k.u16 0)) ∧
    (∃ ptp dom, Met (.ptpMessageRx ptp dom) (fun s => s.isHead = true ∧ dom = s.time.ptpDomain ∧ s.held 3 = false ∧ s.on .ftIsRoot = true ∧
      s.r .ftSource = 2)) ∧
    (∃ ptp dom, Met (.ptpMessageRx ptp dom) (fun s => s.isHead = true ∧ dom = s.time.ptpDomain ∧ s.held 3 = false ∧ s.on .ftIsRoot = false ∧
      s.rootSource = 2)) ∧
    (∃ ptp dom, Met (.ptpMessageRx ptp dom) (fun s => s.isHead = false ∨ dom ≠ s.time.ptpDomain ∨ s.held 3 = true)) :=
  ⟨⟨root, by decide +kernel, by decide +kernel⟩,
    ⟨tile, by decide +kernel, by decide +kernel⟩,
    ⟨3, pkt 1 (List.replicate 32 0), 0, [], (by decide +kernel), head, by decide +kernel, by decide +kernel⟩,
    ⟨[], tile, by decide +kernel, by decide +kernel⟩,
    ⟨3, pkt 1 [], 0, 0, tile, by decide +kernel, by decide +kernel⟩,
    ⟨3, pkt 1 [7, 0], 0, 7, 0, tile.setTimePort 3 (fun x => { x with asked := some (7, 0) }), by decide +kernel, by decide +kernel⟩,
    ⟨0, 127, root.puts [(.ftSource, 0, 2)], by decide +kernel, by decide +kernel⟩,
    ⟨0, 127, { head with time := { head.time with rootId := 8192 } }, by decide +kernel, by decide +kernel⟩,
    ⟨0, 0, tile, by decide +kernel, by decide +kernel⟩⟩

/-- Witnesses for TimeLimitsComplete. -/
theorem test_witness_time_limits_complete :
    (∃ q, Met .parentTimeout (fun s => s.on .ftIsRoot = false ∧ s.hasParent = true ∧
      (s.time.ports.getD (s.r .ftParentPort) State.timePort0).lastSync = none ∧
      s.bestPort ((List.range 4).filter (· ≠ s.r .ftParentPort)) = some q)) ∧
    (∃ t, Met .parentTimeout (fun s => s.on .ftIsRoot = false ∧ s.hasParent = true ∧
      (s.time.ports.getD (s.r .ftParentPort) State.timePort0).lastSync = some t ∧ t + 1000000 ≤ s.clk ∧
      s.bestPort ((List.range 4).filter (· ≠ s.r .ftParentPort)) = none ∧ s.r .ftLockState ≠ 0)) ∧
    (∃ t, Met .parentTimeout (fun s => (s.time.ports.getD (s.r .ftParentPort) State.timePort0).lastSync = some t ∧ s.clk < t + 1000000)) ∧
    Met .refLost (fun s => s.on .ftIsRoot = true ∧ (s.r .ftSource = 2 ∨ s.r .ftSource = 3)) ∧
    Met .refLost (fun s => s.on .ftIsRoot = false ∨ (s.r .ftSource ≠ 2 ∧ s.r .ftSource ≠ 3)) ∧
    Met .holdLimitExpire (fun s => ∃ t, s.time.holdSince = some t ∧ s.on .ftIsRoot = false ∧
    t + (s.r .ftTakeoverAllow + s.r .ftHoldLimit) * 1000000 < s.clk) ∧
    Met .holdLimitExpire (fun s => ¬ (∃ t, s.time.holdSince = some t ∧ s.on .ftIsRoot = false ∧
    t + (s.r .ftTakeoverAllow + s.r .ftHoldLimit) * 1000000 < s.clk)) ∧
    Met .alignLimitExpire (fun s => ∃ t, s.time.alignSince = some t ∧ t + s.r .ftHoldLimit * 1000000 < s.clk) ∧
    Met .alignLimitExpire (fun s => ¬ (∃ t, s.time.alignSince = some t ∧ t + s.r .ftHoldLimit * 1000000 < s.clk)) ∧
    Met .timeReturnShow (fun s => ∃ t, s.time.lockedSince = some t ∧ s.time.returnShow = true ∧ s.inStandby = true ∧ t + 100000000 ≤ s.clk) ∧
    Met .timeReturnShow (fun s => ¬ (∃ t, s.time.lockedSince = some t ∧ s.time.returnShow = true ∧ s.inStandby = true ∧ t + 100000000 ≤ s.clk)) ∧
    (∃ t, Met .refDisagreeTimer (fun s => s.time.disagreeSince = some t ∧ s.isHead = true ∧ s.on .ftIsRoot = false ∧ t + 1000000000 ≤ s.clk)) ∧
    (∃ t, Met .refDisagreeTimer (fun s => s.time.disagreeSince = some t ∧ (s.on .ftIsRoot = true ∨ s.clk < t + 1000000000))) :=
  ⟨⟨1, ((tile.puts [(.ftHops, 0, 1)]).setTimePort 1 (fun x => { x with hops := 2, lastSync := some 0 })), by decide +kernel, by decide +kernel⟩,
    ⟨0, { (tile.puts [(.ftHops, 0, 1), (.ftLockState, 0, 2)]).setTimePort 0 (fun x => { x with lastSync := some 0 }) with clk := 1000000 }, by decide +kernel, by decide +kernel⟩,
    ⟨0, tile.setTimePort 0 (fun x => { x with lastSync := some 0 }), by decide +kernel, by decide +kernel⟩,
    ⟨root.puts [(.ftSource, 0, 3)], by decide +kernel, by decide +kernel⟩,
    ⟨tile, by decide +kernel, by decide +kernel⟩,
    ⟨{ tile with clk := 10 ^ 12, time := { tile.time with holdSince := some 0 } }, by decide +kernel, ⟨0, by decide +kernel⟩⟩,
    ⟨tile, by decide +kernel, by rintro ⟨t, h, -⟩; cases h⟩,
    ⟨{ tile with clk := 10 ^ 12, time := { tile.time with alignSince := some 0 } }, by decide +kernel, ⟨0, by decide +kernel⟩⟩,
    ⟨tile, by decide +kernel, by rintro ⟨t, h, -⟩; cases h⟩,
    ⟨{ tile with clk := 100000000, time := { tile.time with lockedSince := some 0, returnShow := true } }, by decide +kernel, ⟨0, by decide +kernel⟩⟩,
    ⟨tile, by decide +kernel, by rintro ⟨t, h, -⟩; cases h⟩,
    ⟨0, { head with clk := 1000000000, time := { head.time with disagreeSince := some 0 } }, by decide +kernel, by decide +kernel⟩,
    ⟨0, { tile with time := { tile.time with disagreeSince := some 0 } }, by decide +kernel, by decide +kernel⟩⟩

/-- Witnesses for FrameEventsComplete. -/
theorem test_witness_frame_events_complete :
    Met .ftTick (fun _ => True) ∧
    Met .frameBoundary (fun s => s.frame? = none) ∧
    (∃ f, Met .frameBoundary (fun s => s.frame? = some f ∧ s.lay.receiving = f + 1)) ∧
    (∃ f, Met .frameBoundary (fun s => s.frame? = some f ∧ s.lay.receiving ≠ f + 1)) ∧
    (∃ f, Met .latchPoint (fun s => s.lay.receiving = f ∧ (f = 0 ∨ s.frame? ≠ some (f - 1) ∨ s.ftNs < s.latch f ∨ s.lay.latched = f + 1))) ∧
    (∃ f, Met .latchPoint (fun s => s.lay.receiving = f + 1 ∧ s.frame? = some f ∧ s.latch (f + 1) ≤ s.ftNs ∧ s.lay.latched ≠ f + 2)) :=
  ⟨⟨tile, by decide +kernel, by decide +kernel⟩,
    ⟨tile.puts [(.ftAnchorFt, 0, 5)], by decide +kernel, by decide +kernel⟩,
    ⟨0, { tile with lay := { tile.lay with receiving := 1 } }, by decide +kernel, by decide +kernel⟩,
    ⟨0, tile, by decide +kernel, by decide +kernel⟩,
    ⟨0, tile, by decide +kernel, by decide +kernel⟩,
    ⟨0, { tile with lay := { tile.lay with receiving := 1 }, time := { tile.time with ft := 16602666 * 2 ^ 32 } }, by decide +kernel, by decide +kernel⟩⟩

/-- Witnesses for GenlockShutterEventsComplete. -/
theorem test_witness_genlock_shutter_events_complete :
    (∃ n rising held half, (n ≤ 3) ∧ Met (.genlockEdge n rising held half) (fun s => s.on .genEnable n = true ∧ rising ≠ s.on .genFalling n ∧ held < s.r .genFilter n)) ∧
    (∃ n rising held half, (n ≤ 3) ∧ Met (.genlockEdge n rising held half) (fun s => s.on .genEnable n = true ∧ rising ≠ s.on .genFalling n ∧ s.r .genFilter n ≤ held)) ∧
    (∃ n rising held half, Met (.genlockEdge n rising held half) (fun s => 3 < n ∨ s.on .genEnable n = false ∨ rising = s.on .genFalling n)) ∧
    (∃ n, (n ≤ 3) ∧ Met (.genlockMissed n) (fun s => s.on .genEnable n = true ∧ (s.genlock n).last ≠ none ∧ s.r .genPeriod n ≠ 0 ∧
      (s.genlock n).from_ + 3 * s.r .genPeriod n < 2 * s.ftNs)) ∧
    (∃ n, (n ≤ 3) ∧ Met (.genlockMissed n) (fun s => ¬ (s.on .genEnable n = true ∧ (s.genlock n).last ≠ none ∧ s.r .genPeriod n ≠ 0 ∧
      (s.genlock n).from_ + 3 * s.r .genPeriod n < 2 * s.ftNs))) ∧
    (∃ n f edge, (n ≤ 3) ∧ Met (.shutterAssert n) (fun s => s.shutterLive n = true ∧ s.shutterEdge n = some (f, edge) ∧
      (s.shutterOf n).lastFrame ≠ some f)) ∧
    (∃ n f edge, Met (.shutterAssert n) (fun s => s.shutterLive n = false ∨
    (s.shutterEdge n = some (f, edge) ∧ (s.shutterOf n).lastFrame = some f))) ∧
    (∃ n, Met (.shutterDeassert n) (fun s => (s.shutterOf n).asserted = true ∧ ((s.shutterOf n).endNs ≤ s.ftNs ∨ s.shutterLive n = false))) ∧
    (∃ n, Met (.shutterDeassert n) (fun s => ¬ ((s.shutterOf n).asserted = true ∧ ((s.shutterOf n).endNs ≤ s.ftNs ∨ s.shutterLive n = false)))) :=
  ⟨⟨3, true, 9, 0, (by decide +kernel), head.puts [(.genEnable, 3, 1), (.genFilter, 3, 10)], by decide +kernel, by decide +kernel⟩,
    ⟨3, true, 10, 0, (by decide +kernel), head.puts [(.genEnable, 3, 1), (.genFilter, 3, 10)], by decide +kernel, by decide +kernel⟩,
    ⟨4, true, 0, 0, tile, by decide +kernel, by decide +kernel⟩,
    ⟨3, (by decide +kernel), { (head.puts [(.genEnable, 3, 1), (.genPeriod, 3, 10)]).setGenlock 3 (fun x => { x with last := some 0 }) with time := { head.time with ft := 16 * 2 ^ 32 } }, by decide +kernel, by decide +kernel⟩,
    ⟨3, (by decide +kernel), tile, by decide +kernel, by decide +kernel⟩,
    ⟨3, 0, 0, (by decide +kernel), { tile.puts [(.shuEnable, 3, 1), (.shuStandby, 3, 1), (.ftLockState, 0, 2), (.winEnable, 0, 1)] with scn := { tile.scn with highZ := false } }, by decide +kernel, by decide +kernel⟩,
    ⟨3, 0, 0, tile, by decide +kernel, by decide +kernel⟩,
    ⟨3, tile.setShutter 3 (fun x => { x with asserted := true }), by decide +kernel, by decide +kernel⟩,
    ⟨3, tile, by decide +kernel, by decide +kernel⟩⟩

/-- Witnesses for IngestEventsComplete. -/
theorem test_witness_ingest_events_complete :
    (∃ p l, Met (.dpFrameComplete p l) (fun s => s.isHead = true ∧ s.held 0 = false ∧ (s.ring p).handle ≠ 0 ∧ (s.ring p).phy = false ∧
      s.on .dprVideoValid p = true ∧ (s.ring p).writing = some 0 ∧ 0 < (s.ring p).bufs ∧
      s.clipOk (s.ring p).csa (frameBytes (s.r .dprHActive p) (s.r .dprVActive p) (s.r .dprFormat p)) = true)) ∧
    (∃ p l, Met (.dpFrameComplete p l) (fun s => s.isHead = true ∧ s.held 0 = false ∧ (s.ring p).handle ≠ 0 ∧ (s.ring p).phy = false ∧
      s.on .dprVideoValid p = true ∧ (s.ring p).writing = some 0 ∧ 0 < (s.ring p).bufs ∧
      s.clipOk (s.ring p).csa (frameBytes (s.r .dprHActive p) (s.r .dprVActive p) (s.r .dprFormat p)) = false)) ∧
    (∃ p l, Met (.dpFrameComplete p l) (fun s => s.isHead = true ∧ s.held 0 = false ∧ (s.ring p).handle ≠ 0 ∧ (s.ring p).phy = false ∧
      s.on .dprVideoValid p = true ∧ (s.ring p).writing = some (s.ring p).bufs)) ∧
    (∃ p m, Met (.dpModeReceived p m) (fun s => s.isHead = true ∧ s.held 0 = false ∧ (s.ring p).phy = false ∧
      modeOk (s.ing.dpcd.getD p State.dpcd0) m = false)) ∧
    (∃ p m, Met (.dpModeReceived p m) (fun s => s.isHead = true ∧ s.held 0 = false ∧ (s.ring p).phy = false ∧
      modeOk (s.ing.dpcd.getD p State.dpcd0) m = true)) ∧
    (∃ p, Met (.dpLinkLoss p true) (fun s => s.isHead = true ∧ s.held 0 = false)) ∧
    (∃ p, Met (.dpLinkLoss p false) (fun s => s.isHead = true ∧ s.held 0 = false)) ∧
    (∃ p, Met (.dpHoldExpire p) (fun s => ∃ t, (s.ring p).lostSince = some t ∧ t + s.r .dprDpHold p * 1000000 ≤ s.clk ∧
    s.twinVideo p = false)) ∧
    (∃ p, Met (.dpHoldExpire p) (fun s => ¬ (∃ t, (s.ring p).lostSince = some t ∧ t + s.r .dprDpHold p * 1000000 ≤ s.clk ∧
    s.twinVideo p = false))) ∧
    Met .sendWindowOpen (fun s => s.isHead = true ∧ s.inMin = false ∧ s.held 0 = false ∧ s.on .redHolder = true) ∧
    Met .sendWindowOpen (fun s => ¬ (s.isHead = true ∧ s.inMin = false ∧ s.held 0 = false ∧ s.on .redHolder = true)) ∧
    (∃ i, (i ≤ 15) ∧ Met (.lineSlot i) (fun s => s.on .ingSending i = true ∧ s.held 0 = false ∧ s.ftNs < s.sendEnd (s.stream i).frame ∧
      pacedAt (s.stream i).opened (s.sendEnd (s.stream i).frame) (s.stream i).slots (s.stream i).total ≤ s.ftNs)) ∧
    (∃ i, (i ≤ 15) ∧ Met (.lineSlot i) (fun s => s.on .ingSending i = true ∧ s.held 0 = false ∧ s.sendEnd (s.stream i).frame ≤ s.ftNs)) ∧
    (∃ i, Met (.lineSlot i) (fun s => 15 < i ∨ s.on .ingSending i = false ∨ s.held 0 = true)) ∧
    (∃ i f, (i ≤ 15) ∧ Met (.fraddrLatch i) (fun s => s.isHead = true ∧ s.frame? = some f ∧ (s.stream i).latchPast ≠ f + 1 ∧
      s.latchPoint i f ≤ s.ftNs ∧ (s.stream i).stagedPlay = none ∧ (s.stream i).stagedAddr = none)) ∧
    (∃ i f a, (i ≤ 15) ∧ Met (.fraddrLatch i) (fun s => s.isHead = true ∧ s.frame? = some f ∧ (s.stream i).latchPast ≠ f + 1 ∧
      s.latchPoint i f ≤ s.ftNs ∧ (s.stream i).stagedPlay = none ∧ (s.stream i).stagedAddr = some a ∧ a ≠ (s.stream i).latched)) :=
  ⟨⟨3, [1], (clip.puts [(.dprVideoValid, 3, 1)]).setRing 3 (fun r => { r with handle := 1, csa := 2 * tableEnd, bufs := 3, writing := some 0 }), by decide +kernel, by decide +kernel⟩,
    ⟨3, [1], (head.puts [(.dprVideoValid, 3, 1)]).setRing 3 (fun r => { r with handle := 1, bufs := 3, writing := some 0 }), by decide +kernel, by decide +kernel⟩,
    ⟨3, [1], (head.puts [(.dprVideoValid, 3, 1)]).setRing 3 (fun r => { r with handle := 1, bufs := 3, writing := some 3 }), by decide +kernel, by decide +kernel⟩,
    ⟨3, ⟨0, 0, 0, 0, 0, 0, 0, 0, false⟩, head, by decide +kernel, by decide +kernel⟩,
    ⟨3, ⟨4, 3, 7680, 4320, 3, 0, 2000000000, 240, true⟩, head, by decide +kernel, by decide +kernel⟩,
    ⟨3, head, by decide +kernel, by decide +kernel⟩,
    ⟨3, head, by decide +kernel, by decide +kernel⟩,
    ⟨3, { (head.puts [(.dprVideoValid, 3, 1)]).setRing 3 (fun r => { r with lostSince := some 0 }) with clk := 10 ^ 12 }, by decide +kernel, ⟨0, by decide +kernel⟩⟩,
    ⟨3, tile, by decide +kernel, by rintro ⟨t, h, -⟩; cases h⟩,
    ⟨head, by decide +kernel, by decide +kernel⟩,
    ⟨tile, by decide +kernel, by decide +kernel⟩,
    ⟨15, (by decide +kernel), sending, by decide +kernel, by decide +kernel⟩,
    ⟨15, (by decide +kernel), setAt sending (10 ^ 9), by decide +kernel, by decide +kernel⟩,
    ⟨16, head, by decide +kernel, by decide +kernel⟩,
    ⟨15, 0, (by decide +kernel), setAt sending (sending.latchPoint 15 0), by decide +kernel, by decide +kernel⟩,
    ⟨15, 0, 4096, (by decide +kernel), (setAt sending (sending.latchPoint 15 0)).setStream 15 (fun x => { x with stagedAddr := some 4096 }), by decide +kernel, by decide +kernel⟩⟩

/-- Witnesses for ClipStoreEventsComplete. -/
theorem test_witness_clip_store_events_complete :
    (∃ l size, (l ≤ 1) ∧ Met (.cxlLinkUp l true false size true) (fun s => s.isHead = true ∧ s.held 1 = false)) ∧
    (∃ l size, (l ≤ 1) ∧ Met (.cxlLinkUp l true false size false) (fun s => s.isHead = true ∧ s.held 1 = false)) ∧
    (∃ l type3 switched size ok, (l ≤ 1) ∧ ((type3 = false ∨ switched = true)) ∧ Met (.cxlLinkUp l type3 switched size ok) (fun s => s.isHead = true ∧ s.held 1 = false)) ∧
    (∃ l err, (l ≤ 1) ∧ Met (.cxlLinkDown l err) (fun s => s.isHead = true)) ∧
    (∃ l rs n r, (l ≤ 1) ∧ Met (.arbiterGrant l rs n) (fun s => s.isHead = true ∧ s.held 1 = false ∧
      (s.arb l).burst = none ∧ (s.arb l).cut = none ∧ rotate (s.arb l).pointer rs = some r)) ∧
    (∃ l rs n b, (l ≤ 1) ∧ (rs.contains .str = true) ∧ Met (.arbiterGrant l rs n) (fun s => s.isHead = true ∧ s.held 1 = false ∧
      (s.arb l).burst = some b ∧ b.req ≠ .str ∧ b.guarded = false ∧ s.strUrgent = true)) ∧
    (∃ l rs n b, (l ≤ 1) ∧ (rs.contains .str = true) ∧ Met (.arbiterGrant l rs n) (fun s => s.isHead = true ∧ s.held 1 = false ∧
      (s.arb l).burst = some b ∧ b.req ≠ .str ∧ b.guarded = true ∧ s.strUrgent = true)) ∧
    (∃ l rs n b, (l ≤ 1) ∧ (rs.contains .str = true) ∧ Met (.arbiterGrant l rs n) (fun s => s.isHead = true ∧ s.held 1 = false ∧
      (s.arb l).burst = none ∧ (s.arb l).cut = some (b, s.clk) ∧ b.req ≠ .str ∧ b.guarded = false ∧ s.strUrgent = true)) ∧
    (∃ l rs n b, (l ≤ 1) ∧ (rs.contains .str = false) ∧ Met (.arbiterGrant l rs n) (fun s => s.isHead = true ∧ s.held 1 = false ∧
      (s.arb l).burst = some b)) ∧
    (∃ l n b, Met (.burstCut ⟨l, n⟩) (fun s => (s.arb l).burst = some b ∧ b.req ≠ .str ∧ s.r .cxlHoldLimit ≤ max b.moved n)) ∧
    (∃ l n, Met (.burstCut ⟨l, n⟩) (fun s => (s.arb l).burst = none)) ∧
    (∃ h, Met (.clipFreeComplete h) (fun s => ∃ b, s.bufOf h = some b ∧ b.deferred = true ∧ s.bufPinned b = false)) ∧
    (∃ h, Met (.clipFreeComplete h) (fun s => ¬ (∃ b, s.bufOf h = some b ∧ b.deferred = true ∧ s.bufPinned b = false))) ∧
    (∃ k r b x, Met (.wbDataRx k) (fun s => extend s.ftNs (k.u32 8) = some x ∧ s.ing.wbRing = some r ∧ s.bufOf r.handle = some b ∧
      r.takes x = true)) ∧
    (∃ k r x, Met (.wbDataRx k) (fun s => extend s.ftNs (k.u32 8) = some x ∧ s.ing.wbRing = some r ∧ r.takes x = false)) ∧
    (∃ k x, Met (.wbDataRx k) (fun s => extend s.ftNs (k.u32 8) = some x ∧ s.ing.wbRing = none)) ∧
    (∃ k, Met (.wbDataRx k) (fun s => extend s.ftNs (k.u32 8) = none)) :=
  ⟨⟨1, 2 ^ 30, (by decide +kernel), head, by decide +kernel, by decide +kernel⟩,
    ⟨1, 2 ^ 30, (by decide +kernel), head, by decide +kernel, by decide +kernel⟩,
    ⟨1, true, true, 0, true, (by decide +kernel), (by decide +kernel), head, by decide +kernel, by decide +kernel⟩,
    ⟨1, true, (by decide +kernel), head, by decide +kernel, by decide +kernel⟩,
    ⟨1, [.str], 0, .str, (by decide +kernel), head, by decide +kernel, by decide +kernel⟩,
    ⟨1, [.str], 1, ⟨.cpu, 0, false, 0⟩, (by decide +kernel), (by decide +kernel), bursting ⟨.cpu, 0, false, 0⟩, by decide +kernel, by decide +kernel⟩,
    ⟨1, [.str], 1, ⟨.cpu, 0, true, 0⟩, (by decide +kernel), (by decide +kernel), bursting ⟨.cpu, 0, true, 0⟩, by decide +kernel, by decide +kernel⟩,
    ⟨1, [.str], 1, ⟨.cpu, 0, false, 64⟩, (by decide +kernel), (by decide +kernel), cutting ⟨.cpu, 0, false, 64⟩, by decide +kernel, by decide +kernel⟩,
    ⟨1, [.hst], 1, ⟨.cpu, 0, false, 0⟩, (by decide +kernel), (by decide +kernel), bursting ⟨.cpu, 0, false, 0⟩, by decide +kernel, by decide +kernel⟩,
    ⟨1, 64, ⟨.cpu, 0, false, 0⟩, bursting ⟨.cpu, 0, false, 0⟩, by decide +kernel, by decide +kernel⟩,
    ⟨1, 0, head, by decide +kernel, by decide +kernel⟩,
    ⟨1, { clip with ing := { clip.ing with bufs := [{ buf with deferred := true }] } }, by decide +kernel, ⟨{ buf with deferred := true }, by decide +kernel⟩⟩,
    ⟨1, tile, by decide +kernel, by rintro ⟨t, h, -⟩; cases h⟩,
    ⟨pkt 1 (List.replicate 8 0 ++ leBytes 4 5), ⟨1, tableEnd, 2, 0, 0, 0, 4, [], 0, 0⟩, buf, 5,
      { clip with ing := { clip.ing with wbRing := some ⟨1, tableEnd, 2, 0, 0, 0, 4, [], 0, 0⟩ } }, by decide +kernel, by decide +kernel⟩,
    ⟨pkt 1 [], ⟨1, tableEnd, 2, 0, 0, 0, 4, [], 0, 0⟩, 0,
      { clip with ing := { clip.ing with wbRing := some ⟨1, tableEnd, 2, 0, 0, 0, 4, [], 0, 0⟩ } }, by decide +kernel, by decide +kernel⟩,
    ⟨pkt 1 [], 0, head, by decide +kernel, by decide +kernel⟩,
    ⟨pkt 1 (List.replicate 8 0 ++ leBytes 4 0x80000000), head, by decide +kernel, by decide +kernel⟩⟩

/-- Witnesses for StreamArrivalsComplete. -/
theorem test_witness_stream_arrivals_complete :
    (∃ k x, Met (.streamPacketRx k) (fun s => extend s.ftNs (k.u32 8) = some x ∧ s.forFrame (some x) = false)) ∧
    (∃ k, Met (.streamPacketRx k) (fun s => extend s.ftNs (k.u32 8) = none)) ∧
    (∃ k x, Met (.streamPacketRx k) (fun s => extend s.ftNs (k.u32 8) = some x ∧ s.forFrame (some x) = true)) ∧
    (∃ p k x, Met (.frameCompleteRx p k) (fun s => extend s.ftNs (k.u32 8) = some x ∧ s.forFrame (some x) = true ∧ s.lay.colours.getD (k.u8 0 % 16) 0 = k.u8 2)) ∧
    (∃ p k x, Met (.frameCompleteRx p k) (fun s => extend s.ftNs (k.u32 8) = some x ∧ s.forFrame (some x) = false ∧
      s.pastFrame (some x) = none ∧ s.lay.colours.getD (k.u8 0 % 16) 0 = k.u8 2)) ∧
    (∃ p k x f, Met (.frameCompleteRx p k) (fun s => extend s.ftNs (k.u32 8) = some x ∧ s.forFrame (some x) = false ∧
      s.pastFrame (some x) = some f ∧ s.lay.colours.getD (k.u8 0 % 16) 0 = k.u8 2)) ∧
    (∃ k, Met (.headPickRx k) (fun s => extend s.ftNs (k.u32 0) = none)) ∧
    (∃ k, Met (.headPickRx k) (fun s => s.mayOpen = true ∧ extend s.ftNs (k.u32 0) = some (s.bnd (k.u48 8)) ∧ s.frame? = some (k.u48 8 - 1) ∧ k.u48 8 ≠ 0 ∧ s.red.pickFrame ≠ k.u48 8 + 1 ∧
      (s.r .redTwin = 0 ∨ k.src = s.r .redTwin))) ∧
    (∃ f, Met .pickWaitExpire (fun s => s.frame? = some f ∧ s.mayOpen = true ∧ s.bnd f + 1000 * s.r .redPickWaitUs ≤ s.ftNs)) ∧
    Met .pickWaitExpire (fun s => s.mayOpen = false) :=
  ⟨⟨pkt 1 [], 0, tile, by decide +kernel, by decide +kernel⟩,
    ⟨pkt 1 (List.replicate 8 0 ++ leBytes 4 0x80000000), tile, by decide +kernel, by decide +kernel⟩,
    ⟨pkt 1 (List.replicate 8 0 ++ leBytes 4 (shortStamp (tile.bnd 1))), tile.bnd 1, { tile with lay := { tile.lay with receiving := 1 } }, by decide +kernel, by decide +kernel⟩,
    ⟨3, pkt 1 (List.replicate 8 0 ++ leBytes 4 (shortStamp (tile.bnd 1))), tile.bnd 1, { tile with lay := { tile.lay with receiving := 1 } }, by decide +kernel, by decide +kernel⟩,
    ⟨3, pkt 1 [], 0, tile, by decide +kernel, by decide +kernel⟩,
    ⟨3, pkt 1 [], 0, 0, { tile with lay := { tile.lay with receiving := 1 } }, by decide +kernel, by decide +kernel⟩,
    ⟨pkt 2 (leBytes 4 0x80000000), standby, by decide +kernel, by decide +kernel⟩,
    ⟨pkt 2 (leBytes 4 (standby.bnd 1) ++ [0, 0, 0, 0] ++ leBytes 6 1), standby, by decide +kernel, by decide +kernel⟩,
    ⟨0, standby.puts [(.redPickWaitUs, 0, 0)], by decide +kernel, by decide +kernel⟩,
    ⟨tile, by decide +kernel, by decide +kernel⟩⟩

/-- Witnesses for EngineEventsComplete. -/
theorem test_witness_engine_events_complete :
    Met .gust (fun s => s.held 8 = true) ∧
    Met .gust (fun s => s.held 8 = false ∧ s.clv.engines.any (fun x => x.plan != [] && !x.awake) = true) ∧
    Met .gust (fun s => s.held 8 = false ∧ s.clv.engines.any (fun x => x.plan != [] && !x.awake) = false ∧ s.pixelsHeld = false ∧
      s.clv.list1.length + s.clv.list2.length < s.r .clvGustMin ∧ s.waited = false) ∧
    (∃ e, Met (.engineLull e) (fun s => e < 12 ∧ (s.engine e).awake = true ∧ (s.engine e).idle = true ∧
      10 * s.r .clvLullDelay ≤ 3 * (s.clk - (s.engine e).idleSince))) ∧
    (∃ e, Met (.engineLull e) (fun s => ¬ (e < 12 ∧ (s.engine e).awake = true ∧ (s.engine e).idle = true ∧
      10 * s.r .clvLullDelay ≤ 3 * (s.clk - (s.engine e).idleSince)))) ∧
    (∃ e k j, (e < 12) ∧ Met (.taskComplete e) (fun s => (s.engine e).awake = true ∧ s.held 8 = false ∧ (s.engine e).task = some (k, j))) ∧
    (∃ e, (e < 12) ∧ Met (.taskComplete e) (fun s => (s.engine e).awake = true ∧ s.held 8 = false ∧ (s.engine e).task = none ∧
      (s.engine e).service.isSome = true)) ∧
    (∃ e, (e < 12) ∧ Met (.taskComplete e) (fun s => (s.engine e).awake = true ∧ s.held 8 = false ∧ (s.engine e).task = none ∧
      (s.engine e).service = none ∧ (s.engine e).planning = true)) ∧
    (∃ e, Met (.taskComplete e) (fun s => 12 ≤ e ∨ (s.engine e).awake = false ∨ s.held 8 = true)) ∧
    (∃ e k j, (e < 12) ∧ Met (.engineOverrun e) (fun s => (s.engine e).task = some (k, j) ∧
      10 * sliceCost s.composing k j + 6000 < 6 * (s.clk - (s.engine e).started))) ∧
    (∃ e k j, Met (.engineOverrun e) (fun s => (s.engine e).task = some (k, j) ∧
      6 * (s.clk - (s.engine e).started) ≤ 10 * sliceCost s.composing k j + 6000)) ∧
    (∃ e, (e < 12) ∧ Met (.engineOverrun e) (fun s => (s.engine e).task = none ∧ (s.engine e).planning = true ∧
      10 * shareCost s.composing (s.engine e).plan + 6000 < 6 * (s.clk - (s.engine e).started))) ∧
    (∃ e, Met (.engineOverrun e) (fun s => (s.engine e).task = none ∧ ((s.engine e).planning = true →
      6 * (s.clk - (s.engine e).started) ≤ 10 * shareCost s.composing (s.engine e).plan + 6000))) ∧
    Met .pDataWritten (fun s => s.clv.waitP = true ∧ s.held 8 = false) ∧
    Met .pDataWritten (fun s => ¬ (s.clv.waitP = true ∧ s.held 8 = false)) ∧
    Met .coefCopyComplete (fun s => s.clv.waitCopy = true) ∧
    Met .coefCopyComplete (fun s => ¬ (s.clv.waitCopy = true)) ∧
    Met .slotClearComplete (fun s => s.clv.waitClear = true) ∧
    Met .slotClearComplete (fun s => ¬ (s.clv.waitClear = true)) ∧
    (∃ b, Met (.coefBlockReload b true) (fun s => s.fw.job = .reload ∧ s.col.wholeReload = true)) ∧
    (∃ b, Met (.coefBlockReload b false) (fun s => s.fw.job = .reload ∧ s.col.wholeReload = true)) ∧
    (∃ b, Met (.coefBlockReload b true) (fun s => s.fw.job = .reload ∧ s.col.wholeReload = false ∧ b ∈ s.col.reloading)) ∧
    (∃ b, Met (.coefBlockReload b false) (fun s => s.fw.job = .reload ∧ s.col.wholeReload = false ∧ b ∈ s.col.reloading)) ∧
    (∃ b ok, Met (.coefBlockReload b ok) (fun s => s.fw.job = .reload ∧ s.col.wholeReload = false ∧ b ∉ s.col.reloading)) ∧
    (∃ b ok, Met (.coefBlockReload b ok) (fun s => s.fw.job ≠ .reload)) ∧
    (∃ m single double, (m ∈ [1, 2, 3, 5]) ∧ Met (.memoryScrub m single double) (fun s => s.lullGap = true)) ∧
    (∃ m single double, (m < 9) ∧ Met (.memoryScrub m single double) (fun s => s.lullGap = false ∨ m ∉ [1, 2, 3, 5])) ∧
    (∃ m single double, (9 ≤ m) ∧ Met (.memoryScrub m single double) (fun _ => True)) :=
  ⟨⟨tile.puts [(.rstBlock, 0, 0x100)], by decide +kernel, by decide +kernel⟩,
    ⟨tile.setEngine 3 (fun x => { x with plan := [⟨0, 0, 0, 1⟩] }), by decide +kernel, by decide +kernel⟩,
    ⟨tile, by decide +kernel, by decide +kernel⟩,
    ⟨11, { tile.setEngine 11 (fun x => { x with awake := true, task := none }) with clk := 10 ^ 9 }, by decide +kernel, by decide +kernel⟩,
    ⟨11, tile, by decide +kernel, by decide +kernel⟩,
    ⟨11, 7, 1, (by decide +kernel), { tile.setEngine 11 (fun x => { x with awake := true, task := some (7, 1) }) with clk := 0 }, by decide +kernel, by decide +kernel⟩,
    ⟨11, (by decide +kernel), { tile.setEngine 11 (fun x => { x with awake := true, service := some 3 }) with clk := 0 }, by decide +kernel, by decide +kernel⟩,
    ⟨11, (by decide +kernel), { tile.setEngine 11 (fun x => { x with awake := true, planning := true }) with clk := 0 }, by decide +kernel, by decide +kernel⟩,
    ⟨12, tile, by decide +kernel, by decide +kernel⟩,
    ⟨11, 0, 0, (by decide +kernel), { tile.setEngine 11 (fun x => { x with awake := true, task := some (0, 0) }) with clk := 10 ^ 9 }, by decide +kernel, by decide +kernel⟩,
    ⟨11, 0, 0, { tile.setEngine 11 (fun x => { x with awake := true, task := some (0, 0) }) with clk := 1000 }, by decide +kernel, by decide +kernel⟩,
    ⟨11, (by decide +kernel), { tile.setEngine 11 (fun x => { x with awake := true, plan := [⟨0, 0, 0, 1⟩], planning := true }) with clk := 10 ^ 9 }, by decide +kernel, by decide +kernel⟩,
    ⟨11, { tile.setEngine 11 (fun x => { x with awake := true, plan := [⟨0, 0, 0, 1⟩], planning := true }) with clk := 1000 }, by decide +kernel, by decide +kernel⟩,
    ⟨{ tile with clv := { tile.clv with waitP := true } }, by decide +kernel, by decide +kernel⟩,
    ⟨tile, by decide +kernel, by decide +kernel⟩,
    ⟨{ tile with clv := { tile.clv with waitCopy := true } }, by decide +kernel, by decide +kernel⟩,
    ⟨tile, by decide +kernel, by decide +kernel⟩,
    ⟨{ tile with clv := { tile.clv with waitClear := true } }, by decide +kernel, by decide +kernel⟩,
    ⟨tile, by decide +kernel, by decide +kernel⟩,
    ⟨5, { tile with fw := { tile.fw with job := .reload }, col := { tile.col with wholeReload := true } }, by decide +kernel, by decide +kernel⟩,
    ⟨5, { tile with fw := { tile.fw with job := .reload }, col := { tile.col with wholeReload := true } }, by decide +kernel, by decide +kernel⟩,
    ⟨5, { tile with fw := { tile.fw with job := .reload }, col := { tile.col with reloading := [5] } }, by decide +kernel, by decide +kernel⟩,
    ⟨5, { tile with fw := { tile.fw with job := .reload }, col := { tile.col with reloading := [5] } }, by decide +kernel, by decide +kernel⟩,
    ⟨5, true, { tile with fw := { tile.fw with job := .reload } }, by decide +kernel, by decide +kernel⟩,
    ⟨5, true, tile, by decide +kernel, by decide +kernel⟩,
    ⟨5, [], [], (by decide +kernel), { tile with clv := { tile.clv with engines := tile.clv.engines.map (fun e => { e with awake := false }) } }, by decide +kernel, by decide +kernel⟩,
    ⟨8, [], [], (by decide +kernel), tile, by decide +kernel, by decide +kernel⟩,
    ⟨9, [], [], (by decide +kernel), tile, by decide +kernel, by decide +kernel⟩⟩

/-- Witnesses for ScanEventsComplete. -/
theorem test_witness_scan_events_complete :
    (∃ x rest, Met .subUpdateStart (fun s => s.scn.subs = x :: rest ∧ x.start ≤ s.ftNs ∧ x.loaded = true ∧ s.held 9 = false)) ∧
    (∃ x rest, Met .subUpdateStart (fun s => s.scn.subs = x :: rest ∧ (s.ftNs < x.start ∨ x.loaded = false ∨ s.held 9 = true))) ∧
    Met .subUpdateStart (fun s => s.scn.subs = []) ∧
    (∃ x, Met .loadStart (fun s => s.scn.subs.find? (fun x => !x.loaded) = some x ∧ x.loadAt ≤ s.ftNs ∧ s.held 9 = false)) ∧
    (∃ x, Met .loadStart (fun s => s.scn.subs.find? (fun x => !x.loaded) = some x ∧ (s.ftNs < x.loadAt ∨ s.held 9 = true))) ∧
    Met .loadStart (fun s => s.scn.subs.find? (fun x => !x.loaded) = none) ∧
    Met .probeStarvedTimer (fun s => s.unmeasured = true ∧ s.scn.lastProbeOk + 1000000000 ≤ s.clk) ∧
    Met .probeStarvedTimer (fun s => s.unmeasured = false ∨ s.clk < s.scn.lastProbeOk + 1000000000) :=
  ⟨⟨⟨0, 0, 0, 0, 0, 10, false, false, true, 0, 0⟩, [], { tile with scn := { tile.scn with subs := [⟨0, 0, 0, 0, 0, 10, false, false, true, 0, 0⟩] } }, by decide +kernel, by decide +kernel⟩,
    ⟨⟨0, 0, 0, 1, 0, 10, false, false, true, 0, 0⟩, [], { tile with scn := { tile.scn with subs := [⟨0, 0, 0, 1, 0, 10, false, false, true, 0, 0⟩] } }, by decide +kernel, by decide +kernel⟩,
    ⟨tile, by decide +kernel, by decide +kernel⟩,
    ⟨⟨0, 0, 0, 0, 0, 10, false, false, false, 0, 0⟩, { tile with scn := { tile.scn with subs := [⟨0, 0, 0, 0, 0, 10, false, false, false, 0, 0⟩] } }, by decide +kernel, by decide +kernel⟩,
    ⟨⟨0, 0, 0, 0, 1, 10, false, false, false, 0, 0⟩, { tile with scn := { tile.scn with subs := [⟨0, 0, 0, 0, 1, 10, false, false, false, 0, 0⟩] } }, by decide +kernel, by decide +kernel⟩,
    ⟨tile, by decide +kernel, by decide +kernel⟩,
    ⟨{ tile.puts [(.dgnUnmeasured, 0, 1)] with clk := 1000000000 }, by decide +kernel, by decide +kernel⟩,
    ⟨tile, by decide +kernel, by decide +kernel⟩⟩

/-- Witnesses for LaneEventsComplete. -/
theorem test_witness_lane_events_complete :
    (∃ n, Met (.laneTrainDone n) (fun s => s.r .laneState n = Lane.train ∧ (s.lane n).since + 100000 ≤ s.clk)) ∧
    (∃ n, Met (.laneTrainDone n) (fun s => ¬ (s.r .laneState n = Lane.train ∧ (s.lane n).since + 100000 ≤ s.clk))) ∧
    (∃ g l r, Met (.laneReplyRx g l) (fun s => s.asking g = some r ∧
      (l.length ≠ 7 + getLE l 3 2 ∨ getLE l (5 + getLE l 3 2) 2 ≠ crc16 (l.take (5 + getLE l 3 2))))) ∧
    (∃ g l r, (l.length = 7 + getLE l 3 2) ∧ (getLE l (5 + getLE l 3 2) 2 = crc16 (l.take (5 + getLE l 3 2))) ∧ Met (.laneReplyRx g l) (fun s => s.asking g = some r ∧ getLE l 0 1 = r.driver ∧ getLE l 1 1 = r.tag ∧
      getLE l 2 1 = (if r.kind = 4 then 2 else if r.kind = 5 then 3 else 1) ∧ r.mapGen = s.lan.mapGen)) ∧
    (∃ g l r, (l.length = 7 + getLE l 3 2) ∧ (getLE l (5 + getLE l 3 2) 2 = crc16 (l.take (5 + getLE l 3 2))) ∧ Met (.laneReplyRx g l) (fun s => s.asking g = some r ∧ (getLE l 0 1 ≠ r.driver ∨ getLE l 1 1 ≠ r.tag ∨
      getLE l 2 1 ≠ (if r.kind = 4 then 2 else if r.kind = 5 then 3 else 1) ∨ r.mapGen ≠ s.lan.mapGen))) ∧
    (∃ g l, Met (.laneReplyRx g l) (fun s => s.asking g = none)) ∧
    (∃ g, Met (.laneReplyTimeout g) (fun s => s.asking g = none)) ∧
    (∃ g r, Met (.laneReplyTimeout g) (fun s => s.asking g = some r ∧ r.sentAt + 10000 ≤ s.clk)) ∧
    (∃ g r, Met (.laneReplyTimeout g) (fun s => s.asking g = some r ∧ s.clk < r.sentAt + 10000)) ∧
    (∃ n, Met (.laneRetryTimer n) (fun s => (s.lane n).retry = true ∧ (s.lane n).since + 1000000 ≤ s.clk)) ∧
    (∃ n, Met (.laneRetryTimer n) (fun s => (s.lane n).retry = false ∧ s.r .laneState n = Lane.fault ∧ (s.lane n).since + 1000000000 ≤ s.clk)) ∧
    (∃ n, Met (.laneRetryTimer n) (fun s => (s.lane n).retry = false ∧ s.r .laneState n ≠ Lane.fault)) ∧
    (∃ i v, (i < sensorsIn 0) ∧ Met (.thermalSample 0 i v) (fun s => s.held 11 = false ∧ (s.sensor 0 i).at_ + (s.sensor 0 i).interval ≤ s.clk)) ∧
    (∃ i v, (i < sensorsIn 1) ∧ Met (.thermalSample 1 i v) (fun s => s.held 11 = false ∧ (s.sensor 1 i).at_ + (s.sensor 1 i).interval ≤ s.clk ∧
      s.r .laneState i ≠ Lane.run ∧ (s.lane i).loop = false)) ∧
    (∃ i v, (i < sensorsIn 1) ∧ Met (.thermalSample 1 i v) (fun s => s.r .laneState i ≠ Lane.run ∧ (s.lane i).loop = true)) ∧
    (∃ i v, (i < sensorsIn 1) ∧ Met (.thermalSample 1 i v) (fun s => s.held 11 = false ∧ (s.sensor 1 i).at_ + (s.sensor 1 i).interval ≤ s.clk ∧
      s.r .laneState i = Lane.run ∧ s.lan.waiting.getD (i / 8) [] = [] ∧ s.asking (i / 8) = none)) ∧
    (∃ cls i v, Met (.thermalSample cls i v) (fun s => 1 < cls ∨ sensorsIn cls ≤ i ∨ s.held 11 = true ∨
    s.clk < (s.sensor cls i).at_ + (s.sensor cls i).interval)) :=
  ⟨⟨95, { tile.puts [(.laneState, 95, Lane.train)] with clk := 100000 }, by decide +kernel, by decide +kernel⟩,
    ⟨95, tile, by decide +kernel, by decide +kernel⟩,
    ⟨11, [], ⟨88, 0, 1, 0, 0, 0, 0, false, 0, 0⟩, { tile with clk := 0, lan := { tile.lan with requests := updAt tile.lan.requests 11 (fun _ => some ⟨88, 0, 1, 0, 0, 0, 0, false, 0, 0⟩) } }, by decide +kernel, by decide +kernel⟩,
    ⟨11, reply, ⟨88, 0, 1, 0, 0, 0, 0, false, 0, 0⟩, (by decide +kernel), (by decide +kernel), asked 0, by decide +kernel, by decide +kernel⟩,
    ⟨11, reply, ⟨88, 0, 1, 0, 0, 1, 0, false, 0, 0⟩, (by decide +kernel), (by decide +kernel), asked 1, by decide +kernel, by decide +kernel⟩,
    ⟨11, [], tile, by decide +kernel, by decide +kernel⟩,
    ⟨11, tile, by decide +kernel, by decide +kernel⟩,
    ⟨11, ⟨88, 0, 1, 0, 0, 0, 0, false, 0, 0⟩, { tile with clk := 10000, lan := { tile.lan with requests := updAt tile.lan.requests 11 (fun _ => some ⟨88, 0, 1, 0, 0, 0, 0, false, 0, 0⟩) } }, by decide +kernel, by decide +kernel⟩,
    ⟨11, ⟨88, 0, 1, 0, 0, 0, 0, false, 0, 0⟩, { tile with clk := 9999, lan := { tile.lan with requests := updAt tile.lan.requests 11 (fun _ => some ⟨88, 0, 1, 0, 0, 0, 0, false, 0, 0⟩) } }, by decide +kernel, by decide +kernel⟩,
    ⟨95, { tile.setLane 95 (fun x => { x with retry := true }) with clk := 1000000 }, by decide +kernel, by decide +kernel⟩,
    ⟨95, { tile.puts [(.laneState, 95, Lane.fault)] with clk := 1000000000 }, by decide +kernel, by decide +kernel⟩,
    ⟨95, tile, by decide +kernel, by decide +kernel⟩,
    ⟨7, some 0, (by decide +kernel), tile, by decide +kernel, by decide +kernel⟩,
    ⟨95, some 0, (by decide +kernel), tile, by decide +kernel, by decide +kernel⟩,
    ⟨95, some 0, (by decide +kernel), tile.setLane 95 (fun x => { x with loop := true }), by decide +kernel, by decide +kernel⟩,
    ⟨95, some 0, (by decide +kernel), tile.puts [(.laneState, 95, Lane.run)], by decide +kernel, by decide +kernel⟩,
    ⟨2, 0, none, tile, by decide +kernel, by decide +kernel⟩⟩

/-- Witnesses for PortEventsComplete. -/
theorem test_witness_port_events_complete :
    (∃ p, Met (.offerSend p) (fun s => s.offerDue p = true ∧ (s.r .fabState p = Port.listen ∨
      (s.r .fabState p = Port.base ∧ (s.port p).acks < 3) ∨ (s.r .fabState p = Port.silent ∧ s.clk < (s.port p).since)))) ∧
    (∃ p o, Met (.offerSend p) (fun s => s.offerDue p = true ∧ s.r .fabState p = Port.base ∧ 3 ≤ (s.port p).acks ∧ s.overtaken p = false ∧
      (s.port p).partner = some o ∧ 0 < min (s.proposed p) o.target)) ∧
    (∃ p, Met (.offerSend p) (fun s => s.offerDue p = true ∧ s.r .fabState p = Port.base ∧ 3 ≤ (s.port p).acks ∧ s.overtaken p = false ∧ s.proposed p = 0)) ∧
    (∃ p t, Met (.offerSend p) (fun s => (s.port p).lastOffer = some t ∧ s.clk < t + 10000)) ∧
    (∃ p l o t, (offerOf l t = some o) ∧ (o.nonce ≠ ownNonce p) ∧ Met (.offerRx p l) (fun s => s.clk = t ∧
      s.r .fabState p = Port.base ∧ (s.port p).resetAt ≠ some t ∧ s.overtaken p = false)) ∧
    (∃ p l o t, (offerOf l t = some o) ∧ (o.nonce ≠ ownNonce p) ∧ Met (.offerRx p l) (fun s => s.clk = t ∧
      (s.r .fabState p = Port.listen ∨ s.r .fabState p = Port.silent) ∧ (s.port p).resetAt ≠ some t ∧ s.overtaken p = false)) ∧
    (∃ p l o t, (offerOf l t = some o) ∧ (o.nonce = ownNonce p) ∧ Met (.offerRx p l) (fun s => s.clk = t ∧
      (s.r .fabState p = Port.listen ∨ s.r .fabState p = Port.base ∨ s.r .fabState p = Port.silent) ∧ (s.port p).resetAt ≠ some t ∧ s.overtaken p = false)) ∧
    (∃ p l, Met (.offerRx p l) (fun s => (s.port p).resetAt = some s.clk ∨ s.overtaken p = true)) ∧
    (∃ p l t, (offerOf l t = none) ∧ Met (.offerRx p l) (fun s => s.clk = t)) ∧
    (∃ p, Met (.silentBurst p) (fun s => s.r .fabState p = Port.silent ∧ (s.port p).since + 1000000 * s.r .fabBackoff p ≤ s.clk)) ∧
    (∃ p, Met (.silentBurst p) (fun s => ¬ (s.r .fabState p = Port.silent ∧ (s.port p).since + 1000000 * s.r .fabBackoff p ≤ s.clk))) ∧
    (∃ p l control status want ready, (parityOk control = true) ∧ (bits control 11 10 ≠ l) ∧ Met (.trainingWordRx p l control status ⟨want, ready⟩) (fun s => s.r .fabState p = Port.train ∧ bit (s.port p).trainLanes l = true ∧ s.overtaken p = false)) ∧
    (∃ p l control status want, (parityOk control = false) ∧ (parityOk status = false) ∧ Met (.trainingWordRx p l control status ⟨want, true⟩) (fun s => s.r .fabState p = Port.train ∧ bit (s.port p).trainLanes l = true ∧ s.overtaken p = false)) ∧
    (∃ p l control status want, (parityOk control = true) ∧ (bits control 11 10 = l) ∧ (parityOk status = true) ∧ Met (.trainingWordRx p l control status ⟨want, false⟩) (fun s => s.r .fabState p = Port.train ∧ bit (s.port p).trainLanes l = true ∧ s.overtaken p = false)) ∧
    (∃ p l control status want ready, Met (.trainingWordRx p l control status ⟨want, ready⟩) (fun s => s.r .fabState p ≠ Port.train ∨ bit (s.port p).trainLanes l = false ∨ s.overtaken p = true)) ∧
    (∃ p limit, Met (.trainStageTimeout p) (fun s => s.overtaken p = false ∧ s.stageLimit p = some limit ∧ (s.port p).since + limit ≤ s.clk ∧
      (s.r .fabState p = Port.listen ∨ s.r .fabState p = Port.base))) ∧
    (∃ p limit, Met (.trainStageTimeout p) (fun s => s.overtaken p = false ∧ s.stageLimit p = some limit ∧ (s.port p).since + limit ≤ s.clk ∧
      s.r .fabState p = Port.align)) ∧
    (∃ p limit, Met (.trainStageTimeout p) (fun s => s.overtaken p = false ∧ s.stageLimit p = some limit ∧ (s.port p).since + limit ≤ s.clk ∧
      s.r .fabState p = Port.train ∧ (s.port p).stage = .done)) ∧
    (∃ p, Met (.trainStageTimeout p) (fun s => s.overtaken p = false ∧ s.r .fabState p = Port.train ∧ (s.port p).stage ≠ .done ∧ s.lateLanes p ≠ 0)) ∧
    (∃ p limit, Met (.trainStageTimeout p) (fun s => s.stageLimit p = some limit ∧ s.clk < (s.port p).since + limit ∧
      (s.r .fabState p ≠ Port.train ∨ (s.port p).stage = .done))) ∧
    (∃ p, Met (.trainStageTimeout p) (fun s => s.overtaken p = true)) ∧
    (∃ p, Met (.signalLoss p) (fun s => s.r .fabState p = Port.base ∨ s.r .fabState p = Port.train ∨ s.r .fabState p = Port.align ∨
      s.r .fabState p = Port.up ∨ (s.r .fabState p = Port.loop ∧ (s.port p).loop ∉ [1, 2]))) ∧
    (∃ p, Met (.signalLoss p) (fun s => ¬ (s.r .fabState p = Port.base ∨ s.r .fabState p = Port.train ∨ s.r .fabState p = Port.align ∨
      s.r .fabState p = Port.up ∨ (s.r .fabState p = Port.loop ∧ (s.port p).loop ∉ [1, 2])))) ∧
    (∃ p, Met (.lane0LockLoss p) (fun s => (s.r .fabState p = Port.train ∨ s.r .fabState p = Port.align) ∧ s.overtaken p = false)) ∧
    (∃ p, Met (.lane0LockLoss p) (fun s => ¬ ((s.r .fabState p = Port.train ∨ s.r .fabState p = Port.align) ∧ s.overtaken p = false))) ∧
    (∃ p corrected uncorrectable skews, Met (.alignCheck p corrected uncorrectable 0 skews) (fun s => s.r .fabState p = Port.align ∧ s.overtaken p = false ∧
      s.r .fabRate p = 1 ∧ bit ((s.port p).trainLanes &&& deskewed skews) 0 = true ∧ (s.port p).partner = none ∧ (s.port p).loop ≠ 3)) ∧
    (∃ p corrected badSync skews o, Met (.alignCheck p corrected 0 badSync skews) (fun s => s.r .fabState p = Port.align ∧ s.overtaken p = false ∧
      s.r .fabRate p ≠ 1 ∧ bit ((s.port p).trainLanes &&& deskewed skews) 0 = true ∧
      corrected ≤ 2 * codewords (s.r .fabRate p) (widest ((s.port p).trainLanes &&& deskewed skews)) 1000 ∧
      (s.port p).partner = some o ∧ bit o.flags 1 = true ∧ (s.port p).loop ≠ 3 ∧ s.on .fabLoopAllow p = true)) ∧
    (∃ p corrected uncorrectable badSync skews, Met (.alignCheck p corrected uncorrectable badSync skews) (fun s => s.r .fabState p ≠ Port.align ∨ bit ((s.port p).trainLanes &&& deskewed skews) 0 = false ∨
      (s.r .fabRate p = 1 ∧ badSync ≠ 0) ∨ (s.r .fabRate p ≠ 1 ∧ uncorrectable ≠ 0) ∨ s.overtaken p = true)) ∧
    (∃ p corrected uncorrectable burst, (16 < burst) ∧ Met (.fecWindow p corrected uncorrectable burst) (fun s => s.up p = true ∧ 2 ≤ s.r .fabRate p)) ∧
    (∃ p corrected uncorrectable burst, (burst ≤ 16) ∧ (0 < uncorrectable) ∧ Met (.fecWindow p corrected uncorrectable burst) (fun s => s.up p = true ∧ 2 ≤ s.r .fabRate p)) ∧
    (∃ p corrected burst, (burst ≤ 16) ∧ Met (.fecWindow p corrected 0 burst) (fun s => s.up p = true ∧ 2 ≤ s.r .fabRate p ∧
      corrected ≤ 6 * codewords (((s.count .fabFecCorrected p corrected).count .fabFecUncorrectable p 0).r .fabRate p)
        (((s.count .fabFecCorrected p corrected).count .fabFecUncorrectable p 0).r .fabLanesUp p) 10000)) ∧
    (∃ p corrected uncorrectable burst, Met (.fecWindow p corrected uncorrectable burst) (fun s => s.up p = false ∨ s.r .fabRate p < 2)) ∧
    (∃ p, Met (.adaptTrigger p) (fun s => s.up p = true ∧ 1 ≤ s.r .fabRate p ∧ (s.port p).lastAdapt + 1000000000 ≤ s.clk)) ∧
    (∃ p, Met (.adaptTrigger p) (fun s => ¬ (s.up p = true ∧ 1 ≤ s.r .fabRate p ∧ (s.port p).lastAdapt + 1000000000 ≤ s.clk))) ∧
    (∃ p ws, Met (.adaptResult p ws) (fun s => s.up p = true ∧ s.leavesUp p = false ∧ (s.port p).adapting = true ∧ ws.length = widthOf (s.r .fabLanesUp p) ∧
      ws.all (fun w => windowOk w (s.r .fabRate p)) = true)) ∧
    (∃ p ws, Met (.adaptResult p ws) (fun s => s.up p = true ∧ s.leavesUp p = false ∧ (s.port p).adapting = true ∧
      (ws.length ≠ widthOf (s.r .fabLanesUp p) ∨ ws.all (fun w => windowOk w (s.r .fabRate p)) = false))) ∧
    (∃ p ws, Met (.adaptResult p ws) (fun s => s.up p = false ∨ (s.port p).adapting = false ∨ s.leavesUp p = true)) ∧
    (∃ p, Met (.rateStep p) (fun s => s.noteNeed.rateDue p = true ∧ s.noteNeed.up p = true ∧ s.noteNeed.isShort p = true ∧
      s.noteNeed.inShow = true)) ∧
    (∃ p, Met (.rateStep p) (fun s => s.noteNeed.rateDue p = true ∧ (s.noteNeed.isShort p = false ∨ s.noteNeed.inShow = false))) ∧
    (∃ p, Met (.rateStep p) (fun s => s.noteNeed.rateDue p = false ∧ (s.noteNeed.up p = false ∨ s.noteNeed.isShort p = false ∨
      s.noteNeed.inShow = false))) :=
  ⟨⟨3, tile.puts [(.fabState, 3, Port.listen)], by decide +kernel, by decide +kernel⟩,
    ⟨3, ⟨2, 1, 0, 0xF, 0xF, 3, 9, 0⟩, (able.puts [(.fabState, 3, Port.base)]).setPort 3 (fun q => { q with acks := 3, partner := some ⟨2, 1, 0, 0xF, 0xF, 3, 9, 0⟩ }), by decide +kernel, by decide +kernel⟩,
    ⟨3, (tile.puts [(.fabState, 3, Port.base)]).setPort 3 (fun q => { q with acks := 3 }), by decide +kernel, by decide +kernel⟩,
    ⟨3, 0, { tile.setPort 3 (fun q => { q with lastOffer := some 0 }) with clk := 9999 }, by decide +kernel, by decide +kernel⟩,
    by
    obtain ⟨l, o, h, h'⟩ := other_offer 3 0
    exact ⟨3, l, o, 0, h, h', tile.puts [(.fabState, 3, Port.base)], by decide +kernel, by decide +kernel⟩,
    by
    obtain ⟨l, o, h, h'⟩ := other_offer 3 0
    exact ⟨3, l, o, 0, h, h', tile.puts [(.fabState, 3, Port.listen)], by decide +kernel, by decide +kernel⟩,
    by
    obtain ⟨l, o, h, h'⟩ := own_offer 3 0
    exact ⟨3, l, o, 0, h, h', tile.puts [(.fabState, 3, Port.silent)], by decide +kernel, by decide +kernel⟩,
    ⟨3, [], tile.setPort 3 (fun q => { q with resetAt := some 0 }), by decide +kernel, by decide +kernel⟩,
    ⟨3, [], 0, (by decide +kernel), tile, by decide +kernel, by decide +kernel⟩,
    ⟨3, { tile.puts [(.fabState, 3, Port.silent)] with clk := 10 ^ 12 }, by decide +kernel, by decide +kernel⟩,
    ⟨3, tile, by decide +kernel, by decide +kernel⟩,
    ⟨3, 3, 0, 0, 0, true, (by decide +kernel), (by decide +kernel), (tile.puts [(.fabState, 3, Port.train)]).setPort 3 (fun q => { q with trainLanes := 8 }), by decide +kernel, by decide +kernel⟩,
    ⟨3, 3, 1, 1, 0, (by decide +kernel), (by decide +kernel), (tile.puts [(.fabState, 3, Port.train)]).setPort 3 (fun q => { q with trainLanes := 8 }), by decide +kernel, by decide +kernel⟩,
    ⟨3, 3, 0xC00, 0, 1, by decide, by decide, by decide, (tile.puts [(.fabState, 3, Port.train)]).setPort 3 (fun q => { q with trainLanes := 8 }), by decide +kernel, by decide +kernel⟩,
    ⟨3, 0, 0, 0, 0, true, tile, by decide +kernel, by decide +kernel⟩,
    ⟨3, 10000000, { tile.puts [(.fabState, 3, Port.base)] with clk := 10000000 }, by decide +kernel, by decide +kernel⟩,
    ⟨3, 5000000, { tile.puts [(.fabState, 3, Port.align)] with clk := 5000000 }, by decide +kernel, by decide +kernel⟩,
    ⟨3, 10000000, { (tile.puts [(.fabState, 3, Port.train)]).setPort 3 (fun q => { q with stage := .done }) with clk := 10000000 }, by decide +kernel, by decide +kernel⟩,
    ⟨3, { (tile.puts [(.fabState, 3, Port.train)]).setPort 3 (fun q => { q with trainLanes := 8 }) with clk := 5000000 }, by decide +kernel, by decide +kernel⟩,
    ⟨3, 10000000, tile.puts [(.fabState, 3, Port.base)], by decide +kernel, by decide +kernel⟩,
    ⟨3, { tile.puts [(.fabState, 3, Port.base)] with pending := [.signalLoss 3] }, by decide +kernel, by decide +kernel⟩,
    ⟨3, tile.puts [(.fabState, 3, Port.base)], by decide +kernel, by decide +kernel⟩,
    ⟨3, tile, by decide +kernel, by decide +kernel⟩,
    ⟨3, tile.puts [(.fabState, 3, Port.align)], by decide +kernel, by decide +kernel⟩,
    ⟨3, tile, by decide +kernel, by decide +kernel⟩,
    ⟨3, 0, 0, [some 0], (tile.puts [(.fabState, 3, Port.align), (.fabRate, 3, 1)]).setPort 3 (fun q => { q with trainLanes := 1 }), by decide +kernel, by decide +kernel⟩,
    ⟨3, 0, 0, [some 40000], ⟨2, 1, 0, 0xF, 0xF, 3, 9, 0⟩, (tile.puts [(.fabState, 3, Port.align), (.fabRate, 3, 2), (.fabLoopAllow, 3, 1)]).setPort 3 (fun q => { q with trainLanes := 1, partner := some ⟨2, 1, 0, 0xF, 0xF, 3, 9, 0⟩ }), by decide +kernel, by decide +kernel⟩,
    ⟨3, 0, 0, 0, [], tile, by decide +kernel, by decide +kernel⟩,
    ⟨3, 0, 0, 17, (by decide +kernel), tile.puts [(.fabState, 3, Port.up), (.fabRate, 3, 2), (.fabLanesUp, 3, 1)], by decide +kernel, by decide +kernel⟩,
    ⟨3, 0, 1, 16, (by decide +kernel), (by decide +kernel), tile.puts [(.fabState, 3, Port.up), (.fabRate, 3, 2), (.fabLanesUp, 3, 1)], by decide +kernel, by decide +kernel⟩,
    ⟨3, 0, 16, (by decide +kernel), tile.puts [(.fabState, 3, Port.up), (.fabRate, 3, 2), (.fabLanesUp, 3, 1)], by decide +kernel, by decide +kernel⟩,
    ⟨3, 0, 0, 0, tile, by decide +kernel, by decide +kernel⟩,
    ⟨3, { tile.puts [(.fabState, 3, Port.up), (.fabRate, 3, 1), (.fabLanesUp, 3, 1)] with clk := 1000000000 }, by decide +kernel, by decide +kernel⟩,
    ⟨3, tile, by decide +kernel, by decide +kernel⟩,
    ⟨3, [⟨2, 1, 524288, [], 66⟩], (tile.puts [(.fabState, 3, Port.up), (.fabRate, 3, 1), (.fabLanesUp, 3, 1)]).setPort 3 (fun q => { q with adapting := true }), by decide +kernel, by decide +kernel⟩,
    ⟨3, [], (tile.puts [(.fabState, 3, Port.up), (.fabRate, 3, 1), (.fabLanesUp, 3, 1)]).setPort 3 (fun q => { q with adapting := true }), by decide +kernel, by decide +kernel⟩,
    ⟨3, [], tile, by decide +kernel, by decide +kernel⟩,
    ⟨3, able.puts [(.fabState, 3, Port.up), (.fabRate, 3, 0), (.fabLanesUp, 3, 1), (.sysPstate, 0, 4)], by decide +kernel, by decide +kernel⟩,
    ⟨3, able.puts [(.fabState, 3, Port.up), (.fabRate, 3, 0), (.fabLanesUp, 3, 1)], by decide +kernel, by decide +kernel⟩,
    ⟨3, tile, by decide +kernel, by decide +kernel⟩⟩

/-- Witnesses for LinkEventsComplete. -/
theorem test_witness_link_events_complete :
    (∃ p d l, ((l.length < 12 ∨ getLE l 10 2 ≠ crc16 (l.take 10))) ∧ Met (.packetRx p d) (fun s => s.up p = true ∧ (s.link p).lostFraming = false ∧ s.arrived p d = l ∧ (l ≠ [] ∨ d = []))) ∧
    (∃ p d l, (12 ≤ l.length) ∧ (getLE l 10 2 = crc16 (l.take 10)) ∧ (pktGood l = false) ∧ Met (.packetRx p d) (fun s => s.up p = true ∧ (s.link p).lostFraming = false ∧ s.arrived p d = l)) ∧
    (∃ p d l, (12 ≤ l.length) ∧ (getLE l 10 2 = crc16 (l.take 10)) ∧ (pktGood l = true) ∧ ((pktOf l).ptype = 0x01) ∧ Met (.packetRx p d) (fun s => s.up p = true ∧ (s.link p).lostFraming = false ∧ s.arrived p d = l)) ∧
    (∃ p d l, (12 ≤ l.length) ∧ (getLE l 10 2 = crc16 (l.take 10)) ∧ (pktGood l = true) ∧ ((pktOf l).ptype ≠ 0x01) ∧ Met (.packetRx p d) (fun s => s.up p = true ∧ (s.link p).lostFraming = false ∧ s.arrived p d = l ∧ getLE l 9 1 % 128 ≠ (s.link p).expected ∧
      ((s.link p).expected + 128 - getLE l 9 1 % 128) % 128 ≤ 63)) ∧
    (∃ p d l, (12 ≤ l.length) ∧ (getLE l 10 2 = crc16 (l.take 10)) ∧ (pktGood l = true) ∧ ((pktOf l).ptype ≠ 0x01) ∧ Met (.packetRx p d) (fun s => s.up p = true ∧ (s.link p).lostFraming = false ∧ s.arrived p d = l ∧ getLE l 9 1 % 128 ≠ (s.link p).expected ∧
      63 < ((s.link p).expected + 128 - getLE l 9 1 % 128) % 128)) ∧
    (∃ p d l, (12 ≤ l.length) ∧ (getLE l 10 2 = crc16 (l.take 10)) ∧ (pktGood l = true) ∧ ((pktOf l).ptype ≠ 0x01) ∧ Met (.packetRx p d) (fun s => s.up p = true ∧ (s.link p).lostFraming = false ∧ s.arrived p d = l ∧ getLE l 9 1 % 128 = (s.link p).expected ∧
      (s.link p).held.getD (vcClass (pktOf l)) 0 + pktCost (pktOf l) ≤ allocation.getD (vcClass (pktOf l)) 0)) ∧
    (∃ p d, (d ≠ []) ∧ Met (.packetRx p d) (fun s => s.up p = true ∧ s.arrived p d = [])) ∧
    (∃ p d, Met (.packetRx p d) (fun s => s.up p = true ∧ (s.link p).lostFraming = true)) ∧
    (∃ p d, Met (.packetRx p d) (fun s => s.up p = false)) ∧
    (∃ p k, (bit (k.u8 1) 0 = false) ∧ Met (.linkPacketRx p k) (fun s => s.up p = true ∧ (s.link p).lostFraming = false)) ∧
    (∃ p k, Met (.linkPacketRx p k) (fun s => s.up p = false)) ∧
    (∃ p k, Met (.linkPacketRx p k) (fun s => s.up p = true ∧ (s.link p).lostFraming = true)) ∧
    (∃ p, Met (.linkSend p) (fun s => s.up p = true ∧ ((s.link p).linkDue = true ∨ (s.link p).lastLink + 1000 ≤ s.clk))) ∧
    (∃ p, Met (.linkSend p) (fun s => ¬ (s.up p = true ∧ ((s.link p).linkDue = true ∨ (s.link p).lastLink + 1000 ≤ s.clk)))) ∧
    (∃ p, Met (.egressSelect p) (fun s => (s.up p = false ∨ s.leavesUp p = true) ∧ s.r .fabState p ≠ Port.loop)) ∧
    (∃ p, Met (.egressSelect p) (fun s => s.r .fabState p = Port.loop)) ∧
    (∃ p, Met (.egressSelect p) (fun s => s.up p = true ∧ s.leavesUp p = false ∧ (s.link p).linkDue = true)) ∧
    (∃ p q rest, Met (.egressSelect p) (fun s => s.up p = true ∧ s.leavesUp p = false ∧ (s.link p).linkDue = false ∧ (s.link p).replay = q :: rest)) ∧
    (∃ p q rest, Met (.egressSelect p) (fun s => s.up p = true ∧ s.leavesUp p = false ∧ (s.link p).linkDue = false ∧ (s.link p).replay = [] ∧
      (s.link p).unacked.length < 63 ∧ (s.link p).choose s.clk = some (q, rest))) ∧
    (∃ p, Met (.egressSelect p) (fun s => s.up p = true ∧ s.leavesUp p = false ∧ (s.link p).linkDue = false ∧ (s.link p).replay = [] ∧
      (63 ≤ (s.link p).unacked.length ∨ (s.link p).choose s.clk = none))) ∧
    (∃ p, Met (.replayTimeout p) (fun s => s.up p = true ∧ (s.link p).unacked ≠ [] ∧ (s.link p).lastAck + 10000 ≤ s.clk ∧ s.ackNow p = false)) ∧
    (∃ p, Met (.replayTimeout p) (fun s => ¬ (s.up p = true ∧ (s.link p).unacked ≠ [] ∧ (s.link p).lastAck + 10000 ≤ s.clk ∧ s.ackNow p = false))) ∧
    (∃ p, Met (.nakRepeat p) (fun s => s.up p = true ∧ (s.link p).naking = true ∧ (s.link p).lastNak + 2000 ≤ s.clk)) ∧
    (∃ p, Met (.nakRepeat p) (fun s => ¬ (s.up p = true ∧ (s.link p).naking = true ∧ (s.link p).lastNak + 2000 ≤ s.clk))) ∧
    (∃ p, Met (.resyncBlockRx ⟨p, resyncBlock⟩) (fun s => s.up p = true ∧ 1 ≤ s.r .fabRate p)) ∧
    (∃ p b, (b ≠ resyncBlock) ∧ Met (.resyncBlockRx ⟨p, b⟩) (fun s => s.up p = true)) ∧
    (∃ p b, Met (.resyncBlockRx ⟨p, b⟩) (fun s => s.up p = false)) :=
  ⟨⟨3, [], [], (by decide +kernel), tile.puts [(.fabState, 3, Port.up)], by decide +kernel, by decide +kernel⟩,
    ⟨3, List.replicate 10 0 ++ leBytes 2 (crc16 (List.replicate 10 0)), List.replicate 10 0 ++ leBytes 2 (crc16 (List.replicate 10 0)), (by decide +kernel), (by decide +kernel), (by decide +kernel), tile.puts [(.fabState, 3, Port.up)], by decide +kernel, by decide +kernel⟩,
    ⟨3, pktBytes ⟨0x01, false, false, 0, 5, 1, 255, false, []⟩ 0, pktBytes ⟨0x01, false, false, 0, 5, 1, 255, false, []⟩ 0, (by decide +kernel), (by decide +kernel), (by decide +kernel), (by decide +kernel), tile.puts [(.fabState, 3, Port.up)], by decide +kernel, by decide +kernel⟩,
    ⟨3, pktBytes ⟨0x10, false, false, 0, 5, 1, 255, false, []⟩ 0, pktBytes ⟨0x10, false, false, 0, 5, 1, 255, false, []⟩ 0, (by decide +kernel), (by decide +kernel), (by decide +kernel), (by decide +kernel), (tile.puts [(.fabState, 3, 5)]).setLink 3 (fun q => { q with expected := 1 }), by decide +kernel, by decide +kernel⟩,
    ⟨3, pktBytes ⟨0x10, false, false, 0, 5, 1, 255, false, []⟩ 64, pktBytes ⟨0x10, false, false, 0, 5, 1, 255, false, []⟩ 64, (by decide +kernel), (by decide +kernel), (by decide +kernel), (by decide +kernel), tile.puts [(.fabState, 3, Port.up)], by decide +kernel, by decide +kernel⟩,
    ⟨3, List.replicate 8 0 ++ pktBytes ⟨0x10, false, false, 0, 5, 1, 255, false, []⟩ 0 ++ List.replicate 8 0, pktBytes ⟨0x10, false, false, 0, 5, 1, 255, false, []⟩ 0 ++ List.replicate 8 0, (by decide +kernel), (by decide +kernel), (by decide +kernel), (by decide +kernel), tile.puts [(.fabState, 3, Port.up), (.fabRate, 3, 1), (.fabLanesUp, 3, 1)], by decide +kernel, by decide +kernel⟩,
    ⟨3, List.replicate 8 0, (by decide +kernel), tile.puts [(.fabState, 3, Port.up), (.fabRate, 3, 1), (.fabLanesUp, 3, 1)], by decide +kernel, by decide +kernel⟩,
    ⟨3, [], (tile.puts [(.fabState, 3, 5)]).setLink 3 (fun q => { q with lostFraming := true }), by decide +kernel, by decide +kernel⟩,
    ⟨3, [], tile, by decide +kernel, by decide +kernel⟩,
    ⟨3, pkt 1 [], (by decide +kernel), tile.puts [(.fabState, 3, Port.up)], by decide +kernel, by decide +kernel⟩,
    ⟨3, pkt 1 [], tile, by decide +kernel, by decide +kernel⟩,
    ⟨3, pkt 1 [], (tile.puts [(.fabState, 3, 5)]).setLink 3 (fun q => { q with lostFraming := true }), by decide +kernel, by decide +kernel⟩,
    ⟨3, (tile.puts [(.fabState, 3, 5)]).setLink 3 (fun q => { q with linkDue := true }), by decide +kernel, by decide +kernel⟩,
    ⟨3, tile, by decide +kernel, by decide +kernel⟩,
    ⟨3, tile, by decide +kernel, by decide +kernel⟩,
    ⟨3, tile.puts [(.fabState, 3, Port.loop)], by decide +kernel, by decide +kernel⟩,
    ⟨3, (tile.puts [(.fabState, 3, 5)]).setLink 3 (fun q => { q with linkDue := true }), by decide +kernel, by decide +kernel⟩,
    ⟨3, (0, pkt 1 []), [], (tile.puts [(.fabState, 3, 5)]).setLink 3 (fun q => { q with replay := [(0, pkt 1 [])] }), by decide +kernel, by decide +kernel⟩,
    ⟨3, ⟨pkt 1 [], 0, 4, none⟩, [], (tile.puts [(.fabState, 3, 5)]).setLink 3 (fun q => { q with queue := [⟨pkt 1 [], 0, 4, none⟩] }), by decide +kernel, by decide +kernel⟩,
    ⟨3, tile.puts [(.fabState, 3, Port.up)], by decide +kernel, by decide +kernel⟩,
    ⟨3, { (tile.puts [(.fabState, 3, 5)]).setLink 3 (fun q => { q with unacked := [(0, pkt 1 [])] }) with clk := 10000 }, by decide +kernel, by decide +kernel⟩,
    ⟨3, tile, by decide +kernel, by decide +kernel⟩,
    ⟨3, { (tile.puts [(.fabState, 3, 5)]).setLink 3 (fun q => { q with naking := true }) with clk := 2000 }, by decide +kernel, by decide +kernel⟩,
    ⟨3, tile, by decide +kernel, by decide +kernel⟩,
    ⟨3, tile.puts [(.fabState, 3, Port.up), (.fabRate, 3, 1), (.fabLanesUp, 3, 1)], by decide +kernel, by decide +kernel⟩,
    ⟨3, [], (by decide +kernel), tile.puts [(.fabState, 3, Port.up)], by decide +kernel, by decide +kernel⟩,
    ⟨3, [], tile, by decide +kernel, by decide +kernel⟩⟩

/-- Witnesses for NetworkEventsComplete. -/
theorem test_witness_network_events_complete :
    (∃ k, Met (.linkEventRx k) (fun s => s.on .netMaster = false)) ∧
    (∃ k, Met (.linkEventRx k) (fun s => s.on .netMaster = true ∧ (k.u8 1 = 3 → s.net.map.findIdx? (fun m => m.node = k.src) = none))) ∧
    (∃ k i, (k.u8 1 = 3) ∧ Met (.linkEventRx k) (fun s => s.on .netMaster = true ∧ s.net.map.findIdx? (fun m => m.node = k.src) = some i)) ∧
    Met .discoveryStart (fun s => s.on .netMaster = true ∧ s.net.discoverAt ≠ none) ∧
    Met .discoveryStart (fun s => ¬ (s.on .netMaster = true ∧ s.net.discoverAt ≠ none)) ∧
    (∃ p k, (hopsLeft k = true) ∧ Met (.discQueryRx p k) (fun _ => True)) ∧
    (∃ p k, (hopsLeft k = true) ∧ Met (.discReplyRx p k) (fun _ => True)) ∧
    (∃ p k, (hopsLeft k = true) ∧ Met (.discAssignRx p k) (fun _ => True)) ∧
    (∃ p k, (hopsLeft k = false) ∧ Met (.discQueryRx p k) (fun _ => True)) ∧
    (∃ p k q, (hopsLeft k = false) ∧ Met (.discReplyRx p k) (fun s => s.on .netMaster = true ∧ s.net.discovering = true ∧
      s.net.queries.find? (fun q => q.tag = k.u16 18) = some q ∧
      s.net.map.find? (fun x => x.unit = (nodeOfReply k q.path).unit) = none ∧
      s.foundNodes.any (fun x => x.unit = (nodeOfReply k q.path).unit) = false)) ∧
    (∃ p k q o, (hopsLeft k = false) ∧ Met (.discReplyRx p k) (fun s => s.on .netMaster = true ∧ s.net.discovering = true ∧
      s.net.queries.find? (fun q => q.tag = k.u16 18) = some q ∧
      s.net.map.find? (fun x => x.unit = (nodeOfReply k q.path).unit) = some o ∧
      s.foundNodes.any (fun x => x.unit = (nodeOfReply k q.path).unit) = false)) ∧
    (∃ p k q, (hopsLeft k = false) ∧ Met (.discReplyRx p k) (fun s => s.on .netMaster = true ∧ s.net.discovering = true ∧
      s.net.queries.find? (fun q => q.tag = k.u16 18) = some q ∧
      s.foundNodes.any (fun x => x.unit = (nodeOfReply k q.path).unit) = true)) ∧
    (∃ p k, (hopsLeft k = false) ∧ Met (.discReplyRx p k) (fun s => s.on .netMaster = false ∨ s.net.discovering = false ∨
    s.net.queries.find? (fun q => q.tag = k.u16 18) = none)) ∧
    (∃ p k, (hopsLeft k = false) ∧ Met (.discAssignRx p k) (fun _ => True)) ∧
    (∃ tag q, Met (.discQueryTimeout tag) (fun s => s.net.queries.find? (fun q => q.tag = tag) = some q ∧ q.sentAt + 1000000 ≤ s.clk ∧ q.tries < 3)) ∧
    (∃ tag q, Met (.discQueryTimeout tag) (fun s => s.net.queries.find? (fun q => q.tag = tag) = some q ∧ q.sentAt + 1000000 ≤ s.clk ∧ 3 ≤ q.tries)) ∧
    (∃ tag q, Met (.discQueryTimeout tag) (fun s => s.net.queries.find? (fun q => q.tag = tag) = some q ∧ s.clk < q.sentAt + 1000000)) ∧
    (∃ tag, Met (.discQueryTimeout tag) (fun s => s.net.queries.find? (fun q => q.tag = tag) = none)) ∧
    (∃ p k, (k.u8 0 = 0) ∧ Met (.bulkDataRx p k) (fun s => (s.takePiece p k).fw.isOpen = false ∨ k.u32 4 ≠ (s.takePiece p k).r .fwuXferId)) ∧
    (∃ p k, (k.u8 0 = 0) ∧ Met (.bulkDataRx p k) (fun s => (s.takePiece p k).fw.isOpen = true ∧ k.u32 4 = (s.takePiece p k).r .fwuXferId)) ∧
    (∃ p k, (k.u8 0 = 1 ∨ k.u8 0 = 2) ∧ Met (.bulkDataRx p k) (fun _ => True)) ∧
    (∃ p k, (k.u8 0 = 5) ∧ Met (.bulkDataRx p k) (fun s => s.isHead = false ∨ s.on .netMaster = true ∨ k.src ≠ s.r .redTwin ∨ k.u64 8 < mapOffset)) ∧
    (∃ p k, (k.u8 0 = 5) ∧ Met (.bulkDataRx p k) (fun s => s.isHead = true ∧ s.on .netMaster = false ∧ k.src = s.r .redTwin ∧ mapOffset ≤ k.u64 8)) ∧
    (∃ p k, (k.u8 0 = 3) ∧ Met (.bulkDataRx p k) (fun _ => True)) ∧
    (∃ p k, (k.u8 0 = 4) ∧ Met (.bulkDataRx p k) (fun _ => True)) ∧
    (∃ p k, (5 < k.u8 0) ∧ Met (.bulkDataRx p k) (fun _ => True)) ∧
    (∃ k, Met (.routeSetRx k) (fun _ => True)) ∧
    (∃ k, (k.u8 0 = 0x10) ∧ (bit (k.u8 1) 6 = false) ∧ Met (.noRouteRx k) (fun s => s.mbx.relays.any (fun r => r.cmd.relay && r.cmd.scope == 0 && r.cmd.node == k.u16 2 % 4096) = false)) ∧
    (∃ k r, (k.u8 0 = 0x10) ∧ (bit (k.u8 1) 6 = false) ∧ Met (.noRouteRx k) (fun s => s.mbx.relays.filter (fun r => r.cmd.relay ∧ r.cmd.scope = 0 ∧ r.cmd.node = k.u16 2 % 4096) = [r])) ∧
    (∃ k, (k.u8 0 ≠ 0x10 ∨ bit (k.u8 1) 6 = true) ∧ Met (.noRouteRx k) (fun _ => True)) ∧
    (∃ k, Met (.fenceRx k) (fun s => covers (setBit (match s.net.fencesIn.find? (fun x => x.1 = k.src ∧ x.2.1 = k.u16 0) with
      | some x => x.2.2 | none => 0) k.vc true) (k.u8 2 % 16) = true)) ∧
    (∃ k, Met (.fenceRx k) (fun s => s.net.fencesIn.find? (fun x => x.1 = k.src ∧ x.2.1 = k.u16 0) = none ∧
      covers (setBit 0 k.vc true) (k.u8 2 % 16) = false)) ∧
    (∃ k x, Met (.fenceRx k) (fun s => s.net.fencesIn.find? (fun x => x.1 = k.src ∧ x.2.1 = k.u16 0) = some x ∧
      covers (setBit x.2.2 k.vc true) (k.u8 2 % 16) = false)) ∧
    (∃ k f, Met (.fenceDoneRx k) (fun s => s.net.fences.find? (fun f => f.id = k.u16 0 ∧ f.dst = k.src) = some f)) ∧
    (∃ k, Met (.fenceDoneRx k) (fun s => s.net.fences.find? (fun f => f.id = k.u16 0 ∧ f.dst = k.src) = none)) ∧
    (∃ n f, Met (.fenceTimeout n) (fun s => s.net.fences.find? (fun f => f.id = n) = some f ∧ f.sentAt + 10000000 ≤ s.clk ∧ s.doneNow f = false)) ∧
    (∃ n f, Met (.fenceTimeout n) (fun s => s.net.fences.find? (fun f => f.id = n) = some f ∧ (s.clk < f.sentAt + 10000000 ∨ s.doneNow f = true))) ∧
    (∃ n, Met (.fenceTimeout n) (fun s => s.net.fences.find? (fun f => f.id = n) = none)) :=
  ⟨⟨pkt 1 [], tile, by decide +kernel, by decide +kernel⟩,
    ⟨pkt 7 [0, 3], { master with net := { master.net with map := [] } }, by decide +kernel, by decide +kernel⟩,
    ⟨pkt 7 [0, 3], 0, (by decide +kernel), { master with net := { master.net with map := [⟨1, 7, 0, 1, 7, 7, [1, 2, 3, 4], [0, 0, 0, 0], [], [], true⟩] } }, by decide +kernel, by decide +kernel⟩,
    ⟨{ master with net := { master.net with discoverAt := some 0 } }, by decide +kernel, by decide +kernel⟩,
    ⟨tile, by decide +kernel, by decide +kernel⟩,
    ⟨3, pkt 1 [1, 0], (by decide +kernel), tile, by decide +kernel, by decide +kernel⟩,
    ⟨3, pkt 1 [1, 0], (by decide +kernel), tile, by decide +kernel, by decide +kernel⟩,
    ⟨3, pkt 1 [1, 0], (by decide +kernel), tile, by decide +kernel, by decide +kernel⟩,
    ⟨3, pkt 1 [0, 0], (by decide +kernel), tile, by decide +kernel, by decide +kernel⟩,
    ⟨3, pkt 1 [], ⟨0, [], 0, 1⟩, (by decide +kernel), { master with net := { master.net with discovering := true, queries := [⟨0, [], 0, 1⟩], map := [] } }, by decide +kernel, by decide +kernel⟩,
    ⟨3, pkt 1 [], ⟨0, [], 0, 1⟩, ⟨0, 7, 0, 1, 7, 7, [1, 2, 3, 4], [0, 0, 0, 0], [], [], false⟩, (by decide +kernel), { master with net := { master.net with discovering := true, queries := [⟨0, [], 0, 1⟩], map := [⟨0, 7, 0, 1, 7, 7, [1, 2, 3, 4], [0, 0, 0, 0], [], [], false⟩] } }, by decide +kernel, by decide +kernel⟩,
    ⟨3, pkt 1 [], ⟨0, [], 0, 1⟩, (by decide +kernel), { master with net := { master.net with discovering := true, queries := [⟨0, [], 0, 1⟩], map := [⟨0, 7, 0, 1, 7, 7, [1, 2, 3, 4], [0, 0, 0, 0], [], [], true⟩] } }, by decide +kernel, by decide +kernel⟩,
    ⟨3, pkt 1 [], (by decide +kernel), tile, by decide +kernel, by decide +kernel⟩,
    ⟨3, pkt 1 [], (by decide +kernel), tile, by decide +kernel, by decide +kernel⟩,
    ⟨0, ⟨0, [], 0, 2⟩, { master with clk := 1000000, net := { master.net with queries := [⟨0, [], 0, 2⟩] } }, by decide +kernel, by decide +kernel⟩,
    ⟨0, ⟨0, [], 0, 3⟩, { master with clk := 1000000, net := { master.net with queries := [⟨0, [], 0, 3⟩] } }, by decide +kernel, by decide +kernel⟩,
    ⟨0, ⟨0, [], 0, 2⟩, { master with clk := 999999, net := { master.net with queries := [⟨0, [], 0, 2⟩] } }, by decide +kernel, by decide +kernel⟩,
    ⟨0, master, by decide +kernel, by decide +kernel⟩,
    ⟨3, pkt 1 [0], (by decide +kernel), tile, by decide +kernel, by decide +kernel⟩,
    ⟨3, pkt 1 [], (by decide +kernel), { tile with fw := { tile.fw with isOpen := true } }, by decide +kernel, by decide +kernel⟩,
    ⟨3, pkt 1 [2], (by decide +kernel), tile, by decide +kernel, by decide +kernel⟩,
    ⟨3, pkt 1 [5], (by decide +kernel), tile, by decide +kernel, by decide +kernel⟩,
    ⟨3, pkt 2 ([5, 0, 0, 0, 0, 0, 0, 0] ++ leBytes 8 mapOffset), (by decide +kernel), standby.puts [(.redTwin, 0, 2)], by decide +kernel, by decide +kernel⟩,
    ⟨3, pkt 1 [3], (by decide +kernel), tile, by decide +kernel, by decide +kernel⟩,
    ⟨3, pkt 1 [4], (by decide +kernel), tile, by decide +kernel, by decide +kernel⟩,
    ⟨3, pkt 1 [6], (by decide +kernel), tile, by decide +kernel, by decide +kernel⟩,
    ⟨pkt 1 [], tile, by decide +kernel, by decide +kernel⟩,
    ⟨pkt 7 [0x10, 0, 7], (by decide +kernel), (by decide +kernel), head, by decide +kernel, by decide +kernel⟩,
    ⟨pkt 7 [0x10, 0, 7], ⟨0, { cmd 2 [] with flags := 4, target := 7 }, [7], [], 0, false, []⟩, (by decide +kernel), (by decide +kernel), { head with mbx := { head.mbx with relays := [⟨0, { cmd 2 [] with flags := 4, target := 7 }, [7], [], 0, false, []⟩] } }, by decide +kernel, by decide +kernel⟩,
    ⟨pkt 7 [], (by decide +kernel), head, by decide +kernel, by decide +kernel⟩,
    ⟨{ pkt 7 [0, 0, 1] with vc := 0 }, tile, by decide +kernel, by decide +kernel⟩,
    ⟨pkt 7 [0, 0, 3], tile, by decide +kernel, by decide +kernel⟩,
    ⟨pkt 7 [0, 0, 3], (7, 0, 0), { tile with net := { tile.net with fencesIn := [(7, 0, 0)] } }, by decide +kernel, by decide +kernel⟩,
    ⟨pkt 7 [], ⟨0, 7, 1, 0, []⟩, { tile with net := { tile.net with fences := [⟨0, 7, 1, 0, []⟩] } }, by decide +kernel, by decide +kernel⟩,
    ⟨pkt 7 [], tile, by decide +kernel, by decide +kernel⟩,
    ⟨0, ⟨0, 7, 1, 0, []⟩, { tile with clk := 10000000, net := { tile.net with fences := [⟨0, 7, 1, 0, []⟩] } }, by decide +kernel, by decide +kernel⟩,
    ⟨0, ⟨0, 7, 1, 0, []⟩, { tile with clk := 9999999, net := { tile.net with fences := [⟨0, 7, 1, 0, []⟩] } }, by decide +kernel, by decide +kernel⟩,
    ⟨0, tile, by decide +kernel, by decide +kernel⟩⟩

/-- Witnesses for CommandEventsComplete. -/
theorem test_witness_command_events_complete :
    (∃ k data c, c = { HostCmd.ofBytes (.fabric (k.u16 68)) 0xFF (k.u32 64) (k.payload.take 64) with data := data } ∧
    Met (.mbxCmdRx k data) (fun s => s.queuesMirror c = true)) ∧
    (∃ k data c, c = { HostCmd.ofBytes (.fabric (k.u16 68)) 0xFF (k.u32 64) (k.payload.take 64) with data := data } ∧ readsTransfer c = none ∧
    Met (.mbxCmdRx k data) (fun s => s.queuesMirror c = false)) ∧
    (∃ k data c n, c = { HostCmd.ofBytes (.fabric (k.u16 68)) 0xFF (k.u32 64) (k.payload.take 64) with data := data } ∧ readsTransfer c = some n ∧
    Met (.mbxCmdRx k data) (fun s => s.queuesMirror c = false ∧ s.wholeTransfer c n = true)) ∧
    (∃ k data c n, c = { HostCmd.ofBytes (.fabric (k.u16 68)) 0xFF (k.u32 64) (k.payload.take 64) with data := data } ∧ readsTransfer c = some n ∧
    Met (.mbxCmdRx k data) (fun s => s.queuesMirror c = false ∧ s.wholeTransfer c n = false ∧ s.fw.restartAt = none)) ∧
    (∃ k, Met (.mbxRspRx k) (fun s => s.fw.restartAt = none ∧ s.fw.fallback = none)) ∧
    (∃ k t, (k.u16 8 = Status.ok) ∧ Met (.mbxRspRx k) (fun s => s.fw.restartAt = none ∧ s.fw.fallback = some (k.u32 64, t))) ∧
    (∃ k, Met (.mbxRspRx k) (fun s => s.fw.restartAt ≠ none)) ∧
    (∃ tag r, Met (.relayTimeout tag) (fun s => s.mbx.relays.find? (fun r => r.tag = tag) = some r ∧ s.relayDue r = true ∧
      (r.finals = true ∨ r.endsNow = true ∨ r.responses.any (fun p => !p.2.final) = false))) ∧
    (∃ tag r, Met (.relayTimeout tag) (fun s => s.mbx.relays.find? (fun r => r.tag = tag) = some r ∧ s.relayDue r = true ∧
      r.finals = false ∧ r.endsNow = false ∧ r.responses.any (fun p => !p.2.final) = true)) ∧
    (∃ tag r, Met (.relayTimeout tag) (fun s => s.mbx.relays.find? (fun r => r.tag = tag) = some r ∧ s.relayDue r = false)) ∧
    Met .scheduledActivation (fun s => s.fw.restartAt ≠ none) ∧
    Met .scheduledActivation (fun s => s.fw.restartAt = none) ∧
    Met .scheduledActivation (fun s => s.fw.restartAt = none ∧ s.lapsing = [] ∧ ∀ c ∈ s.mbx.scheduled, s.ftNs < c.activation) ∧
    (∃ c t, Met .fencedCommandStart (fun s => s.lapseDue = t ∧ t.mbx.fenced.find? t.mayStart = some c ∧ t.fw.restartAt = none)) ∧
    (∃ t, Met .fencedCommandStart (fun s => s.lapseDue = t ∧ (t.mbx.fenced.find? t.mayStart = none ∨ t.fw.restartAt ≠ none))) ∧
    (∃ ip sport l n, (l.take 4 = [0x4D, 0x58, 0x55, 0x31]) ∧ (getLE l 4 1 = n) ∧ (1 ≤ n) ∧ (n ≤ 8) ∧ (getLE l 5 1 = 0) ∧ (l.length = 8 + 64 * n) ∧ Met (.udpDatagramRx ip sport l) (fun s => s.mbx.pathsUp = true ∧ s.held 3 = false ∧ s.allowed ip = true ∧ s.fw.restartAt = none)) ∧
    (∃ ip sport l, (l.take 4 ≠ [0x4D, 0x58, 0x55, 0x31]) ∧ Met (.udpDatagramRx ip sport l) (fun s => s.mbx.pathsUp = true ∧ s.held 3 = false ∧ s.allowed ip = true)) ∧
    (∃ ip sport l, Met (.udpDatagramRx ip sport l) (fun s => s.mbx.pathsUp = false ∨ s.held 3 = true ∨ s.allowed ip = false)) ∧
    (∃ n, Met (.sessionLapse n) (fun s => ∃ x, s.mbx.sessions.find? (fun x => x.id = n) = some x ∧ x.expiry ≤ s.clk)) ∧
    (∃ n, Met (.sessionLapse n) (fun s => ¬ (∃ x, s.mbx.sessions.find? (fun x => x.id = n) = some x ∧ x.expiry ≤ s.clk))) ∧
    Met .pcieLinkDown (fun _ => True) :=
  ⟨⟨relayed 0x0602 0, [], _, rfl, resilvering, by decide +kernel, by decide +kernel⟩,
    ⟨relayed 0x0002 0, [], _, rfl, by decide +kernel, tile, by decide +kernel, by decide +kernel⟩,
    ⟨relayed 0x0702 0, [], _, 0, rfl, by decide +kernel, tile, by decide +kernel, by decide +kernel⟩,
    ⟨relayed 0x0702 64, [], _, 0, rfl, by decide +kernel, tile, by decide +kernel, by decide +kernel⟩,
    ⟨pkt 1 [], tile, by decide +kernel, by decide +kernel⟩,
    ⟨pkt 1 [], 0, (by decide +kernel), { head with fw := { head.fw with fallback := some (0, 0) } }, by decide +kernel, by decide +kernel⟩,
    ⟨pkt 1 [], { tile with fw := { tile.fw with restartAt := some 0 } }, by decide +kernel, by decide +kernel⟩,
    ⟨0, ⟨0, { cmd 2 [] with flags := 4, target := 7 }, [7], [], 0, false, []⟩, { head with clk := 100000000, mbx := { head.mbx with relays := [⟨0, { cmd 2 [] with flags := 4, target := 7 }, [7], [], 0, false, []⟩] } }, by decide +kernel, by decide +kernel⟩,
    ⟨0, ⟨0, { cmd 2 [] with flags := 4, target := 7 }, [7], [], 0, false, [(7, { finalOf (cmd 2 []) tile 0 [] 0 with final := false })]⟩, { head with clk := 100000000, mbx := { head.mbx with relays := [⟨0, { cmd 2 [] with flags := 4, target := 7 }, [7], [], 0, false, [(7, { finalOf (cmd 2 []) tile 0 [] 0 with final := false })]⟩] } }, by decide +kernel, by decide +kernel⟩,
    ⟨0, ⟨0, { cmd 2 [] with flags := 4, target := 7 }, [7], [], 0, false, []⟩, { head with clk := 99999999, mbx := { head.mbx with relays := [⟨0, { cmd 2 [] with flags := 4, target := 7 }, [7], [], 0, false, []⟩] } }, by decide +kernel, by decide +kernel⟩,
    ⟨{ tile with fw := { tile.fw with restartAt := some 0 } }, by decide +kernel, by decide +kernel⟩,
    ⟨tile, by decide +kernel, by decide +kernel⟩,
    ⟨tile, by decide +kernel, by decide +kernel⟩,
    ⟨cmd 2 [], _, { tile with mbx := { tile.mbx with fenced := [cmd 2 []] } }, by decide +kernel, rfl, by decide +kernel⟩,
    ⟨_, tile, by decide +kernel, rfl, by decide +kernel⟩,
    ⟨1, 2, [0x4D, 0x58, 0x55, 0x31, 8] ++ List.replicate 515 0, 8, by decide +kernel, by decide +kernel, by decide, by decide, by decide +kernel, by decide +kernel,
      { tile with fw := { tile.fw with records := [(2, leBytes 4 1)] } }, by decide +kernel, by decide +kernel⟩,
    ⟨1, 2, [], (by decide +kernel), { tile with fw := { tile.fw with records := [(2, leBytes 4 1)] } }, by decide +kernel, by decide +kernel⟩,
    ⟨1, 2, [], tile, by decide +kernel, by decide +kernel⟩,
    ⟨256, { opened with clk := 500000000 }, by decide +kernel, ⟨⟨256, 0, .udp 1 2, 500000000, false⟩, by decide +kernel⟩⟩,
    ⟨256, tile, by decide +kernel, by rintro ⟨t, h, -⟩; cases h⟩,
    ⟨tile, by decide +kernel, by decide +kernel⟩⟩

/-- Witnesses for CommitEventsComplete. -/
theorem test_witness_commit_events_complete :
    (∃ k t, Met (.commitPrepareRx k) (fun s => s.lapseDue = t ∧ t.heedsCommit k.src = false)) ∧
    (∃ k t, Met (.commitPrepareRx k) (fun s => s.lapseDue = t ∧ t.heedsCommit k.src = true ∧
      (t.lay.sets.any (fun c => c.state == .prepared) = true ∨ 4 ≤ t.lay.sets.length))) ∧
    (∃ k t, Met (.commitPrepareRx k) (fun s => s.lapseDue = t ∧ t.heedsCommit k.src = true ∧
      t.lay.sets.any (fun c => c.state == .prepared) = false ∧ t.lay.sets.length < 4 ∧ t.validate t.candidate = none)) ∧
    (∃ k reject t, Met (.commitPrepareRx k) (fun s => s.lapseDue = t ∧ t.heedsCommit k.src = true ∧
      t.lay.sets.any (fun c => c.state == .prepared) = false ∧ t.lay.sets.length < 4 ∧ t.validate t.candidate = some reject ∧ t.isHead = false)) ∧
    (∃ k r w, (k.u8 2 = 0) ∧ Met (.commitVoteRx k) (fun s => s.lay.sealRun = some r ∧ r.id = k.u16 0 ∧ s.voteOf r k.src = some w)) ∧
    (∃ k r w, (k.u8 2 ≠ 0) ∧ Met (.commitVoteRx k) (fun s => s.lay.sealRun = some r ∧ r.id = k.u16 0 ∧ s.voteOf r k.src = some w)) ∧
    (∃ k r, Met (.commitVoteRx k) (fun s => s.lay.sealRun = some r ∧ (r.id ≠ k.u16 0 ∨ s.voteOf r k.src = none))) ∧
    (∃ k, Met (.commitVoteRx k) (fun s => s.lay.sealRun = none)) ∧
    (∃ k u, Met (.commitSealRx k) (fun s => s.heard k (k.u16 0) = some u)) ∧
    (∃ k, Met (.commitSealRx k) (fun s => s.heard k (k.u16 0) = none)) ∧
    (∃ k u c, Met (.commitAbandonRx k) (fun s => s.heard k (k.u16 0) = some u ∧
      s.lay.sealRun = none ∧ u.lay.sets.find? (fun c => c.id == k.u16 0 && c.state == .prepared) = some c)) ∧
    (∃ k u r, Met (.commitAbandonRx k) (fun s => s.heard k (k.u16 0) = some u ∧ s.lay.sealRun = some r ∧ r.id = k.u16 0 ∧
      (u.endSeal r (k.u16 2)).lay.sets = [])) ∧
    (∃ k, Met (.commitAbandonRx k) (fun s => s.heard k (k.u16 0) = none)) ∧
    (∃ r, Met .voteTimeout (fun s => s.lay.sealRun = some r ∧ r.waiting ≠ [] ∧ r.started + 100000000 ≤ s.clk)) ∧
    (∃ r, Met .voteTimeout (fun s => s.lay.sealRun = some r ∧ (r.waiting = [] ∨ s.clk < r.started + 100000000))) ∧
    (∃ c, Met .preparedSetExpire (fun s =>
      s.lay.sets.find? (fun c => c.state == .prepared && decide (c.at_ + 1000000000 ≤ s.clk)) = some c)) ∧
    Met .preparedSetExpire (fun s => s.lay.sets = []) :=
  ⟨⟨pkt 5 [], _, tile, by decide +kernel, rfl, by decide +kernel⟩,
    ⟨pkt 1 [], _, { led with lay := { tile.lay with sets := List.replicate 4 set1 } }, by decide +kernel, rfl, by decide +kernel⟩,
    ⟨pkt 1 [], _, led.stages 0 [(.layVEnable, 0, 1), (.layVSrcW, 0, 0)], by decide +kernel, rfl, by decide +kernel⟩,
    ⟨pkt 1 [], 0, _, led, by decide +kernel, rfl, by decide +kernel⟩,
    ⟨pkt 5 [], ⟨0, 0, 0, 0, 0, 0, [5], 0, 0, 0⟩, 5, (by decide +kernel), { head with clk := 0, lay := { head.lay with sealRun := some ⟨0, 0, 0, 0, 0, 0, [5], 0, 0, 0⟩ } }, by decide +kernel, by decide +kernel⟩,
    ⟨pkt 5 [0, 0, 1], ⟨0, 0, 0, 0, 0, 0, [5], 0, 0, 0⟩, 5, (by decide +kernel), { head with clk := 0, lay := { head.lay with sealRun := some ⟨0, 0, 0, 0, 0, 0, [5], 0, 0, 0⟩ } }, by decide +kernel, by decide +kernel⟩,
    ⟨pkt 5 [], ⟨1, 0, 0, 0, 0, 0, [5], 0, 0, 0⟩, { head with clk := 0, lay := { head.lay with sealRun := some ⟨1, 0, 0, 0, 0, 0, [5], 0, 0, 0⟩ } }, by decide +kernel, by decide +kernel⟩,
    ⟨pkt 5 [], head, by decide +kernel, by decide +kernel⟩,
    ⟨pkt 1 [], _, { tile.puts [(.redControlHead, 0, 1)] with red := { tile.red with renewAt := some 0 } }, by decide +kernel, rfl⟩,
    ⟨pkt 5 [], tile, by decide +kernel, by decide +kernel⟩,
    ⟨pkt 1 [], _, { set1 with id := 0, state := .prepared }, { tile.puts [(.redControlHead, 0, 1)] with red := { tile.red with renewAt := some 0 }, lay := { tile.lay with sets := [{ set1 with id := 0, state := .prepared }] } }, by decide +kernel, by and_intros <;> exact rfl⟩,
    ⟨pkt 1 [], _, ⟨0, 0, 0, 0, 0, 0, [5], 0, 0, 0⟩, { led with lay := { led.lay with sealRun := some ⟨0, 0, 0, 0, 0, 0, [5], 0, 0, 0⟩ } }, by decide +kernel, rfl, by decide +kernel⟩,
    ⟨pkt 5 [], tile, by decide +kernel, by decide +kernel⟩,
    ⟨⟨0, 0, 0, 0, 0, 0, [5], 0, 0, 0⟩, { head with clk := 100000000, lay := { head.lay with sealRun := some ⟨0, 0, 0, 0, 0, 0, [5], 0, 0, 0⟩ } }, by decide +kernel, by decide +kernel⟩,
    ⟨⟨0, 0, 0, 0, 0, 0, [5], 0, 0, 0⟩, { head with clk := 99999999, lay := { head.lay with sealRun := some ⟨0, 0, 0, 0, 0, 0, [5], 0, 0, 0⟩ } }, by decide +kernel, by decide +kernel⟩,
    ⟨{ set1 with id := 0, state := .prepared }, { tile with clk := 1000000000, lay := { tile.lay with sets := [{ set1 with id := 0, state := .prepared }] } }, by decide +kernel, by decide +kernel⟩,
    ⟨tile, by decide +kernel, by decide +kernel⟩⟩

/-- Witnesses for LeaseEventsComplete. -/
theorem test_witness_lease_events_complete :
    Met .leaseRenewSend (fun s => s.isHead = true ∧ (s.on .redHolder = true ∨ s.r .redState = Red.candidate) ∧ s.held 12 = false ∧
    s.red.sentAt + 1000 * s.r .redRenewUs ≤ s.clk) ∧
    Met .leaseRenewSend (fun s => ¬ (s.isHead = true ∧ (s.on .redHolder = true ∨ s.r .redState = Red.candidate) ∧ s.held 12 = false ∧
    s.red.sentAt + 1000 * s.r .redRenewUs ≤ s.clk)) ∧
    (∃ p k, (p < 4) ∧ (k.u8 0 = 0) ∧ (bit (k.u8 1) 4 = false) ∧ ∃ u, Met (.leaseRenewRx p k) (fun s => s.firstCopy (leaseOrigin k) 0x1C (k.u16 16) = some u ∧ u.isHead = false)) ∧
    (∃ p k, (p < 4) ∧ (k.u8 0 = 0) ∧ (bit (k.u8 1) 4 = false) ∧ ∃ u, Met (.leaseRenewRx p k) (fun s => s.firstCopy (leaseOrigin k) 0x1C (k.u16 16) = some u ∧ u.isHead = true ∧ u.fromTwin k = false)) ∧
    (∃ p k, (p < 4) ∧ (k.u8 0 = 0) ∧ (bit (k.u8 1) 4 = false) ∧ ∃ u, Met (.leaseRenewRx p k) (fun s => s.firstCopy (leaseOrigin k) 0x1C (k.u16 16) = some u ∧ u.isHead = true ∧ u.fromTwin k = true ∧ (u.noteTwin k).ignores k = true)) ∧
    (∃ p k, (p < 4) ∧ (k.u8 0 = 0) ∧ (bit (k.u8 1) 4 = false) ∧ ∃ u, Met (.leaseRenewRx p k) (fun s => s.firstCopy (leaseOrigin k) 0x1C (k.u16 16) = some u ∧ u.isHead = true ∧ u.fromTwin k = true ∧ (u.noteTwin k).ignores k = false)) ∧
    (∃ p k, (k.u8 0 ≠ 0 ∨ bit (k.u8 1) 4 = true) ∧ Met (.leaseRenewRx p k) (fun _ => True)) ∧
    (∃ k u e, (k.u8 0 = 1) ∧ (k.u64 8 = e) ∧ Met (.leaseAckRx k) (fun s => s.isHead = true ∧
      s.firstCopy (leaseOrigin k) 0x1C (k.u16 16) = some u ∧ u.fromTwin k = true ∧ (u.noteTwin k).red.asked = some e ∧
      bit (k.u16 26) 15 = (u.noteTwin k).isHeadB ∧ (u.noteTwin k).red.witness = false ∧ (u.noteTwin k).fromTwin k = true)) ∧
    (∃ k, Met (.leaseAckRx k) (fun s => s.isHead = false ∨ k.u8 0 ≠ 1)) ∧
    (∃ k u, (k.u8 0 = 2) ∧ (bit (k.u8 1) 4 = false) ∧ Met (.leaseYieldRx k) (fun s => s.firstCopy (leaseOrigin k) 0x1C (k.u16 16) = some u ∧
      u.fromTwin k = true ∧ u.held 12 = false ∧ (u.noteTwin k).r .redState ≠ Red.candidate ∧ (u.noteTwin k).on .redHolder = false)) ∧
    (∃ k, (k.u8 0 ≠ 2 ∨ bit (k.u8 1) 4 = true) ∧ Met (.leaseYieldRx k) (fun _ => True)) ∧
    Met .leaseEnd (fun s => s.on .redHolder = true ∧ s.red.leaseEnd ≤ s.ftNs ∧ s.acksNow.red.leaseEnd ≤ s.acksNow.ftNs) ∧
    Met .leaseEnd (fun s => s.on .redHolder = true ∧ s.red.leaseEnd ≤ s.ftNs ∧ s.acksNow.ftNs < s.acksNow.red.leaseEnd) ∧
    Met .leaseEnd (fun s => s.on .redHolder = false ∨ s.ftNs < s.red.leaseEnd) ∧
    Met .leaseSilence (fun s => s.isHead = true ∧ s.red.begunAt.isSome = true ∧ s.r .redLeaseMode = 0 ∧ s.r .redState ≠ Red.candidate ∧
      s.r .redState ≠ Red.active ∧ s.held 12 = false ∧ s.silence = true ∧ s.eligible = true) ∧
    Met .leaseSilence (fun s => s.isHead = false ∨ s.red.begunAt = none ∨ s.r .redLeaseMode ≠ 0 ∨ s.r .redState = Red.candidate ∨
    s.r .redState = Red.active ∨ s.held 12 = true) ∧
    Met .guardEnd (fun s => s.isHead = true ∧ let t := s.renewsNow
    t.isHead = true ∧ t.r .redState ≠ Red.candidate ∧ t.r .redState ≠ Red.active ∧ t.held 12 = false ∧
    ((t.red.taking = true ∧ t.r .redLeaseMode = 0) ∨ t.red.takeReq = true) ∧ t.guardOver = true) ∧
    Met .guardEnd (fun s => s.isHead = true ∧ let t := s.renewsNow
    t.r .redState = Red.candidate ∨ t.r .redState = Red.active ∨ t.held 12 = true ∨
    (t.red.takeReq = false ∧ (t.red.taking = false ∨ t.r .redLeaseMode ≠ 0)) ∨ t.guardOver = false) ∧
    Met .guardEnd (fun s => s.isHead = false) ∧
    Met .candidateTimeout (fun s => s.isHead = true ∧ s.r .redState = Red.candidate ∧ s.red.granted = false ∧
    s.red.candidateAt + 1000 * s.r .redLeaseUs ≤ s.clk) ∧
    Met .candidateTimeout (fun s => ¬ (s.isHead = true ∧ s.r .redState = Red.candidate ∧ s.red.granted = false ∧
    s.red.candidateAt + 1000 * s.r .redLeaseUs ≤ s.clk)) ∧
    Met .renewMissed (fun s => ∃ t, s.red.renewAt = some t ∧ s.on .redHolder = false ∧ t + 1000 * s.r .redRenewUs + 100000 ≤ s.clk ∧
    s.on .redRenewMissed = false) ∧
    Met .renewMissed (fun s => ¬ (∃ t, s.red.renewAt = some t ∧ s.on .redHolder = false ∧ t + 1000 * s.r .redRenewUs + 100000 ≤ s.clk ∧
    s.on .redRenewMissed = false)) :=
  ⟨⟨{ head with clk := 10 ^ 12 }, by decide +kernel, by decide +kernel⟩,
    ⟨tile, by decide +kernel, by decide +kernel⟩,
    ⟨3, pkt 1 [], (by decide +kernel), (by decide +kernel), (by decide +kernel), _, tile, by decide +kernel, by and_intros <;> exact rfl⟩,
    ⟨3, pkt 1 [], (by decide +kernel), (by decide +kernel), (by decide +kernel), _, head, by decide +kernel, by and_intros <;> exact rfl⟩,
    ⟨3, pkt 2 ([0, 8] ++ List.replicate 6 0 ++ leBytes 8 1), (by decide +kernel), (by decide +kernel), (by decide +kernel), _, head.puts [(.redState, 0, Red.candidate)], by decide +kernel, by and_intros <;> exact rfl⟩,
    ⟨3, pkt 2 [0, 8], (by decide +kernel), (by decide +kernel), (by decide +kernel), _, head, by decide +kernel, by and_intros <;> exact rfl⟩,
    ⟨3, pkt 1 [1], (by decide +kernel), head, by decide +kernel, by decide +kernel⟩,
    ⟨pkt 2 [1, 8], _, 0, (by decide +kernel), (by decide +kernel), { head with red := { head.red with asked := some 0 } }, by decide +kernel, by and_intros <;> exact rfl⟩,
    ⟨pkt 1 [], tile, by decide +kernel, by decide +kernel⟩,
    ⟨pkt 2 [2, 8], _, (by decide +kernel), (by decide +kernel), standby, by decide +kernel, by and_intros <;> first | exact rfl | decide +kernel⟩,
    ⟨pkt 1 [], (by decide +kernel), head, by decide +kernel, by decide +kernel⟩,
    ⟨head, by decide +kernel, by decide +kernel⟩,
    ⟨{ head with pending := [.leaseAckRx (pkt 2 ([1, 8, 0, 0, 0, 0, 0, 0] ++ leBytes 8 5))], red := { head.red with asked := some 5 } }, by decide +kernel, by decide +kernel⟩,
    ⟨tile, by decide +kernel, by decide +kernel⟩,
    ⟨{ standby.puts [(.redState, 0, Red.standby)] with clk := 10 ^ 12, red := { standby.red with begunAt := some 0 } }, by decide +kernel, by decide +kernel⟩,
    ⟨tile, by decide +kernel, by decide +kernel⟩,
    ⟨{ standby.puts [(.redState, 0, Red.standby)] with clk := 10 ^ 12, red := { standby.red with begunAt := some 0, takeReq := true } }, by decide +kernel, by decide +kernel⟩,
    ⟨{ standby.puts [(.redState, 0, Red.active)] with clk := 10 ^ 12, red := { standby.red with begunAt := some 0, takeReq := true } }, by decide +kernel, by decide +kernel⟩,
    ⟨tile, by decide +kernel, by decide +kernel⟩,
    ⟨{ standby.puts [(.redState, 0, Red.candidate)] with clk := 10 ^ 12 }, by decide +kernel, by decide +kernel⟩,
    ⟨tile, by decide +kernel, by decide +kernel⟩,
    ⟨{ standby with clk := 10 ^ 12, red := { standby.red with renewAt := some 0 } }, by decide +kernel, ⟨0, by decide +kernel⟩⟩,
    ⟨tile, by decide +kernel, by rintro ⟨t, h, -⟩; cases h⟩⟩

/-- Witnesses for RedundancyEventsComplete. -/
theorem test_witness_redundancy_events_complete :
    (∃ p k u, (p < 4) ∧ Met (.headClaimRx p k) (fun s => s.firstCopy (8192 + k.u32 4 % 2) 0x1D (k.u48 16 % 65536) = some u ∧ u.isHead = true ∧
      (k.u32 4 % 2 = 1 ↔ u.isHeadB = false))) ∧
    (∃ p k u, (p < 4) ∧ Met (.headClaimRx p k) (fun s => s.firstCopy (8192 + k.u32 4 % 2) 0x1D (k.u48 16 % 65536) = some u ∧ u.isHead = false ∧
      (u.red.claims.getD (k.u32 4 % 2) State.claim0).liveAt (u.r .redClaimHold) u.frameNow = true ∧
      pairLt (k.u16 0, k.u32 4) ((u.red.claims.getD (k.u32 4 % 2) State.claim0).epoch, (u.red.claims.getD (k.u32 4 % 2) State.claim0).claim) = true)) ∧
    (∃ p k u, (p < 4) ∧ Met (.headClaimRx p k) (fun s => s.firstCopy (8192 + k.u32 4 % 2) 0x1D (k.u48 16 % 65536) = some u ∧ u.isHead = false ∧
      (u.red.claims.getD (k.u32 4 % 2) State.claim0).liveAt (u.r .redClaimHold) u.frameNow = false ∧ u.red.standdownAt = none)) ∧
    (∃ p k, Met (.headClaimRx p k) (fun s => s.firstCopy (8192 + k.u32 4 % 2) 0x1D (k.u48 16 % 65536) = none)) ∧
    Met .pairStanddown (fun s => s.isTile = true ∧ s.on .redPairOn = true ∧ s.unwell = true ∧ s.red.standdownAt = none) ∧
    Met .pairStanddown (fun s => ¬ (s.isTile = true ∧ s.on .redPairOn = true ∧ s.unwell = true ∧ s.red.standdownAt = none)) ∧
    (∃ k u, (k.u8 0 = 0) ∧ Met (.resilverRx k) (fun s => s.isHead = true ∧ k.src ≠ s.id ∧
      s.firstCopy (8192 + b2n (!s.isHeadB)) 0x1E (k.u32 16 % 8192 * 8 + 0) = some u)) ∧
    (∃ k u, (k.u8 0 = 2) ∧ Met (.resilverRx k) (fun s => s.isHead = true ∧ k.src ≠ s.id ∧
      s.firstCopy (8192 + b2n (!s.isHeadB)) 0x1E (k.u32 16 % 8192 * 8 + 2) = some u ∧ u.r .redState = Red.resilver)) ∧
    (∃ k u, (k.u8 0 = 3) ∧ Met (.resilverRx k) (fun s => s.isHead = true ∧ k.src ≠ s.id ∧
      s.firstCopy (8192 + b2n (!s.isHeadB)) 0x1E (k.u32 16 % 8192 * 8 + 3) = some u ∧ u.granuleOk (k.u64 8 / 4096) = true)) ∧
    (∃ k u, (k.u8 0 = 4) ∧ Met (.resilverRx k) (fun s => s.isHead = true ∧ k.src ≠ s.id ∧
      s.firstCopy (8192 + b2n (!s.isHeadB)) 0x1E (k.u32 16 % 8192 * 8 + 4) = some u)) ∧
    (∃ k, Met (.resilverRx k) (fun s => s.isHead = false ∨ k.src = s.id)) ∧
    Met .resilverPassDone (fun s => s.red.reading = false) ∧
    Met .resilverPassDone (fun s => s.red.reading = true ∧ s.red.dirty = []) :=
  ⟨⟨3, pkt 2 [0, 0, 0, 0, 1], _, (by decide +kernel), head, by decide +kernel, by and_intros <;> first | exact rfl | decide +kernel⟩,
    ⟨3, pkt 1 [], _, (by decide +kernel), { tile.puts [(.redClaimHold, 0, 4)] with red := { tile.red with claims := [{ State.claim0 with epoch := 5, live := true }, State.claim0] } }, by decide +kernel, by and_intros <;> exact rfl⟩,
    ⟨3, pkt 1 [], _, (by decide +kernel), tile, by decide +kernel, by and_intros <;> exact rfl⟩,
    ⟨3, pkt 1 [], { tile with net := { tile.net with seen := sput 0 [] (8192 * 64 + 0x1D) 65536 } }, by decide +kernel, by decide +kernel⟩,
    ⟨tile.puts [(.redPairOn, 0, 1), (.redStanddownMask, 0, 0xFFFF)], by decide +kernel, by decide +kernel⟩,
    ⟨tile, by decide +kernel, by decide +kernel⟩,
    ⟨pkt 2 [], _, (by decide +kernel), head, by decide +kernel, by and_intros <;> first | exact rfl | decide +kernel⟩,
    ⟨pkt 2 [2], _, (by decide +kernel), head.puts [(.redState, 0, Red.resilver)], by decide +kernel, by and_intros <;> first | exact rfl | decide +kernel⟩,
    ⟨pkt 2 [3], _, (by decide +kernel), head, by decide +kernel, by and_intros <;> first | exact rfl | decide +kernel⟩,
    ⟨pkt 2 [4], _, (by decide +kernel), head, by decide +kernel, by and_intros <;> first | exact rfl | decide +kernel⟩,
    ⟨pkt 2 [], tile, by decide +kernel, by decide +kernel⟩,
    ⟨tile, by decide +kernel, by decide +kernel⟩,
    ⟨{ head with red := { head.red with reading := true } }, by decide +kernel, by decide +kernel⟩⟩

/-- Witnesses for CalibrationTestEventsComplete. -/
theorem test_witness_calibration_test_events_complete :
    Met .calRunStart (fun _ => True) ∧
    (∃ o, Met (.calRunDone o) (fun s => s.thm.running = none)) ∧
    (∃ o r, Met (.calRunDone o) (fun s => s.thm.running = some r ∧ r.sweeping = true)) ∧
    (∃ o r, Met (.calRunDone o) (fun s => s.thm.running = some r ∧ r.aborting = true)) ∧
    (∃ o r, Met (.calRunDone o) (fun s => s.thm.running = some r ∧ r.aborting = false ∧ r.sweeping = false ∧
      ({ s with thm := { s.thm with running := none } } : State).calPasses o r = true ∧ ({ s with thm := { s.thm with running := none } } : State).calBlock r = true)) ∧
    (∃ o r, Met (.calRunDone o) (fun s => s.thm.running = some r ∧ r.aborting = false ∧ r.sweeping = false ∧
      ({ s with thm := { s.thm with running := none } } : State).calPasses o r = false ∧ ({ s with thm := { s.thm with running := none } } : State).calBlock r = true)) ∧
    (∃ o r, Met (.calRunDone o) (fun s => s.thm.running = some r ∧ r.aborting = false ∧ r.sweeping = false ∧
      ({ s with thm := { s.thm with running := none } } : State).calBlock r = false)) ∧
    Met .testRunStart (fun _ => True) ∧
    (∃ l k x c, Met (.testChunkDone l ⟨k, x⟩ c) (fun s => s.chunkRun l k x = none)) ∧
    (∃ l k x c r, ((l = true ∨ k ≠ 4)) ∧ Met (.testChunkDone l ⟨k, x⟩ c) (fun s => s.chunkRun l k x = some r ∧ s.runEnded (r.add c) = true)) ∧
    (∃ x c r, Met (.testChunkDone false ⟨4, x⟩ c) (fun s => s.chunkRun false 4 x = some r ∧ s.runEnded (r.add c) = true)) ∧
    (∃ l k x c r, ((l = true ∨ k ≠ 4)) ∧ Met (.testChunkDone l ⟨k, x⟩ c) (fun s => s.chunkRun l k x = some r ∧ s.runEnded (r.add c) = false ∧ r.aborting = true)) ∧
    (∃ k x c r, (k ≠ 4) ∧ Met (.testChunkDone false ⟨k, x⟩ c) (fun s => s.chunkRun false k x = some r ∧ s.runEnded (r.add c) = false ∧ r.aborting = false)) ∧
    (∃ x c r, (r.code = 3) ∧ Met (.testChunkDone true ⟨1, x⟩ c) (fun s => s.chunkRun true 1 x = some r ∧ s.runEnded (r.add c) = false ∧ r.aborting = false)) ∧
    (∃ (i : Jtag) (s : State), i ∈ [Jtag.extest, Jtag.clamp, Jtag.highz] ∧ s.boot.supply = .on ∧ s.on .tstBscan = false) ∧
    (∃ (i : Jtag) (s : State), i ∉ [Jtag.extest, Jtag.clamp, Jtag.highz, Jtag.idcode] ∧ s.boot.supply = .on ∧ s.on .tstBscan = true ∧ s.boot.halted = false) ∧
    (∃ s : State, s.boot.supply = .on ∧ s.on .tstBscan = false) ∧
    (∃ s : State, s.boot.supply ≠ .on) ∧
    (∃ sig too, Met (.debugResponse sig too) (fun s => Config.debugFused = true ∨ s.on .tstDebugRefusing = true)) ∧
    (∀ sig, Config.debugFused = false →
    Config.debugSignatureOk (Config.sha384 (leBytes 16 Config.unitId ++ leBytes 16 (tile.begun.draw 128).1)) sig = true →
    Met (.debugResponse sig false) (fun s => Config.debugFused = false ∧ s.on .tstDebugRefusing = false ∧
      s.sameCycle.any s.resetBy = false ∧ s.boot.resetAt ≠ some s.clk ∧
      Config.debugSignatureOk (Config.sha384 (leBytes 16 Config.unitId ++ leBytes 16 (s.draw 128).1)) sig = true)) ∧
    (∀ sig, Config.debugFused = false →
    Config.debugSignatureOk (Config.sha384 (leBytes 16 Config.unitId ++ leBytes 16 (tile.begun.draw 128).1)) sig = false →
    Met (.debugResponse sig false) (fun s => Config.debugFused = false ∧ s.on .tstDebugRefusing = false ∧
      Config.debugSignatureOk (Config.sha384 (leBytes 16 Config.unitId ++ leBytes 16 (s.draw 128).1)) sig = false)) :=
  ⟨⟨tile, by decide +kernel, by decide +kernel⟩,
    ⟨⟨true, ⟨2, 1, 524288, [], 66⟩, 0, [], 65536, 0, 327680, 32, 2⟩, tile, by decide +kernel, by decide +kernel⟩,
    ⟨⟨true, ⟨2, 1, 524288, [], 66⟩, 0, [], 65536, 0, 327680, 32, 2⟩, { retRun 0 with kind := 3 }, { tile with thm := { tile.thm with running := some ({ retRun 0 with kind := 3 }) } }, by decide +kernel, by decide +kernel⟩,
    ⟨⟨true, ⟨2, 1, 524288, [], 66⟩, 0, [], 65536, 0, 327680, 32, 2⟩, { retRun 0 with aborting := true }, { tile with thm := { tile.thm with running := some ({ retRun 0 with aborting := true }) } }, by decide +kernel, by decide +kernel⟩,
    ⟨⟨true, ⟨2, 1, 524288, [], 66⟩, 0, [], 65536, 0, 327680, 32, 2⟩, { retRun 0 with kind := 0 }, { tile.puts [(.fabState, 0, Port.up), (.fabRate, 0, 1)] with thm := { tile.thm with running := some ({ retRun 0 with kind := 0 }) } }, by decide +kernel, by decide +kernel⟩,
    ⟨⟨true, ⟨2, 1, 524288, [], 67⟩, 0, [], 58982, 0, 327680, 32, 2⟩, { retRun 0 with kind := 2 }, { tile with thm := { tile.thm with running := some ({ retRun 0 with kind := 2 }) } }, by decide +kernel, by decide +kernel⟩,
    ⟨⟨true, ⟨2, 1, 524288, [], 66⟩, 0, [], 65536, 0, 327680, 32, 2⟩, { retRun 0 with kind := 0 }, { tile with thm := { tile.thm with running := some ({ retRun 0 with kind := 0 }) } }, by decide +kernel, by decide +kernel⟩,
    ⟨tile, by decide +kernel, by decide +kernel⟩,
    ⟨false, 1, 0, ⟨0, 0, 0, []⟩, tile, by decide +kernel, by decide +kernel⟩,
    ⟨true, 0, 0, ⟨0, 0, 0, []⟩, { retRun 0 with isLoop := true, kind := 0 }, (by decide +kernel), { tile with thm := { tile.thm with testing := [{ retRun 0 with isLoop := true, kind := 0 }] } }, by decide +kernel, by decide +kernel⟩,
    ⟨0, ⟨0, 0, 0, []⟩, { retRun 0 with kind := 4, chunks := testChunks 4 0 }, { tile with thm := { tile.thm with testing := [{ retRun 0 with kind := 4, chunks := testChunks 4 0 }] } }, by decide +kernel, by decide +kernel⟩,
    ⟨true, 0, 0, ⟨0, 0, 0, []⟩, { retRun 0 with isLoop := true, kind := 0, duration := 1, aborting := true }, (by decide +kernel), { tile with thm := { tile.thm with testing := [{ retRun 0 with isLoop := true, kind := 0, duration := 1, aborting := true }] } }, by decide +kernel, by decide +kernel⟩,
    ⟨1, 0, ⟨0, 0, 0, []⟩, { retRun 0 with kind := 1 }, (by decide +kernel), { tile with thm := { tile.thm with testing := [{ retRun 0 with kind := 1 }] } }, by decide +kernel, by decide +kernel⟩,
    ⟨0, ⟨0, 0, 0, []⟩, { retRun 0 with isLoop := true, kind := 1, code := 3, duration := 1 }, (by decide +kernel), { tile with thm := { tile.thm with testing := [{ retRun 0 with isLoop := true, kind := 1, code := 3, duration := 1 }] } }, by decide +kernel, by decide +kernel⟩,
    ⟨.highz, tile, by decide, rfl, by decide +kernel⟩,
    ⟨.tapReset, tile.puts [(.tstBscan, 0, 1)], by decide, by decide +kernel, by decide +kernel, by decide +kernel⟩,
    ⟨tile, rfl, by decide +kernel⟩,
    ⟨off, by decide +kernel⟩,
    ⟨[], false, tile.puts [(.tstDebugRefusing, 0, 1)], by decide +kernel, .inr (by decide +kernel)⟩,
    fun _ h h2 => ⟨tile, by decide +kernel, h, by decide +kernel, by decide +kernel, by decide +kernel, h2⟩,
    fun _ h h2 => ⟨tile, by decide +kernel, h, by decide +kernel, h2⟩⟩

/-- Witnesses for FirmwareEventsComplete. -/
theorem test_witness_firmware_events_complete :
    (∃ t parsed, Met (.firmwareRestart parsed) (fun s => s.fw.restartAt = some t)) ∧
    (∃ d parsed, Met (.firmwareRestart parsed) (fun s => s.fw.restartAt = none ∧ s.fw.restartDue = some d ∧ s.restartReady d = true)) ∧
    (∃ d parsed, Met (.firmwareRestart parsed) (fun s => s.fw.restartAt = none ∧ s.fw.restartDue = some d ∧ s.restartReady d = false)) ∧
    (∃ parsed, Met (.firmwareRestart parsed) (fun s => s.fw.restartAt = none ∧ s.fw.restartDue = none)) ∧
    Met .firmwareRestartTimeout (fun s => ∃ t, s.fw.restartAt = some t ∧ t + 1000000000 ≤ s.clk) ∧
    Met .firmwareRestartTimeout (fun s => ¬ (∃ t, s.fw.restartAt = some t ∧ t + 1000000000 ≤ s.clk)) ∧
    Met .fallbackReqRepeat (fun s => ∃ f, s.fw.fallback = some f ∧ f.2 + 10000000 ≤ s.clk) ∧
    Met .fallbackReqRepeat (fun s => ¬ (∃ f, s.fw.fallback = some f ∧ f.2 + 10000000 ≤ s.clk)) ∧
    (∃ sp, Met .spreadPoll (fun s => s.fw.spread = some sp ∧ sp.polled + 1000000000 ≤ s.clk ∧ s.spreadDone sp = true)) ∧
    (∃ sp, Met .spreadPoll (fun s => s.fw.spread = some sp ∧ sp.polled + 1000000000 ≤ s.clk ∧ s.spreadDone sp = false)) ∧
    (∃ sp, Met .spreadPoll (fun s => s.fw.spread = some sp ∧ s.clk < sp.polled + 1000000000)) ∧
    Met .spreadPoll (fun s => s.fw.spread = none) ∧
    (∃ sp, Met .spreadTimeout (fun s => s.fw.spread = some sp ∧ sp.started + 1000000000 * s.r .fwuSpreadLimit ≤ s.clk)) ∧
    (∃ sp, Met .spreadTimeout (fun s => s.fw.spread = some sp ∧ s.clk < sp.started + 1000000000 * s.r .fwuSpreadLimit)) ∧
    Met .spreadTimeout (fun s => s.fw.spread = none) ∧
    (∃ c st l, Met .flashWriteComplete (fun s => s.fw.job = .write ∧ s.mbx.deferred = [⟨c, .write st l, true⟩])) ∧
    (∃ c, Met .flashWriteComplete (fun s => s.fw.job = .write ∧ s.mbx.deferred = [⟨c, .confirm, true⟩] ∧ s.inTrial = true)) ∧
    Met .flashWriteComplete (fun s => s.fw.job = .save) ∧
    Met .flashWriteComplete (fun s => s.fw.job = .idle ∨ s.fw.job = .reload) :=
  ⟨⟨0, true, { tile with fw := { tile.fw with restartAt := some 0 } }, by decide +kernel, by decide +kernel⟩,
    ⟨0, true, { tile with fw := { tile.fw with restartDue := some 0 } }, by decide +kernel, by decide +kernel⟩,
    ⟨0, true, { tile with fw := { tile.fw with restartDue := some 0, job := .write } }, by decide +kernel, by decide +kernel⟩,
    ⟨true, tile, by decide +kernel, by decide +kernel⟩,
    ⟨{ tile with clk := 1000000000, fw := { tile.fw with restartAt := some 0 } }, by decide +kernel, ⟨0, by decide +kernel⟩⟩,
    ⟨tile, by decide +kernel, by rintro ⟨t, h, -⟩; cases h⟩,
    ⟨{ tile with clk := 10000000, fw := { tile.fw with fallback := some (0, 0) } }, by decide +kernel, ⟨(0, 0), by decide +kernel⟩⟩,
    ⟨tile, by decide +kernel, by rintro ⟨t, h, -⟩; cases h⟩,
    ⟨⟨0, 5, 0, 0, 0, [(5, 2, 0)]⟩, { head with clk := 1000000000, fw := { head.fw with spread := some ⟨0, 5, 0, 0, 0, [(5, 2, 0)]⟩ } }, by decide +kernel, by decide +kernel⟩,
    ⟨⟨0, 5, 0, 0, 0, []⟩, { head with clk := 1000000000, fw := { head.fw with spread := some ⟨0, 5, 0, 0, 0, []⟩ } }, by decide +kernel, by decide +kernel⟩,
    ⟨⟨0, 5, 0, 0, 0, []⟩, { head with clk := 999999999, fw := { head.fw with spread := some ⟨0, 5, 0, 0, 0, []⟩ } }, by decide +kernel, by decide +kernel⟩,
    ⟨tile, by decide +kernel, by decide +kernel⟩,
    ⟨⟨0, 5, 0, 0, 0, []⟩, { head with clk := 10 ^ 15, fw := { head.fw with spread := some ⟨0, 5, 0, 0, 0, []⟩ } }, by decide +kernel, by decide +kernel⟩,
    ⟨⟨0, 5, 0, 0, 0, []⟩, { head.puts [(.fwuSpreadLimit, 0, 1)] with clk := 999999999, fw := { head.fw with spread := some ⟨0, 5, 0, 0, 0, []⟩ } }, by decide +kernel, by decide +kernel⟩,
    ⟨tile, by decide +kernel, by decide +kernel⟩,
    ⟨cmd 2 [], 0, [], { tile with fw := { tile.fw with job := .write }, mbx := { tile.mbx with deferred := [⟨cmd 2 [], .write 0 [], true⟩] } }, by decide +kernel, by decide +kernel⟩,
    ⟨cmd 2 [], { tile.puts [(.aonFwuTrial, 0, 1)] with fw := { tile.fw with job := .write }, mbx := { tile.mbx with deferred := [⟨cmd 2 [], .confirm, true⟩] } }, by decide +kernel, by decide +kernel⟩,
    ⟨{ tile with fw := { tile.fw with job := .save } }, by decide +kernel, by decide +kernel⟩,
    ⟨tile, by decide +kernel, by decide +kernel⟩⟩

/-- Witnesses for StepRunsTheFrontCommand. -/
theorem test_witness_step_runs_the_front_command :
    (∃ c rest, ∃ s : State, s.pending = c :: rest) ∧
    (∃ s : State, s.pending = []) :=
  ⟨⟨.ftTick, [], { tile with pending := [.ftTick] }, rfl⟩,
    ⟨tile, rfl⟩⟩

/-- Witnesses for CommandsLeaveTheQueue. -/
theorem test_witness_commands_leave_the_queue :
    (∃ (s t : State), s.pending ≠ [] ∧ exec .ftNowRead s = .next t) :=
  ⟨{ tile with pending := [.ftTick] }, _, by simp, rfl⟩

/-- Witnesses for StepKeepsCanonical. -/
theorem test_witness_step_keeps_canonical :
    (∃ s t : State, s.Canonical ∧ s.pending ≠ [] ∧ step s = .next t) :=
  ⟨{ clip with pending := [.ftNowRead] }, _, by constructor <;> decide +kernel, by simp, rfl⟩

/-- Witnesses for BoundariesAndCurrentFrame. -/
theorem test_witness_boundaries_and_current_frame :
    (∃ (s : State) (f : Nat), 0 < s.r .ftPeriodNum ∧ 0 < s.r .ftPeriodDen ∧ s.r .ftAnchorFrame ≤ f) :=
  ⟨State.reset, 0, by decide +kernel, by decide +kernel, by decide +kernel⟩

/-- Witnesses for WidenedCodes. -/
theorem test_witness_widened_codes :
    widen 6 63 = 4095 ∧ widen 8 192 = 3084 ∧ widen 12 4095 = 4095 :=
  by decide

/-- Witnesses for WorkingCodes. -/
theorem test_witness_working_codes :
    workCode 0 1 = 0 ∧ workCode (2 ^ 24) 1 = 1023 ∧ workCode (2 ^ 23) 1 ≠ 0 :=
  by decide +kernel

/-- Witnesses for ResetValues. -/
theorem test_witness_reset_values :
    (∃ (f : FName) (i : Nat), i < 128 ∧ f ∉ [FName.rstCause, .aonLastCause, .aonResetCount, .aonBootStep, .fwuStateA, .fabState]) :=
  ⟨.thmNeigh, 95, by decide, by decide⟩

end Sys2Proof.Tests
end

/-! PROOFS. Supplies and resets, the state after reset, and the canonical form: what the reset of a node leaves (Table 13.2), the rows of
Tables 13.1 and 13.9, and a step that a state in canonical form does not survive. -/

namespace Sys2Proof.Machine

/-! ### Several fields written -/

/-- Writing plain fields changes the register file alone. -/
theorem ws_parts (l : List (FName × Nat)) (s : State) : s.ws l = { s with regs := (s.ws l).regs } := by
  induction l generalizing s with
  | nil => rfl
  | cons p r ih => exact ih (s.w p.1 0 p.2)

@[simp] theorem ws_boot (l : List (FName × Nat)) (s : State) : (s.ws l).boot = s.boot := by rw [ws_parts]
@[simp] theorem ws_pending (l : List (FName × Nat)) (s : State) : (s.ws l).pending = s.pending := by rw [ws_parts]

/-- A field that is not among those written is unchanged. -/
theorem ws_r_other (l : List (FName × Nat)) (s : State) (f : FName) (i : Nat) (h : f ∉ l.map (·.1)) : (s.ws l).r f i = s.r f i := by
  induction l generalizing s with
  | nil => rfl
  | cons p r ih =>
    simp only [List.map_cons, List.mem_cons, not_or] at h
    exact (ih (s.w p.1 0 p.2) h.2).trans (r_w_other s 0 i p.2 h.1)

/-! ### Raised flags -/

@[simp] theorem raiseIf_boot (s : State) (c : Bool) (f : FName) (i : Nat) : (s.raiseIf c f i).boot = s.boot := by rw [raiseIf_parts]
@[simp] theorem raiseIf_lay (s : State) (c : Bool) (f : FName) (i : Nat) : (s.raiseIf c f i).lay = s.lay := by rw [raiseIf_parts]
@[simp] theorem raiseIf_col (s : State) (c : Bool) (f : FName) (i : Nat) : (s.raiseIf c f i).col = s.col := by rw [raiseIf_parts]
@[simp] theorem raiseIf_pending (s : State) (c : Bool) (f : FName) (i : Nat) : (s.raiseIf c f i).pending = s.pending := by
  rw [raiseIf_parts]

/-! ### What a loss of VBAK leaves (R15) -/

/-- The AON fields' loss does not touch the supply. -/
@[simp] theorem loseAon_supply (s : State) : s.loseAon.boot.supply = s.boot.supply := rfl

@[simp] theorem loseAon_vbakUp (s : State) : s.loseAon.boot.vbakUp = s.boot.vbakUp := rfl

/-! ### What a reset keeps (Table 13.2) -/

/-- An index of a field counts modulo 128. -/
theorem rget_index (g : Store) (f : FName) {i j : Nat} (h : j % 128 = i % 128) : rget g f i = rget g f j := by
  simp [rget, FName.key, h]

/-- A field that has its value in `g` keeps it while fields are copied from `g`. -/
theorem rget_foldl_kept (l : List (FName × Nat)) (g k : Store) (f : FName) (i : Nat) (hk : rget k f i = rget g f i % 2 ^ f.width) :
    rget (l.foldl (fun h p => rput h p.1 p.2 (rget g p.1 p.2)) k) f i = rget g f i % 2 ^ f.width := by
  induction l generalizing k with
  | nil => exact hk
  | cons p r ih =>
    refine ih _ ?_
    rw [rget_rput]
    split
    · next e => obtain ⟨rfl, hj⟩ := e; rw [rget_index g _ hj.symm]
    · exact hk

/-- A field named to be kept has its value in `g`, held to its width. -/
theorem rget_keepFieldsOf (l : List (FName × Nat)) (g : Store) (f : FName) (i : Nat) (h : (f, i) ∈ l) :
    rget (keepFieldsOf l g) f i = rget g f i % 2 ^ f.width := by
  unfold keepFieldsOf
  generalize State.reset.regs = k
  induction l generalizing k with
  | nil => cases h
  | cons p r ih =>
    rcases List.mem_cons.mp h with rfl | hr
    · exact rget_foldl_kept r g _ _ _ (rget_rput_same k _ _ _)
    · exact ih hr _

/-- The AON fields that a reset notes before it acts: the boot failure, the interrupted OTP load, the trial, the causes and the count. -/
def notedFields : List FName :=
  [.aonAlter, .aonRepeats, .aonReason, .aonFailStep, .aonInterrupted, .aonFwuTrial, .aonFwuActRecord, .aonPrevCause, .aonLastCause,
    .aonResetCount]

/-- `u` is `s` but for those AON fields and for what boot keeps beside its registers, and the supply is as it was. -/
structure Noted (s u : State) : Prop where
  parts : u = { s with regs := u.regs, boot := u.boot }
  supply : u.boot.supply = s.boot.supply
  fields : ∀ f i, f ∉ notedFields → u.r f i = s.r f i

theorem Noted.refl (s : State) : Noted s s := ⟨rfl, rfl, fun _ _ _ => rfl⟩

theorem Noted.trans {s t u : State} (h : Noted s t) (k : Noted t u) : Noted s u where
  parts := by
    have e := k.parts
    rw [h.parts] at e
    exact e
  supply := k.supply.trans h.supply
  fields f i hf := (k.fields f i hf).trans (h.fields f i hf)

theorem noted_ws (s : State) (l : List (FName × Nat)) (h : ∀ f ∈ l.map (·.1), f ∈ notedFields) : Noted s (s.ws l) where
  parts := by rw [ws_parts]
  supply := by rw [ws_boot]
  fields f i hf := ws_r_other l s f i (fun hm => hf (h f hm))

theorem noted_cutShort (s : State) : Noted s s.cutShort := by
  unfold State.cutShort
  dsimp only
  split
  · exact ⟨rfl, rfl, fun _ _ _ => rfl⟩
  · exact .refl s

theorem noted_noteInterrupted (s : State) : Noted s s.noteInterrupted := by
  unfold State.noteInterrupted
  split
  · exact noted_ws s [(.aonInterrupted, min 3 (s.r .aonInterrupted + 1))] (by simp [notedFields])
  · exact .refl s

@[simp] theorem noteInterrupted_boot (s : State) : s.noteInterrupted.boot = s.boot := by
  unfold State.noteInterrupted
  split <;> rfl

theorem noted_bootClear (s : State) : Noted s s.bootClear := by
  unfold State.bootClear
  split
  · have h := noted_ws s [(.aonAlter, 0), (.aonRepeats, 0), (.aonReason, 0), (.aonFailStep, 0)] (by decide)
    exact h.trans ⟨rfl, by rw [ws_boot], fun _ _ _ => rfl⟩
  · exact .refl s

/-- The first reset of a cycle notes what it ends, and then restarts the node. -/
theorem resetNode_restarts (s : State) (cause : Nat) (warm : Bool) (h : s.boot.resetAt ≠ some s.clk) :
    ∃ u trial, s.resetNode cause warm = State.restartAll u cause warm trial ∧ Noted s u := by
  have hn := ((noted_cutShort s).trans (noted_noteInterrupted _)).trans (noted_bootClear _)
  have ht (n : State) : Noted n (if n.inTrial then n.clearTrial else n) := by
    split
    · exact noted_ws n _ (by decide)
    · exact .refl n
  unfold State.resetNode
  rw [if_neg h]
  exact ⟨_, _, rfl, (hn.trans (ht _)).trans (noted_ws _ _ (by simp [notedFields]))⟩

/-! ### The restart after a whole-node reset -/

/-- The registers that tell what the flash holds of the two banks. -/
def bankFields : List FName := [.fwuStateA, .fwuStateB, .fwuSecA, .fwuSecB, .fwuFloorTarget, .fwuRunning]

/-- Reading the banks changes registers and the unit of firmware update alone. -/
theorem readBanks_parts (s : State) : s.readBanks = { s with regs := s.readBanks.regs, fw := s.readBanks.fw } := by
  simp only [State.readBanks]
  rw [ws_parts]
  rfl

theorem setBank_r_other (s : State) (b st sec : Nat) {f : FName} (i : Nat) (h : f ∉ bankFields) : (s.setBank b st sec).r f i = s.r f i := by
  simp only [bankFields, List.mem_cons, not_or] at h
  obtain ⟨hA, hB, hsA, hsB, -⟩ := h
  have hb : f ≠ bankReg b := by unfold bankReg; split <;> assumption
  have hs : f ≠ secReg b := by unfold secReg; split <;> assumption
  rw [State.setBank, r_w_other _ _ _ _ hs, r_w_other _ _ _ _ hb]

theorem floor_running_bankFields {f : FName} (h : f ∈ [FName.fwuFloorTarget, .fwuRunning]) : f ∈ bankFields :=
  List.mem_append_right [FName.fwuStateA, .fwuStateB, .fwuSecA, .fwuSecB] h

theorem readBanks_r_other (s : State) {f : FName} (i : Nat) (h : f ∉ bankFields) : s.readBanks.r f i = s.r f i := by
  have floor_running (u : State) (x y : Nat) : (u.ws [(.fwuFloorTarget, x), (.fwuRunning, y)]).r f i = u.r f i :=
    ws_r_other _ u f i (fun hf => h (floor_running_bankFields hf))
  exact (floor_running _ _ _).trans ((setBank_r_other _ 1 _ _ i h).trans (setBank_r_other _ 0 _ _ i h))

/-- Boot step 0x01 begins: nothing but its number and its instant. -/
theorem enterStep_one (s : State) :
    s.enterStep 1 = { s.w .aonBootStep 0 1 with boot := { s.boot with stepAt := s.clk, retrying := false } } := rfl

/-- A whole-node restart goes to boot step 0x01 from a state at reset, but for the fields kept, the on-chip stores, the supply and the
queue. -/
theorem restartAll_cold (s : State) (cause : Nat) (trial : Bool) :
    ∃ u : State, s.restartAll cause false trial = ((u.w .rstCause 0 cause).readBanks.raiseIf trial .fwuTrialFailed).enterStep 1 ∧
      u.regs = keepFieldsOf keptFields s.regs ∧ u.boot.supply = s.boot.supply ∧ u.boot.halted = false ∧
      u.lay.graphic = s.lay.graphic ∧ u.lay.pstore = s.lay.pstore ∧ u.col.store = s.col.store ∧ u.pending = s.pending :=
  ⟨_, rfl, rfl, rfl, rfl, rfl, rfl, rfl, rfl⟩

/-- The fields that the way from there to step 0x01 sets. -/
def restartFields : List FName := .rstCause :: .fwuTrialFailed :: .mbxEvents :: .aonBootStep :: bankFields

theorem restart_r_other (u : State) (cause : Nat) (trial : Bool) {f : FName} (i : Nat) (h : f ∉ restartFields) :
    (((u.w .rstCause 0 cause).readBanks.raiseIf trial .fwuTrialFailed).enterStep 1).r f i = u.r f i := by
  simp only [restartFields, List.mem_cons, not_or] at h
  obtain ⟨hcause, htrial, hevents, hstep, hbank⟩ := h
  rw [enterStep_one]
  refine (r_w_other _ 0 i 1 hstep).trans ?_
  rw [raiseIf_r_other _ _ _ _ _ htrial hevents, readBanks_r_other _ _ hbank, r_w_other _ _ _ _ hcause]

theorem restart_cause (u : State) (cause : Nat) (trial : Bool) :
    (((u.w .rstCause 0 cause).readBanks.raiseIf trial .fwuTrialFailed).enterStep 1).r .rstCause = cause % 2 ^ FName.rstCause.width := by
  have h : .rstCause ∉ bankFields := by decide
  rw [enterStep_one]
  refine (r_w_other (f := .aonBootStep) (g := .rstCause) _ 0 0 1 (by decide)).trans ?_
  rw [raiseIf_r_other (g := .rstCause) _ _ _ _ _ (by decide) (by decide), readBanks_r_other _ _ h, r_w_same]

/-- What the first whole-node reset of a cycle leaves (R490, Table 13.2): its cause, the fields kept that the reset itself does not set, the
supply, the on-chip stores and the queue; the node is not halted. -/
theorem resetNode_cold (s : State) (cause : Nat) (h : s.boot.resetAt ≠ some s.clk) : let t := s.resetNode cause false
    t.r .rstCause = cause % 2 ^ FName.rstCause.width ∧
    (∀ f i, (f, i) ∈ keptFields → f ∉ notedFields → f ∉ restartFields → t.r f i = s.r f i % 2 ^ f.width) ∧
    t.boot.supply = s.boot.supply ∧ t.boot.halted = false ∧ t.lay.graphic = s.lay.graphic ∧ t.lay.pstore = s.lay.pstore ∧
    t.col.store = s.col.store ∧ t.pending = s.pending := by
  obtain ⟨n, trial, hr, hn⟩ := resetNode_restarts s cause false h
  obtain ⟨u, hu, hregs, hsupply, hhalted, hgraphic, hpstore, hstore, hpending⟩ := restartAll_cold n cause trial
  simp only [hr, hu]
  refine ⟨restart_cause u cause trial, fun f i hk hf hx => ?_, ?_⟩
  · rw [restart_r_other u cause trial i hx, State.r, hregs, rget_keepFieldsOf _ _ _ _ hk]
    exact congrArg (· % 2 ^ f.width) (hn.fields f i hf)
  · have hparts := hn.parts
    simp only [enterStep_one, w_lay, w_col, w_pending, raiseIf_boot, raiseIf_lay, raiseIf_col, raiseIf_pending]
    rw [readBanks_parts]
    refine ⟨hsupply.trans hn.supply, hhalted, hgraphic.trans ?_, hpstore.trans ?_, hstore.trans ?_, hpending.trans ?_⟩ <;> rw [hparts]

/-! ### The rows of the supplies and of resets (Tables 13.1, 13.2 and 13.9) -/

/-- The node as a power-on reset's release finds it: powered, its straps sampled, its on-chip stores empty (R3, R602). -/
def State.powered (s : State) (role : Nat) (te ch : Bool) : State :=
  { State.ws { s with boot := { s.boot with supply := .on, halted := false, vbakLost := false, resetAt := none } }
      [(.sysRoleStrap, if ch then 3 else role % 4), (.sysTestEn, b2n te), (.tstDebugRefusing, 0), (.tstBscan, 0)] with
    lay := { s.lay with graphic := [], pstore := [], graphicBad := [], pBad := [] }
    col := { s.col with store := [], bad := [] }
    scn := { s.scn with highZ := true }
    thm := { s.thm with wrong := 0, jtag := .tapReset } }

/-- A release that no rail cancels is a reset of cause 1 on the node so found. -/
theorem doPowerOnReset_eq (role : Nat) (te ch : Bool) (s : State) (hs : s.boot.supply ≠ .on)
    (hp : Instr.powerOnResetAssert ∉ s.sameCycle) :
    doPowerOnReset role te ch s = ((s.powered role te ch).resetNode 1 false).raiseIf s.boot.vbakLost .rstAonLost :=
  if_neg (not_or.mpr ⟨hs, hp⟩)

theorem roleStrap_fits (role : Nat) (ch : Bool) :
    (if ch then 3 else role % 4) % 2 ^ FName.sysRoleStrap.width = if ch then 3 else role % 4 := by
  rw [show FName.sysRoleStrap.width = 2 from rfl]
  split <;> omega

theorem testEn_fits (te : Bool) : b2n te % 2 ^ FName.sysTestEn.width = b2n te := by cases te <;> rfl

/-- The straps read as sampled. -/
theorem powered_straps (s : State) (role : Nat) (te ch : Bool) :
    (s.powered role te ch).r .sysRoleStrap = (if ch then 3 else role % 4) ∧ (s.powered role te ch).r .sysTestEn = b2n te := by
  constructor
  · refine Eq.trans ?_ (roleStrap_fits role ch)
    simp [State.powered, State.ws, State.r, State.w]
  · refine Eq.trans ?_ (testEn_fits te)
    simp [State.powered, State.ws, State.r, State.w]

/-- What a power-on reset's release leaves (R3, R602). -/
theorem doPowerOnReset_releases (role : Nat) (te ch : Bool) (s : State) (hs : s.boot.supply ≠ .on)
    (hp : Instr.powerOnResetAssert ∉ s.sameCycle) : let t := doPowerOnReset role te ch s
    t.boot.supply = .on ∧ t.boot.halted = false ∧ t.r .sysRoleStrap = (if ch then 3 else role % 4) ∧ t.r .sysTestEn = b2n te ∧
      t.lay.graphic = [] ∧ t.lay.pstore = [] ∧ t.col.store = [] ∧ t.r .rstCause = 1 ∧ t.pending = s.pending := by
  have hfresh : (s.powered role te ch).boot.resetAt ≠ some (s.powered role te ch).clk := by simp [State.powered]
  obtain ⟨hcause, hkept, hsupply, hhalted, hgraphic, hpstore, hstore, hpending⟩ := resetNode_cold _ 1 hfresh
  obtain ⟨hrole, hte⟩ := powered_straps s role te ch
  have kept (f : FName) (hf : (f, 0) ∈ keptFields ∧ f ∉ notedFields ∧ f ∉ restartFields) := hkept f 0 hf.1 hf.2.1 hf.2.2
  intro t
  simp only [t, doPowerOnReset_eq role te ch s hs hp, raiseIf_boot, raiseIf_lay, raiseIf_col, raiseIf_pending]
  refine ⟨hsupply.trans ?_, hhalted, ?_, ?_, hgraphic, hpstore, hstore, ?_, hpending.trans ?_⟩
  · simp [State.powered]
  · rw [raiseIf_r_other (g := .sysRoleStrap) _ _ _ _ _ (by decide) (by decide), kept _ (by decide), hrole]
    exact roleStrap_fits role ch
  · rw [raiseIf_r_other (g := .sysTestEn) _ _ _ _ _ (by decide) (by decide), kept _ (by decide), hte]
    exact testEn_fits te
  · rw [raiseIf_r_other (g := .rstCause) _ _ _ _ _ (by decide) (by decide), hcause]
    rfl
  · simp [State.powered]

/-- A row that reaches the node whether or not it runs answers what its operation makes of the state it starts in. -/
theorem exec_always {i : Instr} {d : State → State} {s t : State} (he : exec i s = always d s) (h : d s.begun = t) : exec i s = .next t :=
  he.trans (congrArg Host.Outcome.next h)

theorem doBackupEnter_off {s : State} (h : s.boot.supply = .off) :
    doBackupEnter s = { s.w .sysPstate 0 1 with boot := { s.boot with vbakUp := true, supply := .backup } } := by
  simp only [doBackupEnter, h, if_true]
  rfl

theorem doBackupEnter_else {s : State} (h : s.boot.supply ≠ .off) : doBackupEnter s = { s with boot := { s.boot with vbakUp := true } } := by
  simp only [doBackupEnter, h, if_false]

theorem doVbakLoss_on {s : State} (h : s.boot.supply = .on) :
    doVbakLoss s = { s.loseAon with boot := { s.loseAon.boot with vbakUp := false, vbakLost := true } } := by
  simp only [doVbakLoss, loseAon_supply, h, if_true]

theorem doVbakLoss_backup {s : State} (h : s.boot.supply = .backup) :
    doVbakLoss s = { s.loseAon.w .sysPstate 0 0 with
      boot := { s.loseAon.boot with vbakUp := false, vbakLost := true, supply := .off } } := by
  simp only [doVbakLoss, loseAon_supply, h, reduceCtorEq, if_false]
  generalize s.loseAon = u
  rfl

theorem doPowerOnResetAssert_vbak {s : State} (h : s.boot.supply = .on) (hv : s.boot.vbakUp = true) :
    doPowerOnResetAssert s = ({ s.noteInterrupted.emit .laneIdle with
      boot := { s.noteInterrupted.boot with supply := .backup, otpLoading := false } } : State).w .sysPstate 0 1 := by
  simp only [doPowerOnResetAssert, noteInterrupted_boot, h, hv, if_true, reduceCtorEq, if_false]

theorem doPowerOnResetAssert_noVbak {s : State} (h : s.boot.supply = .on) (hv : s.boot.vbakUp = false) :
    doPowerOnResetAssert s = ({ s.noteInterrupted.loseAon.emit .laneIdle with
      boot := { s.noteInterrupted.loseAon.boot with supply := .off, otpLoading := false } } : State).w .sysPstate 0 0 := by
  simp only [doPowerOnResetAssert, loseAon_vbakUp, noteInterrupted_boot, h, hv, if_true, Bool.false_eq_true, if_false]

theorem doPinReset_low {low also : Nat} {s : State} (hl : 1000 ≤ low) (h : s.boot.supply = .on) (hb : s.on .tstBscan = false) :
    doPinReset low also s = ({ s with boot := { s.boot with halted := false } } : State).resetNode (4 ||| also % 512) false := by
  have hg : ¬(low < 1000 ∨ s.boot.supply ≠ .on) := by simp [h, hl]
  simp only [doPinReset, hg, hb, if_false, Bool.false_eq_true]

/-- Settles O30: each row is `always` or `event` of its operation, and each operation has its equation for the case that the clause names;
the release of a power-on reset is a whole-node reset of the node with its straps sampled. -/
theorem supplyAndResetEventsComplete : Obligations.SupplyAndResetEventsComplete := by
  unfold Obligations.SupplyAndResetEventsComplete
  refine ⟨?_, ?_, ?_, ?_, ?_, ?_, ?_, ?_, ?_, ?_, ?_, ?_, ?_, ?_, ?_, ?_⟩
  · exact fun s h => exec_always rfl (doBackupEnter_off h)
  · exact fun s h => exec_always rfl (doBackupEnter_else h)
  · exact fun s h => exec_always rfl (doVbakLoss_on h)
  · exact fun s h => exec_always rfl (doVbakLoss_backup h)
  · exact fun s h hv => exec_always rfl (doPowerOnResetAssert_vbak h hv)
  · exact fun s h hv => exec_always rfl (doPowerOnResetAssert_noVbak h hv)
  · exact fun s h => exec_always rfl (if_neg h)
  · exact fun also => does_of (fun _ => rfl) (fun _ _ _ => rfl)
  · exact fun low also s hl h hb => exec_always rfl (doPinReset_low hl h hb)
  · exact fun low also s hl => exec_always rfl (if_pos (.inl hl))
  · refine does_of (fun _ => rfl) (fun s _ h => ?_)
    simp [doWatchdogExpire, h]
  · exact does_of (fun _ => rfl) (fun _ _ _ => rfl)
  · exact does_of (fun _ => rfl) (fun s _ h => if_neg (by simp [h]))
  · refine fun cause h => does_of (fun _ => rfl) (fun s _ _ => ?_)
    cases cause with
    | noRetire => exact absurd rfl h
    | doubleFault | machineCheck => rfl
  · intro role te ch s hs hp
    exact ⟨_, rfl, doPowerOnReset_releases role te ch s.begun hs hp⟩
  · exact fun role te ch s h => exec_always rfl (if_pos h)

/-! ### The state after reset -/

/-- The fields that State.reset gives the state after a power-on reset, by log entry 16. -/
def powerOnFields : List FName := [.rstCause, .aonLastCause, .aonResetCount, .aonBootStep, .fwuStateA, .fabState]

/-- Every other field is unlisted in the register file of State.reset. -/
theorem reset_r (f : FName) (i : Nat) (h : f ∉ powerOnFields) : State.reset.r f i = resetVal f (i % 128) := by
  simp only [powerOnFields, List.mem_cons, List.not_mem_nil, not_or] at h
  simp [State.r, State.reset, rputs, List.range, List.range.loop, h]
  rfl

/-- Settles O60: but for the fields of log entry 16, no field is listed after reset, and the values named are evaluated. -/
theorem resetValues : Obligations.ResetValues := by
  unfold Obligations.ResetValues
  refine ⟨fun f i hi hf => ?_, ?_⟩
  · rw [reset_r f i hf, Nat.mod_eq_of_lt hi]
  · decide +kernel

/-! ### Tables that wait out of canonical form -/

/-- A node whose multicast tables wait for frame 0 in a store that lists a byte of value 0, which a store in canonical form leaves out. Its
thermal units are held in reset (R623), so that the boundary moves no zone factor, whose 384 fields would cost the kernel dear. -/
def routesDue : State :=
  { State.reset.w .rstBlock 0 (2 ^ 11) with net := { State.net0 with dueRoutes := some (0, [(0, 0)]) }, pending := [.frameBoundary] }

/-- The queue and the tables that wait are no part of the canonical form. -/
theorem routesDue_canonical : routesDue.Canonical := by constructor <;> decide +kernel

/-- B(0) puts the tables that wait into effect as they are (R390). -/
theorem routesDue_boundary : (doFrameBoundary { routesDue with pending := [] }).net.multicast = [(0, 0)] := by decide +kernel

theorem step_routesDue : step routesDue = .next (doFrameBoundary { routesDue with pending := [] }) :=
  event_run (d := doFrameBoundary) (s := { routesDue with pending := [] }) (by decide +kernel)

/-- Refutes O56: the multicast tables that wait for their frame are not among the stores that the canonical form names, and the boundary
of that frame puts them into effect as they are. So `routesDue`, whose named stores are all canonical, steps to a multicast table that
lists a byte of value 0. (No table that a reset node comes to hold waits in such a form: ROUTE_SET builds it by `mwrite`.) -/
theorem not_stepKeepsCanonical : ¬ Obligations.StepKeepsCanonical := by
  unfold Obligations.StepKeepsCanonical
  intro h
  have hwf := (h routesDue _ routesDue_canonical step_routesDue).multicast
  have hbad := (congrArg (Memory.wf 0) routesDue_boundary).symm.trans hwf
  exact absurd hbad (by decide)

end Sys2Proof.Machine

/-! PROOFS. Fabric time and the frame: the boundaries of R62 and the current frame of R63, the time commands (Table 2.14), the time
messages between nodes (Tables 2.5 and 2.6), and what a node takes in for its frame. -/

namespace Sys2Proof.Machine

/-! ### Frame boundaries and the current frame (R62, R63) -/

/-- A boundary does not come before the anchor. -/
theorem anchor_le_bnd (s : State) (f : Nat) : s.r .ftAnchorFt ≤ s.bnd f := Nat.le_add_right _ _

/-- The boundary of F0 is the anchor. -/
theorem bnd_anchorFrame (s : State) : s.bnd (s.r .ftAnchorFrame) = s.r .ftAnchorFt := by
  simp [State.bnd, boundaryOf]

theorem frame?_eq_none_iff (s : State) : s.frame? = none ↔ s.ftNs < s.r .ftAnchorFt := by
  unfold State.frame?
  split <;> simp_all

/-- From the anchor on, the current frame is counted from F0 by a quotient. -/
theorem frame?_of_anchor_le {s : State} (h : s.r .ftAnchorFt ≤ s.ftNs) :
    s.frame? = some (s.r .ftAnchorFrame + ((s.ftNs - s.r .ftAnchorFt + 1) * s.r .ftPeriodDen - 1) / s.r .ftPeriodNum) :=
  if_neg (Nat.not_lt.mpr h)

/-- The node is in no frame before the anchor. -/
theorem anchor_le_ftNs {s : State} {g : Nat} (h : s.frame? = some g) : s.r .ftAnchorFt ≤ s.ftNs :=
  Nat.le_of_not_lt (fun hlt => by simp [(frame?_eq_none_iff s).mpr hlt] at h)

/-- The current frame is not before F0. -/
theorem anchorFrame_le_frame {s : State} {g : Nat} (h : s.frame? = some g) : s.r .ftAnchorFrame ≤ g := by
  obtain rfl := Option.some.inj ((frame?_of_anchor_le (anchor_le_ftNs h)).symm.trans h)
  exact Nat.le_add_right _ _

/-- floor(k × N / D) ≤ x says k × N < (x + 1) × D. -/
theorem mul_div_le_iff_le_quotient {n d : Nat} (hn : 0 < n) (hd : 0 < d) (k x : Nat) : k * n / d ≤ x ↔ k ≤ ((x + 1) * d - 1) / n := by
  have hpos : 0 < (x + 1) * d := Nat.mul_pos x.succ_pos hd
  rw [← Nat.lt_succ_iff, Nat.div_lt_iff_lt_mul hd, Nat.le_div_iff_mul_le hn, Nat.le_sub_one_iff_lt hpos]

/-- The boundaries from F0 on that have come are those of the frames up to the current one. -/
theorem bnd_le_ftNs_iff {s : State} {f g : Nat} (hN : 0 < s.r .ftPeriodNum) (hD : 0 < s.r .ftPeriodDen)
    (hg : s.frame? = some g) : s.bnd f ≤ s.ftNs ↔ f ≤ g := by
  have hft := anchor_le_ftNs hg
  obtain rfl := Option.some.inj ((frame?_of_anchor_le hft).symm.trans hg)
  have hquot := mul_div_le_iff_le_quotient hN hD (f - s.r .ftAnchorFrame) (s.ftNs - s.r .ftAnchorFt)
  rw [Nat.le_sub_iff_add_le' hft, Nat.sub_le_iff_le_add'] at hquot
  exact hquot

theorem frame?_eq_some_iff {s : State} (f : Nat) (hN : 0 < s.r .ftPeriodNum) (hD : 0 < s.r .ftPeriodDen) :
    s.frame? = some f ↔ s.r .ftAnchorFrame ≤ f ∧ s.bnd f ≤ s.ftNs ∧ s.ftNs < s.bnd (f + 1) := by
  constructor
  · intro h
    have hcome (j : Nat) : s.bnd j ≤ s.ftNs ↔ j ≤ f := bnd_le_ftNs_iff hN hD h
    exact ⟨anchorFrame_le_frame h, (hcome f).mpr (Nat.le_refl f), Nat.lt_of_not_le (mt (hcome (f + 1)).mp (Nat.not_succ_le_self f))⟩
  · rintro ⟨-, hle, hlt⟩
    have hg := frame?_of_anchor_le (Nat.le_trans (anchor_le_bnd s f) hle)
    have hup := (bnd_le_ftNs_iff hN hD hg).mp hle
    have hdown := mt (bnd_le_ftNs_iff hN hD hg).mpr (Nat.not_le.mpr hlt)
    rw [hg]
    exact congrArg some (by omega)

/-- Settles O57: the boundary is R62's by definition, and the boundaries that have come are those of the frames up to the current one. -/
theorem boundariesAndCurrentFrame : Obligations.BoundariesAndCurrentFrame := by
  unfold Obligations.BoundariesAndCurrentFrame
  refine fun s hN hD => ⟨fun _ _ => rfl, fun f => frame?_eq_some_iff f hN hD, ?_⟩
  rw [bnd_anchorFrame, frame?_eq_none_iff]

/-! ### The time commands (Table 2.14) -/

theorem actTimeSetSource_free {c : HostCmd} {s : State} (hroot : s.on .ftIsRoot = true) (hsrc : c.u8 0 = 0) :
    actTimeSetSource c s = done (({ s.w .ftSource 0 0 with time := { s.time with steer := none } } : State).setLock 0) := by
  simp [actTimeSetSource, hroot, hsrc]

theorem actTimeSetSource_ptp {c : HostCmd} {s : State} (hroot : s.on .ftIsRoot = true) (hsrc : c.u8 0 = 2) (hhead : s.isHead = true)
    (hdom : c.u8 8 ≤ 127) :
    actTimeSetSource c s =
      done (({ s.w .ftSource 0 2 with time := { s.time with ptpDomain := c.u8 8, steer := none } } : State).setLock 1) := by
  simp [actTimeSetSource, hroot, hsrc, hhead, Nat.not_lt.mpr hdom]

theorem actTimeSetSource_genlock {c : HostCmd} {s : State} (hroot : s.on .ftIsRoot = true) (hsrc : c.u8 0 = 3) (hin : c.u8 1 ≤ 3)
    (hm : 1 ≤ c.u8 2) (hm' : c.u8 2 ≤ 40) (hfits : s.genlockFits (c.u8 1) (c.u8 2) = true) :
    actTimeSetSource c s =
      done (({ s.puts [(.ftSource, 0, 3), (.ftGenlockInput, 0, c.u8 1), (.ftGenlockRatio, 0, c.u8 2)] with
        time := { s.time with genlockOffset := c.s32 4, refEdge := none, outliers := 0, missing := 0, steer := none } } :
        State).setLock 1) := by
  have hgood : ¬(3 < c.u8 1 ∨ c.u8 2 < 1 ∨ 40 < c.u8 2) := by omega
  simp only [actTimeSetSource, hroot, hsrc, hfits, hgood, Bool.not_true, Bool.false_eq_true, if_false, if_true,
    Nat.reduceEqDiff, or_false, false_and, and_false, or_true, or_self]
  rfl

theorem actTimeSetPeriod_stages {c : HostCmd} (s : State) (h : periodOk (c.u64 0) (c.u16 8) = true) :
    actTimeSetPeriod c s = done (s.stages c.session [(.ftPeriodNum, 0, c.u64 0), (.ftPeriodDen, 0, c.u16 8)]) := by
  simp [actTimeSetPeriod, h]

theorem actTimeSetAnchor_stages {c : HostCmd} {s : State} (hshow : s.inShow = false) (hframe : c.u64 8 < 2 ^ 48) :
    actTimeSetAnchor c s = done (s.stages c.session [(.ftAnchorFt, 0, c.u64 0), (.ftAnchorFrame, 0, c.u64 8)]) :=
  if_neg (not_or.mpr ⟨by simp [hshow], Nat.not_le.mpr hframe⟩)

theorem actTimeStep_steps {c : HostCmd} {s : State} (hroot : s.on .ftIsRoot = true) (hfree : s.r .ftSource = 0)
    (hshow : s.inShow = false) : actTimeStep c s = done (s.stepTo (c.u64 0 * 2 ^ 32)) := by
  simp [actTimeStep, hroot, hfree, hshow]

theorem actTimeSetTrim_sets {c : HostCmd} (s : State) (hport : c.u8 0 ≤ 3) :
    actTimeSetTrim c s = done ((s.w .ftPortTrim (c.u8 0) (c.u16 2)).showDelay (c.u8 0)) :=
  if_neg (Nat.not_lt.mpr hport)

/-- Two fields of different names are two keys. -/
theorem distinctKeys_pair {f g : FName} (h : f ≠ g) (i j v w : Nat) : distinctKeys [(f, i, v), (g, j, w)] := by
  simp [distinctKeys, h]

/-- Settles O13: each command's action, past its refusals, is the effect that its clause names. -/
theorem timeCommandsComplete : Obligations.TimeCommandsComplete := by
  unfold Obligations.TimeCommandsComplete
  refine ⟨?_, ?_, ?_, ?_, ?_, ?_, ?_, ?_, ?_⟩
  · exact reads_of actTimeGet (fun _ _ => rfl) (fun _ _ _ _ => rfl)
  · exact completes_of actTimeSetSource (fun _ _ => rfl) (fun _ _ ⟨hroot, hsrc⟩ => actTimeSetSource_free hroot hsrc)
  · exact completes_of actTimeSetSource (fun _ _ => rfl)
      (fun _ _ ⟨hroot, hsrc, hhead, hdom⟩ => actTimeSetSource_ptp hroot hsrc hhead hdom)
  · exact completes_of actTimeSetSource (fun _ _ => rfl)
      (fun _ _ ⟨hroot, hsrc, hin, hm, hm', hfits⟩ => actTimeSetSource_genlock hroot hsrc hin hm hm' hfits)
  · exact stages_of actTimeSetPeriod (fun _ _ => rfl) (fun _ _ _ h => actTimeSetPeriod_stages _ h)
      (fun _ _ _ _ => distinctKeys_pair (by decide) _ _ _ _) (fun _ => List.cons_ne_nil _ _)
  · exact stages_of actTimeSetAnchor (fun _ _ => rfl) (fun _ _ _ ⟨hshow, hframe⟩ => actTimeSetAnchor_stages hshow hframe)
      (fun _ _ _ _ => distinctKeys_pair (by decide) _ _ _ _) (fun _ => List.cons_ne_nil _ _)
  · exact completes_of actTimeStep (fun _ _ => rfl) (fun _ _ ⟨hroot, hfree, hshow⟩ => actTimeStep_steps hroot hfree hshow)
  · exact completes_of actTimeSetTrim (fun _ _ => rfl) (fun _ s hport => actTimeSetTrim_sets s hport)
  · exact writes_of actTimeSetHold (fun _ _ => rfl) (fun _ _ _ _ => rfl) (fun _ _ _ _ => List.pairwise_singleton _ _)
      (fun _ e he => by rw [List.mem_singleton.mp he]; exact ⟨nofun, nofun⟩)

/-! ### Time messages between nodes (Tables 2.5 and 2.6) -/

theorem doTimeSyncSend_notRoot {s : State} (h : ¬ s.on .ftIsRoot = true) : doTimeSyncSend s = s := by
  simp [doTimeSyncSend, h]

/-- A delay response that answers the request its port last sent is a sample (R58). -/
theorem doPdelayRespRx_asked {p : Nat} {k : Pkt} {s : State} {seq : Nat} {t1 : Nat} (tin : Nat)
    (hasked : (s.time.ports.getD p State.timePort0).asked = some (seq, t1)) (hseq : seq = k.u16 0) :
    doPdelayRespRx p k tin s =
      (s.setTimePort p (fun x => { x with
        asked := none, samples := (((s.ingressStamp p tin - t1) - toInt 64 (k.u64 8)).fdiv 2 :: x.samples).take 16 })).showDelay p := by
  unfold doPdelayRespRx
  rw [hasked]
  exact if_neg (fun hne => hne hseq)

/-- Only a head takes PTP, in the domain it uses, while its time block is not held (R52). -/
theorem doPtpMessageRx_notTaken {ptp dom : Nat} {s : State} (h : s.isHead = false ∨ dom ≠ s.time.ptpDomain ∨ s.held 3 = true) :
    doPtpMessageRx ptp dom s = s :=
  if_pos (by simpa using h)

theorem doPtpMessageRx_root {dom : Nat} {s : State} (ptp : Nat) (hhead : s.isHead = true) (hdom : dom = s.time.ptpDomain)
    (hheld : s.held 3 = false) (hroot : s.on .ftIsRoot = true) (hsrc : s.r .ftSource = 2) :
    doPtpMessageRx ptp dom s = s.rootOffset ((s.ft16 : Int) - ptp * 65536) := by
  simp [doPtpMessageRx, hhead, hdom, hheld, hroot, hsrc]

theorem doPtpMessageRx_notRoot {dom : Nat} {s : State} (ptp : Nat) (hhead : s.isHead = true) (hdom : dom = s.time.ptpDomain)
    (hheld : s.held 3 = false) (hroot : s.on .ftIsRoot = false) (hsrc : s.rootSource = 2) :
    doPtpMessageRx ptp dom s = s.measureRef ((ptp : Int) - s.ftNs) := by
  simp [doPtpMessageRx, hhead, hdom, hheld, hroot, hsrc]

/-- Settles O33: each row is `event` of its operation, and each operation, past its guard, is the effect that its clause names. -/
theorem timeMessagesComplete : Obligations.TimeMessagesComplete := by
  unfold Obligations.TimeMessagesComplete
  refine ⟨?_, ?_, ?_, ?_, ?_, ?_, ?_, ?_⟩
  · exact doesOnly_of (fun _ => rfl) (fun _ h => if_neg (by simp [h])) (fun _ => doTimeSyncSend_notRoot)
  · refine fun p k tin tout hlen => does_of (fun _ => rfl) (fun s _ hroot => ?_)
    exact if_neg (by simp [hlen, hroot])
  · exact fun _ => does_of (fun _ => rfl) (fun _ _ _ => rfl)
  · exact fun _ _ _ _ => does_of (fun _ => rfl) (fun _ _ _ => rfl)
  · exact fun _ _ tin _ _ => does_of (fun _ => rfl) (fun _ _ ⟨hasked, hseq⟩ => doPdelayRespRx_asked tin hasked hseq)
  · exact fun ptp _ => does_of (fun _ => rfl)
      (fun _ _ ⟨hhead, hdom, hheld, hroot, hsrc⟩ => doPtpMessageRx_root ptp hhead hdom hheld hroot hsrc)
  · exact fun ptp _ => does_of (fun _ => rfl)
      (fun _ _ ⟨hhead, hdom, hheld, hroot, hsrc⟩ => doPtpMessageRx_notRoot ptp hhead hdom hheld hroot hsrc)
  · exact fun _ _ => does_of (fun _ => rfl) (fun _ _ => doPtpMessageRx_notTaken)

/-! ### Short stamps (R61)

`extend` adds 2^32 to a stamp before it subtracts, and the kernel, made to evaluate such a sum, counts 2^32 down one by one. So the
operations that take a stamp are unfolded here as functions (`show f = _ by delta f; rfl`), which compares their bodies as they stand,
and never as applied. -/

/-- A short stamp is extended against FT, and one out of range sets its flag. -/
theorem takeStamp_eq (s : State) (stamp : Nat) :
    s.takeStamp stamp = (extend s.ftNs stamp, s.raiseIf (extend s.ftNs stamp).isNone .ftStampRange) := by
  rw [show State.takeStamp = _ by delta State.takeStamp; rfl]
  generalize extend s.ftNs stamp = x
  cases x <;> rfl

theorem takeStamp_some {s : State} {stamp x : Nat} (h : extend s.ftNs stamp = some x) : s.takeStamp stamp = (some x, s) := by
  rw [takeStamp_eq, h]
  rfl

theorem takeStamp_none {s : State} {stamp : Nat} (h : extend s.ftNs stamp = none) :
    s.takeStamp stamp = (none, s.raise .ftStampRange) := by
  rw [takeStamp_eq, h]
  rfl

/-! ### Stream packets (R61, R162, R165) -/

/-- A stamp out of range is no frame's boundary. -/
theorem forFrame_none (s : State) : s.forFrame none = false := Bool.and_false _

/-- A packet whose time is not the boundary of the frame being received is counted and dropped. -/
theorem doStreamPacketRx_otherTarget {k : Pkt} {s t : State} {x : Option Nat} (h : s.takeStamp (k.u32 8) = (x, t))
    (hfor : t.forFrame x = false) :
    doStreamPacketRx k s = { t with lay := { t.lay with wrongTarget := t.lay.wrongTarget + 1 } } := by
  rw [show doStreamPacketRx = _ by delta doStreamPacketRx; rfl, h]
  exact if_pos (by simp [hfor])

/-! ### Frame markers (R149, R150) -/

/-- The format and the colorimetry of a marker become those of its stream. -/
def State.formatted (s : State) (k : Pkt) : State :=
  { s with lay := { s.lay with
    formats := updAt s.lay.formats (k.u8 0 % 16) (fun _ => k.u8 1), colours := updAt s.lay.colours (k.u8 0 % 16) (fun _ => k.u8 2) } }

/-- A marker as it is held for the latch point. -/
def State.markerOf (s : State) (k : Pkt) : Marker :=
  { stream := k.u8 0 % 16, src := k.src, format := k.u8 1, colorimetry := k.u8 2, rep := bit (k.u8 3) 0, width := k.u16 4,
    height := k.u16 6, frame := s.lay.receiving, packets := k.u32 12, stamp := k.u32 16, seq := k.u32 20, feeds := k.u8 24,
    arrived := s.ftNs }

/-- A marker of the frame being received notes its slack, and until the latch point it takes the place of its sender's earlier one. -/
def State.holdMarker (s : State) (k : Pkt) : State :=
  let t := s.noteSlack (k.u8 0 % 16) k.src s.lay.receiving
  if t.lay.latched = t.lay.receiving + 1 then t
  else { t with lay := { t.lay with
    markers := t.lay.markers.filter (fun x => !(x.stream == k.u8 0 % 16 && x.src == k.src)) ++ [s.markerOf k] } }

/-- A marker whose colorimetry is its stream's leaves no slice stale; what it does turns on the frame whose boundary its time is. -/
theorem doFrameCompleteRx_sameColour {k : Pkt} {s : State} {x : Nat} (hx : extend s.ftNs (k.u32 8) = some x)
    (hcolour : s.lay.colours.getD (k.u8 0 % 16) 0 = k.u8 2) :
    doFrameCompleteRx k s =
      if s.forFrame (some x) then (s.formatted k).holdMarker k
      else (s.pastFrame (some x)).elim (s.formatted k) ((s.formatted k).noteSlack (k.u8 0 % 16) k.src) := by
  have hstamp : (s.formatted k).takeStamp (k.u32 8) = (some x, s.formatted k) := takeStamp_some hx
  have hfor : (s.formatted k).forFrame (some x) = s.forFrame (some x) := rfl
  have hpast : (s.formatted k).pastFrame (some x) = s.pastFrame (some x) := rfl
  rw [show doFrameCompleteRx = _ by delta doFrameCompleteRx; rfl]
  obtain ⟨take, htake⟩ : ∃ take, State.takeStamp = take := ⟨_, rfl⟩
  rw [htake] at hstamp ⊢
  unfold State.formatted at *
  simp only [hcolour, ne_eq, not_true, if_false, hstamp, hfor, hpast]
  cases s.forFrame (some x)
  · cases s.pastFrame (some x) <;> rfl
  · rfl

/-! ### Head picks (R430 to R432) -/

theorem doHeadPickRx_outOfRange {k : Pkt} {s : State} (h : extend s.ftNs (k.u32 0) = none) :
    doHeadPickRx k s = s.raise .ftStampRange := by
  rw [show doHeadPickRx = _ by delta doHeadPickRx; rfl, takeStamp_none h]
  exact if_pos (.inr (.inl nofun))

/-- pick_wait_us after its boundary, a head that may open windows flags a stream without a pick, and opens them all. -/
theorem doPickWaitExpire_opens {s : State} {f : Nat} (hframe : s.frame? = some f) (hopen : s.mayOpen = true)
    (hwait : s.bnd f + 1000 * s.r .redPickWaitUs ≤ s.ftNs) :
    doPickWaitExpire s =
      (s.raiseIf ((List.range 16).any (fun i => s.on .ingEnable i && s.r .ingKind i != 0 && (s.stream i).pick.isNone &&
        (s.stream i).frame != f + 1)) .redPickMissing).openWindows := by
  unfold doPickWaitExpire
  rw [hframe]
  exact if_neg (not_or.mpr ⟨by simp [hopen], Nat.not_lt.mpr hwait⟩)

theorem doPickWaitExpire_mayNotOpen {s : State} (h : s.mayOpen = false) : doPickWaitExpire s = s := by
  unfold doPickWaitExpire
  split
  · rfl
  · exact if_pos (.inl (by simp [h]))

/-- Settles O39: each row is `event` of its operation; what a packet, marker or pick does turns on its stamp, extended. -/
theorem streamArrivalsComplete : Obligations.StreamArrivalsComplete := by
  unfold Obligations.StreamArrivalsComplete
  refine ⟨?_, ?_, ?_, ?_, ?_, ?_, ?_, ?_, ?_, ?_⟩
  · exact fun _ _ => does_of (fun _ => rfl) (fun _ _ ⟨hx, hfor⟩ => doStreamPacketRx_otherTarget (takeStamp_some hx) hfor)
  · exact fun _ => does_of (fun _ => rfl) (fun _ _ hx => doStreamPacketRx_otherTarget (takeStamp_none hx) (forFrame_none _))
  · refine fun k x => does_of (fun _ => rfl) (fun s _ ⟨hx, hfor⟩ => ?_)
    rw [show doStreamPacketRx = _ by delta doStreamPacketRx; rfl, takeStamp_some hx]
    exact if_neg (by simp [hfor])
  · refine fun p k x => does_of (fun _ => rfl) (fun s _ ⟨hx, hfor, hcolour⟩ => ?_)
    exact (doFrameCompleteRx_sameColour hx hcolour).trans (if_pos hfor)
  · refine fun p k x => does_of (fun _ => rfl) (fun s _ ⟨hx, hfor, hpast, hcolour⟩ => ?_)
    rw [doFrameCompleteRx_sameColour hx hcolour, hfor, hpast]
    rfl
  · refine fun p k x f => does_of (fun _ => rfl) (fun s _ ⟨hx, hfor, hpast, hcolour⟩ => ?_)
    rw [doFrameCompleteRx_sameColour hx hcolour, hfor, hpast]
    rfl
  · exact fun _ => does_of (fun _ => rfl) (fun _ _ => doHeadPickRx_outOfRange)
  · refine fun k => does_of (fun _ => rfl) (fun s _ ⟨hopen, hx, hframe, hzero, hnew, hsrc⟩ => ?_)
    rw [show doHeadPickRx = _ by delta doHeadPickRx; rfl, takeStamp_some hx]
    exact if_neg (by simpa [hopen, hframe, hzero, hnew] using hsrc.resolve_left)
  · exact fun _ => does_of (fun _ => rfl) (fun _ _ ⟨hframe, hopen, hwait⟩ => doPickWaitExpire_opens hframe hopen hwait)
  · exact does_of (fun _ => rfl) (fun _ _ => doPickWaitExpire_mayNotOpen)

end Sys2Proof.Machine

/-! PROOFS. The checks before a host command (R122, R437, R464, R466, R485, R494): a command that one of them refuses is answered that
check's status, and nothing changes but rst_retry. -/

namespace Sys2Proof.Machine

/-! ### What taking a command leaves -/

@[simp] theorem taken_isHead (s : State) (c : HostCmd) : (s.taken c).isHead = s.isHead := by simp [State.isHead]
@[simp] theorem taken_inMin (s : State) (c : HostCmd) : (s.taken c).inMin = s.inMin := by simp [State.inMin]
@[simp] theorem taken_on (s : State) (c : HostCmd) (f : FName) (i : Nat) : (s.taken c).on f i = s.on f i := by simp [State.on]
@[simp] theorem taken_held (s : State) (c : HostCmd) (b : Nat) : (s.taken c).held b = s.held b := by simp [State.held]

/-! ### From the arrival of a command to its refusal -/

/-- A command that arrives with nothing to wait for starts in the state it was taken in. -/
theorem runHost_arrives {op : Nat} {c : HostCmd} {s : State} (act : Action) (h : Arrives op c s) :
    runHost op act c s = (s.taken c).start op act c := by
  have hop : { c with opcode := op } = c := by rw [← h.opcode]
  have hrun : ({ s with out := [] } : State).running = true := h.running
  have hhears : ({ s with out := [] } : State).hears c = true := h.heard
  have hwait : ({ s with out := [] } : State).mustWait op c = false := h.inOrder
  have hlapse : ({ s with out := [] } : State).lapseDue = { s with out := [] } := by
    have hnone : ({ s with out := [] } : State).lapsing = [] := h.noLapse
    simp [State.lapseDue, hnone]
  unfold runHost State.receive
  simp only [hop, hrun, hhears, hlapse, hwait, h.noRestart, Bool.not_true, Bool.or_self, Option.isSome_none, Bool.false_eq_true, if_false]
  rfl

/-- A tile that a command's group is closed to refuses it before anything else (R122). -/
theorem runHost_roleBad {op : Nat} {c : HostCmd} {s : State} (act : Action) (h : Weighed op c s) (hrole : (s.taken c).roleBad c = true) :
    runHost op act c s = conclude c true false (refuse (s.taken c) Status.unsupported) := by
  rw [runHost_arrives act h.toArrives, State.start, h.header, hrole]
  rfl

/-- Past the role check, a command that another check refuses is answered with the status of that check. -/
theorem runHost_refused {op : Nat} {c : HostCmd} {s : State} {status : Nat} (act : Action) (h : Weighed op c s)
    (hnow : c.isScheduled = false) (hrole : (s.taken c).roleBad c = false) (hr : (s.taken c).refusal op c = some status) :
    runHost op act c s = conclude c true false (refuse ((s.taken c).noteHeld op c) status) := by
  rw [runHost_arrives act h.toArrives]
  simp [State.start, h.header, hrole, h.notRelayed, h.notSpread, h.notMirrored, State.here, hnow, State.carry, hr]

/-- A refusal has gone out with its status, and nothing has changed but rst_retry, where it noted a held block. -/
theorem answered_of_refuse {mk : HostCmd → Instr} {c : HostCmd} {s : State} {status : Nat} (b : Bool) (hpath : ownPath c)
    (he : exec (mk c) s = .next (conclude c true false (refuse ((s.taken c).raiseIf b .rstRetry) status))) : Answered mk c s status := by
  obtain ⟨hsent, hkept, -⟩ := conclude_done (c := c) (refuse ((s.taken c).raiseIf b .rstRetry) status) hpath rfl rfl
  have hnoted := raiseIf_parts (s.taken c) b .rstRetry 0
  have hother {f : FName} (hf : f ≠ .rstRetry) (hev : f ≠ .mbxEvents) (i : Nat) :
      ((s.taken c).raiseIf b .rstRetry).r f i = s.r f i := by
    rw [raiseIf_r_other _ _ _ _ _ hf hev, taken_r]
  refine ⟨_, he, hsent, fun f i hf hdone hbusy => ?_, ⟨fun f i hf => ?_, fun _ => ?_⟩, ?_, ?_⟩
  · rw [hkept.regs f i List.not_mem_nil hdone hbusy]
    simp only [List.mem_cons, List.not_mem_nil, or_false, not_or] at hf
    exact hother hf.1 hf.2 i
  · rw [hkept.shadow.1 f i hf, refuse, hnoted, taken_shadow]
  · rw [hkept.shadow.2 rfl, refuse, hnoted, taken_staged]
  · rw [hkept.rest, refuse, hnoted]
    exact taken_rest s c
  · refine mailboxKept_of hkept.mailbox ?_ ?_ ?_
    · rw [refuse, hnoted]
    · exact (hother (by decide) (by decide) 0).trans (taken_r s c _ 0).symm
    · exact (hother (by decide) (by decide) 0).trans (taken_r s c _ 0).symm

/-- Every host command that the checks refuse with a status is answered it. -/
theorem answered_of_refusal {p : HostRow} {c : HostCmd} {s : State} {status : Nat} (hp : p ∈ hostRows) (h : Weighed p.1 c s)
    (hnow : c.isScheduled = false) (hr : (s.taken c).refusal p.1 c = some status) : Answered p.2 c s status := by
  obtain ⟨act, hact⟩ := hostRows_exec p hp
  cases hrole : (s.taken c).roleBad c
  · exact answered_of_refuse _ h.path ((hact c s).trans (congrArg _ (runHost_refused act h hnow hrole hr)))
  · obtain rfl : Status.unsupported = status := by simpa [State.refusal, hrole] using hr
    exact answered_of_refuse false h.path ((hact c s).trans (congrArg _ (runHost_roleBad act h hrole)))

/-! ### The checks, in their order -/

section
variable {op : Nat} {c : HostCmd} {s : State}

theorem roleBad_of_tile (htile : s.isHead = false) (hgroup : c.group = 5 ∨ c.group = 6) : s.roleBad c = true := by
  simp [State.roleBad, htile, hgroup]

theorem refusal_of_roleBad (h : s.roleBad c = true) : s.refusal op c = some Status.unsupported := if_pos h

theorem serviceBad_of_inMin (hmin : s.inMin = true) (hgroup : 4 ≤ c.group ∧ c.group ≤ 0x0A) : s.serviceBad c = true := by
  have hclosed : ¬ c.group ∈ [0, 1, 2, 3, 0x0B, 0x0C, 0x0D, 0x0E, 0x0F] := by
    simp only [List.mem_cons, List.not_mem_nil, or_false]
    omega
  simp [State.serviceBad, hmin, hclosed]

theorem refusal_of_serviceBad (hrole : s.roleBad c = false) (h : s.serviceBad c = true) : s.refusal op c = some Status.busy := by
  simp [State.refusal, hrole, h]

theorem sessionBad_notOpen (hnamed : c.session ≠ 0) (hnone : s.mbx.sessions.find? (fun x => x.id = c.session) = none) :
    s.sessionBad c = some Status.notBound := by
  simp only [State.sessionBad, if_neg hnamed, hnone]

theorem sessionBad_otherOwner {x : Session} (hpath : ownPath c) (hnamed : c.session ≠ 0)
    (hopen : s.mbx.sessions.find? (fun x => x.id = c.session) = some x) (howner : x.owner ≠ c.req) (hbound : x.rebind = false) :
    s.sessionBad c = some Status.denied := by
  simp only [State.sessionBad, if_neg hnamed, hopen]
  exact if_neg (by simp [howner, hbound, notLocal hpath])

theorem refusal_of_sessionBad {status : Nat} (hrole : s.roleBad c = false) (hservice : s.serviceBad c = false)
    (h : s.sessionBad c = some status) : s.refusal op c = some status := by
  simp [State.refusal, hrole, hservice, h]

theorem holderBad_of_noLease (hpath : ownPath c) (hhead : s.isHead = true) (hlease : s.on .redHolder = false)
    (hgroup : 4 ≤ c.group ∧ c.group ≤ 6) (hchange : readsOnly op c = false) : s.holderBad op c = true := by
  have hlayers : c.group = 4 ∨ c.group = 5 ∨ c.group = 6 := by omega
  rcases hpath with ⟨hreq, -⟩ | ⟨ip, sport, hreq⟩ <;> simp [State.holderBad, hreq, hhead, hlease, hlayers, hchange]

theorem refusal_of_holderBad (hrole : s.roleBad c = false) (hservice : s.serviceBad c = false) (hsession : s.sessionBad c = none)
    (h : s.holderBad op c = true) : s.refusal op c = some Status.notBound := by
  simp [State.refusal, hrole, hservice, hsession, h]

/-- Past the checks of role, service, session and holder, a change is refused for the lock of its area or for its held block alone. -/
theorem refusal_of_change (hrole : s.roleBad c = false) (hservice : s.serviceBad c = false) (hsession : s.sessionBad c = none)
    (hcontrol : s.controlBad op c = false) (hholder : s.holderBad op c = false) (hchange : readsOnly op c = false) :
    s.refusal op c =
      if ((areaOf op c).bind s.holderOf).any (fun x => x.id != c.session) then some Status.locked
      else if (blockOf op c).any s.held then some Status.busy else none := by
  simp only [State.refusal, hrole, hservice, hsession, hcontrol, hholder, hchange, Bool.or_self, Bool.false_eq_true, if_false]
  cases areaOf op c with
  | none => cases blockOf op c <;> rfl
  | some a =>
    obtain hfree | ⟨x, hlock⟩ := (s.holderOf a).eq_none_or_eq_some
    · cases blockOf op c <;> simp [hfree]
    · cases blockOf op c <;> simp [hlock]

end

/-- Settles O6: each refusal is that of its check, and every command that the checks refuse is answered their status. -/
theorem refusedCommandsChangeNothing : Obligations.RefusedCommandsChangeNothing := by
  unfold Obligations.RefusedCommandsChangeNothing
  intro p hp c s h hnow
  have answered {status : Nat} (hr : (s.taken c).refusal p.1 c = some status) : Answered p.2 c s status :=
    answered_of_refusal hp h hnow hr
  refine ⟨fun htile hgroup => ?_, fun hrole hmin hgroup => ?_, fun hrole hservice =>
    ⟨fun hnamed hnone => ?_, ?_, fun hsession => ⟨?_, ?_⟩⟩⟩
  · exact answered (refusal_of_roleBad (roleBad_of_tile (by simpa using htile) hgroup))
  · exact answered (refusal_of_serviceBad hrole (serviceBad_of_inMin (by simpa using hmin) hgroup))
  · exact answered (refusal_of_sessionBad hrole hservice (sessionBad_notOpen hnamed hnone))
  · intro x hnamed hopen howner hbound
    exact answered (refusal_of_sessionBad hrole hservice (sessionBad_otherOwner h.path hnamed hopen howner hbound))
  · intro hhead hlease hgroup hchange
    exact answered (refusal_of_holderBad hrole hservice hsession
      (holderBad_of_noLease h.path (by simpa using hhead) (by simpa using hlease) hgroup hchange))
  · intro hcontrol hholder hchange
    have hrefusal := refusal_of_change hrole hservice hsession hcontrol hholder hchange
    refine ⟨fun a x harea hlock hother => answered ?_, fun b hblock hheld hfree => answered ?_⟩
    · rw [hrefusal]
      exact if_pos (by simp [harea, hlock, hother])
    · rw [hrefusal, if_neg, if_pos]
      · simpa [hblock] using hheld
      · intro hlocked
        obtain ⟨x, hx, hother⟩ := (Option.any_eq_true _ _).mp hlocked
        obtain ⟨a, harea, hlock⟩ := Option.bind_eq_some_iff.mp hx
        exact absurd (hfree a x harea hlock) (by simpa using hother)

end Sys2Proof.Machine

/-! PROOFS. Ingest commands (Table 3.14): the source streams of group 0x05 and the clip store of group 0x06. -/

namespace Sys2Proof.Machine

/-! ### Source streams -/

/-- The fields that STREAM_SETUP stages, staged under its session. -/
def State.streamStaged (s : State) (c : HostCmd) : State :=
  s.stages c.session [(.ingEnable, c.u8 0, b2n (c.u8 1 != 0)), (.ingKind, c.u8 0, c.u8 1), (.ingDpPort, c.u8 0, c.u8 2),
    (.ingGroup, c.u8 0, c.u8 3), (.ingFeedMask, c.u8 0, c.u8 4),
    (.ingFormat, c.u8 0, if c.u8 1 = 1 then s.r .dprFormat (c.u8 2) else c.u8 5), (.ingWidth, c.u8 0, c.u16 6),
    (.ingHeight, c.u8 0, c.u16 8)]

/-- The playback that STREAM_PLAY_CLIP names. -/
def playbackOf (c : HostCmd) : Playback := ⟨c.u64 8, c.u64 16, c.u32 4, c.u8 1, c.u8 2 != 0, c.u64 24⟩

section
variable {c : HostCmd} {s : State}

theorem actStreamGet_reads (hi : c.u8 0 ≤ 15) :
    actStreamGet c s = done s (leBytes 4 (s.bar0 (0x800 + 0x20 * c.u8 0)) ++ leBytes 4 (s.bar0 (0x800 + 0x20 * c.u8 0 + 4)) ++
      leBytes 8 (s.r .ingFraddr (c.u8 0)) ++ leBytes 4 (s.bar0 (0x800 + 0x20 * c.u8 0 + 0x10)) ++
      leBytes 4 (s.stream (c.u8 0)).framesSent) :=
  if_neg (Nat.not_lt.mpr hi)

theorem actStreamSetup_stages (hi : c.u8 0 ≤ 15) (hkind : c.u8 1 ≤ 3) (hport : c.u8 2 ≤ 3)
    (hformat : c.u8 1 = 2 ∨ c.u8 1 = 3 → bppOf (c.u8 5) ≠ none)
    (hfit : (s.streamStaged c).streamsFit (fun f i => (s.streamStaged c).seen f i) ((s.streamStaged c).seen .ftPeriodNum)
      ((s.streamStaged c).seen .ftPeriodDen) ((s.streamStaged c).seen .layGuard) = true) :
    actStreamSetup c s = done (s.streamStaged c) := by
  have hgood : ¬(15 < c.u8 0 ∨ 3 < c.u8 1 ∨ 3 < c.u8 2 ∨ ((c.u8 1 = 2 ∨ c.u8 1 = 3) ∧ bppOf (c.u8 5) = none)) := by
    rintro (h | h | h | ⟨hclip, hnone⟩)
    · omega
    · omega
    · omega
    · exact hformat hclip hnone
  exact (if_neg hgood).trans (if_pos hfit)

theorem actStreamSetFrame_stages (hi : c.u8 0 ≤ 15) (hkind : s.r .ingKind (c.u8 0) = 2) (halign : c.u64 8 % 4096 = 0)
    (hspace : c.u64 8 < 2 ^ 41) (hfree : s.freeing (c.u64 8) (s.streamBytes (c.u8 0)) = false) :
    actStreamSetFrame c s = done (s.stageAddr (c.u8 0) (c.u64 8)) := by
  have hgood : ¬(15 < c.u8 0 ∨ s.r .ingKind (c.u8 0) ≠ 2 ∨ c.u64 8 % 4096 ≠ 0 ∨ 2 ^ 41 ≤ c.u64 8) := by
    simp only [not_or, Nat.not_lt, Nat.not_le]
    exact ⟨hi, not_not_intro hkind, not_not_intro halign, hspace⟩
  exact (if_neg hgood).trans (if_neg (ne_true_of_eq_false hfree))

/-- STREAM_PLAY_CLIP past its refusals: a start whose latch point has passed is put off and flagged (R107). -/
theorem actStreamPlayClip_stages (hi : c.u8 0 ≤ 15) (hcount : (playbackOf c).count ≠ 0) (hdivider : (playbackOf c).divider ≠ 0)
    (hstride : s.streamBytes (c.u8 0) ≤ (playbackOf c).stride)
    (hfree : s.freeing ((playbackOf c).range (s.streamBytes (c.u8 0))).1 ((playbackOf c).range (s.streamBytes (c.u8 0))).2 = false) :
    actStreamPlayClip c s =
      if (playbackOf c).start < s.latchFrame (c.u8 0) then
        done ((s.setStream (c.u8 0) (fun (x : StreamSt) => { x with stagedPlay := some { playbackOf c with
          start := max ((playbackOf c).start + 1) (s.latchFrame (c.u8 0)) } })).raise .ingLateCommit (c.u8 0))
      else done (s.setStream (c.u8 0) (fun (x : StreamSt) => { x with stagedPlay := some (playbackOf c) })) := by
  have hgood : ¬(15 < c.u8 0 ∨ (playbackOf c).count = 0 ∨ (playbackOf c).divider = 0 ∨
      (playbackOf c).stride < s.streamBytes (c.u8 0)) := by
    simp only [not_or, Nat.not_lt]
    exact ⟨hi, hcount, hdivider, hstride⟩
  refine (if_neg hgood).trans ((if_neg (ne_true_of_eq_false hfree)).trans ?_)
  unfold playbackOf
  split
  · next hlate => simp [hlate, State.raiseIf]
  · next hlate => simp [hlate, State.raiseIf]

theorem actStreamStop_stops (hi : c.u8 0 ≤ 15) :
    actStreamStop c s = done (s.setStream (c.u8 0) (fun (x : StreamSt) => { x with stop := true })) :=
  if_neg (Nat.not_lt.mpr hi)

theorem actDpSet_sets {b : ClipBuf} (hbuf : s.bufOf (c.u32 4) = some b) (hport : c.u8 0 ≤ 3) (hmin : 3 ≤ c.u8 1) (hmax : c.u8 1 ≤ 8)
    (hroom : c.u8 1 * ringFrame ≤ b.length) (hkept : b.deferred = false) :
    actDpSet c s =
      let a := (s.w .dprDpHold (c.u8 0) (min 10000 (c.u16 2))).setRing (c.u8 0) (fun r => { State.ring0 with
        handle := b.handle, csa := b.csa, bufs := c.u8 1, seq := r.seq, refresh := r.refresh, phy := r.phy })
      done (a.setRing (c.u8 0) (fun r => { r with writing := some (a.nextBuffer (c.u8 0) (c.u8 1 - 1)) })) := by
  have hgood : ¬(3 < c.u8 0 ∨ c.u8 1 < 3 ∨ 8 < c.u8 1 ∨ b.length < c.u8 1 * ringFrame) := by
    simp only [not_or, Nat.not_lt]
    exact ⟨hport, hmin, hmax, hroom⟩
  simp only [actDpSet, hbuf]
  exact (if_neg hgood).trans (if_neg (ne_true_of_eq_false hkept))

theorem actDpGet_reads (hport : c.u8 0 ≤ 3) :
    actDpGet c s = done s (leBytes 4 (s.bar0 (0xC00 + 0x40 * c.u8 0)) ++ leBytes 4 (s.bar0 (0xC00 + 0x40 * c.u8 0 + 4)) ++
      leBytes 4 (s.bar0 (0xC00 + 0x40 * c.u8 0 + 8))) :=
  if_neg (Nat.not_lt.mpr hport)

end

/-- Settles O16: each command's action, past its refusals, is the effect that its clause names. -/
theorem streamCommandsComplete : Obligations.StreamCommandsComplete := by
  unfold Obligations.StreamCommandsComplete
  refine ⟨?_, ?_, ?_, ?_, ?_, ?_, fun b => ?_, ?_⟩
  · exact reads_of actStreamGet (fun _ _ => rfl) (fun _ _ _ hi => actStreamGet_reads hi)
  · exact completes_of actStreamSetup (fun _ _ => rfl)
      (fun _ _ ⟨hi, hkind, hport, hformat, hfit⟩ => actStreamSetup_stages hi hkind hport hformat hfit)
  · exact completes_of actStreamSetFrame (fun _ _ => rfl)
      (fun _ _ ⟨hi, hkind, halign, hspace, hfree⟩ => actStreamSetFrame_stages hi hkind halign hspace hfree)
  · exact completes_of actStreamPlayClip (fun _ _ => rfl) (fun _ _ ⟨hi, hcount, hdivider, hstride, hfree, hstart⟩ =>
      (actStreamPlayClip_stages hi hcount hdivider hstride hfree).trans (if_neg (Nat.not_lt.mpr hstart)))
  · exact completes_of actStreamPlayClip (fun _ _ => rfl) (fun _ _ ⟨hi, hcount, hdivider, hstride, hfree, hlate⟩ =>
      (actStreamPlayClip_stages hi hcount hdivider hstride hfree).trans (if_pos hlate))
  · exact completes_of actStreamStop (fun _ _ => rfl) (fun _ _ hi => actStreamStop_stops hi)
  · exact completes_of actDpSet (fun _ _ => rfl)
      (fun _ _ ⟨hbuf, hport, hmin, hmax, hroom, hkept⟩ => actDpSet_sets hbuf hport hmin hmax hroom hkept)
  · exact reads_of actDpGet (fun _ _ => rfl) (fun _ _ _ hport => actDpGet_reads hport)

/-! ### The clip store -/

/-- A command that completes at once, by an action known on the node's own paths. -/
theorem completes_of_ownPath {op : Nat} {mk : HostCmd → Instr} {ok : HostCmd → State → Prop} {data : HostCmd → State → List Byte}
    {after : HostCmd → State → State} (act : Action) (he : ∀ c s, exec (mk c) s = .next (runHost op act c s))
    (ha : ∀ c s, ownPath c → ok c s → act c s = done (after c s) (data c s)) : Completes op mk ok data after := by
  have hcompletes : Completes op mk (fun c s => ownPath c ∧ ok c s) data after :=
    completes_of act he (fun c s ⟨hpath, hok⟩ => ha c s hpath hok)
  exact fun c s hd hok => hcompletes c s hd ⟨hd.path, hok⟩

section
variable {c : HostCmd} {s : State}

/-- CLIP_ALLOC on the node's own paths: PCIe is owner 0 and UDP owner 1, and handles are not used again. -/
theorem actClipAlloc_allocates {a : Nat} (hpath : ownPath c) (hholder : s.fromHolder c = false)
    (hfree : s.freeRange (max 1 (ceilDiv (c.u64 0) 4096) * 4096) = some a) :
    actClipAlloc c s = done { s with ing := { s.ing with
        bufs := s.ing.bufs ++
          [⟨s.ing.nextHandle, a, max 1 (ceilDiv (c.u64 0) 4096) * 4096, if c.req = .pcie then 0 else 1, false⟩]
        nextHandle := s.ing.nextHandle + 1 } } (leBytes 4 s.ing.nextHandle ++ leBytes 4 0 ++ leBytes 8 a) := by
  rcases hpath with ⟨hreq, -⟩ | ⟨ip, sport, hreq⟩ <;> simp [actClipAlloc, hholder, hfree, hreq]

theorem actClipFree_frees {b : ClipBuf} (hbuf : s.bufOf (c.u32 0) = some b) (hring : s.servesMonitor b.handle = false)
    (hpin : s.bufPinned b = false) : actClipFree c s = done (s.freeBuf b.handle) := by
  simp [actClipFree, hbuf, hring, hpin]

theorem actClipFree_defers {b : ClipBuf} (hbuf : s.bufOf (c.u32 0) = some b) (hring : s.servesMonitor b.handle = false)
    (hpin : s.bufPinned b = true) :
    actClipFree c s = accept { s with ing := { s.ing with
      bufs := s.ing.bufs.map (fun x => if x.handle = b.handle then { x with deferred := true } else x) } }
      (.clipFree b.handle) Status.pinned := by
  simp [actClipFree, hbuf, hring, hpin]

theorem actClipWrite_writes {l : List Byte} (hbuf : (s.bufAt (c.u64 8) (c.u32 16)).isSome = true)
    (hreach : s.clipOk (c.u64 8) (c.u32 16) = true) (hpin : s.pinned (c.u64 8) (c.u32 16) = false)
    (hdata : s.hostRead c (c.u64 0) (c.u32 16) = some l) : actClipWrite c s = done (s.clipWrite (c.u64 8) l) := by
  have hsome : (s.bufAt (c.u64 8) (c.u32 16)).isNone = false := by simpa using hbuf
  simp [actClipWrite, hsome, hreach, hpin, hdata]

theorem actClipRead_reads (hreach : s.clipOk (c.u64 0) (c.u32 16) = true) (hclean : s.firstPoison (c.u64 0) (c.u32 16) = none)
    (hhost : s.hostOk (c.u64 8) = true) :
    actClipRead c s = done (s.hostWrite c (c.u64 8) (s.clipRead (c.u64 0) (c.u32 16))) := by
  simp [actClipRead, hreach, hclean, hhost]

theorem actClipPins_reads {b : ClipBuf} (hbuf : s.bufOf (c.u32 0) = some b) :
    actClipPins c s = done s (leBytes 4 (s.pins.filter (meets b.csa b.length)).length ++ leBytes 4 (b2n b.deferred)) := by
  simp only [actClipPins, hbuf]

theorem actClipSetWindow_sets (hwindow : c.u16 0 ≤ 511) : actClipSetWindow c s = done (s.w .cxlWindow 0 (c.u16 0)) :=
  if_neg (Nat.not_lt.mpr hwindow)

end

/-- Settles O17: each command's action, past its refusals, is the effect that its clause names. -/
theorem clipCommandsComplete : Obligations.ClipCommandsComplete := by
  unfold Obligations.ClipCommandsComplete
  refine ⟨?_, fun a => ?_, fun b => ?_, fun b => ?_, fun l => ?_, ?_, fun b => ?_, ?_⟩
  · exact reads_of actClipInfo (fun _ _ => rfl) (fun _ _ _ _ => rfl)
  · exact completes_of_ownPath actClipAlloc (fun _ _ => rfl)
      (fun _ _ hpath ⟨hholder, hfree⟩ => actClipAlloc_allocates hpath hholder hfree)
  · exact completes_of actClipFree (fun _ _ => rfl) (fun _ _ ⟨hbuf, hring, hpin⟩ => actClipFree_frees hbuf hring hpin)
  · exact accepts_of actClipFree (fun _ _ => rfl) (fun _ _ ⟨hbuf, hring, hpin⟩ => actClipFree_defers hbuf hring hpin)
  · exact completes_of actClipWrite (fun _ _ => rfl)
      (fun _ _ ⟨hbuf, hreach, hpin, hdata⟩ => actClipWrite_writes hbuf hreach hpin hdata)
  · exact fetches_of actClipRead (fun _ _ => rfl) (fun _ _ ⟨hreach, hclean⟩ hhost => actClipRead_reads hreach hclean hhost)
  · exact reads_of actClipPins (fun _ _ => rfl) (fun _ _ _ hbuf => actClipPins_reads hbuf)
  · exact writes_of actClipSetWindow (fun _ _ => rfl) (fun _ _ _ hwindow => actClipSetWindow_sets hwindow)
      (fun _ _ _ _ => List.pairwise_singleton _ _) (fun _ e he => by rw [List.mem_singleton.mp he]; exact ⟨nofun, nofun⟩)

end Sys2Proof.Machine

/-! PROOFS. Ingest events: the DP sinks (R82 to R87), the send windows and line slots (R96, R99, R102), and the frame-address latch (R104,
R105). -/

namespace Sys2Proof.Machine

/-! ### An entry of a list changed -/

/-- What is put in place of an entry turns on that entry alone. -/
theorem updAt_congr {α : Type} {l : List α} {i : Nat} {d : α} {f g : α → α} (h : f (l.getD i d) = g (l.getD i d)) :
    updAt l i f = updAt l i g := by
  induction l generalizing i with
  | nil => rfl
  | cons a r ih =>
    cases i with
    | zero => exact congrArg (· :: r) h
    | succ n => exact congrArg (a :: ·) (ih h)

theorem getD_updAt_same {α : Type} {l : List α} {i : Nat} {d : α} (f : α → α) (h : i < l.length) :
    (updAt l i f).getD i d = f (l.getD i d) := by
  induction l generalizing i with
  | nil => exact absurd h (Nat.not_lt_zero i)
  | cons a r ih =>
    cases i with
    | zero => rfl
    | succ n => exact ih (Nat.lt_of_succ_lt_succ h)

theorem setStream_congr {s : State} {i : Nat} {f g : StreamSt → StreamSt} (h : f (s.stream i) = g (s.stream i)) :
    s.setStream i f = s.setStream i g := by
  rw [State.setStream, State.setStream, updAt_congr h]

/-! ### DisplayPort capture (R83 to R85) -/

/-- The frame that completes while buffer `b` of a ring is written. -/
def State.frameInto (s : State) (p b : Nat) : DpFrame :=
  ⟨b, s.ftNs, (s.ring p).seq + 1, s.r .dprHActive p, s.r .dprVActive p, s.r .dprFormat p, s.r .dprColorimetry p⟩

/-- The frame in buffer `b` captured: its lines written, the frame newest in its ring, and the next buffer taken. -/
def State.captured (s : State) (p : Nat) (l : List Byte) (b : Nat) : State :=
  let x := s.frameInto p b
  let t := (s.putLines ((s.ring p).csaOf b) x.width x.format x.height l).ringFrameIn p x
  let n := t.nextBuffer p b
  t.setRing p (fun (r : DpRing) =>
    { r with writing := some n, frames := r.frames.take 1 ++ (r.frames.drop 1).filter (fun f => f.buf ≠ n) })

@[simp] theorem csaOf_zero (r : DpRing) : r.csaOf 0 = r.csa := by simp [DpRing.csaOf]

section
variable {s : State} {p : Nat}

theorem newFrame_writing {b : Nat} (hw : (s.ring p).writing = some b) : s.newFrame p = s.frameInto p b := by
  simp [State.newFrame, State.writingIn, hw, State.frameInto]

/-- A port with a ring and valid video captures. -/
theorem capture_open (hhead : s.isHead = true) (hheld : s.held 0 = false) (hring : (s.ring p).handle ≠ 0)
    (hphy : (s.ring p).phy = false) (hvalid : s.on .dprVideoValid p = true) :
    ¬(!s.isHead || s.held 0 || (s.ring p).handle == 0 || (s.ring p).phy || !s.on .dprVideoValid p) = true := by
  simp [hhead, hheld, hring, hphy, hvalid]

section
variable (hopen : ¬(!s.isHead || s.held 0 || (s.ring p).handle == 0 || (s.ring p).phy || !s.on .dprVideoValid p) = true)
include hopen

/-- A frame complete in any buffer of its ring that the node can reach is captured. -/
theorem doDpFrameComplete_captures {b : Nat} (l : List Byte) (hw : (s.ring p).writing = some b) (hb : b < (s.ring p).bufs)
    (hreach : s.clipOk ((s.ring p).csaOf b) (frameBytes (s.r .dprHActive p) (s.r .dprVActive p) (s.r .dprFormat p)) = true) :
    doDpFrameComplete p l s = s.captured p l b := by
  refine (if_neg hopen).trans ?_
  simp only [newFrame_writing hw]
  exact (if_neg (Nat.not_le.mpr hb)).trans (if_neg (by simpa [State.frameInto] using hreach))

/-- With no device to acknowledge it, the frame never completes. -/
theorem doDpFrameComplete_unreached {b : Nat} (l : List Byte) (hw : (s.ring p).writing = some b) (hb : b < (s.ring p).bufs)
    (hreach : s.clipOk ((s.ring p).csaOf b) (frameBytes (s.r .dprHActive p) (s.r .dprVActive p) (s.r .dprFormat p)) = false) :
    doDpFrameComplete p l s = s := by
  refine (if_neg hopen).trans ?_
  simp only [newFrame_writing hw]
  exact (if_neg (Nat.not_le.mpr hb)).trans (if_pos (by simpa [State.frameInto] using hreach))

theorem doDpFrameComplete_drops (l : List Byte) (hw : (s.ring p).writing = some (s.ring p).bufs) :
    doDpFrameComplete p l s =
      let n := (s.raise .dprDpDrop p).nextBuffer p (((s.ring p).frames.head?.map (·.buf)).getD 0)
      (s.raise .dprDpDrop p).setRing p (fun (r : DpRing) => { r with writing := some n }) := by
  refine (if_neg hopen).trans ?_
  simp only [newFrame_writing hw]
  exact if_pos (Nat.le_refl _)

end

/-! ### Modes and lost links (R82, R87) -/

section
variable {m : DpMode} (hhead : s.isHead = true) (hheld : s.held 0 = false) (hphy : (s.ring p).phy = false)
include hhead hheld hphy

theorem doDpModeReceived_unsupported (hmode : modeOk (s.ing.dpcd.getD p State.dpcd0) m = false) :
    doDpModeReceived p m s =
      ((s.puts [(.dprLinkUp, p, 1), (.dprLinkRate, p, m.linkRate), (.dprLanes, p, m.lanes)]).raise .dprUnsupported p).loseVideo p := by
  have hopen : ¬(!s.isHead || s.held 0 || (s.ring p).phy) = true := by simp [hhead, hheld, hphy]
  exact (if_neg hopen).trans (if_pos (by simpa using hmode))

theorem doDpModeReceived_captures (hmode : modeOk (s.ing.dpcd.getD p State.dpcd0) m = true) :
    doDpModeReceived p m s =
      (s.puts [(.dprLinkUp, p, 1), (.dprLinkRate, p, m.linkRate), (.dprLanes, p, m.lanes), (.dprHActive, p, m.width),
        (.dprVActive, p, m.height), (.dprFormat, p, m.format), (.dprColorimetry, p, m.colorimetry),
        (.dprVideoValid, p, 1)]).setRing p (fun (r : DpRing) => { r with refresh := m.refresh }) := by
  have hopen : ¬(!s.isHead || s.held 0 || (s.ring p).phy) = true := by simp [hhead, hheld, hphy]
  exact (if_neg hopen).trans (if_neg (by simpa using hmode))

end

theorem doDpLinkLoss_head (up : Bool) (hhead : s.isHead = true) (hheld : s.held 0 = false) :
    doDpLinkLoss p up s = (if up then s.w .dprLinkUp p 1 else
      s.puts [(.dprLinkUp, p, 0), (.dprLinkRate, p, 0), (.dprLanes, p, 0)]).loseVideo p := by
  have hopen : ¬(!s.isHead || s.held 0) = true := by simp [hhead, hheld]
  cases up <;> exact if_neg hopen

theorem doDpHoldExpire_silences {t : Nat} (hlost : (s.ring p).lostSince = some t) (hdue : t + s.r .dprDpHold p * 1000000 ≤ s.clk)
    (htwin : s.twinVideo p = false) : doDpHoldExpire p s = s.setRing p (fun (r : DpRing) => { r with silent := true }) := by
  simp [doDpHoldExpire, hlost, hdue, htwin]

theorem doDpHoldExpire_else
    (h : ¬∃ t, (s.ring p).lostSince = some t ∧ t + s.r .dprDpHold p * 1000000 ≤ s.clk ∧ s.twinVideo p = false) :
    doDpHoldExpire p s = s := by
  unfold doDpHoldExpire
  split
  · next t hlost => exact if_neg (fun hdue => h ⟨t, hlost, hdue.1, by simpa using hdue.2⟩)
  · rfl

end

/-! ### Send windows and line slots (R96, R99, R102) -/

theorem doSendWindowOpen_opens {s : State}
    (h : s.isHead = true ∧ s.inMin = false ∧ s.held 0 = false ∧ s.on .redHolder = true) : doSendWindowOpen s = s.openWindows := by
  obtain ⟨hhead, hmin, hheld, hholder⟩ := h
  exact if_neg (by simp [hhead, hmin, hheld, hholder])

theorem doSendWindowOpen_else {s : State}
    (h : ¬(s.isHead = true ∧ s.inMin = false ∧ s.held 0 = false ∧ s.on .redHolder = true)) : doSendWindowOpen s = s := by
  refine if_pos (Decidable.byContradiction (fun hopen => h ?_))
  simp only [Bool.or_eq_true, Bool.not_eq_true', not_or, Bool.not_eq_false, Bool.not_eq_true] at hopen
  obtain ⟨⟨⟨hhead, hmin⟩, hheld⟩, hholder⟩ := hopen
  exact ⟨hhead, hmin, hheld, hholder⟩

section
variable {s : State} {i : Nat}

theorem doLineSlot_notSending (h : 15 < i ∨ s.on .ingSending i = false ∨ s.held 0 = true) : doLineSlot i s = s :=
  if_pos (by simpa using h)

/-- A stream that sends takes its line slots while block 0 runs. -/
theorem lineSlot_open (hi : i ≤ 15) (hsending : s.on .ingSending i = true) (hheld : s.held 0 = false) :
    ¬(15 < i ∨ (!s.on .ingSending i) = true ∨ s.held 0 = true) := by
  simp [Nat.not_lt.mpr hi, hsending, hheld]

theorem doLineSlot_runs (hi : i ≤ 15) (hsending : s.on .ingSending i = true) (hheld : s.held 0 = false)
    (hend : s.ftNs < s.sendEnd (s.stream i).frame)
    (hdue : pacedAt (s.stream i).opened (s.sendEnd (s.stream i).frame) (s.stream i).slots (s.stream i).total ≤ s.ftNs) :
    doLineSlot i s = s.runSlot i :=
  (if_neg (lineSlot_open hi hsending hheld)).trans ((if_neg (Nat.not_le.mpr hend)).trans (if_neg (Nat.not_lt.mpr hdue)))

theorem doLineSlot_windowOver (hi : i ≤ 15) (hsending : s.on .ingSending i = true) (hheld : s.held 0 = false)
    (hend : s.sendEnd (s.stream i).frame ≤ s.ftNs) : doLineSlot i s = (s.w .ingSending i 0).raise .ingMarkerWithheld i :=
  (if_neg (lineSlot_open hi hsending hheld)).trans (if_pos hend)

/-! ### The frame-address latch (R104, R105) -/

theorem latch_nothing {x : StreamSt} (f now : Nat) (hplay : x.stagedPlay = none) (haddr : x.stagedAddr = none) :
    x.latch f now = { x with latchPast := f + 1 } := by
  simp [StreamSt.latch, hplay, haddr]

theorem latch_newAddr {x : StreamSt} {a : Nat} (f now : Nat) (hplay : x.stagedPlay = none) (haddr : x.stagedAddr = some a)
    (hnew : a ≠ x.latched) :
    x.latch f now = { x with
      latched := a, stagedAddr := none, latchStamp := now, seq := (x.seq + 1) % 2 ^ 32, latchPast := f + 1 } := by
  simp [StreamSt.latch, hplay, haddr, hnew]

/-- At its latch point, once in each frame, a stream latches what is staged. -/
theorem doFraddrLatch_latches {f : Nat} (hi : i ≤ 15) (hhead : s.isHead = true) (hframe : s.frame? = some f)
    (honce : (s.stream i).latchPast ≠ f + 1) (hpoint : s.latchPoint i f ≤ s.ftNs) :
    doFraddrLatch i s = s.setStream i (fun (x : StreamSt) => x.latch f s.ftNs) := by
  have hfirst : s.latchDone i = false := by simp [State.latchDone, hframe, honce]
  simp [doFraddrLatch, hframe, Nat.not_lt.mpr hi, hhead, hfirst, Nat.not_lt.mpr hpoint]

end

/-- Settles O37: each row is `event` of its operation, and each operation, past its guard, is the effect that its clause names. -/
theorem ingestEventsComplete : Obligations.IngestEventsComplete := by
  unfold Obligations.IngestEventsComplete
  refine ⟨fun p l => ?_, fun p l => ?_, fun p l => ?_, fun p m => ?_, fun p m => ?_, fun p => ?_, fun p => ?_, fun p => ?_, ?_,
    fun i hi => ?_, fun i hi => ?_, fun i => ?_, fun i f hi => ?_, fun i f a hi => ?_⟩
  · refine does_of (fun _ => rfl) (fun s _ ⟨hhead, hheld, hring, hphy, hvalid, hw, hb, hreach⟩ => ?_)
    rw [doDpFrameComplete_captures (capture_open hhead hheld hring hphy hvalid) l hw hb (by simpa using hreach)]
    simp only [State.captured, csaOf_zero]
    rfl
  · refine does_of (fun _ => rfl) (fun s _ ⟨hhead, hheld, hring, hphy, hvalid, hw, hb, hreach⟩ => ?_)
    exact doDpFrameComplete_unreached (capture_open hhead hheld hring hphy hvalid) l hw hb (by simpa using hreach)
  · exact does_of (fun _ => rfl) (fun _ _ ⟨hhead, hheld, hring, hphy, hvalid, hw⟩ =>
      doDpFrameComplete_drops (capture_open hhead hheld hring hphy hvalid) l hw)
  · exact does_of (fun _ => rfl)
      (fun _ _ ⟨hhead, hheld, hphy, hmode⟩ => doDpModeReceived_unsupported hhead hheld hphy hmode)
  · exact does_of (fun _ => rfl) (fun _ _ ⟨hhead, hheld, hphy, hmode⟩ => doDpModeReceived_captures hhead hheld hphy hmode)
  · exact does_of (fun _ => rfl) (fun _ _ ⟨hhead, hheld⟩ => doDpLinkLoss_head true hhead hheld)
  · exact does_of (fun _ => rfl) (fun _ _ ⟨hhead, hheld⟩ => doDpLinkLoss_head false hhead hheld)
  · exact doesOnly_of (fun _ => rfl) (fun _ ⟨_, hlost, hdue, htwin⟩ => doDpHoldExpire_silences hlost hdue htwin)
      (fun _ => doDpHoldExpire_else)
  · exact doesOnly_of (fun _ => rfl) (fun _ => doSendWindowOpen_opens) (fun _ => doSendWindowOpen_else)
  · exact does_of (fun _ => rfl) (fun _ _ ⟨hsending, hheld, hend, hdue⟩ => doLineSlot_runs hi hsending hheld hend hdue)
  · exact does_of (fun _ => rfl) (fun _ _ ⟨hsending, hheld, hend⟩ => doLineSlot_windowOver hi hsending hheld hend)
  · exact does_of (fun _ => rfl) (fun _ _ => doLineSlot_notSending)
  · exact does_of (fun _ => rfl) (fun s _ ⟨hhead, hframe, honce, hpoint, hplay, haddr⟩ =>
      (doFraddrLatch_latches hi hhead hframe honce hpoint).trans (setStream_congr (latch_nothing f s.ftNs hplay haddr)))
  · exact does_of (fun _ => rfl) (fun s _ ⟨hhead, hframe, honce, hpoint, hplay, haddr, hnew⟩ =>
      (doFraddrLatch_latches hi hhead hframe honce hpoint).trans (setStream_congr (latch_newAddr f s.ftNs hplay haddr hnew)))

end Sys2Proof.Machine

/-! PROOFS. Events of the clip store: the CXL links and their arbiters (R88, R115 to R118, R121), a deferred free (R110), and the images of
the monitor ring (R175). -/

namespace Sys2Proof.Machine

/-! ### The CXL links (R88, R121) -/

section
variable {s : State} {l : Nat}

/-- A head whose block 1 runs serves its two links. -/
theorem cxl_open (hl : l ≤ 1) (hhead : s.isHead = true) (hheld : s.held 1 = false) :
    ¬(!s.isHead || s.held 1 || decide (1 < l)) = true := by
  simp [hhead, hheld, Nat.not_lt.mpr hl]

theorem doCxlLinkUp_used (hl : l ≤ 1) (size : Nat) (ok : Bool) (hhead : s.isHead = true) (hheld : s.held 1 = false) :
    doCxlLinkUp l true false size ok s =
      let t := s.w .cxlLinkUp 0 (setBit (s.r .cxlLinkUp) l true)
      let t := ({ t with ing := { t.ing with devices := updAt t.ing.devices l (fun _ => size) } } : State).showLinks
      if ok then t else t.dropTable :=
  (if_neg (cxl_open hl hhead hheld)).trans (if_neg Bool.false_ne_true)

theorem doCxlLinkUp_refused {type3 switched : Bool} (hl : l ≤ 1) (hbad : type3 = false ∨ switched = true) (size : Nat) (ok : Bool)
    (hhead : s.isHead = true) (hheld : s.held 1 = false) :
    doCxlLinkUp l type3 switched size ok s = (s.w .cxlLinkUp 0 (setBit (s.r .cxlLinkUp) l false)).raiseBit .cxlDevError 0 l :=
  (if_neg (cxl_open hl hhead hheld)).trans (if_pos (by simpa using hbad))

theorem doCxlLinkDown_head (hl : l ≤ 1) (err : Bool) (hhead : s.isHead = true) :
    doCxlLinkDown l err s =
      let t := s.w .cxlLinkUp 0 (setBit (s.r .cxlLinkUp) l false)
      (if err then (t.raiseBit .cxlDevError 0 l).poisonDevice l else t).setHealth 4 true :=
  if_neg (by simp [hhead, Nat.not_lt.mpr hl])

/-! ### Units moved (R116, R117) -/

/-- Units moved change the arbiter and what is read ahead, and nothing outside ingest. -/
theorem moveUnits_parts (s : State) (l n : Nat) : s.moveUnits l n = { s with ing := (s.moveUnits l n).ing } := by
  unfold State.moveUnits
  split
  · rfl
  · dsimp only
    split <;> rfl

@[simp] theorem moveUnits_r (n : Nat) (f : FName) (i : Nat) : (s.moveUnits l n).r f i = s.r f i := by rw [moveUnits_parts]; rfl
@[simp] theorem moveUnits_clk (n : Nat) : (s.moveUnits l n).clk = s.clk := by rw [moveUnits_parts]

/-- With no burst in progress nothing moves. -/
theorem moveUnits_idle (n : Nat) (h : (s.arb l).burst = none) : s.moveUnits l n = s := by
  simp only [State.moveUnits, h]

/-- A link with a burst in progress is one of the arbiter's. -/
theorem lt_arb_length {b : Burst} (h : (s.arb l).burst = some b) : l < s.ing.arb.length := by
  refine Nat.lt_of_not_le (fun hout => ?_)
  rw [State.arb, List.getD_eq_getElem?_getD, List.getElem?_eq_none hout] at h
  exact nomatch h

theorem moveUnits_arb {b : Burst} (n : Nat) (h : (s.arb l).burst = some b) :
    (s.moveUnits l n).arb l = { s.arb l with burst := some { b with moved := max b.moved n } } := by
  have hset : (s.moveUnits l n).arb l =
      (s.setArb l (fun (a : ArbSt) => { a with burst := some { b with moved := max b.moved n } })).arb l := by
    simp only [State.moveUnits, h]
    split <;> rfl
  exact hset.trans (getD_updAt_same _ (lt_arb_length h))

/-- What another requester's burst moves is not read ahead for the streams. -/
theorem moveUnits_strUrgent {b : Burst} (n : Nat) (h : (s.arb l).burst = some b) (hreq : b.req ≠ .str) :
    (s.moveUnits l n).strUrgent = s.strUrgent := by
  simp only [State.moveUnits, h, if_neg hreq]
  rfl

/-! ### Grants, preemption and cuts (R115 to R118) -/

/-- A burst in progress gives way to an urgent STR unless it is protected; otherwise it has ended, and the rotation decides. -/
theorem doArbiterGrant_burst {b : Burst} (hl : l ≤ 1) (rs : List ArbReq) (n : Nat) (hhead : s.isHead = true) (hheld : s.held 1 = false)
    (hburst : (s.arb l).burst = some b) :
    doArbiterGrant l rs n s =
      let t := s.moveUnits l n
      if (t.strUrgent && rs.contains .str) = true ∧ b.req ≠ .str then (if b.guarded then t else t.preempt l b)
      else (t.setArb l (fun (a : ArbSt) => { a with
        burst := none, preempted := setNat a.preempted (reqIndex b.req) 0
        resume_ := setNat a.resume_ (reqIndex b.req) 0 })).rotateLink l rs := by
  refine (if_neg (cxl_open hl hhead hheld)).trans ?_
  simp only [moveUnits_arb n hburst]
  rfl

theorem doArbiterGrant_idle (hl : l ≤ 1) (rs : List ArbReq) (n : Nat) (hhead : s.isHead = true) (hheld : s.held 1 = false)
    (hburst : (s.arb l).burst = none) (hcut : (s.arb l).cut = none) : doArbiterGrant l rs n s = s.rotateLink l rs := by
  refine (if_neg (cxl_open hl hhead hheld)).trans ?_
  simp only [moveUnits_idle n hburst, hburst, hcut]

/-- An urgent STR takes the place of a burst cut in this same cycle. -/
theorem doArbiterGrant_cutNow {b : Burst} {rs : List ArbReq} (hl : l ≤ 1) (hstr : rs.contains .str = true) (n : Nat)
    (hhead : s.isHead = true) (hheld : s.held 1 = false) (hburst : (s.arb l).burst = none) (hcut : (s.arb l).cut = some (b, s.clk))
    (hreq : b.req ≠ .str) (hfree : b.guarded = false) (hurgent : s.strUrgent = true) : doArbiterGrant l rs n s = s.preempt l b := by
  refine (if_neg (cxl_open hl hhead hheld)).trans ?_
  simp only [moveUnits_idle n hburst, hburst, hcut]
  exact if_pos ⟨by rw [hurgent, hstr]; rfl, hreq, by simp [hfree], trivial⟩

theorem rotateLink_grants {rs : List ArbReq} {r : ArbReq} (h : rotate (s.arb l).pointer rs = some r) : s.rotateLink l rs = s.grant l r := by
  simp only [State.rotateLink, h]

theorem doBurstCut_cuts {b : Burst} {n : Nat} (hburst : (s.arb l).burst = some b) (hlimit : s.r .cxlHoldLimit ≤ max b.moved n) :
    doBurstCut l n s = (s.moveUnits l n).setArb l (fun (a : ArbSt) => { a with
      burst := none, preempted := setNat a.preempted (reqIndex b.req) 0
      resume_ := setNat a.resume_ (reqIndex b.req) (b.first + s.r .cxlHoldLimit)
      cut := some ({ b with moved := s.r .cxlHoldLimit }, s.clk) }) := by
  simp only [doBurstCut, moveUnits_arb n hburst, moveUnits_r, moveUnits_clk]
  exact if_neg (Nat.not_lt.mpr hlimit)

theorem doBurstCut_idle (n : Nat) (hburst : (s.arb l).burst = none) : doBurstCut l n s = s := by
  simp only [doBurstCut, moveUnits_idle n hburst, hburst]

end

/-! ### A deferred free (R110) -/

section
variable {s : State} {h : Nat}

theorem doClipFreeComplete_frees {b : ClipBuf} (hbuf : s.bufOf h = some b) (hdeferred : b.deferred = true) (hpin : s.bufPinned b = false) :
    doClipFreeComplete h s = (s.freeBuf h).complete (.clipFree h) Status.ok := by
  simp only [doClipFreeComplete, hbuf]
  exact if_pos ⟨hdeferred, by simp [hpin]⟩

theorem doClipFreeComplete_else (hno : ¬∃ b, s.bufOf h = some b ∧ b.deferred = true ∧ s.bufPinned b = false) :
    doClipFreeComplete h s = s := by
  unfold doClipFreeComplete
  split
  · next b hbuf => exact if_neg (fun hdue => hno ⟨b, hbuf, hdue.1, by simpa using hdue.2⟩)
  · rfl

end

/-! ### Images of the monitor ring (R175) -/

section
variable {s : State} {k : Pkt} {r : WbRing}

/-- An image of a target that the ring in buffer `b` takes goes to its place; one of any other is dropped. -/
theorem doWbDataRx_inTime {x : Nat} {b : ClipBuf} (hx : extend s.ftNs (k.u32 8) = some x) (hring : s.ing.wbRing = some r)
    (hbuf : s.bufOf r.handle = some b) : doWbDataRx k s = if r.takes x then s.takeImage k r b x else s := by
  rw [show doWbDataRx = _ by delta doWbDataRx; rfl, takeStamp_some hx]
  simp only [hring, hbuf]

theorem doWbDataRx_notTaken {x : Nat} (hx : extend s.ftNs (k.u32 8) = some x) (hring : s.ing.wbRing = some r)
    (htakes : r.takes x = false) : doWbDataRx k s = s := by
  rw [show doWbDataRx = _ by delta doWbDataRx; rfl, takeStamp_some hx]
  simp only [hring, htakes]
  cases s.bufOf r.handle <;> rfl

theorem doWbDataRx_noRing {x : Nat} (hx : extend s.ftNs (k.u32 8) = some x) (hring : s.ing.wbRing = none) : doWbDataRx k s = s := by
  rw [show doWbDataRx = _ by delta doWbDataRx; rfl, takeStamp_some hx]
  simp only [hring]

theorem doWbDataRx_outOfRange (hx : extend s.ftNs (k.u32 8) = none) : doWbDataRx k s = s.raise .ftStampRange := by
  rw [show doWbDataRx = _ by delta doWbDataRx; rfl, takeStamp_none hx]
  dsimp only
  cases (s.raise .ftStampRange).ing.wbRing <;> rfl

end

/-- Settles O38: each row is `event` of its operation, and each operation, past its guard, is the effect that its clause names. -/
theorem clipStoreEventsComplete : Obligations.ClipStoreEventsComplete := by
  unfold Obligations.ClipStoreEventsComplete
  refine ⟨fun l size hl => ?_, fun l size hl => ?_, fun l type3 switched size ok hl hbad => ?_, fun l err hl => ?_,
    fun l rs n r hl => ?_, fun l rs n b hl hstr => ?_, fun l rs n b hl hstr => ?_, fun l rs n b hl hstr => ?_,
    fun l rs n b hl hstr => ?_, fun l n b => ?_, fun l n => ?_, fun h => ?_, fun k r b x => ?_, fun k r x => ?_, fun k x => ?_,
    fun k => ?_⟩
  · exact does_of (fun _ => rfl) (fun _ _ ⟨hhead, hheld⟩ => doCxlLinkUp_used hl size true hhead hheld)
  · exact does_of (fun _ => rfl) (fun _ _ ⟨hhead, hheld⟩ => doCxlLinkUp_used hl size false hhead hheld)
  · exact does_of (fun _ => rfl) (fun _ _ ⟨hhead, hheld⟩ => doCxlLinkUp_refused hl hbad size ok hhead hheld)
  · exact does_of (fun _ => rfl) (fun _ _ hhead => doCxlLinkDown_head hl err hhead)
  · exact does_of (fun _ => rfl) (fun _ _ ⟨hhead, hheld, hburst, hcut, hnext⟩ =>
      (doArbiterGrant_idle hl rs n hhead hheld hburst hcut).trans (rotateLink_grants hnext))
  · refine does_of (fun _ => rfl) (fun s _ ⟨hhead, hheld, hburst, hreq, hfree, hurgent⟩ => ?_)
    rw [doArbiterGrant_burst hl rs n hhead hheld hburst]
    simp only [moveUnits_strUrgent n hburst hreq, hurgent, hstr]
    exact (if_pos ⟨rfl, hreq⟩).trans (if_neg (ne_true_of_eq_false hfree))
  · refine does_of (fun _ => rfl) (fun s _ ⟨hhead, hheld, hburst, hreq, hguarded, hurgent⟩ => ?_)
    rw [doArbiterGrant_burst hl rs n hhead hheld hburst]
    simp only [moveUnits_strUrgent n hburst hreq, hurgent, hstr]
    exact (if_pos ⟨rfl, hreq⟩).trans (if_pos hguarded)
  · exact does_of (fun _ => rfl) (fun _ _ ⟨hhead, hheld, hburst, hcut, hreq, hfree, hurgent⟩ =>
      doArbiterGrant_cutNow hl hstr n hhead hheld hburst hcut hreq hfree hurgent)
  · refine does_of (fun _ => rfl) (fun s _ ⟨hhead, hheld, hburst⟩ => ?_)
    rw [doArbiterGrant_burst hl rs n hhead hheld hburst]
    exact if_neg (by rw [hstr, Bool.and_false]; simp)
  · exact does_of (fun _ => rfl) (fun _ _ ⟨hburst, _, hlimit⟩ => doBurstCut_cuts hburst hlimit)
  · exact does_of (fun _ => rfl) (fun _ _ => doBurstCut_idle n)
  · exact doesOnly_of (fun _ => rfl) (fun _ ⟨_, hbuf, hdeferred, hpin⟩ => doClipFreeComplete_frees hbuf hdeferred hpin)
      (fun _ => doClipFreeComplete_else)
  · exact does_of (fun _ => rfl) (fun _ _ ⟨hx, hring, hbuf, htakes⟩ => (doWbDataRx_inTime hx hring hbuf).trans (if_pos htakes))
  · exact does_of (fun _ => rfl) (fun _ _ ⟨hx, hring, htakes⟩ => doWbDataRx_notTaken hx hring htakes)
  · exact does_of (fun _ => rfl) (fun _ _ ⟨hx, hring⟩ => doWbDataRx_noRing hx hring)
  · exact does_of (fun _ => rfl) (fun _ _ => doWbDataRx_outOfRange)

end Sys2Proof.Machine

/-! PROOFS. The layer commands (Tables 4.12 and 5.11): what is staged, what a write puts into effect, and what FROST_GET and CLOVER_GET
read. -/

namespace Sys2Proof.Machine

/-! ### Several fields of different names -/

/-- Entries whose names all differ are as many keys. -/
theorem distinctKeys_of_nodup {l : List (FName × Nat × Nat)} (h : (l.map (·.1)).Nodup) : distinctKeys l :=
  (List.pairwise_map.mp h).imp (fun hne heq => hne heq.1)

/-- A command that stages values under different names, by an action known past its refusals. -/
theorem stages_of_nodup {op : Nat} {mk : HostCmd → Instr} {ok : HostCmd → State → Prop} {vals : HostCmd → List (FName × Nat × Nat)}
    (act : Action) (he : ∀ c s, exec (mk c) s = .next (runHost op act c s))
    (ha : ∀ c s, ok c s → act c s = done (s.stages c.session (vals c)))
    (hnames : ∀ c, ((vals c).map (·.1)).Nodup) (hsome : ∀ c, vals c ≠ []) : Stages op mk ok vals :=
  stages_of act he (fun c s _ hok => ha c (s.taken c) hok) (fun c _ _ _ => distinctKeys_of_nodup (hnames c)) hsome

/-- A command that puts values into effect under different names, none of them the mailbox's own, by an action known past its refusals. -/
theorem writes_of_nodup {op : Nat} {mk : HostCmd → Instr} {ok : HostCmd → State → Prop} {vals : HostCmd → List (FName × Nat × Nat)}
    (act : Action) (he : ∀ c s, exec (mk c) s = .next (runHost op act c s))
    (ha : ∀ c s, ok c s → act c s = done (s.puts (vals c)))
    (hnames : ∀ c, (.mbxDone :: .mbxBusy :: (vals c).map (·.1)).Nodup) : Writes op mk ok vals := by
  have hsplit (c : HostCmd) := List.nodup_cons.mp (hnames c)
  have hsplit' (c : HostCmd) := List.nodup_cons.mp (hsplit c).2
  refine writes_of act he (fun c s _ hok => ha c (s.taken c) hok) (fun c _ _ _ => distinctKeys_of_nodup (hsplit' c).2)
    (fun c e he => ⟨fun hdone => (hsplit c).1 ?_, fun hbusy => (hsplit' c).1 ?_⟩)
  · exact List.mem_cons_of_mem _ (hdone ▸ List.mem_map_of_mem he)
  · exact hbusy ▸ List.mem_map_of_mem he

/-! ### Video and graphic layers -/

/-- The fields that LAYER_SET_VIDEO stages. -/
def videoValues (c : HostCmd) : List (FName × Nat × Nat) :=
  [(.layVEnable, c.u8 0, HostCmdFlag c 1), (.layVStream, c.u8 0, c.u8 2), (.layVPolicy, c.u8 0, HostCmdFlag c 3),
    (.layVAlpha, c.u8 0, c.u8 4), (.layVFeedMask, c.u8 0, c.u8 5), (.layVHoldMax, c.u8 0, c.u8 6), (.layVSrcX, c.u8 0, c.u16 8),
    (.layVSrcY, c.u8 0, c.u16 10), (.layVSrcW, c.u8 0, c.u16 12), (.layVSrcH, c.u8 0, c.u16 14), (.layVFullW, c.u8 0, c.u16 16),
    (.layVFullH, c.u8 0, c.u16 18), (.layVDstX, c.u8 0, c.u32 20), (.layVDstY, c.u8 0, c.u32 24), (.layVDstW, c.u8 0, c.u16 28),
    (.layVDstH, c.u8 0, c.u16 30)]

/-- The fields that LAYER_SET_GRAPHIC stages. -/
def graphicValues (c : HostCmd) : List (FName × Nat × Nat) :=
  [(.layGEnable, c.u8 0 - 4, HostCmdFlag c 1), (.layGFormat, c.u8 0 - 4, HostCmdFlag c 2), (.layGBuffer, c.u8 0 - 4, HostCmdFlag c 3),
    (.layGAlpha, c.u8 0 - 4, c.u8 4), (.layGFeedMask, c.u8 0 - 4, c.u8 5), (.layGX, c.u8 0 - 4, c.u16 8),
    (.layGY, c.u8 0 - 4, c.u16 10), (.layGW, c.u8 0 - 4, c.u16 12), (.layGH, c.u8 0 - 4, c.u16 14)]

section
variable {c : HostCmd} {s a : State}

theorem actLayerGet_reads (hlayer : c.u8 0 ≤ 8) : actLayerGet c s = done s (s.words (0x1000 + 0x40 * c.u8 0) 10) :=
  if_neg (Nat.not_lt.mpr hlayer)

theorem actLayerSetVideo_stages (hlayer : c.u8 0 ≤ 3) (hstream : c.u8 2 ≤ 15) :
    actLayerSetVideo c s = done (s.stages c.session (videoValues c)) :=
  if_neg (not_or.mpr ⟨Nat.not_lt.mpr hlayer, Nat.not_lt.mpr hstream⟩)

theorem actLayerSetGraphic_stages (hlow : 4 ≤ c.u8 0) (hhigh : c.u8 0 ≤ 7) :
    actLayerSetGraphic c s = done (s.stages c.session (graphicValues c)) :=
  if_neg (not_or.mpr ⟨Nat.not_lt.mpr hlow, Nat.not_lt.mpr hhigh⟩)

/-- LAYER_WRITE_GRAPHIC past its refusals: the bytes go to the buffer, and a bad word that one of them meets is sound again. -/
theorem actLayerWriteGraphic_writes {l : List Byte} (hlow : 4 ≤ c.u8 0) (hhigh : c.u8 0 ≤ 7) (hbuf : c.u8 1 ≤ 1)
    (hroom : c.u32 4 + c.u32 8 ≤ bufferSize) (hopen : s.graphicShut (c.u8 0 - 4) (c.u8 1) = false)
    (hdata : s.hostRead c (c.u64 16) (c.u32 8) = some l) :
    actLayerWriteGraphic c s =
      let a := graphicBase (c.u8 0 - 4) (c.u8 1) + c.u32 4
      done { s with lay := { s.lay with
        graphic := mwrite 0 s.lay.graphic a l
        graphicBad := s.lay.graphicBad.filter (fun w => !(decide (a ≤ 4 * w + 3) && decide (4 * w < a + c.u32 8))) } } := by
  have hgood : ¬(c.u8 0 < 4 ∨ 7 < c.u8 0 ∨ 1 < c.u8 1 ∨ bufferSize < c.u32 4 + c.u32 8) := by
    simp only [not_or, Nat.not_lt]
    exact ⟨hlow, hhigh, hbuf, hroom⟩
  refine (if_neg hgood).trans ((if_neg (ne_true_of_eq_false hopen)).trans ?_)
  simp only [hdata]

/-! ### The protected layer (R170, R171) -/

theorem actPSet_stages (hkey : s.checkKey (c.u64 0) = .ok a) :
    actPSet c s = done (a.stages c.session [(.layPEnable, 0, HostCmdFlag c 8), (.layPAlpha, 0, c.u8 9), (.layPFeedMask, 0, c.u8 10)]) := by
  simp only [actPSet, hkey]

theorem actPWrite_stages {l : List Byte} (hkey : s.checkKey (c.u64 0) = .ok a) (hroom : c.u32 8 + c.u32 12 ≤ bufferSize)
    (hstaged : (a.lay.pStaged.map (·.bytes.length)).sum + c.u32 12 ≤ 0x40000) (hdata : a.hostRead c (c.u64 16) (c.u32 12) = some l) :
    actPWrite c s = done { a with lay := { a.lay with pStaged := a.lay.pStaged ++ [⟨c.u32 8, l, c.session⟩] } } := by
  simp only [actPWrite, hkey, hdata]
  exact if_neg (not_or.mpr ⟨Nat.not_lt.mpr hroom, Nat.not_lt.mpr hstaged⟩)

theorem actPKey_sets (hkey : s.checkKey (c.u64 0) = .ok a) :
    actPKey c s = done (({ a with lay := { a.lay with pKey := c.u64 8 } } : State).putSetting keyTag (leBytes 8 (c.u64 8))) := by
  simp only [actPKey, hkey]

/-! ### Frost, the scaler sets and Clover -/

/-- FROST_GET of the node itself: node 0 or its own ID. -/
theorem actFrostGet_own (hnode : c.u16 0 = 0 ∨ c.u16 0 = s.id) (hfeed : c.u8 2 ≤ 7) :
    actFrostGet c s = done s (leBytes 4 (s.r .laySignature (c.u8 2)) ++ leBytes 4 (s.lay.frostLast.getD (c.u8 2) 0) ++
      leBytes 2 (s.readyMask (c.u8 2)) ++
      [byte (b2n (bit s.lay.heldFeeds (c.u8 2)) + 2 * b2n (bit (s.r .scnComposeMiss) (c.u8 2)) +
          4 * b2n (bit (s.r .layFrozen) (c.u8 2))),
       byte (min 255 (s.lay.frostCounted.getD (c.u8 2) 0))] ++ leBytes 4 s.lay.frostTarget) := by
  have hown : (c.u16 0 == 0 || c.u16 0 == s.id) = true := by simpa using hnode
  exact (if_neg (fun h => Nat.not_lt.mpr hfeed h.2)).trans (if_pos hown)

/-- FROST_GET of another node: its last reports of the feed. -/
theorem actFrostGet_reported {x : FrostReport} (hnot0 : c.u16 0 ≠ 0) (hother : c.u16 0 ≠ s.id)
    (hreport : s.lay.reports.find? (fun x => x.node == c.u16 0 && x.feed == c.u8 2) = some x) :
    actFrostGet c s = done s (getBytes x.bytes 8 4 ++ leBytes 4 x.previous ++ getBytes x.bytes 6 2 ++ getBytes x.bytes 5 1 ++
      [byte (min 255 x.counted)] ++ getBytes x.bytes 0 4) := by
  have hown : ¬(c.u16 0 == 0 || c.u16 0 == s.id) = true := by simp [hnot0, hother]
  refine (if_neg (fun h => hown h.1)).trans ((if_neg hown).trans ?_)
  simp only [hreport]

theorem actLayerGetCoef_fetches (hroom : 14352 ≤ c.u32 8) (hhost : s.hostOk (c.u64 0) = true) :
    actLayerGetCoef c s = done (s.hostWrite c (c.u64 0) scalerTable) (leBytes 4 14352) :=
  if_neg (not_or.mpr ⟨Nat.not_lt.mpr hroom, by simp [hhost]⟩)

theorem actCloverSet_sets (hw1 : c.u8 0 ≤ 15) (hw2 : c.u8 1 ≤ 15) (hw3 : c.u8 2 ≤ 15) :
    actCloverSet c s = done (s.puts [(.clvW1, 0, max 1 (c.u8 0)), (.clvW2, 0, max 1 (c.u8 1)), (.clvW3, 0, c.u8 2),
      (.clvGustMin, 0, max 1 (c.u8 3)), (.clvGustWait, 0, clampN 1 1000 (c.u16 4)), (.clvLullDelay, 0, c.u8 6)]) :=
  if_neg (by simp only [not_or, Nat.not_lt]; exact ⟨hw1, hw2, hw3⟩)

end

/-- Settles O14: each command's action, past its refusals, is the effect that its clause names. -/
theorem layerCommandsComplete : Obligations.LayerCommandsComplete := by
  unfold Obligations.LayerCommandsComplete
  refine ⟨?_, ?_, ?_, fun l => ?_, ?_, ?_, ?_, fun a => ?_, fun a l => ?_, fun a => ?_, ?_, ?_, fun x => ?_, ?_, ?_, ?_⟩
  · exact reads_of actLayerGet (fun _ _ => rfl) (fun _ _ _ hlayer => actLayerGet_reads hlayer)
  · exact stages_of_nodup actLayerSetVideo (fun _ _ => rfl) (fun _ _ ⟨hlayer, hstream⟩ => actLayerSetVideo_stages hlayer hstream)
      (fun _ => by simp) (fun _ => List.cons_ne_nil _ _)
  · exact stages_of_nodup actLayerSetGraphic (fun _ _ => rfl) (fun _ _ ⟨hlow, hhigh⟩ => actLayerSetGraphic_stages hlow hhigh)
      (fun _ => by simp) (fun _ => List.cons_ne_nil _ _)
  · exact completes_of actLayerWriteGraphic (fun _ _ => rfl) (fun _ _ ⟨hlow, hhigh, hbuf, hroom, hopen, hdata⟩ =>
      actLayerWriteGraphic_writes hlow hhigh hbuf hroom hopen hdata)
  · exact stages_of_nodup actLayerSetWindow (fun _ _ => rfl) (fun _ _ _ => rfl) (fun _ => by simp) (fun _ => List.cons_ne_nil _ _)
  · exact stages_of_nodup actLayerSetBg (fun _ _ => rfl) (fun _ _ _ => rfl) (fun _ => by simp) (fun _ => List.cons_ne_nil _ _)
  · exact stages_of_nodup actLayerSetGuard (fun _ _ => rfl) (fun _ _ _ => rfl) (fun _ => by simp) (fun _ => List.cons_ne_nil _ _)
  · exact completes_of actPSet (fun _ _ => rfl) (fun _ _ hkey => actPSet_stages hkey)
  · exact completes_of actPWrite (fun _ _ => rfl)
      (fun _ _ ⟨hkey, hroom, hstaged, hdata⟩ => actPWrite_stages hkey hroom hstaged hdata)
  · exact completes_of actPKey (fun _ _ => rfl) (fun _ _ hkey => actPKey_sets hkey)
  · exact writes_of_nodup actFrostSet (fun _ _ => rfl) (fun _ _ _ => rfl) (fun _ => by simp)
  · exact reads_of actFrostGet (fun _ _ => rfl) (fun _ _ _ ⟨hnode, hfeed⟩ => actFrostGet_own hnode hfeed)
  · exact reads_of actFrostGet (fun _ _ => rfl)
      (fun _ _ _ ⟨hnot0, hother, hreport⟩ => actFrostGet_reported hnot0 hother hreport)
  · exact fetches_of actLayerGetCoef (fun _ _ => rfl) (fun _ _ hroom hhost => actLayerGetCoef_fetches hroom hhost)
  · exact writes_of_nodup actCloverSet (fun _ _ => rfl) (fun _ _ ⟨hw1, hw2, hw3⟩ => actCloverSet_sets hw1 hw2 hw3)
      (fun _ => by simp)
  · exact completes_of actCloverGet (fun _ _ => rfl) (fun _ _ _ => rfl)

end Sys2Proof.Machine

/-! PROOFS. The commands of a commit (Table 4.12): COMMIT of the node's own scope, the sealed COMMIT that starts a seal run and
COMMIT_STATUS; and the settings of write-back and of the monitor ring. -/

namespace Sys2Proof.Machine

section
variable {c : HostCmd} {s : State}

/-! ### COMMIT (R130 to R137, R620, R621) -/

/-- No check of COMMIT before validation refuses it: its payload, the sessions of what is staged (R469), the role (R474) and the lease
(R437) that a wider scope asks for, a run under way (R140), the room for a set (R131) and how far its frame is (R136). -/
structure CommitPasses (c : HostCmd) (s : State) : Prop where
  payload : ¬(1 < c.u8 0 ∨ 2 < c.u8 1 ∨ 2 ^ 48 ≤ c.u64 8)
  notForeign : s.foreignStaged c = false
  role : ¬(c.u8 1 ≠ 0 ∧ (!s.isHead) = true)
  holder : ¬(c.u8 1 ≠ 0 ∧ (!s.on .redHolder) = true)
  noRun : ¬((c.u8 0 = 1 ∨ s.periodStaged = true) ∧ s.lay.sealRun.isSome = true)
  room : ¬4 ≤ s.lay.sets.length
  near : s.tooFar (c.u64 8) = false

/-- A set of this node alone, captured and accepted under commit ID `id` (R135 to R137, R620). -/
def State.commitOwn (s : State) (id : Nat) (isSealed : Bool) (ft reject : Nat) : Ack :=
  let early := isEarly (s.allChanges s.candidate)
  let fa := if isSealed then s.planSealed early ft else s.planTimed early ft
  let late := !isSealed && ft != 0 && fa != ft
  accept ((s.capture id (b2n isSealed) .accepted fa late reject s.id).raiseIf late .layLateCommit) (.commit id) Status.accepted
    (commitData id (b2n isSealed) fa 1 (b2n late) 0 reject)

/-- A timed set is late where it is not planned for the frame that its command names. -/
theorem State.commitOwn_timed (s : State) (id ft reject : Nat) :
    s.commitOwn id false ft reject =
      let fa := s.planTimed (isEarly (s.allChanges s.candidate)) ft
      let late := ft != 0 && fa != ft
      accept ((s.capture id 0 .accepted fa late reject s.id).raiseIf late .layLateCommit) (.commit id) Status.accepted
        (commitData id 0 fa 1 (b2n late) 0 reject) := rfl

/-- A sealed set is planned as a seal made now, and is never late. -/
theorem State.commitOwn_sealed (s : State) (id ft reject : Nat) :
    s.commitOwn id true ft reject =
      let fa := s.planSealed (isEarly (s.allChanges s.candidate)) ft
      accept (s.capture id 1 .accepted fa false reject s.id) (.commit id) Status.accepted (commitData id 1 fa 1 0 0 reject) := rfl

/-- COMMIT of this node alone, past its checks: sealed where it asks to be or where a period is staged (R146). -/
theorem actCommit_own {reject : Nat} (h : CommitPasses c s) (hscope : c.u8 1 = 0) (hvalid : s.validate s.candidate = some reject) :
    actCommit c s =
      s.takeCommitId.2.commitOwn s.takeCommitId.1 (decide (c.u8 0 = 1 ∨ s.periodStaged = true)) (c.u64 8) reject := by
  refine (if_neg h.payload).trans <| (if_neg (ne_true_of_eq_false h.notForeign)).trans <| (if_neg h.role).trans <|
    (if_neg h.holder).trans <| (if_neg h.noRun).trans <| (if_neg h.room).trans <| (if_neg (ne_true_of_eq_false h.near)).trans ?_
  simp only [hvalid]
  refine (if_neg (fun hwide => hwide.1 hscope)).trans ?_
  simp only [State.commitOwn, decide_eq_true_eq]

/-- COMMIT of a wider scope, sealed, past its checks: it starts a run, and waits for it where the run is not sealed at once (R137). -/
theorem actCommit_startsRun {reject : Nat} {e : Deferred} (h : CommitPasses c s) (hmode : c.u8 0 = 1) (hscope : c.u8 1 ≠ 0)
    (hvalid : s.validate s.candidate = some reject)
    (hprepared : s.takeCommitId.2.lay.sets.any (fun x => x.state == .prepared) = false)
    (howed : ((s.takeCommitId.2.waiting ⟨c, .seal s.takeCommitId.1, false⟩).startRun s.takeCommitId.1 0 (c.u8 1 - 1) (c.u8 2)
      (c.u64 8) reject).mbx.deferred.find? (fun e => e.waits == .seal s.takeCommitId.1) = some e)
    (hposted : e.posted = false) :
    actCommit c s =
      let a := (s.takeCommitId.2.waiting ⟨c, .seal s.takeCommitId.1, false⟩).startRun s.takeCommitId.1 0 (c.u8 1 - 1) (c.u8 2)
        (c.u64 8) reject
      await { a with mbx := { a.mbx with deferred := a.mbx.deferred.filter (fun e => !(e.waits == .seal s.takeCommitId.1)) } }
        (.seal s.takeCommitId.1) := by
  refine (if_neg h.payload).trans <| (if_neg (ne_true_of_eq_false h.notForeign)).trans <| (if_neg h.role).trans <|
    (if_neg h.holder).trans <| (if_neg h.noRun).trans <| (if_neg h.room).trans <| (if_neg (ne_true_of_eq_false h.near)).trans ?_
  simp only [hvalid]
  refine (if_pos ⟨hscope, .inl hmode⟩).trans ((if_neg (ne_true_of_eq_false hprepared)).trans ?_)
  unfold State.waiting at howed ⊢
  simp only [howed, hposted]
  exact if_neg Bool.false_ne_true

/-! ### COMMIT_STATUS -/

theorem actCommitStatus_pending {x : CommitSet} (hset : s.lay.sets.find? (fun x => x.id == c.u16 0) = some x) :
    actCommitStatus c s = done s ([byte (if x.state = .prepared then 1 else 0), 0, 0, 0] ++ leBytes 8 x.fa) := by
  simp only [actCommitStatus, hset]

theorem actCommitStatus_noted {h : Nat × Nat × Nat} (hset : s.lay.sets.find? (fun x => x.id == c.u16 0) = none)
    (hnoted : s.lay.history.find? (fun h => h.1 == c.u16 0) = some h) :
    actCommitStatus c s = done s ([byte h.2.1, 0, 0, 0] ++ leBytes 8 h.2.2) := by
  simp only [actCommitStatus, hset, hnoted]

/-! ### Write-back and the monitor ring (R173, R175) -/

theorem actWbSet_sets (hfeed : c.u8 1 ≤ 7) (hscale : c.u8 2 ≤ 3) (hdest : c.u16 4 ≤ 0xFFF)
    (hfits : imageFits (fun f i => s.r f i) (c.u8 2) (max 1 (c.u8 3)) = true) :
    actWbSet c s = done (s.puts [(.layWbOn, 0, HostCmdFlag c 0), (.layWbFeed, 0, c.u8 1), (.layWbScale, 0, c.u8 2),
      (.layWbDiv, 0, max 1 (c.u8 3)), (.layWbDest, 0, c.u16 4)]) :=
  if_neg (by simp only [not_or, Nat.not_lt, hfits]; exact ⟨hfeed, hscale, hdest, nofun⟩)

theorem actWbRing_sets {b : ClipBuf} (hhead : s.isHead = true) (hbuf : s.bufOf (c.u32 0) = some b) (hmin : 2 ≤ c.u8 4)
    (hmax : c.u8 4 ≤ 4) (hscale : c.u8 5 ≤ 3) (hpitch : c.u32 16 ≠ 0) (hline : 4 * c.u32 16 ≤ b.length / c.u8 4) :
    actWbRing c s = done { s with ing := { s.ing with wbRing := some {
        handle := b.handle, csa := b.csa, bufs := c.u8 4, scale := c.u8 5, x0 := c.s32 8, y0 := c.s32 12,
        pitch := c.u32 16, frames := [], next := 0, ended := 0 } } } := by
  have hgood : ¬(c.u8 4 < 2 ∨ 4 < c.u8 4 ∨ 3 < c.u8 5 ∨ c.u32 16 = 0 ∨ b.length / max 1 (c.u8 4) < 4 * c.u32 16) := by
    rw [Nat.max_eq_right (Nat.le_of_succ_le hmin)]
    simp only [not_or, Nat.not_lt]
    exact ⟨hmin, hmax, hscale, hpitch, hline⟩
  refine (if_neg (by simp [hhead])).trans ?_
  simp only [hbuf]
  exact if_neg hgood

end

/-- Settles O15: each command's action, past its refusals, is the effect that its clause names. -/
theorem commitCommandsComplete : Obligations.CommitCommandsComplete := by
  unfold Obligations.CommitCommandsComplete
  refine ⟨fun reject => ?_, fun reject => ?_, fun reject e => ?_, fun x => ?_, fun h => ?_, ?_, fun b => ?_⟩
  · refine accepts_of actCommit (fun _ _ => rfl) (fun c s ⟨hmode, hscope, hframe, hforeign, hperiod, hroom, hnear, hvalid⟩ => ?_)
    have hpasses : CommitPasses c s :=
      ⟨by omega, hforeign, by simp [hscope], by simp [hscope], by simp [hmode, hperiod], by omega, hnear⟩
    rw [actCommit_own hpasses hscope hvalid, show decide _ = false by simp [hmode, hperiod], State.commitOwn_timed]
  · refine accepts_of actCommit (fun _ _ => rfl) (fun c s ⟨hmode, hscope, hframe, hforeign, hrun, hroom, hnear, hvalid⟩ => ?_)
    have hpasses : CommitPasses c s :=
      ⟨by omega, hforeign, by simp [hscope], by simp [hscope], by simp [hrun], by omega, hnear⟩
    rw [actCommit_own hpasses hscope hvalid, show decide _ = true by simp [hmode], State.commitOwn_sealed]
  · refine awaits_of actCommit (fun _ _ => rfl) (fun c s ⟨hmode, hscope, hframe, hforeign, hhead, hholder, hrun, hroom, hnear, hvalid,
      hprepared, howed, hposted⟩ => ?_)
    have hpasses : CommitPasses c s :=
      ⟨by omega, hforeign, by simp [hhead], by simp [hholder], by simp [hrun], by omega, hnear⟩
    exact actCommit_startsRun hpasses hmode (by omega) hvalid hprepared howed hposted
  · exact reads_of actCommitStatus (fun _ _ => rfl) (fun _ _ _ hset => actCommitStatus_pending hset)
  · exact reads_of actCommitStatus (fun _ _ => rfl) (fun _ _ _ ⟨hset, hnoted⟩ => actCommitStatus_noted hset hnoted)
  · exact writes_of_nodup actWbSet (fun _ _ => rfl) (fun _ _ ⟨hfeed, hscale, hdest, hfits⟩ => actWbSet_sets hfeed hscale hdest hfits)
      (fun _ => by simp)
  · exact completes_of actWbRing (fun _ _ => rfl) (fun _ _ ⟨hhead, hbuf, hmin, hmax, hscale, hpitch, hline⟩ =>
      actWbRing_sets hhead hbuf hmin hmax hscale hpitch hline)

end Sys2Proof.Machine

/-! PROOFS. The steps of a commit between nodes (Table 4.6): prepare and its votes, a vote counted, the seal, the abandon and their time
limits. -/

namespace Sys2Proof.Machine

section
variable {k : Pkt} {s u : State} {r : SealRun}

/-! ### COMMIT_PREPARE (R131, R140) -/

theorem doCommitPrepareRx_notBound (h : s.lapseDue.heedsCommit k.src = false) :
    doCommitPrepareRx k s = s.lapseDue.sendTo 0x19 k.src (votePayload (k.u16 0) 1 Status.notBound 0) :=
  if_pos (by simp [h])

/-- A node that holds a prepared set, or four sets, has no room for one more (R131, R140). -/
theorem doCommitPrepareRx_full (h : s.lapseDue.heedsCommit k.src = true)
    (hfull : s.lapseDue.lay.sets.any (fun c => c.state == .prepared) = true ∨ 4 ≤ s.lapseDue.lay.sets.length) :
    doCommitPrepareRx k s = s.lapseDue.dropCoef.sendTo 0x19 k.src (votePayload (k.u16 0) 1 Status.busy 0) :=
  (if_neg (by simp [h])).trans (if_pos hfull)

theorem doCommitPrepareRx_invalid (h : s.lapseDue.heedsCommit k.src = true)
    (hprepared : s.lapseDue.lay.sets.any (fun c => c.state == .prepared) = false) (hroom : s.lapseDue.lay.sets.length < 4)
    (hinvalid : s.lapseDue.validate s.lapseDue.candidate = none) :
    doCommitPrepareRx k s = s.lapseDue.dropCoef.sendTo 0x19 k.src (votePayload (k.u16 0) 1 Status.badArg 0) := by
  refine (if_neg (by simp [h])).trans ((if_neg (by simp [hprepared, hroom])).trans ?_)
  simp only [hinvalid]

/-- A tile that accepts holds its set prepared, and has neither acted on this commit nor recorded it as sealed. -/
theorem doCommitPrepareRx_tile {reject : Nat} (h : s.lapseDue.heedsCommit k.src = true)
    (hprepared : s.lapseDue.lay.sets.any (fun c => c.state == .prepared) = false) (hroom : s.lapseDue.lay.sets.length < 4)
    (hvalid : s.lapseDue.validate s.lapseDue.candidate = some reject) (htile : s.lapseDue.isHead = false) :
    doCommitPrepareRx k s =
      let u := s.lapseDue.capture (k.u16 0) 1 .prepared 0 false reject k.src
      ({ u with lay := { u.lay with
        acted := u.lay.acted.filter (· ≠ k.u16 0), sealed := u.lay.sealed.filter (· ≠ k.u16 0) } } : State).sendTo 0x19 k.src
        (votePayload (k.u16 0) 0 0 reject) := by
  refine (if_neg (by simp [h])).trans ((if_neg (by simp [hprepared, hroom])).trans ?_)
  simp only [hvalid]
  exact if_neg (fun hhead => ne_true_of_eq_false htile hhead.1)

/-! ### COMMIT_VOTE (R138) -/

/-- A run with one more vote counted. -/
def SealRun.counted (r : SealRun) (w reject refusing : Nat) : SealRun :=
  { r with waiting := r.waiting.filter (· ≠ w), reject := r.reject ||| reject, refusing := r.refusing + refusing }

/-- A vote that the run awaits is counted, and one that rejects ends the run. -/
theorem doCommitVoteRx_counts {w : Nat} (hrun : s.lay.sealRun = some r) (hid : r.id = k.u16 0) (hvote : s.voteOf r k.src = some w) :
    doCommitVoteRx k s =
      let r' := r.counted w (k.u16 6) (if k.u8 2 = 0 then 0 else 1)
      let s' : State := { s with lay := { s.lay with sealRun := some r' } }
      if k.u8 2 ≠ 0 then s'.abandonRun r' (k.u16 4) else s'.finishVotes r' := by
  simp only [doCommitVoteRx, hrun, hvote]
  exact if_neg (not_not_intro hid)

theorem doCommitVoteRx_accepts {w : Nat} (hresult : k.u8 2 = 0) (hrun : s.lay.sealRun = some r) (hid : r.id = k.u16 0)
    (hvote : s.voteOf r k.src = some w) :
    doCommitVoteRx k s = ({ s with lay := { s.lay with sealRun := some (r.counted w (k.u16 6) 0) } } : State).finishVotes
      (r.counted w (k.u16 6) 0) := by
  rw [doCommitVoteRx_counts hrun hid hvote, if_pos hresult]
  exact if_neg (not_not_intro hresult)

theorem doCommitVoteRx_rejects {w : Nat} (hresult : k.u8 2 ≠ 0) (hrun : s.lay.sealRun = some r) (hid : r.id = k.u16 0)
    (hvote : s.voteOf r k.src = some w) :
    doCommitVoteRx k s = ({ s with lay := { s.lay with sealRun := some (r.counted w (k.u16 6) 1) } } : State).abandonRun
      (r.counted w (k.u16 6) 1) (k.u16 4) := by
  rw [doCommitVoteRx_counts hrun hid hvote, if_neg hresult]
  exact if_pos hresult

theorem doCommitVoteRx_notAwaited (hrun : s.lay.sealRun = some r) (hnot : r.id ≠ k.u16 0 ∨ s.voteOf r k.src = none) :
    doCommitVoteRx k s = s := by
  simp only [doCommitVoteRx, hrun]
  by_cases hid : r.id = k.u16 0
  · simp only [hnot.resolve_left (not_not_intro hid), ite_self]
  · exact if_pos hid

theorem doCommitVoteRx_noRun (hrun : s.lay.sealRun = none) : doCommitVoteRx k s = s := by
  simp only [doCommitVoteRx, hrun]

/-! ### COMMIT_SEAL and COMMIT_ABANDON (R141 to R143) -/

theorem doCommitSealRx_heard (h : s.heard k (k.u16 0) = some u) :
    doCommitSealRx k s = ({ u with lay := { u.lay with sealed := (k.u16 0 :: u.lay.sealed).take 256 } } : State).sealSet
      (k.u16 0) (k.u16 2) (k.u48 8) := by
  simp only [doCommitSealRx, h]

theorem doCommitSealRx_notHeard (h : s.heard k (k.u16 0) = none) : doCommitSealRx k s = s := by
  simp only [doCommitSealRx, h]

/-- A node that runs no commit discards the prepared set that the abandon names. -/
theorem doCommitAbandonRx_discards {c : CommitSet} (h : s.heard k (k.u16 0) = some u) (hrun : s.lay.sealRun = none)
    (hset : u.lay.sets.find? (fun c => c.id == k.u16 0 && c.state == .prepared) = some c) :
    doCommitAbandonRx k s = u.discardSet c (k.u16 2) := by
  simp only [doCommitAbandonRx, h, hrun, hset]

/-- A head whose own run the abandon ends, and which holds no set, answers that run's command. -/
theorem doCommitAbandonRx_endsRun (h : s.heard k (k.u16 0) = some u) (hrun : s.lay.sealRun = some r) (hid : r.id = k.u16 0)
    (hsets : (u.endSeal r (k.u16 2)).lay.sets = []) : doCommitAbandonRx k s = u.endSeal r (k.u16 2) := by
  simp only [doCommitAbandonRx, h, hrun, if_pos hid, hsets, List.find?_nil]

theorem doCommitAbandonRx_notHeard (h : s.heard k (k.u16 0) = none) : doCommitAbandonRx k s = s := by
  simp only [doCommitAbandonRx, h]

/-! ### Time limits (R139, R145) -/

theorem doVoteTimeout_abandons (hrun : s.lay.sealRun = some r) (hwaits : r.waiting ≠ []) (hdue : r.started + 100000000 ≤ s.clk) :
    doVoteTimeout s = s.abandonRun r Status.timeout := by
  simp only [doVoteTimeout, hrun]
  exact if_pos ⟨hwaits, hdue⟩

theorem doVoteTimeout_notDue (hrun : s.lay.sealRun = some r) (hnot : r.waiting = [] ∨ s.clk < r.started + 100000000) :
    doVoteTimeout s = s := by
  simp only [doVoteTimeout, hrun]
  exact if_neg (fun ⟨hwaits, hdue⟩ => hnot.elim hwaits (Nat.not_lt.mpr hdue))

theorem doPreparedSetExpire_discards {c : CommitSet}
    (hset : s.lay.sets.find? (fun c => c.state == .prepared && decide (c.at_ + 1000000000 ≤ s.clk)) = some c) :
    doPreparedSetExpire s = (s.discardSet c Status.aborted).raise .laySealLost := by
  simp only [doPreparedSetExpire, hset]

theorem doPreparedSetExpire_noSet (hsets : s.lay.sets = []) : doPreparedSetExpire s = s := by
  simp only [doPreparedSetExpire, hsets, List.find?_nil]

end

/-- Settles O47: each row is `event` of its operation, and each operation, past its guard, is the effect that its clause names. -/
theorem commitEventsComplete : Obligations.CommitEventsComplete := by
  unfold Obligations.CommitEventsComplete
  refine ⟨fun k t => ?_, fun k t => ?_, fun k t => ?_, fun k reject t => ?_, fun k r w hresult => ?_, fun k r w hresult => ?_,
    fun k r => ?_, fun k => ?_, fun k u => ?_, fun k => ?_, fun k u c => ?_, fun k u r => ?_, fun k => ?_, fun r => ?_, fun r => ?_,
    fun c => ?_, ?_⟩
  · exact does_of (fun _ => rfl) (fun _ _ ⟨rfl, h⟩ => doCommitPrepareRx_notBound h)
  · exact does_of (fun _ => rfl) (fun _ _ ⟨rfl, h, hfull⟩ => doCommitPrepareRx_full h hfull)
  · exact does_of (fun _ => rfl) (fun _ _ ⟨rfl, h, hprepared, hroom, hinvalid⟩ =>
      doCommitPrepareRx_invalid h hprepared hroom hinvalid)
  · exact does_of (fun _ => rfl) (fun _ _ ⟨rfl, h, hprepared, hroom, hvalid, htile⟩ =>
      doCommitPrepareRx_tile h hprepared hroom hvalid htile)
  · exact does_of (fun _ => rfl) (fun _ _ ⟨hrun, hid, hvote⟩ => doCommitVoteRx_accepts hresult hrun hid hvote)
  · exact does_of (fun _ => rfl) (fun _ _ ⟨hrun, hid, hvote⟩ => doCommitVoteRx_rejects hresult hrun hid hvote)
  · exact does_of (fun _ => rfl) (fun _ _ ⟨hrun, hnot⟩ => doCommitVoteRx_notAwaited hrun hnot)
  · exact does_of (fun _ => rfl) (fun _ _ hrun => doCommitVoteRx_noRun hrun)
  · exact does_of (fun _ => rfl) (fun _ _ h => doCommitSealRx_heard h)
  · exact does_of (fun _ => rfl) (fun _ _ h => doCommitSealRx_notHeard h)
  · exact does_of (fun _ => rfl) (fun _ _ ⟨h, hrun, hset⟩ => doCommitAbandonRx_discards h hrun hset)
  · exact does_of (fun _ => rfl) (fun _ _ ⟨h, hrun, hid, hsets⟩ => doCommitAbandonRx_endsRun h hrun hid hsets)
  · exact does_of (fun _ => rfl) (fun _ _ h => doCommitAbandonRx_notHeard h)
  · exact does_of (fun _ => rfl) (fun _ _ ⟨hrun, hwaits, hdue⟩ => doVoteTimeout_abandons hrun hwaits hdue)
  · exact does_of (fun _ => rfl) (fun _ _ ⟨hrun, hnot⟩ => doVoteTimeout_notDue hrun hnot)
  · exact does_of (fun _ => rfl) (fun _ _ hset => doPreparedSetExpire_discards hset)
  · exact does_of (fun _ => rfl) (fun _ _ hsets => doPreparedSetExpire_noSet hsets)

end Sys2Proof.Machine

/-! PROOFS. Clover's engines: Gust and Lull, the end of their work and overruns; and the care of the stores: the P store's data, copies and
clears, coefficient blocks read again and scrubs. -/

namespace Sys2Proof.Machine

section
variable {s : State}

/-! ### Gust and Lull (R202 to R204) -/

theorem doGust_held (hheld : s.held 8 = true) : doGust s = s := if_pos hheld

/-- A plan share on a sleeping engine starts the Gust for group 0. -/
theorem doGust_planned (hheld : s.held 8 = false) (hplan : s.clv.engines.any (fun x => x.plan != [] && !x.awake) = true) :
    doGust s = s.gustPlan :=
  (if_neg (ne_true_of_eq_false hheld)).trans (if_pos hplan)

/-- With too few ready tasks, none of which has waited long enough, no engine wakes. -/
theorem doGust_noReason (hheld : s.held 8 = false) (hplan : s.clv.engines.any (fun x => x.plan != [] && !x.awake) = false)
    (hpixels : s.pixelsHeld = false) (hfew : s.clv.list1.length + s.clv.list2.length < s.r .clvGustMin) (hwaited : s.waited = false) :
    doGust s = s.dispatch := by
  refine (if_neg (ne_true_of_eq_false hheld)).trans <| (if_neg (ne_true_of_eq_false hplan)).trans <|
    (if_neg (fun h => ne_true_of_eq_false hpixels h.1)).trans (if_pos ?_)
  rw [if_neg (Nat.not_le.mpr hfew), if_neg (ne_true_of_eq_false hwaited)]

/-! ### The end of an engine's work (R183, R186, R194, R201) -/

section
variable {e : Nat}

theorem doTaskComplete_notAtWork (h : 12 ≤ e ∨ (s.engine e).awake = false ∨ s.held 8 = true) : doTaskComplete e s = s :=
  if_pos (by simpa using h)

/-- An engine ends its work while it is awake and Clover runs; how far its composition has come is not asked (log entry 32). -/
theorem taskComplete_open (he : e < 12) (hawake : (s.engine e).awake = true) (hheld : s.held 8 = false) :
    ¬(12 ≤ e ∨ (!(s.engine e).awake) = true ∨ s.held 8 = true) := by
  simp [Nat.not_le.mpr he, hawake, hheld]

section
variable (he : e < 12) (hawake : (s.engine e).awake = true) (hheld : s.held 8 = false)
include he hawake hheld

theorem doTaskComplete_task {k j : Nat} (htask : (s.engine e).task = some (k, j)) :
    doTaskComplete e s = ((s.completeTask e k j).nextTask e).dispatch := by
  refine (if_neg (taskComplete_open he hawake hheld)).trans ?_
  simp only [htask]

theorem doTaskComplete_service (htask : (s.engine e).task = none) (hservice : (s.engine e).service.isSome = true) :
    doTaskComplete e s = ((s.setEngine e (fun (x : Engine) => { x with service := none })).nextTask e).dispatch := by
  refine (if_neg (taskComplete_open he hawake hheld)).trans ?_
  simp only [htask, if_pos hservice]

theorem doTaskComplete_plan (htask : (s.engine e).task = none) (hservice : (s.engine e).service = none)
    (hplanning : (s.engine e).planning = true) : doTaskComplete e s = ((s.completePlan e).nextTask e).dispatch := by
  refine (if_neg (taskComplete_open he hawake hheld)).trans ?_
  rw [← Option.not_isSome_iff_eq_none] at hservice
  simp only [htask, if_neg hservice, if_pos hplanning]

end

end

/-! ### Overruns (R206) -/

section
variable {e c : Nat}

theorem workCost_task {x : Engine} {k j : Nat} (htask : x.task = some (k, j)) :
    s.workCost x = some (sliceCost s.composing k j) := by
  simp only [State.workCost, htask]

theorem workCost_noTask {x : Engine} (htask : x.task = none) :
    s.workCost x = if x.planning = true then some (shareCost s.composing x.plan) else none := by
  simp only [State.workCost, htask]

/-- Work past twice its cost and 1 µs takes its engine out of service; what the failure gives back may join the plan (log entry 82). -/
theorem doEngineOverrun_late (he : e < 12) (hcost : s.workCost (s.engine e) = some c)
    (hlate : 10 * c + 6000 < 6 * (s.clk - (s.engine e).started)) : doEngineOverrun e s = s.failEngine e := by
  simp only [doEngineOverrun, hcost]
  exact if_neg (by omega)

/-- Work within its limit goes on. -/
theorem doEngineOverrun_inTime (hcost : s.workCost (s.engine e) = some c)
    (hintime : 6 * (s.clk - (s.engine e).started) ≤ 10 * c + 6000) : doEngineOverrun e s = s := by
  simp only [doEngineOverrun, hcost]
  exact if_pos (.inr hintime)

theorem doEngineOverrun_noWork (hcost : s.workCost (s.engine e) = none) : doEngineOverrun e s = s := by
  simp only [doEngineOverrun, hcost]

end

/-! ### Data, copies and clears that Clover waits for (R171, R236, R247) -/

theorem doPDataWritten_else (h : ¬(s.clv.waitP = true ∧ s.held 8 = false)) : doPDataWritten s = s := by
  refine if_pos (Decidable.byContradiction (fun hopen => h ?_))
  simpa using hopen

theorem doCoefCopyComplete_else (h : ¬s.clv.waitCopy = true) : doCoefCopyComplete s = s := if_pos (by simpa using h)

theorem doSlotClearComplete_else (h : ¬s.clv.waitClear = true) : doSlotClearComplete s = s := if_pos (by simpa using h)

/-! ### A coefficient block read again (R30, R544, R580) -/

/-- The flash controller goes on to a request that no flag decides. -/
@[simp] theorem raise_flashNext (s : State) (f : FName) (i : Nat) : (s.raise f i).flashNext = s.flashNext := by rw [raise_parts]; rfl

/-- A flag raised as a request of the flash controller ends, as claims state it; `r` is `s` but for parts that are not registers. -/
theorem raise_flashGoOn_occurs {s r : State} (hregs : r.regs = s.regs) {f : FName} (hf : f ≠ .mbxEvents) (hw : 0 < f.width) :
    Flagged s (r.begun.raise f).flashGoOn f ∧ EventOnly s r.flashGoOn (r.begun.raise f).flashGoOn [f, .mbxEvents] := by
  have hr (g : FName) (i : Nat) : r.begun.r g i = s.r g i := congrArg (fun l => rget l g i) hregs
  obtain ⟨hset, hevent⟩ := raise_flagged r.begun f 0 hf hw
  refine ⟨⟨hset, fun hclear => hevent ((congrArg (bit · 0) (hr f 0)).trans hclear)⟩, fun g i hg => ?_, ?_⟩
  · simp only [List.mem_cons, List.not_mem_nil, or_false, not_or] at hg
    exact (raise_r_other r.begun f 0 i hg.1 hg.2).trans (hr g i)
  · rw [State.flashGoOn, raise_flashNext, raise_parts]
    rfl

section
variable {b : Nat}

theorem doCoefBlockReload_notReloading (ok : Bool) (hjob : s.fw.job ≠ .reload) : doCoefBlockReload b ok s = s := if_neg hjob

/-- The reload of the whole store ends first (log entry 58). -/
theorem doCoefBlockReload_whole (ok : Bool) (hjob : s.fw.job = .reload) (hwhole : s.col.wholeReload = true) :
    doCoefBlockReload b ok s = (s.reloadWhole ok).flashGoOn :=
  (if_pos hjob).trans (congrArg State.flashGoOn (if_pos hwhole))

theorem doCoefBlockReload_block (ok : Bool) (hjob : s.fw.job = .reload) (hwhole : s.col.wholeReload = false) :
    doCoefBlockReload b ok s = (s.reloadBlock b ok).flashGoOn :=
  (if_pos hjob).trans (congrArg State.flashGoOn (if_neg (ne_true_of_eq_false hwhole)))

theorem reloadBlock_notAwaited (ok : Bool) (hb : b ∉ s.col.reloading) : s.reloadBlock b ok = s := if_pos (by simpa using hb)

/-- Block `b` no longer waits for its reload. -/
def State.endReload (s : State) (b : Nat) : State := { s with col := { s.col with reloading := s.col.reloading.filter (· ≠ b) } }

theorem reloadBlock_restores (hb : b ∈ s.col.reloading) :
    s.reloadBlock b true = { s.endReload b with col := { (s.endReload b).col with
      store := mwrite 0 s.col.store (64 * b) (s.flashBlock b), bad := s.col.bad.filter (· ≠ b) } } :=
  (if_neg (by simpa using hb)).trans (if_neg (by decide))

theorem reloadBlock_fails (hb : b ∈ s.col.reloading) : s.reloadBlock b false = (s.endReload b).raise .colReloadFail :=
  (if_neg (by simpa using hb)).trans (if_pos rfl)

end

/-! ### Scrubs (R29 to R31) -/

section
variable {m : Nat} (single double : List Nat)

theorem doMemoryScrub_noMemory (hm : 9 ≤ m) : doMemoryScrub m single double s = s := if_pos hm

/-- In a Lull gap, a scrub of a store of R31, numbered by its row of Table 1.4 (log entry 58), notes when it ended. -/
theorem doMemoryScrub_pass (hm : m ∈ [1, 2, 3, 5]) (hgap : s.lullGap = true) :
    doMemoryScrub m single double s = ({ s with col := { s.col with
      scrubbed := updAt s.col.scrubbed m (fun _ => some s.clk), corrected := bump s.col.corrected m single.length } } : State).memDouble
      m double := by
  have hlt : m < 9 := (by decide : ∀ n ∈ [1, 2, 3, 5], n < 9) m hm
  refine (if_neg (Nat.not_le.mpr hlt)).trans ?_
  rw [if_pos ⟨hgap, hm⟩]

theorem doMemoryScrub_read (hm : m < 9) (h : s.lullGap = false ∨ m ∉ [1, 2, 3, 5]) :
    doMemoryScrub m single double s =
      ({ s with col := { s.col with corrected := bump s.col.corrected m single.length } } : State).memDouble m double := by
  refine (if_neg (Nat.not_le.mpr hm)).trans ?_
  rw [if_neg (fun hpass => h.elim (fun hgap => ne_true_of_eq_false hgap hpass.1) (fun hstore => hstore hpass.2))]

end

end

/-- Settles O40: each row is `event` of its operation, and each operation, past its guard, is the effect that its clause names. -/
theorem engineEventsComplete : Obligations.EngineEventsComplete := by
  unfold Obligations.EngineEventsComplete
  refine ⟨?_, ?_, ?_, fun e => ?_, fun e k j he => ?_, fun e he => ?_, fun e he => ?_, fun e => ?_, fun e k j he => ?_, fun e k j => ?_,
    fun e he => ?_, fun e => ?_, ?_, ?_, ?_, fun b => ?_, fun b => ?_, fun b => ?_, fun b => ?_, fun b ok => ?_, fun b ok => ?_,
    fun m single double hm => ?_, fun m single double hm => ?_, fun m single double hm => ?_⟩
  · exact does_of (fun _ => rfl) (fun _ _ hheld => doGust_held hheld)
  · exact does_of (fun _ => rfl) (fun _ _ ⟨hheld, hplan⟩ => doGust_planned hheld hplan)
  · exact does_of (fun _ => rfl) (fun _ _ ⟨hheld, hplan, hpixels, hfew, hwaited⟩ => doGust_noReason hheld hplan hpixels hfew hwaited)
  · exact doesOnly_of (fun _ => rfl) (fun _ hidle => if_pos hidle) (fun _ hbusy => if_neg hbusy)
  · exact does_of (fun _ => rfl) (fun _ _ ⟨hawake, hheld, htask⟩ => doTaskComplete_task he hawake hheld htask)
  · exact does_of (fun _ => rfl) (fun _ _ ⟨hawake, hheld, htask, hservice⟩ => doTaskComplete_service he hawake hheld htask hservice)
  · exact does_of (fun _ => rfl) (fun _ _ ⟨hawake, hheld, htask, hservice, hplanning⟩ =>
      doTaskComplete_plan he hawake hheld htask hservice hplanning)
  · exact does_of (fun _ => rfl) (fun _ _ => doTaskComplete_notAtWork)
  · exact does_of (fun _ => rfl) (fun _ _ ⟨htask, hlate⟩ => doEngineOverrun_late he (workCost_task htask) hlate)
  · exact does_of (fun _ => rfl) (fun _ _ ⟨htask, hintime⟩ => doEngineOverrun_inTime (workCost_task htask) hintime)
  · exact does_of (fun _ => rfl) (fun _ _ ⟨htask, hplanning, hlate⟩ =>
      doEngineOverrun_late he ((workCost_noTask htask).trans (if_pos hplanning)) hlate)
  · refine does_of (fun _ => rfl) (fun s _ ⟨htask, hintime⟩ => ?_)
    by_cases hplanning : (s.engine e).planning = true
    · exact doEngineOverrun_inTime ((workCost_noTask htask).trans (if_pos hplanning)) (hintime hplanning)
    · exact doEngineOverrun_noWork ((workCost_noTask htask).trans (if_neg hplanning))
  · exact doesOnly_of (fun _ => rfl) (fun _ ⟨hwait, hheld⟩ => if_neg (by simp [hwait, hheld])) (fun _ => doPDataWritten_else)
  · exact doesOnly_of (fun _ => rfl) (fun _ hwait => if_neg (by simp [hwait])) (fun _ => doCoefCopyComplete_else)
  · exact doesOnly_of (fun _ => rfl) (fun _ hwait => if_neg (by simp [hwait])) (fun _ => doSlotClearComplete_else)
  · exact does_of (fun _ => rfl) (fun _ _ ⟨hjob, hwhole⟩ => doCoefBlockReload_whole true hjob hwhole)
  · exact does_of (fun _ => rfl) (fun _ _ ⟨hjob, hwhole⟩ => doCoefBlockReload_whole false hjob hwhole)
  · exact does_of (fun _ => rfl) (fun _ _ ⟨hjob, hwhole, hb⟩ =>
      (doCoefBlockReload_block true hjob hwhole).trans (congrArg State.flashGoOn (reloadBlock_restores hb)))
  · intro s hrun ⟨hjob, hwhole, hb⟩
    refine ⟨_, event_run hrun, ?_⟩
    rw [doCoefBlockReload_block false hjob hwhole, reloadBlock_fails hb]
    exact raise_flashGoOn_occurs (r := s.endReload b) rfl (by decide) (by decide)
  · exact does_of (fun _ => rfl) (fun _ _ ⟨hjob, hwhole, hb⟩ =>
      (doCoefBlockReload_block ok hjob hwhole).trans (congrArg State.flashGoOn (reloadBlock_notAwaited ok hb)))
  · exact does_of (fun _ => rfl) (fun _ _ hjob => doCoefBlockReload_notReloading ok hjob)
  · exact does_of (fun _ => rfl) (fun _ _ hgap => doMemoryScrub_pass single double hm hgap)
  · exact does_of (fun _ => rfl) (fun _ _ h => doMemoryScrub_read single double hm h)
  · exact does_of (fun _ => rfl) (fun _ _ _ => doMemoryScrub_noMemory single double hm)

end Sys2Proof.Machine

/-! PROOFS. Colour: component codes widened (R213), the working code (R221), and the colour commands (Table 6.10). -/

namespace Sys2Proof.Machine

/-! ### Component codes (R213) -/

theorem widen_of_lt {b : Nat} (h : b < 12) (x : Nat) : widen b x = x * 2 ^ (12 - b) + x / 2 ^ (2 * b - 12) :=
  if_neg (Nat.not_le.mpr h)

theorem widen_twelve (x : Nat) : widen 12 x = x := if_pos (Nat.le_refl 12)

/-- The high bits of a code of 6 bits or more that are repeated fit the bits that widening adds. -/
theorem shiftRight_lt_widening {b x : Nat} (hmin : 6 ≤ b) (hmax : b ≤ 12) (hx : x < 2 ^ b) : x >>> (2 * b - 12) < 2 ^ (12 - b) := by
  rw [Nat.shiftRight_eq_div_pow, Nat.div_lt_iff_lt_mul (Nat.two_pow_pos _), ← Nat.pow_add]
  rwa [show 12 - b + (2 * b - 12) = b by omega]

/-- The sum of the model is the bitwise or of R213: the two parts share no bit. -/
theorem widen_eq_or {b x : Nat} (hmin : 6 ≤ b) (hmax : b ≤ 12) (hx : x < 2 ^ b) :
    widen b x = (x <<< (12 - b)) ||| (x >>> (2 * b - 12)) := by
  rw [← Nat.shiftLeft_add_eq_or_of_lt (shiftRight_lt_widening hmin hmax hx)]
  rcases Nat.lt_or_eq_of_le hmax with hlt | rfl
  · rw [widen_of_lt hlt, Nat.shiftLeft_eq, Nat.shiftRight_eq_div_pow]
  · have hnone : x >>> 12 = 0 := Nat.lt_one_iff.mp (shiftRight_lt_widening hmin hmax hx)
    calc widen 12 x = x := widen_twelve x
      _ = x + x >>> 12 := by rw [hnone, Nat.add_zero]

/-- Settles O58: the bits repeated fit the bits added, so that their sum is their bitwise or. -/
theorem widenedCodes : Obligations.WidenedCodes := by
  unfold Obligations.WidenedCodes
  exact ⟨fun _ _ hmin hmax hx => widen_eq_or hmin hmax hx, widen_twelve⟩

/-! ### The working code (R221) -/

/-- The steps of a search for a number of `k` bits, bit by bit from the top. -/
def bitSteps : Nat → List Nat
  | 0 => []
  | k + 1 => 2 ^ k :: bitSteps k

/-- A step of the search is taken where the number that it reaches meets the condition. -/
def climb (p : Nat → Prop) [DecidablePred p] (c step : Nat) : Nat := if p (c + step) then c + step else c

theorem climb_taken {p : Nat → Prop} [DecidablePred p] {c step : Nat} (h : p (c + step)) : climb p c step = c + step := if_pos h

theorem climb_left {p : Nat → Prop} [DecidablePred p] {c step : Nat} (h : ¬ p (c + step)) : climb p c step = c := if_neg h

/-- `m` is the largest number below `n` that meets the condition `p`. -/
structure LargestBelow (n : Nat) (p : Nat → Prop) (m : Nat) : Prop where
  lt : m < n
  meets : p m
  max : ∀ t, t < n → p t → t ≤ m

/-- The search finds the largest number in its reach that meets a condition which holds below each number that meets it. -/
theorem climb_largestBelow {p : Nat → Prop} [DecidablePred p] (hdown : ∀ {a b}, a ≤ b → p b → p a) (k : Nat) {c : Nat} (hc : p c) :
    LargestBelow (c + 2 ^ k) p ((bitSteps k).foldl (climb p) c) := by
  induction k generalizing c with
  | zero => exact ⟨Nat.lt_succ_self c, hc, fun _ hlt _ => Nat.le_of_lt_succ hlt⟩
  | succ k ih =>
    have hreach : c + 2 ^ (k + 1) = c + 2 ^ k + 2 ^ k := by rw [Nat.pow_succ]; omega
    rw [hreach, bitSteps, List.foldl_cons]
    by_cases hstep : p (c + 2 ^ k)
    · rw [climb_taken hstep]
      exact ih hstep
    · rw [climb_left hstep]
      obtain ⟨hlt, hmeets, hmax⟩ := ih hc
      have hbelow (t : Nat) (ht : p t) : t < c + 2 ^ k := Nat.lt_of_not_le (fun hle => hstep (hdown hle ht))
      exact ⟨Nat.lt_add_right _ hlt, hmeets, fun t _ ht => hmax t (hbelow t ht) ht⟩

/-- The condition of R221 on a code, for the value `sum / n`. -/
abbrev CodeMeets (sum n c : Nat) : Prop := (2 * c - 1) * (2 * c - 1) * unity * n ≤ 4186116 * sum

theorem CodeMeets.of_le {sum n a b : Nat} (hle : a ≤ b) (hb : CodeMeets sum n b) : CodeMeets sum n a := by
  have hodd : 2 * a - 1 ≤ 2 * b - 1 := by omega
  have hside : (2 * a - 1) * (2 * a - 1) * unity * n ≤ (2 * b - 1) * (2 * b - 1) * unity * n :=
    Nat.mul_le_mul_right n (Nat.mul_le_mul_right unity (Nat.mul_le_mul hodd hodd))
  exact Nat.le_trans hside hb

theorem codeMeets_zero (sum n : Nat) : CodeMeets sum n 0 :=
  Nat.le_trans (Nat.le_of_eq (Nat.zero_mul n)) (Nat.zero_le _)

/-- The model's ten steps are those of the search over ten bits. -/
theorem workCode_eq_foldl (sum n : Nat) : workCode sum n = (bitSteps 10).foldl (climb (CodeMeets sum n)) 0 := rfl

/-- The working code is the largest of ten bits that meets its condition. -/
theorem workCode_largestBelow (sum n : Nat) : LargestBelow 1024 (CodeMeets sum n) (workCode sum n) := by
  rw [workCode_eq_foldl]
  exact climb_largestBelow CodeMeets.of_le 10 (codeMeets_zero sum n)

theorem codeMeets_one_iff {w c : Nat} : CodeMeets w 1 c ↔ (2 * c - 1) ^ 2 * 8388608 ≤ 4186116 * w := by
  rw [CodeMeets, Nat.mul_one, Nat.pow_two]

/-- Settles O59: the bit by bit search finds the largest code that meets the condition, which holds below each code that meets it. -/
theorem workingCodes : Obligations.WorkingCodes := by
  unfold Obligations.WorkingCodes
  intro w
  obtain ⟨hlt, hmeets, hmax⟩ := workCode_largestBelow w 1
  exact ⟨Nat.le_of_lt_succ hlt, fun _ => codeMeets_one_iff.mp hmeets,
    fun c _ hc hcode => hmax c (Nat.lt_succ_of_le hc) (codeMeets_one_iff.mpr hcode)⟩

/-! ### The colour commands (Table 6.10) -/

section
variable {c : HostCmd} {s : State}

/-- COL_SET past its refusals: RWS fields are staged, and dslew, which is RW, takes effect at once. -/
theorem actColSet_sets (hg : c.u8 1 ≤ 15) (hp : c.u8 2 ≤ 15) :
    actColSet c s = done ((s.stages c.session [(.colDerateOn, 0, b2n (bit (c.u8 0) 0)), (.colDitherOn, 0, b2n (bit (c.u8 0) 1)),
      (.colEmitters4, 0, b2n (bit (c.u8 0) 2)), (.colGProfile, 0, c.u8 1), (.colPProfile, 0, c.u8 2), (.colSprofEn, 0, c.u16 4),
      (.colSprofLo, 0, c.u32 8), (.colSprofHi, 0, c.u32 12), (.colGainE0, 0, c.u16 16), (.colGainE1, 0, c.u16 18),
      (.colGainE2, 0, c.u16 20), (.colGainE3, 0, c.u16 22)]).w .colDslew 0 (max 1 (c.u8 3))) :=
  if_neg (not_or.mpr ⟨Nat.not_lt.mpr hg, Nat.not_lt.mpr hp⟩)

section
variable {l : List Byte} (hfile : s.hostRead c (c.u64 0) (c.u32 8) = some l) (hgood : s.fileFault l = none)
include hfile hgood

/-- R234: outside Show, a good file is written to the store at once. -/
theorem actCoefLoad_writes (hshow : s.inShow = false) :
    actCoefLoad c s = done (s.putCoef (getLE l 32 4) ((l.drop 64).take (getLE l 36 4)) (bit (c.u8 12) 0))
      (leBytes 4 (getLE l 36 4) ++ leBytes 4 noByte) := by
  simp only [actCoefLoad, hfile, hgood]
  exact if_neg (ne_true_of_eq_false hshow)

/-- R235: in Show, a good file is staged under the command's session. -/
theorem actCoefLoad_stages (hshow : s.inShow = true) :
    actCoefLoad c s = done { s with lay := { s.lay with
        coefStaged := s.lay.coefStaged ++ [⟨getLE l 32 4, (l.drop 64).take (getLE l 36 4), bit (c.u8 12) 0, c.session⟩] } }
      (leBytes 4 (getLE l 36 4) ++ leBytes 4 noByte) := by
  simp only [actCoefLoad, hfile, hgood]
  exact if_pos hshow

end

theorem actCoefRead_reads (hroom : c.u32 0 + c.u32 4 ≤ coefEnd) (hhost : s.hostOk (c.u64 8) = true) :
    actCoefRead c s = done (s.hostWrite c (c.u64 8) (mread 0 s.col.store (c.u32 0) (c.u32 4))) :=
  if_neg (not_or.mpr ⟨Nat.not_lt.mpr hroom, by simp [hhost]⟩)

theorem actCoefSave_nothing (hidle : s.col.saveRun.isSome = false) (hclean : s.dirtyBlocks = []) :
    actCoefSave c s = done s (leBytes 4 0) :=
  (if_neg (ne_true_of_eq_false hidle)).trans (if_pos hclean)

/-- R238: every dirty block is on its way to the flash copy, its mark cleared. -/
theorem actCoefSave_saves (hidle : s.col.saveRun.isSome = false) (hdirty : s.dirtyBlocks ≠ []) :
    actCoefSave c s = await (State.flashAsk { s with col := { s.col with
      dirty := [], saveRun := some s.dirtyBlocks.length
      saving := s.col.saving ++ s.dirtyBlocks.map (fun b => ⟨64 * b, mread 0 s.col.store (64 * b) 64, true, 0⟩) } } .save) .flash := by
  refine (if_neg (ne_true_of_eq_false hidle)).trans ((if_neg hdirty).trans ?_)
  simp only [List.length_map]

theorem actZoneGet_reads (hzone : c.u8 0 ≤ 95) :
    actZoneGet c s = done s (leBytes 2 (s.r .thmZoneTemp (c.u8 0)) ++
      [byte (s.r .thmZoneState (c.u8 0)), 0] ++ (List.range 4).flatMap (fun e => leBytes 2 (s.r (zoneField e) (c.u8 0))) ++
      (List.range 4).flatMap (fun e => leBytes 2 (s.zoneGoal (fun f i => s.r f i) (toInt 16 (s.r .thmZoneTemp (c.u8 0))) e))) :=
  if_neg (Nat.not_lt.mpr hzone)

end

/-- Settles O18: each command's action, past its refusals, is the effect that its clause names. -/
theorem colourCommandsComplete : Obligations.ColourCommandsComplete := by
  unfold Obligations.ColourCommandsComplete
  refine ⟨?_, ?_, fun l => ?_, fun l => ?_, ?_, ?_, ?_, ?_, ?_⟩
  · exact reads_of actColGet (fun _ _ => rfl) (fun _ _ _ _ => rfl)
  · exact completes_of actColSet (fun _ _ => rfl) (fun _ _ ⟨hg, hp⟩ => actColSet_sets hg hp)
  · exact completes_of actCoefLoad (fun _ _ => rfl) (fun _ _ ⟨hfile, hgood, hshow⟩ => actCoefLoad_writes hfile hgood hshow)
  · exact completes_of actCoefLoad (fun _ _ => rfl) (fun _ _ ⟨hfile, hgood, hshow⟩ => actCoefLoad_stages hfile hgood hshow)
  · exact fetches_of actCoefRead (fun _ _ => rfl) (fun _ _ hroom hhost => actCoefRead_reads hroom hhost)
  · exact reads_of actCoefSave (fun _ _ => rfl) (fun _ _ _ ⟨hidle, hclean⟩ => actCoefSave_nothing hidle hclean)
  · exact awaits_of actCoefSave (fun _ _ => rfl) (fun _ _ ⟨hidle, hdirty⟩ => actCoefSave_saves hidle hdirty)
  · exact reads_of actCoefCheck (fun _ _ => rfl) (fun _ _ _ _ => rfl)
  · exact reads_of actZoneGet (fun _ _ => rfl) (fun _ _ _ hzone => actZoneGet_reads hzone)

end Sys2Proof.Machine

/-! PROOFS. Scan-out and camera windows: the commands of Table 7.8, GENLOCK inputs and SHUTTER outputs (R264 to R268), and the scan of the
lamps: sub-updates, their loads and their probes (R253, R254, R262, R280, R290, R311). -/

namespace Sys2Proof.Machine

/-! ### The scan-out commands (Table 7.8) -/

/-- The fields that SCAN_SET_LANES stages: the same two values for each lane of its range. -/
def laneValues (c : HostCmd) : List (FName × Nat × Nat) :=
  ((List.range (c.u8 1 + 1 - c.u8 0)).map (c.u8 0 + ·)).flatMap (fun n => [(.scnLaneDrivers, n, c.u8 2), (.scnLaneCpd, n, c.u8 3)])

/-- The fields that SCAN_SET_TIMING stages; a flag byte other than 0 is 1 (log entry 34). -/
def timingValues (c : HostCmd) : List (FName × Nat × Nat) :=
  [(.scnGdivM1, 0, c.u8 0 - 1), (.scnMux, 0, c.u8 1), (.scnSegLog2, 0, c.u8 2), (.scnSubLog2, 0, c.u8 3), (.scnBlank, 0, c.u8 4),
    (.scnFf, 0, HostCmdFlag c 5), (.scnScanDelay, 0, c.u32 8)]

/-- The fields that SCAN_SET_FEED stages. -/
def feedValues (c : HostCmd) : List (FName × Nat × Nat) :=
  [(.scnFeedEnable, c.u8 0, HostCmdFlag c 1), (.scnFeedConfine, c.u8 0, HostCmdFlag c 2), (.scnFeedOffset, c.u8 0, c.u32 4),
    (.scnFeedPitch, c.u8 0, c.u32 8)]

/-- The fields that SCAN_SET_WINDOW stages. -/
def windowValues (c : HostCmd) : List (FName × Nat × Nat) :=
  [(.winEnable, c.u8 0, HostCmdFlag c 1), (.winExclusive, c.u8 0, HostCmdFlag c 2), (.winFeedMask, c.u8 0, c.u8 3),
    (.winDivM1, c.u8 0, c.u8 4 - 1), (.winPhase, c.u8 0, c.u8 5), (.winGlCheck, c.u8 0, HostCmdFlag c 6),
    (.winGlInput, c.u8 0, c.u8 7), (.winOffset, c.u8 0, c.u32 8), (.winLength, c.u8 0, c.u32 12), (.winGlExpect, c.u8 0, c.u32 16)]

/-- The fields that SHUTTER_SET puts into effect, the pulse width held to its range. -/
def shutterValues (c : HostCmd) : List (FName × Nat × Nat) :=
  [(.shuEnable, c.u8 0, HostCmdFlag c 1), (.shuWindow, c.u8 0, c.u8 2), (.shuActiveLow, c.u8 0, b2n (bit (c.u8 3) 0)),
    (.shuPulse, c.u8 0, b2n (bit (c.u8 3) 1)), (.shuStandby, c.u8 0, b2n (bit (c.u8 3) 2)), (.shuLead, c.u8 0, c.u32 4),
    (.shuWidth, c.u8 0, clampN 100 10000000 (c.u32 8))]

section
variable {c : HostCmd} {s : State}

theorem actScanSetLanes_stages (hfirst : c.u8 0 ≤ 95) (hlast : c.u8 1 ≤ 95) (horder : c.u8 0 ≤ c.u8 1) (hdrivers : c.u8 2 ≤ 16)
    (hcpd : 1 ≤ c.u8 3) (hcpd' : c.u8 3 ≤ 48) : actScanSetLanes c s = done (s.stages c.session (laneValues c)) :=
  if_neg (by omega)

theorem actScanSetTiming_stages (hdiv : 1 ≤ c.u8 0) (hdiv' : c.u8 0 ≤ 16) (hmux : 1 ≤ c.u8 1) (hmux' : c.u8 1 ≤ 64)
    (hseg : c.u8 2 ≤ 7) (hsub : c.u8 3 ≤ 3) (hblank : 2 ≤ c.u8 4) :
    actScanSetTiming c s = done (s.stages c.session (timingValues c)) :=
  if_neg (by omega)

theorem actScanSetFeed_stages (hfeed : c.u8 0 ≤ 7) : actScanSetFeed c s = done (s.stages c.session (feedValues c)) :=
  if_neg (Nat.not_lt.mpr hfeed)

theorem actScanSetWindow_stages (hwindow : c.u8 0 ≤ 7) (hdiv : 1 ≤ c.u8 4) (hdiv' : c.u8 4 ≤ 16) (hinput : c.u8 7 ≤ 3) :
    actScanSetWindow c s = done (s.stages c.session (windowValues c)) :=
  if_neg (by omega)

/-- R257: an input's settings take effect at once; one switched off forgets its edges (log entry 40). -/
theorem actGenlockSet_sets (hinput : c.u8 0 ≤ 3) :
    actGenlockSet c s = done (s.setGenlockIn (c.u8 0) (HostCmdFlag c 1) (HostCmdFlag c 2) (c.u16 4)) :=
  if_neg (Nat.not_lt.mpr hinput)

theorem actGenlockGet_reads (hinput : c.u8 0 ≤ 3) :
    actGenlockGet c s = done s (leBytes 8 (s.r .genStamp (c.u8 0)) ++ leBytes 4 (s.r .genPeriod (c.u8 0)) ++
      leBytes 4 (s.r .genPhase (c.u8 0)) ++ leBytes 4 (s.r .genEdges (c.u8 0)) ++ leBytes 4 (s.r .genMisses (c.u8 0)) ++
      [byte (s.r .genPresent (c.u8 0) + 2 * s.r .genMissed (c.u8 0) + 4 * s.r .genGlitch (c.u8 0))]) :=
  if_neg (Nat.not_lt.mpr hinput)

theorem actShutterSet_sets (houtput : c.u8 0 ≤ 3) (hwindow : c.u8 2 ≤ 7) : actShutterSet c s = done (s.puts (shutterValues c)) :=
  if_neg (not_or.mpr ⟨Nat.not_lt.mpr houtput, Nat.not_lt.mpr hwindow⟩)

theorem actScanSetTrim_sets (hgroup : c.u8 0 ≤ 11) : actScanSetTrim c s = done (s.setTrim (c.u8 0) (c.u16 2)) :=
  if_neg (Nat.not_lt.mpr hgroup)

end

/-- Settles O19: each command's action, past its refusals, is the effect that its clause names. -/
theorem scanCommandsComplete : Obligations.ScanCommandsComplete := by
  unfold Obligations.ScanCommandsComplete
  refine ⟨?_, ?_, ?_, ?_, ?_, ?_, ?_, ?_, ?_, ?_⟩
  · exact reads_of actScanGet (fun _ _ => rfl) (fun _ _ _ _ => rfl)
  · exact completes_of actScanSetLanes (fun _ _ => rfl) (fun _ _ ⟨hfirst, hlast, horder, hdrivers, hcpd, hcpd'⟩ =>
      actScanSetLanes_stages hfirst hlast horder hdrivers hcpd hcpd')
  · exact stages_of_nodup actScanSetTiming (fun _ _ => rfl) (fun _ _ ⟨hdiv, hdiv', hmux, hmux', hseg, hsub, hblank⟩ =>
      actScanSetTiming_stages hdiv hdiv' hmux hmux' hseg hsub hblank) (fun _ => by simp) (fun _ => List.cons_ne_nil _ _)
  · exact stages_of_nodup actScanSetFeed (fun _ _ => rfl) (fun _ _ hfeed => actScanSetFeed_stages hfeed)
      (fun _ => by simp) (fun _ => List.cons_ne_nil _ _)
  · exact stages_of_nodup actScanSetWindow (fun _ _ => rfl) (fun _ _ ⟨hwindow, hdiv, hdiv', hinput⟩ =>
      actScanSetWindow_stages hwindow hdiv hdiv' hinput) (fun _ => by simp) (fun _ => List.cons_ne_nil _ _)
  · exact reads_of actScanPlan (fun _ _ => rfl) (fun _ _ _ _ => rfl)
  · exact completes_of actGenlockSet (fun _ _ => rfl) (fun _ _ hinput => actGenlockSet_sets hinput)
  · exact reads_of actGenlockGet (fun _ _ => rfl) (fun _ _ _ hinput => actGenlockGet_reads hinput)
  · exact writes_of_nodup actShutterSet (fun _ _ => rfl) (fun _ _ ⟨houtput, hwindow⟩ => actShutterSet_sets houtput hwindow)
      (fun _ => by simp)
  · exact completes_of actScanSetTrim (fun _ _ => rfl) (fun _ _ hgroup => actScanSetTrim_sets hgroup)

section
variable {s : State} {n : Nat}

/-! ### GENLOCK inputs (R264 to R266) -/

section
variable {rising : Bool} {held half : Nat}

theorem doGenlockEdge_notMeasured (h : 3 < n ∨ s.on .genEnable n = false ∨ rising = s.on .genFalling n) :
    doGenlockEdge n rising held half s = s :=
  if_pos (by simpa using h)

section
variable (hn : n ≤ 3) (hon : s.on .genEnable n = true) (hslope : rising ≠ s.on .genFalling n)
include hn hon hslope

/-- An input that is on measures the edges of its slope. -/
theorem genlockEdge_measured : ¬(3 < n ∨ (!s.on .genEnable n) = true ∨ rising = s.on .genFalling n) := by
  simp [Nat.not_lt.mpr hn, hon, hslope]

/-- R264: an edge held for less than the filter is a glitch. -/
theorem doGenlockEdge_glitch (hshort : held < s.r .genFilter n) : doGenlockEdge n rising held half s = s.raise .genGlitch n :=
  (if_neg (genlockEdge_measured hn hon hslope)).trans (if_pos hshort)

/-- R265, R266: an edge held for the filter or longer is taken, and each window that checks the input compares it. -/
theorem doGenlockEdge_taken (hlong : s.r .genFilter n ≤ held) :
    doGenlockEdge n rising held half s =
      let t := s.takeEdge n half
      let checks := (List.range 8).filter (fun w => t.on .winEnable w && t.on .winGlCheck w && t.r .winGlInput w == n)
      (checks.foldl (fun t w => t.checkSlip half w) t).genlockRef n half :=
  (if_neg (genlockEdge_measured hn hon hslope)).trans (if_neg (Nat.not_lt.mpr hlong))

end

end

theorem doGenlockMissed_misses (hn : n ≤ 3) (hon : s.on .genEnable n = true) (hlast : (s.genlock n).last ≠ none)
    (hperiod : s.r .genPeriod n ≠ 0) (hlate : (s.genlock n).from_ + 3 * s.r .genPeriod n < 2 * s.ftNs) :
    doGenlockMissed n s =
      let t := s.setGenlock n (fun (x : Genlock) => { x with from_ := x.from_ + 2 * s.r .genPeriod n })
      (((t.count .genMisses n).raise .genMissed n).w .genPresent n 0).genlockMiss n :=
  if_neg (by simp [Nat.not_lt.mpr hn, hon, hlast, hperiod, hlate])

/-- An input that is off, has no period yet or is still in time misses nothing. -/
theorem doGenlockMissed_else (h : ¬(s.on .genEnable n = true ∧ (s.genlock n).last ≠ none ∧ s.r .genPeriod n ≠ 0 ∧
    (s.genlock n).from_ + 3 * s.r .genPeriod n < 2 * s.ftNs)) : doGenlockMissed n s = s := by
  refine if_pos (Decidable.byContradiction (fun hopen => h ?_))
  simp only [not_or, Nat.not_le, Bool.not_eq_true', Bool.not_eq_false] at hopen
  exact hopen.2

/-! ### SHUTTER outputs (R267, R268) -/

section
variable {f : Nat} {edge : Int}

theorem doShutterAssert_notDriven (h : s.shutterLive n = false) : doShutterAssert n s = s := if_pos (by simp [h])

theorem shutterAssert_driven (hn : n ≤ 3) (hlive : s.shutterLive n = true) : ¬(3 < n ∨ (!s.shutterLive n) = true) := by
  simp [Nat.not_lt.mpr hn, hlive]

/-- R267: the instance is fixed at its assert edge: its end, its level, and its frame. -/
theorem doShutterAssert_asserts (hn : n ≤ 3) (hlive : s.shutterLive n = true) (hedge : s.shutterEdge n = some (f, edge))
    (hnew : (s.shutterOf n).lastFrame ≠ some f) :
    doShutterAssert n s =
      let len : Nat := if s.on .shuPulse n then s.r .shuWidth n else s.windowView f .winLength (s.r .shuWindow n)
      (s.setShutter n (fun _ =>
        { asserted := true, endNs := (edge + len).toNat, lowLevel := s.on .shuActiveLow n, lastFrame := some f })).emit
        (.shutter n (!s.on .shuActiveLow n)) := by
  refine (if_neg (shutterAssert_driven hn hlive)).trans ?_
  simp only [hedge]
  exact if_neg hnew

/-- An instance asserts once in its frame. -/
theorem doShutterAssert_again (hedge : s.shutterEdge n = some (f, edge)) (hlast : (s.shutterOf n).lastFrame = some f) :
    doShutterAssert n s = s := by
  by_cases hopen : 3 < n ∨ (!s.shutterLive n) = true
  · exact if_pos hopen
  · refine (if_neg hopen).trans ?_
    simp only [hedge]
    exact if_pos hlast

end

theorem doShutterDeassert_ends (hasserted : (s.shutterOf n).asserted = true)
    (hdue : (s.shutterOf n).endNs ≤ s.ftNs ∨ s.shutterLive n = false) : doShutterDeassert n s = s.deassert n :=
  if_pos ⟨hasserted, by simpa using hdue⟩

theorem doShutterDeassert_else
    (h : ¬((s.shutterOf n).asserted = true ∧ ((s.shutterOf n).endNs ≤ s.ftNs ∨ s.shutterLive n = false))) :
    doShutterDeassert n s = s :=
  if_neg (by simpa using h)

end

/-- Settles O36: each row is `event` of its operation, and each operation, past its guard, is the effect that its clause names. -/
theorem genlockShutterEventsComplete : Obligations.GenlockShutterEventsComplete := by
  unfold Obligations.GenlockShutterEventsComplete
  refine ⟨fun n rising held half hn => ?_, fun n rising held half hn => ?_, fun n rising held half => ?_, fun n hn => ?_,
    fun n f edge hn => ?_, fun n f edge => ?_, fun n => ?_⟩
  · exact does_of (fun _ => rfl) (fun _ _ ⟨hon, hslope, hshort⟩ => doGenlockEdge_glitch hn hon hslope hshort)
  · exact does_of (fun _ => rfl) (fun _ _ ⟨hon, hslope, hlong⟩ => doGenlockEdge_taken hn hon hslope hlong)
  · exact does_of (fun _ => rfl) (fun _ _ => doGenlockEdge_notMeasured)
  · exact doesOnly_of (fun _ => rfl) (fun _ ⟨hon, hlast, hperiod, hlate⟩ => doGenlockMissed_misses hn hon hlast hperiod hlate)
      (fun _ => doGenlockMissed_else)
  · exact does_of (fun _ => rfl) (fun _ _ ⟨hlive, hedge, hnew⟩ => doShutterAssert_asserts hn hlive hedge hnew)
  · exact does_of (fun _ => rfl) (fun _ _ h =>
      h.elim doShutterAssert_notDriven (fun ⟨hedge, hlast⟩ => doShutterAssert_again hedge hlast))
  · exact doesOnly_of (fun _ => rfl) (fun _ ⟨hasserted, hdue⟩ => doShutterDeassert_ends hasserted hdue)
      (fun _ => doShutterDeassert_else)

section
variable {s : State} {x : Sub}

/-! ### Sub-updates (R253, R262, R280) -/

section
variable {rest : List Sub} (hsubs : s.scn.subs = x :: rest)
include hsubs

theorem doSubUpdateStart_waits (h : s.ftNs < x.start ∨ x.loaded = false ∨ s.held 9 = true) : doSubUpdateStart s = s := by
  simp only [doSubUpdateStart, hsubs]
  exact if_pos (by simpa using h)

/-- R253, R280: a loaded sub-update starts at its time and sends its LINE marks; R262: one that a probe may use is noted. -/
theorem doSubUpdateStart_starts (hdue : x.start ≤ s.ftNs) (hloaded : x.loaded = true) (hheld : s.held 9 = false) :
    doSubUpdateStart s =
      let v : View := fun f i => s.r f i
      let t : State := { s with scn := { s.scn with
        subs := rest, lastProbeOk := if probeAllowed v (x.start - s.bnd x.frame) then s.clk else s.scn.lastProbeOk } }
      t.sendMarks (x :: rest)
        ⟨x.start, lineCycles (v .scnSegLog2 0) (blankOf v) * 4 * gdivOf v, 0, v .scnMux 0 * 2 ^ v .scnSegLog2 0⟩ := by
  simp only [doSubUpdateStart, hsubs]
  exact if_neg (by simp [Nat.not_lt.mpr hdue, hloaded, hheld])

end

theorem doSubUpdateStart_none (hsubs : s.scn.subs = []) : doSubUpdateStart s = s := by
  simp only [doSubUpdateStart, hsubs]

/-! ### Loads (R254, R290) -/

theorem doLoadStart_none (hnext : s.scn.subs.find? (fun x => !x.loaded) = none) : doLoadStart s = s := by
  simp only [doLoadStart, hnext]

section
variable (hnext : s.scn.subs.find? (fun x => !x.loaded) = some x)
include hnext

theorem doLoadStart_waits (h : s.ftNs < x.loadAt ∨ s.held 9 = true) : doLoadStart s = s := by
  simp only [doLoadStart, hnext]
  exact if_pos h

/-- R254, R290: the next load that is due takes the next bank and goes to the lanes in RUN: GREY, unless dark, then SUB and probes; it
is one step (log entry 40). -/
theorem doLoadStart_loads (hdue : x.loadAt ≤ s.ftNs) (hheld : s.held 9 = false) :
    doLoadStart s =
      let v : View := fun f i => s.r f i
      let y : Sub := { x with loaded := true, bank := s.scn.bank }
      let t : State := { s with scn := { s.scn with
        bank := 1 - s.scn.bank % 2, subs := s.scn.subs.map (fun (z : Sub) => if z = x then y else z) } }
      let lanes := t.lanesIn Lane.run
      let t := if x.dark then t else lanes.foldl (fun t n => t.greyLane v x.feed y.bank n) t
      (lanes.foldl (fun t n => t.subLane y n) t).probes v y := by
  simp only [doLoadStart, hnext]
  exact if_neg (not_or.mpr ⟨Nat.not_lt.mpr hdue, ne_true_of_eq_false hheld⟩)

end

/-! ### Lamps long unmeasured (R262) -/

theorem doProbeStarvedTimer_starved (hlamps : s.unmeasured = true) (hlong : s.scn.lastProbeOk + 1000000000 ≤ s.clk) :
    doProbeStarvedTimer s = s.raise .scnProbeStarved :=
  if_pos (by simp [hlamps, hlong])

theorem doProbeStarvedTimer_else (h : s.unmeasured = false ∨ s.clk < s.scn.lastProbeOk + 1000000000) : doProbeStarvedTimer s = s :=
  if_neg (by simpa [Decidable.imp_iff_not_or] using h)

/-- A flag raised as an event's whole effect, as claims state it. -/
theorem raise_occurs (s : State) {f : FName} (i : Nat) (hf : f ≠ .mbxEvents) (hw : 0 < f.width) :
    Flagged s (s.begun.raise f i) f i ∧ EventOnly s s (s.begun.raise f i) [f, .mbxEvents] := by
  refine ⟨raise_flagged s.begun f i hf hw, fun g j hg => ?_, raise_parts s.begun f i⟩
  simp only [List.mem_cons, List.not_mem_nil, or_false, not_or] at hg
  exact raise_r_other s.begun f i j hg.1 hg.2

end

/-- Settles O41: each row is `event` of its operation, and each operation, past its guard, is the effect that its clause names. -/
theorem scanEventsComplete : Obligations.ScanEventsComplete := by
  unfold Obligations.ScanEventsComplete
  refine ⟨fun x rest => ?_, fun x rest => ?_, ?_, fun x => ?_, fun x => ?_, ?_, ?_, ?_⟩
  · exact does_of (fun _ => rfl) (fun _ _ ⟨hsubs, hdue, hloaded, hheld⟩ => doSubUpdateStart_starts hsubs hdue hloaded hheld)
  · exact does_of (fun _ => rfl) (fun _ _ ⟨hsubs, h⟩ => doSubUpdateStart_waits hsubs h)
  · exact does_of (fun _ => rfl) (fun _ _ hsubs => doSubUpdateStart_none hsubs)
  · exact does_of (fun _ => rfl) (fun _ _ ⟨hnext, hdue, hheld⟩ => doLoadStart_loads hnext hdue hheld)
  · exact does_of (fun _ => rfl) (fun _ _ ⟨hnext, h⟩ => doLoadStart_waits hnext h)
  · exact does_of (fun _ => rfl) (fun _ _ hnext => doLoadStart_none hnext)
  · intro s hrun ⟨hlamps, hlong⟩
    refine ⟨_, event_run hrun, ?_⟩
    rw [doProbeStarvedTimer_starved hlamps hlong]
    exact raise_occurs s 0 (by decide) (by decide)
  · exact does_of (fun _ => rfl) (fun _ _ => doProbeStarvedTimer_else)

end Sys2Proof.Machine

/-! PROOFS. Lamp lanes: the commands of Table 8.10, the training of a lane and its retries (R279, R281), the replies of its drivers (R276,
R300, R308), and the samples of the temperature sensors (R301, R520, R521). -/

namespace Sys2Proof.Machine

/-! ### The lamp-lane commands (Table 8.10) -/

section
variable {c : HostCmd} {s : State}

/-- LANE_GET of a lane: its register word, and the counts and masks as reads of its drivers last gave them (log entry 38). -/
theorem actLaneGet_reads (hlane : c.u8 0 ≤ 95) :
    actLaneGet c s = done s (s.words (0x2900 + 4 * c.u8 0) 1 ++ leBytes 4 (s.lane (c.u8 0)).crcs.sum ++
      leBytes 4 (s.lane (c.u8 0)).lates.sum ++ leBytes 2 (s.lane (c.u8 0)).obeyB ++ leBytes 2 (s.lane (c.u8 0)).staleMask ++
      leBytes 2 (s.lane (c.u8 0)).foundMask) :=
  if_neg (Nat.not_lt.mpr hlane)

theorem actLaneRestart_restarts (hfirst : c.u8 0 ≤ 95) (hlast : c.u8 1 ≤ 95) (horder : c.u8 0 ≤ c.u8 1) :
    actLaneRestart c s = done ((List.range 12).foldl State.pump
      (((List.range (c.u8 1 + 1 - c.u8 0)).map (c.u8 0 + ·)).foldl State.restartLane s)) :=
  if_neg (by omega)

section
variable (hlane : c.u8 0 ≤ 95) (hrun : s.r .laneState (c.u8 0) = Lane.run)
include hlane hrun

/-- R316: a write goes to one driver or to all; registers 0x08 to 0x0A are written outside Show only. -/
theorem actLaneReg_writes (hdriver : c.u8 1 ≤ 15 ∨ c.u8 1 = allDrivers) (hwrite : c.u8 2 ≠ 0)
    (hopen : ¬(0x08 ≤ c.u8 3 ∧ c.u8 3 ≤ 0x0A ∧ s.inShow = true)) :
    actLaneReg c s = done (s.regWrite (c.u8 0) (c.u8 1) (c.u8 3) (c.u32 4)) (leBytes 4 (c.u32 4)) := by
  have hw : (c.u8 2 != 0) = true := by simpa using hwrite
  have hgood : ¬(95 < c.u8 0 ∨ ¬(c.u8 1 ≤ 15 ∨ (c.u8 1 = allDrivers ∧ (c.u8 2 != 0) = true))) :=
    not_or.mpr ⟨Nat.not_lt.mpr hlane, not_not_intro (hdriver.imp_right (⟨·, hw⟩))⟩
  exact (if_neg hgood).trans <| (if_neg (not_not_intro hrun)).trans <| (if_neg (fun h => hopen h.2)).trans (if_pos hw)

/-- R278: a read is one driver's. -/
theorem actLaneReg_asks (hdriver : c.u8 1 ≤ 15) (hread : c.u8 2 = 0) :
    actLaneReg c s = s.askFor (c.u8 0) (c.u8 1) 3 (c.u8 3) := by
  have hw : ¬(c.u8 2 != 0) = true := by simpa using hread
  have hgood : ¬(95 < c.u8 0 ∨ ¬(c.u8 1 ≤ 15 ∨ (c.u8 1 = allDrivers ∧ (c.u8 2 != 0) = true))) :=
    not_or.mpr ⟨Nat.not_lt.mpr hlane, not_not_intro (.inl hdriver)⟩
  exact (if_neg hgood).trans <| (if_neg (not_not_intro hrun)).trans <| (if_neg (fun h => hw h.1)).trans (if_neg hw)

/-- R316: an ECHO is sent outside Show only. -/
theorem actLaneEcho_asks (hdriver : c.u8 1 ≤ 15) (hshow : s.inShow = false) :
    actLaneEcho c s = s.askFor (c.u8 0) (c.u8 1) 5 (c.u32 4) :=
  (if_neg (not_or.mpr ⟨Nat.not_lt.mpr hlane, Nat.not_lt.mpr hdriver⟩)).trans
    (if_neg (not_or.mpr ⟨not_not_intro hrun, ne_true_of_eq_false hshow⟩))

end

/-- R293: outside Show the lamp map is set, and goes to the strings at once (log entry 39). -/
theorem actLaneSetCurmap_sets (hshow : s.inShow = false) :
    actLaneSetCurmap c s =
      done (s.puts [(.llCurmap, 0, c.u32 0), (.llCurmap, 1, c.u32 4), (.llCurmap, 2, c.u32 8)]).sendCurmap :=
  if_neg (ne_true_of_eq_false hshow)

theorem actDiagReadMap_fetches (halign : c.u32 0 % 16 = 0) (hroom : c.u32 0 + c.u32 4 ≤ 1048576)
    (hhost : s.hostOk (c.u64 8) = true) :
    actDiagReadMap c s = done (s.hostWrite c (c.u64 8)
      ((List.range ((c.u32 4 + 3) / 4)).map (fun k => s.statusByte (c.u32 0 / 4 + k)))) (leBytes 4 ((c.u32 4 + 3) / 4)) := by
  have hgood : ¬(c.u32 0 % 16 ≠ 0 ∨ 1048576 < c.u32 0 + c.u32 4 ∨ (!s.hostOk (c.u64 8)) = true) := by
    simp [halign, Nat.not_lt.mpr hroom, hhost]
  refine (if_neg hgood).trans ?_
  simp only [List.length_map, List.length_range]

/-- DIAG_EVENTS takes the oldest entries away as it writes them (log entry 38). -/
theorem actDiagEvents_takes (hhost : s.hostOk (c.u64 0) = true) :
    actDiagEvents c s =
      done (({ s with lan := { s.lan with events := s.lan.events.drop (c.u16 8) } } : State).hostWrite c (c.u64 0)
          ((s.lan.events.take (c.u16 8)).flatMap (fun e => leBytes 4 (eventWord e))))
        (leBytes 2 (s.lan.events.take (c.u16 8)).length ++ [byte (s.r .dgnEventOverflow)]) :=
  if_neg (by simp [hhost])

end

/-- Settles O20: each command's action, past its refusals, is the effect that its clause names. -/
theorem laneCommandsComplete : Obligations.LaneCommandsComplete := by
  unfold Obligations.LaneCommandsComplete
  refine ⟨?_, ?_, ?_, ?_, ?_, ?_, ?_, ?_, ?_, ?_, ?_⟩
  · exact reads_of actLaneGet (fun _ _ => rfl) (fun _ _ _ hlane => actLaneGet_reads hlane)
  · exact completes_of actLaneRestart (fun _ _ => rfl)
      (fun _ _ ⟨hfirst, hlast, horder⟩ => actLaneRestart_restarts hfirst hlast horder)
  · exact completes_of actLaneReg (fun _ _ => rfl)
      (fun _ _ ⟨hlane, hdriver, hwrite, hrun, hopen⟩ => actLaneReg_writes hlane hrun hdriver hwrite hopen)
  · exact awaits_of actLaneReg (fun _ _ => rfl)
      (fun _ _ ⟨hlane, hdriver, hread, hrun⟩ => actLaneReg_asks hlane hrun hdriver hread)
  · exact stages_of_nodup actLaneSetCurrent (fun _ _ => rfl) (fun _ _ _ => rfl)
      (fun _ => List.pairwise_singleton _ _) (fun _ => List.cons_ne_nil _ _)
  · exact completes_of actLaneSetCurmap (fun _ _ => rfl) (fun _ _ hshow => actLaneSetCurmap_sets hshow)
  · exact completes_of actDiagSet (fun _ _ => rfl) (fun _ _ _ => rfl)
  · exact reads_of actDiagSummary (fun _ _ => rfl) (fun _ _ _ _ => rfl)
  · exact fetches_of actDiagReadMap (fun _ _ => rfl) (fun _ _ ⟨halign, hroom⟩ hhost => actDiagReadMap_fetches halign hroom hhost)
  · exact completes_of actDiagEvents (fun _ _ => rfl) (fun _ _ hhost => actDiagEvents_takes hhost)
  · exact awaits_of actLaneEcho (fun _ _ => rfl)
      (fun _ _ ⟨hlane, hdriver, hrun, hshow⟩ => actLaneEcho_asks hlane hrun hdriver hshow)

section
variable {s : State}

/-! ### Training and retries (R279, R281) -/

section
variable {n : Nat}

/-- R279: after 100 µs of training a lane begins its enumeration at address 0. -/
theorem doLaneTrainDone_enumerates (htrain : s.r .laneState n = Lane.train) (hdue : (s.lane n).since + 100000 ≤ s.clk) :
    doLaneTrainDone n s =
      (((s.enterLane n Lane.enum).setLane n (fun (x : LaneSt) => { x with addr := 0, foundMask := 0 })).control
        n allDrivers 0x01 [0]).pump (n / 8) :=
  if_neg (not_or.mpr ⟨not_not_intro htrain, Nat.not_lt.mpr hdue⟩)

theorem doLaneTrainDone_else (h : ¬(s.r .laneState n = Lane.train ∧ (s.lane n).since + 100000 ≤ s.clk)) :
    doLaneTrainDone n s = s :=
  if_pos ((Decidable.not_and_iff_not_or_not.mp h).imp_right Nat.lt_of_not_le)

/-- R281: 1 ms after a failed attempt the lane trains again. -/
theorem doLaneRetryTimer_trains (hretry : (s.lane n).retry = true) (hdue : (s.lane n).since + 1000000 ≤ s.clk) :
    doLaneRetryTimer n s = (s.trainLane n).pump (n / 8) :=
  if_pos ⟨hretry, hdue⟩

/-- A lane that no failed attempt makes wait is started afresh once it has been in FAULT for 1 s. -/
theorem doLaneRetryTimer_noRetry (hretry : (s.lane n).retry = false) :
    doLaneRetryTimer n s =
      if s.r .laneState n = Lane.fault ∧ (s.lane n).since + 1000000000 ≤ s.clk then (s.freshLane n).pump (n / 8) else s :=
  if_neg (fun h => ne_true_of_eq_false hretry h.1)

end

/-! ### Replies of the drivers (R276, R300, R308) -/

section
variable {g : Nat} {l : List Byte} {r : RetReq}

/-- A reply is whole: it has the length that it names, and its CRC holds (R276, Table 8.6). -/
structure SoundReply (l : List Byte) : Prop where
  length : l.length = 7 + getLE l 3 2
  crc : getLE l (5 + getLE l 3 2) 2 = crc16 (l.take (5 + getLE l 3 2))

/-- A reply with these fields is not that of the request: another driver, tag or kind (log entry 38), or another lamp map (R308). -/
abbrev OtherReply (s : State) (l : List Byte) (r : RetReq) : Prop :=
  getLE l 0 1 ≠ r.driver ∨ getLE l 1 1 ≠ r.tag ∨ getLE l 2 1 ≠ (if r.kind = 4 then 2 else if r.kind = 5 then 3 else 1) ∨
    r.mapGen ≠ s.lan.mapGen

theorem doLaneReplyRx_idle (hidle : s.asking g = none) : doLaneReplyRx g l s = s := by
  simp only [doLaneReplyRx, hidle]

/-- R276: a reply that is not whole is a failed attempt. -/
theorem doLaneReplyRx_bad (hasked : s.asking g = some r)
    (hbad : l.length ≠ 7 + getLE l 3 2 ∨ getLE l (5 + getLE l 3 2) 2 ≠ crc16 (l.take (5 + getLE l 3 2))) :
    doLaneReplyRx g l s = s.attemptFailed g r := by
  simp only [doLaneReplyRx, hasked]
  exact if_pos hbad

theorem doLaneReplyRx_sound (hsound : SoundReply l) (hasked : s.asking g = some r) :
    doLaneReplyRx g l s =
      if OtherReply s l r then s else ((s.setAsking g none).answered r (getBytes l 5 (getLE l 3 2))).pump g := by
  simp only [doLaneReplyRx, hasked]
  exact if_neg (not_or.mpr ⟨not_not_intro hsound.length, not_not_intro hsound.crc⟩)

theorem doLaneReplyTimeout_idle (hidle : s.asking g = none) : doLaneReplyTimeout g s = s := by
  simp only [doLaneReplyTimeout, hidle]

/-- R300: a request is failed after 10 µs without its reply. -/
theorem doLaneReplyTimeout_asked (hasked : s.asking g = some r) :
    doLaneReplyTimeout g s = if r.sentAt + 10000 ≤ s.clk then s.attemptFailed g r else s := by
  simp only [doLaneReplyTimeout, hasked]

end

/-! ### Temperature samples (R301, R520, R521) -/

section
variable {cls i : Nat} {v : Option Int}

theorem doThermalSample_notDue
    (h : 1 < cls ∨ sensorsIn cls ≤ i ∨ s.held 11 = true ∨ s.clk < (s.sensor cls i).at_ + (s.sensor cls i).interval) :
    doThermalSample cls i v s = s :=
  if_pos h

/-- A sample of a sensor that the node has falls due while the thermal block runs. -/
theorem thermalSample_due (hcls : cls ≤ 1) (hi : i < sensorsIn cls) (hheld : s.held 11 = false)
    (hdue : (s.sensor cls i).at_ + (s.sensor cls i).interval ≤ s.clk) :
    ¬(1 < cls ∨ sensorsIn cls ≤ i ∨ s.held 11 = true ∨ s.clk < (s.sensor cls i).at_ + (s.sensor cls i).interval) := by
  simp [Nat.not_lt.mpr hcls, Nat.not_le.mpr hi, hheld, Nat.not_lt.mpr hdue]

/-- A die sensor's reading is the event's own. -/
theorem doThermalSample_die (hi : i < sensorsIn 0) (hheld : s.held 11 = false)
    (hdue : (s.sensor 0 i).at_ + (s.sensor 0 i).interval ≤ s.clk) : doThermalSample 0 i v s = s.sampleDie i v :=
  (if_neg (thermalSample_due (Nat.zero_le 1) hi hheld hdue)).trans (if_pos rfl)

/-- A loop on a lane out of RUN holds the last sample of its zone (R582). -/
theorem doThermalSample_loop (hout : s.r .laneState i ≠ Lane.run) (hloop : (s.lane i).loop = true) : doThermalSample 1 i v s = s := by
  unfold doThermalSample
  rw [if_neg Nat.one_ne_zero, if_pos hout, if_pos hloop, ite_self]

section
variable (hi : i < sensorsIn 1) (hheld : s.held 11 = false) (hdue : (s.sensor 1 i).at_ + (s.sensor 1 i).interval ≤ s.clk)
include hi hheld hdue

/-- R521: the sample of a lane out of RUN, which no loop holds, is not read. -/
theorem doThermalSample_out (hout : s.r .laneState i ≠ Lane.run) (hloop : (s.lane i).loop = false) :
    doThermalSample 1 i v s = s.sampleOut i :=
  (if_neg (thermalSample_due (Nat.le_refl 1) hi hheld hdue)).trans <| (if_neg Nat.one_ne_zero).trans <|
    (if_pos hout).trans (if_neg (ne_true_of_eq_false hloop))

/-- R301, R302: the sample of a lane in RUN is a read of its driver temp_drv, where no such read is on its way. -/
theorem doThermalSample_reads (hrun : s.r .laneState i = Lane.run) (hwaiting : s.lan.waiting.getD (i / 8) [] = [])
    (hidle : s.asking (i / 8) = none) :
    doThermalSample 1 i v s = s.enqueue (request i (s.r .laneTempDrv i) 2 0x12 0 0) := by
  refine (if_neg (thermalSample_due (Nat.le_refl 1) hi hheld hdue)).trans <| (if_neg Nat.one_ne_zero).trans <|
    (if_neg (not_not_intro hrun)).trans (if_neg ?_)
  simp only [hwaiting, hidle, List.any_nil, Option.any_none, Bool.or_self, Bool.false_eq_true, not_false_eq_true]

end

end

end

/-- Settles O42: each row is `event` of its operation, and each operation, past its guard, is the effect that its clause names. -/
theorem laneEventsComplete : Obligations.LaneEventsComplete := by
  unfold Obligations.LaneEventsComplete
  refine ⟨fun n => ?_, fun g l r => ?_, fun g l r hlength hcrc => ⟨?_, ?_⟩, fun g l => ?_, fun g => ?_, fun g r => ?_, fun g r => ?_,
    fun n => ?_, fun n => ?_, fun n => ?_, fun i v hi => ?_, fun i v hi => ?_, fun i v hi => ?_, fun i v hi => ?_, fun cls i v => ?_⟩
  · exact doesOnly_of (fun _ => rfl) (fun _ ⟨htrain, hdue⟩ => doLaneTrainDone_enumerates htrain hdue)
      (fun _ => doLaneTrainDone_else)
  · exact does_of (fun _ => rfl) (fun _ _ ⟨hasked, hbad⟩ => doLaneReplyRx_bad hasked hbad)
  · refine does_of (fun _ => rfl) (fun s _ ⟨hasked, hdriver, htag, hkind, hmap⟩ => ?_)
    exact (doLaneReplyRx_sound ⟨hlength, hcrc⟩ hasked).trans (if_neg (by simp [hdriver, htag, hkind, hmap]))
  · exact does_of (fun _ => rfl) (fun _ _ ⟨hasked, hother⟩ =>
      (doLaneReplyRx_sound ⟨hlength, hcrc⟩ hasked).trans (if_pos hother))
  · exact does_of (fun _ => rfl) (fun _ _ hidle => doLaneReplyRx_idle hidle)
  · exact does_of (fun _ => rfl) (fun _ _ hidle => doLaneReplyTimeout_idle hidle)
  · exact does_of (fun _ => rfl) (fun _ _ ⟨hasked, hlate⟩ => (doLaneReplyTimeout_asked hasked).trans (if_pos hlate))
  · exact does_of (fun _ => rfl) (fun _ _ ⟨hasked, hearly⟩ =>
      (doLaneReplyTimeout_asked hasked).trans (if_neg (Nat.not_le.mpr hearly)))
  · exact does_of (fun _ => rfl) (fun _ _ ⟨hretry, hdue⟩ => doLaneRetryTimer_trains hretry hdue)
  · exact does_of (fun _ => rfl) (fun _ _ ⟨hretry, hfault⟩ => (doLaneRetryTimer_noRetry hretry).trans (if_pos hfault))
  · exact does_of (fun _ => rfl) (fun _ _ ⟨hretry, hnotFault⟩ =>
      (doLaneRetryTimer_noRetry hretry).trans (if_neg (fun h => hnotFault h.1)))
  · exact does_of (fun _ => rfl) (fun _ _ ⟨hheld, hdue⟩ => doThermalSample_die hi hheld hdue)
  · exact does_of (fun _ => rfl) (fun _ _ ⟨hheld, hdue, hout, hloop⟩ => doThermalSample_out hi hheld hdue hout hloop)
  · exact does_of (fun _ => rfl) (fun _ _ ⟨hout, hloop⟩ => doThermalSample_loop hout hloop)
  · exact does_of (fun _ => rfl) (fun _ _ ⟨hheld, hdue, hrun, hwaiting, hidle⟩ =>
      doThermalSample_reads hi hheld hdue hrun hwaiting hidle)
  · exact does_of (fun _ => rfl) (fun _ _ => doThermalSample_notDue)

end Sys2Proof.Machine

/-! PROOFS. Fabric ports: the commands of Tables 9.12 and 9.16, offers (R325 to R327, R337, R338), the words and the stages of training (R329
to R334, R336), loss of signal (R335), the check of ALIGN (R339, R352), error windows (R340), adaptation (R343 to R345) and steps of the
rate (R348, R349). -/

namespace Sys2Proof.Machine

/-! ### The port commands (Table 9.16) -/

/-- The fields of a port that FAB_PORT_SET puts into effect; lane 0 is always allowed. -/
def portValues (c : HostCmd) : List (FName × Nat × Nat) :=
  [(.fabEnable, c.u8 0, c.u8 1), (.fabRatePolicy, c.u8 0, c.u8 2), (.fabMaxRate, c.u8 0, c.u8 3),
    (.fabLanesAllowed, c.u8 0, setBit (c.u8 4) 0 true), (.fabLoopAllow, c.u8 0, c.u8 5), (.fabInitPresetPam4, c.u8 0, c.u8 6),
    (.fabInitPresetNrz, c.u8 0, c.u8 7)]

section
variable {c : HostCmd} {s : State}

theorem actFabPortGet_reads (hport : c.u8 0 ≤ 3) :
    actFabPortGet c s = done s (s.portWord (c.u8 0) 0 ++ s.portWord (c.u8 0) 4 ++ leBytes 2 (s.r .fabBackoff (c.u8 0)) ++ [0, 0] ++
      [0x0C, 0x10, 0x14, 0x18, 0x1C].flatMap (s.portWord (c.u8 0))) :=
  if_neg (Nat.not_lt.mpr hport)

/-- FAB_PORT_SET: the port follows its enable, and one in UP above its new max_rate restarts. -/
theorem actFabPortSet_sets (hport : c.u8 0 ≤ 3) (henable : c.u8 1 ≤ 1) (hpolicy : c.u8 2 ≤ 1) (hrate : c.u8 3 ≤ 3)
    (hlanes : c.u8 4 ≤ 15) (hallow : c.u8 5 ≤ 1) (hpam : 1 ≤ c.u8 6) (hpam' : c.u8 6 ≤ 4) (hnrz : 1 ≤ c.u8 7) (hnrz' : c.u8 7 ≤ 4) :
    actFabPortSet c s =
      let a := (s.puts (portValues c)).followEnable (c.u8 0)
      done (if a.up (c.u8 0) ∧ c.u8 3 < a.r .fabRate (c.u8 0) then a.restartPort (c.u8 0) else a) :=
  if_neg (by omega)

theorem actFabRestart_restarts (hfree : ¬(s.inShow = true ∧ s.hasParent = true ∧ bit (c.u8 0) (s.r .ftParentPort) = true)) :
    actFabRestart c s = done ((portsOf (c.u8 0)).foldl State.restartPort s) :=
  if_neg hfree

/-- R353: the loop code is set, and the port restarts with it. -/
theorem actFabLoop_sets (hport : c.u8 0 ≤ 3) (hcode : c.u8 1 ≤ 3) (hshow : ¬(s.up (c.u8 0) = true ∧ s.inShow = true))
    (hdue : s.rateDue (c.u8 0) = false) (hstepped : s.steppedNow (c.u8 0) = false)
    (hfar : c.u8 1 = 3 → s.partnerAllows (c.u8 0) = true) :
    actFabLoop c s = done ((s.w .fabLoop (c.u8 0) (c.u8 1)).restartPort (c.u8 0)) := by
  have hgood : ¬(3 < c.u8 0 ∨ 3 < c.u8 1) := not_or.mpr ⟨Nat.not_lt.mpr hport, Nat.not_lt.mpr hcode⟩
  have hidle : ¬((s.up (c.u8 0) = true ∧ s.inShow = true) ∨ s.rateDue (c.u8 0) = true ∨ s.steppedNow (c.u8 0) = true) :=
    not_or.mpr ⟨hshow, by simp [hdue, hstepped]⟩
  have hallowed : ¬(c.u8 1 = 3 ∧ (!s.partnerAllows (c.u8 0)) = true) := fun ⟨hcode, hrefused⟩ => by simp [hfar hcode] at hrefused
  exact (if_neg hgood).trans ((if_neg hidle).trans (if_neg hallowed))

theorem actFabLaneGet_reads (hport : c.u8 0 ≤ 3) (hlane : c.u8 1 ≤ 3) :
    actFabLaneGet c s = done s ([0x40, 0x44, 0x48].flatMap (fun o => s.portWord (c.u8 0) (o + 0x10 * c.u8 1))) :=
  if_neg (not_or.mpr ⟨Nat.not_lt.mpr hport, Nat.not_lt.mpr hlane⟩)

theorem actFabLinkGet_reads (hport : c.u8 0 ≤ 3) :
    actFabLinkGet c s = done s ((List.range 8).flatMap (fun i => s.portWord (c.u8 0) (0x80 + 4 * i))) :=
  if_neg (Nat.not_lt.mpr hport)

end

/-- Settles O11: each command's action, past its refusals, is the effect that its clause names. -/
theorem portCommandsComplete : Obligations.PortCommandsComplete := by
  unfold Obligations.PortCommandsComplete
  refine ⟨?_, ?_, ?_, ?_, ?_, ?_⟩
  · exact reads_of actFabPortGet (fun _ _ => rfl) (fun _ _ _ hport => actFabPortGet_reads hport)
  · exact completes_of actFabPortSet (fun _ _ => rfl)
      (fun _ _ ⟨hport, henable, hpolicy, hrate, hlanes, hallow, hpam, hpam', hnrz, hnrz'⟩ =>
        actFabPortSet_sets hport henable hpolicy hrate hlanes hallow hpam hpam' hnrz hnrz')
  · exact completes_of actFabRestart (fun _ _ => rfl) (fun _ _ hfree => actFabRestart_restarts hfree)
  · exact completes_of actFabLoop (fun _ _ => rfl) (fun _ _ ⟨hport, hcode, hshow, hdue, hstepped, hfar⟩ =>
      actFabLoop_sets hport hcode hshow hdue hstepped hfar)
  · exact reads_of actFabLaneGet (fun _ _ => rfl) (fun _ _ _ ⟨hport, hlane⟩ => actFabLaneGet_reads hport hlane)
  · exact reads_of actFabLinkGet (fun _ _ => rfl) (fun _ _ _ hport => actFabLinkGet_reads hport)

section
variable {s : State} {p : Nat}

/-! ### States of bring-up (Table 9.8) -/

theorem notBase_of_listen_or_silent (h : s.r .fabState p = Port.listen ∨ s.r .fabState p = Port.silent) :
    s.r .fabState p ≠ Port.base := by
  rcases h with h | h <;> rw [h] <;> decide

theorem notTrain_of_listen_or_base (h : s.r .fabState p = Port.listen ∨ s.r .fabState p = Port.base) :
    s.r .fabState p ≠ Port.train := by
  rcases h with h | h <;> rw [h] <;> decide

/-! ### Offers (R325 to R327, R337, R338) -/

theorem doOfferSend_notDue {t : Nat} (hlast : (s.port p).lastOffer = some t) (hearly : s.clk < t + 10000) : doOfferSend p s = s :=
  if_pos (by simp [State.offerDue, hlast, hearly])

section
variable (hdue : s.offerDue p = true)
include hdue

/-- R325: a port that is not done with BASE sends its next offer. -/
theorem doOfferSend_sends (hstate : s.r .fabState p = Port.listen ∨ (s.r .fabState p = Port.base ∧ (s.port p).acks < 3) ∨
      (s.r .fabState p = Port.silent ∧ s.clk < (s.port p).since)) :
    doOfferSend p s = (s.emit (.line p (offerSet (s.offerBytes p)))).setPort p
      (fun q => { q with seq := (q.seq + 1) % 256, lastOffer := some s.clk }) := by
  have hnotMet : ¬(s.r .fabState p = Port.base ∧ 3 ≤ (s.port p).acks ∧ (!s.overtaken p) = true) := by
    rintro ⟨hbase, hacks, -⟩
    rw [hbase] at hstate
    rcases hstate with hlisten | ⟨-, hfew⟩ | ⟨hsilent, -⟩
    · exact absurd hlisten (by decide)
    · exact Nat.not_lt.mpr hacks hfew
    · exact absurd hsilent (by decide)
  have hoffers : s.r .fabState p = Port.listen ∨ s.r .fabState p = Port.base ∨
      (s.r .fabState p = Port.silent ∧ s.clk < (s.port p).since) :=
    hstate.imp_right (Or.imp_left And.left)
  exact (if_neg (by simp [hdue])).trans ((if_neg hnotMet).trans (if_pos hoffers))

section
variable (hbase : s.r .fabState p = Port.base) (hacks : 3 ≤ (s.port p).acks) (hover : s.overtaken p = false)
include hbase hacks hover

/-- R327: with three offers in a row a port in BASE goes on at the lower of the two targets, at rate 0 straight to UP. -/
theorem doOfferSend_met : doOfferSend p s =
    let rate := min (s.proposed p) ((s.port p).partner.map (·.target) |>.getD 0)
    if rate = 0 then s.enterUp p 0 1 else s.enterTrain p rate :=
  (if_neg (by simp [hdue])).trans (if_pos ⟨hbase, hacks, by simp [hover]⟩)

theorem doOfferSend_trains {o : Offer} (hpartner : (s.port p).partner = some o) (hrate : 0 < min (s.proposed p) o.target) :
    doOfferSend p s = s.enterTrain p (min (s.proposed p) o.target) := by
  rw [doOfferSend_met hdue hbase hacks hover, hpartner]
  exact if_neg (Nat.ne_of_gt hrate)

theorem doOfferSend_entersUp (hrate : s.proposed p = 0) : doOfferSend p s = s.enterUp p 0 1 := by
  rw [doOfferSend_met hdue hbase hacks hover, hrate]
  exact if_pos (Nat.zero_min _)

end

end

/-- R326, R327: an offer heard ends the failed attempts; offers in a row that ack one target are counted. -/
def State.hearOffer (s : State) (p : Nat) (o : Offer) : State :=
  (s.w .fabAttempts p 0).setPort p (fun q =>
    let same := match q.partner with | some o' => o'.target == o.target | none => false
    { q with partner := some o, acks := if bit o.flags 0 then (if same then q.acks + 1 else 1) else 0 })

theorem doOfferRx_overtaken (l : List Byte) (h : (s.port p).resetAt = some s.clk ∨ s.overtaken p = true) : doOfferRx p l s = s := by
  unfold doOfferRx
  split
  · rfl
  · exact if_pos (.inr h)

section
variable {l : List Byte} {t : Nat}

theorem doOfferRx_invalid (hoffer : offerOf l t = none) (hclk : s.clk = t) : doOfferRx p l s = s := by
  simp only [doOfferRx, hclk, hoffer]

section
variable {o : Offer} (hoffer : offerOf l t = some o) (hclk : s.clk = t) (hreset : (s.port p).resetAt ≠ some t)
  (hover : s.overtaken p = false)
include hoffer hclk hreset hover

/-- A valid offer that no restart and no unplug overtakes: the port's own nonce is a looped cable, any other is a partner. -/
theorem doOfferRx_heard
    (hstate : s.r .fabState p = Port.listen ∨ s.r .fabState p = Port.base ∨ s.r .fabState p = Port.silent) :
    doOfferRx p l s =
      if o.nonce = ownNonce p then s.raise .fabLoopedCable p
      else (if s.r .fabState p = Port.base then s else s.enterPort p Port.base).hearOffer p o := by
  subst hclk
  have hheard : ¬((s.r .fabState p ≠ Port.listen ∧ s.r .fabState p ≠ Port.base ∧ s.r .fabState p ≠ Port.silent) ∨
      (s.port p).resetAt = some s.clk ∨ s.overtaken p = true) :=
    not_or.mpr ⟨by omega, not_or.mpr ⟨hreset, by simp [hover]⟩⟩
  simp only [doOfferRx, hoffer]
  exact if_neg hheard

theorem doOfferRx_looped
    (hstate : s.r .fabState p = Port.listen ∨ s.r .fabState p = Port.base ∨ s.r .fabState p = Port.silent)
    (hown : o.nonce = ownNonce p) : doOfferRx p l s = s.raise .fabLoopedCable p :=
  (doOfferRx_heard hoffer hclk hreset hover hstate).trans (if_pos hown)

theorem doOfferRx_inBase (hbase : s.r .fabState p = Port.base) (hother : o.nonce ≠ ownNonce p) : doOfferRx p l s = s.hearOffer p o := by
  rw [doOfferRx_heard hoffer hclk hreset hover (.inr (.inl hbase)), if_neg hother, if_pos hbase]

theorem doOfferRx_entersBase (hstate : s.r .fabState p = Port.listen ∨ s.r .fabState p = Port.silent)
    (hother : o.nonce ≠ ownNonce p) : doOfferRx p l s = (s.enterPort p Port.base).hearOffer p o := by
  rw [doOfferRx_heard hoffer hclk hreset hover (hstate.imp_right .inr), if_neg hother,
    if_neg (notBase_of_listen_or_silent hstate)]

end

end

/-! ### Training words (R329 to R331) -/

section
variable {l control status want : Nat} {ready : Bool}

theorem doTrainingWordRx_notHeard
    (h : s.r .fabState p ≠ Port.train ∨ bit (s.port p).trainLanes l = false ∨ s.overtaken p = true) :
    doTrainingWordRx p l control status want ready s = s :=
  if_pos (by simpa using h)

section
variable (htrain : s.r .fabState p = Port.train) (hlane : bit (s.port p).trainLanes l = true) (hover : s.overtaken p = false)
include htrain hlane hover

theorem trainingWord_heard :
    ¬(s.r .fabState p ≠ Port.train ∨ (!bit (s.port p).trainLanes l) = true ∨ s.overtaken p = true) := by
  simp [htrain, hlane, hover]

/-- R329: a sound control word that names another lane excludes the lane. -/
theorem doTrainingWordRx_otherLane (hcontrol : parityOk control = true) (hnumber : bits control 11 10 ≠ l) :
    doTrainingWordRx p l control status want ready s = s.exclude p (2 ^ l) :=
  (if_neg (trainingWord_heard htrain hlane hover)).trans (if_pos ⟨hcontrol, hnumber⟩)

/-- Words of wrong parity are not read: what is left is the lane's lock, and its receiver, which has finished. -/
theorem doTrainingWordRx_unread (hcontrol : parityOk control = false) (hstatus : parityOk status = false) :
    doTrainingWordRx p l control status want true s =
      ((s.setPort p (fun q => { q with lockLanes := setBit q.lockLanes l true })).setPort p
        (fun q => { q with readyLanes := setBit q.readyLanes l true })).advance p := by
  refine (if_neg (trainingWord_heard htrain hlane hover)).trans ((if_neg (by simp [hcontrol])).trans ?_)
  simp only [hcontrol, hstatus, Bool.false_eq_true, if_false, if_true]

/-- R330, R331: sound words of the lane are answered and read, and a receiver that has not finished asks again. -/
theorem doTrainingWordRx_read (hcontrol : parityOk control = true) (hnumber : bits control 11 10 = l) (hstatus : parityOk status = true) :
    doTrainingWordRx p l control status want false s =
      ((((s.setPort p (fun q => { q with lockLanes := setBit q.lockLanes l true })).answerControl p l control).seeStatus p l
        status).askAgain p l want).advance p := by
  refine (if_neg (trainingWord_heard htrain hlane hover)).trans ((if_neg (fun h => h.2 hnumber)).trans ?_)
  simp only [hcontrol, hstatus, Bool.false_eq_true, if_false, if_true]

end

end

/-! ### Stages that time out (R334, Table 9.9) -/

/-- Every stage of TRAIN has a timeout. -/
theorem stageLimit_train (htrain : s.r .fabState p = Port.train) : ∃ limit, s.stageLimit p = some limit := by
  simp only [State.stageLimit, htrain]
  cases (s.port p).stage <;> exact ⟨_, rfl⟩

/-- Outside TRAIN, and in its last stage, a timeout does not turn on single lanes. -/
theorem notWaiting_of_whole (hwhole : s.r .fabState p ≠ Port.train ∨ (s.port p).stage = .done) :
    ¬(s.r .fabState p = Port.train ∧ (s.port p).stage ≠ .done) :=
  fun ⟨htrain, hstage⟩ => hwhole.elim (fun h => h htrain) hstage

theorem doTrainStageTimeout_overtaken (hover : s.overtaken p = true) : doTrainStageTimeout p s = s := by
  simp only [doTrainStageTimeout, hover, if_true]

section
variable {limit : Nat} (hover : s.overtaken p = false) (hlimit : s.stageLimit p = some limit)
include hover hlimit

/-- What a timeout does in a stage of TRAIN that waits for its lanes, and what it does in any other. -/
theorem doTrainStageTimeout_timed : doTrainStageTimeout p s =
    if s.r .fabState p = Port.train ∧ (s.port p).stage ≠ .done then
      (if s.lateLanes p = 0 then s else ((s.raise .fabTrainTimeout p).exclude p (s.lateLanes p)).advance p)
    else if s.clk < (s.port p).since + limit then s
    else if s.r .fabState p = Port.listen ∨ s.r .fabState p = Port.base then (s.raise .fabTrainTimeout p).failAttempt p
    else (s.raise .fabTrainTimeout p).fallBack p := by
  simp only [doTrainStageTimeout, hover, Bool.false_eq_true, if_false, hlimit]

section
variable (hwhole : s.r .fabState p ≠ Port.train ∨ (s.port p).stage = .done)
include hwhole

theorem doTrainStageTimeout_early (hearly : s.clk < (s.port p).since + limit) : doTrainStageTimeout p s = s :=
  (doTrainStageTimeout_timed hover hlimit).trans ((if_neg (notWaiting_of_whole hwhole)).trans (if_pos hearly))

theorem doTrainStageTimeout_late (hlate : (s.port p).since + limit ≤ s.clk) : doTrainStageTimeout p s =
    if s.r .fabState p = Port.listen ∨ s.r .fabState p = Port.base then (s.raise .fabTrainTimeout p).failAttempt p
    else (s.raise .fabTrainTimeout p).fallBack p :=
  (doTrainStageTimeout_timed hover hlimit).trans
    ((if_neg (notWaiting_of_whole hwhole)).trans (if_neg (Nat.not_lt.mpr hlate)))

end

end

theorem doTrainStageTimeout_lateLanes (hover : s.overtaken p = false) (htrain : s.r .fabState p = Port.train)
    (hstage : (s.port p).stage ≠ .done) (hlate : s.lateLanes p ≠ 0) :
    doTrainStageTimeout p s = ((s.raise .fabTrainTimeout p).exclude p (s.lateLanes p)).advance p := by
  obtain ⟨limit, hlimit⟩ := stageLimit_train htrain
  exact (doTrainStageTimeout_timed hover hlimit).trans ((if_pos ⟨htrain, hstage⟩).trans (if_neg hlate))

/-! ### The check of ALIGN (R320, R339, R352) -/

/-- The lanes of the attempt that hold lock within the deskew range (R320). -/
def State.alignedLanes (s : State) (p : Nat) (skews : List (Option Nat)) : Nat := (s.port p).trainLanes &&& deskewed skews

/-- R339: lane 0 is among them, and the check of 1 ms has seen no error that its rate does not allow. -/
def State.alignPasses (s : State) (p corrected uncorrectable badSync : Nat) (skews : List (Option Nat)) : Bool :=
  bit (s.alignedLanes p skews) 0 &&
    (if s.r .fabRate p = 1 then badSync == 0
     else uncorrectable == 0 && decide (corrected ≤ 2 * codewords (s.r .fabRate p) (widest (s.alignedLanes p skews)) 1000))

/-- The skews of the lanes as a port's check has measured them. -/
def State.noteSkews (s : State) (p : Nat) (skews : List (Option Nat)) : State :=
  s.setPort p (fun q => { q with skews := (List.range 4).map (fun l => (skews.getD l none).getD 0) })

/-- R352: the port goes to LOOP, at the width aligned, turned around or not. -/
def State.enterFarLoop (s : State) (p lanes : Nat) (turned : Bool) : State :=
  (((s.enterPort p Port.loop).w .fabLanesUp p lanes).setPort p (fun q => { q with farTurned := turned })).showLine p

section
variable {corrected uncorrectable badSync : Nat} {skews : List (Option Nat)}

theorem alignPasses_nrz (hrate : s.r .fabRate p = 1) (hlane : bit (s.alignedLanes p skews) 0 = true) :
    s.alignPasses p corrected uncorrectable 0 skews = true := by
  simp [State.alignPasses, hrate, hlane]

theorem alignPasses_fec (hrate : s.r .fabRate p ≠ 1) (hlane : bit (s.alignedLanes p skews) 0 = true)
    (hfew : corrected ≤ 2 * codewords (s.r .fabRate p) (widest (s.alignedLanes p skews)) 1000) :
    s.alignPasses p corrected 0 badSync skews = true := by
  simp [State.alignPasses, hrate, hlane, hfew]

theorem alignPasses_eq_false (h : bit (s.alignedLanes p skews) 0 = false ∨ (s.r .fabRate p = 1 ∧ badSync ≠ 0) ∨
    (s.r .fabRate p ≠ 1 ∧ uncorrectable ≠ 0)) : s.alignPasses p corrected uncorrectable badSync skews = false := by
  rcases h with hlane | ⟨hrate, hbad⟩ | ⟨hrate, hbad⟩
  · simp [State.alignPasses, hlane]
  · simp [State.alignPasses, hrate, hbad]
  · simp [State.alignPasses, hrate, hbad]

theorem doAlignCheck_notPassed (h : s.r .fabState p ≠ Port.align ∨ bit (s.alignedLanes p skews) 0 = false ∨
      (s.r .fabRate p = 1 ∧ badSync ≠ 0) ∨ (s.r .fabRate p ≠ 1 ∧ uncorrectable ≠ 0) ∨ s.overtaken p = true) :
    doAlignCheck p corrected uncorrectable badSync skews s = s := by
  have hfails (hbad : bit (s.alignedLanes p skews) 0 = false ∨ (s.r .fabRate p = 1 ∧ badSync ≠ 0) ∨
      (s.r .fabRate p ≠ 1 ∧ uncorrectable ≠ 0)) : (!s.alignPasses p corrected uncorrectable badSync skews) = true := by
    rw [alignPasses_eq_false hbad, Bool.not_false]
  refine if_pos ?_
  rcases h with hstate | hlane | hnrz | hfec | hover
  · exact .inl hstate
  · exact .inr (.inl (hfails (.inl hlane)))
  · exact .inr (.inl (hfails (.inr (.inl hnrz))))
  · exact .inr (.inl (hfails (.inr (.inr hfec))))
  · exact .inr (.inr hover)

section
variable (halign : s.r .fabState p = Port.align) (hover : s.overtaken p = false)
  (hpass : s.alignPasses p corrected uncorrectable badSync skews = true)
include halign hover hpass

theorem alignCheck_passed : ¬(s.r .fabState p ≠ Port.align ∨ (!s.alignPasses p corrected uncorrectable badSync skews) = true ∨
    s.overtaken p = true) := by
  simp [halign, hover, hpass]

/-- A port that no FAR loop concerns goes to UP at its rate and the width aligned. -/
theorem doAlignCheck_entersUp (hpartner : (s.port p).partner = none) (hloop : (s.port p).loop ≠ 3) :
    doAlignCheck p corrected uncorrectable badSync skews s =
      (s.noteSkews p skews).enterUp p (s.r .fabRate p) (widest (s.alignedLanes p skews)) := by
  refine (if_neg (alignCheck_passed halign hover hpass)).trans ?_
  simp only [hpartner, beq_false_of_ne hloop, Bool.false_and, Bool.false_eq_true, if_false]
  rfl

/-- R352: a port that may loop turns around for the partner that asks for a FAR loop. -/
theorem doAlignCheck_turns {o : Offer} (hpartner : (s.port p).partner = some o) (hasks : bit o.flags 1 = true)
    (hloop : (s.port p).loop ≠ 3) (hallow : s.on .fabLoopAllow p = true) :
    doAlignCheck p corrected uncorrectable badSync skews s =
      (s.noteSkews p skews).enterFarLoop p (widest (s.alignedLanes p skews)) true := by
  refine (if_neg (alignCheck_passed halign hover hpass)).trans ?_
  simp only [hpartner, hasks, beq_false_of_ne hloop, Bool.false_and, Bool.false_eq_true, if_false]
  exact if_pos ((Bool.true_and _).trans hallow)

end

end

/-! ### Loss of signal and of lock (R335, R336) -/

theorem doLane0LockLoss_falls (hstate : s.r .fabState p = Port.train ∨ s.r .fabState p = Port.align) (hover : s.overtaken p = false) :
    doLane0LockLoss p s = s.fallBack p :=
  if_pos ⟨hstate, by simp [hover]⟩

theorem doLane0LockLoss_else
    (h : ¬((s.r .fabState p = Port.train ∨ s.r .fabState p = Port.align) ∧ s.overtaken p = false)) : doLane0LockLoss p s = s :=
  if_neg (by simpa using h)

/-! ### Error windows (R340) -/

/-- The counts of a window go to the port's counters. -/
def State.countWindow (s : State) (p corrected uncorrectable : Nat) : State :=
  (s.count .fabFecCorrected p corrected).count .fabFecUncorrectable p uncorrectable

section
variable {corrected uncorrectable burst : Nat}

theorem doFecWindow_notCounted (h : s.up p = false ∨ s.r .fabRate p < 2) : doFecWindow p corrected uncorrectable burst s = s :=
  if_neg (fun ⟨hup, hrate⟩ => h.elim (by simp [hup]) (Nat.not_lt.mpr hrate))

section
variable (hup : s.up p = true) (hrate : 2 ≤ s.r .fabRate p)
include hup hrate

theorem doFecWindow_restarts (hburst : 16 < burst) : doFecWindow p corrected uncorrectable burst s =
    ((s.countWindow p corrected uncorrectable).raise .fabFecDegrade p).restartPort p :=
  (if_pos ⟨hup, hrate⟩).trans (if_pos hburst)

theorem doFecWindow_adapts (hburst : burst ≤ 16) (huncorrectable : 0 < uncorrectable) : doFecWindow p corrected uncorrectable burst s =
    ((s.countWindow p corrected uncorrectable).raise .fabFecDegrade p).setPort p (fun q => { q with adapting := true }) :=
  (if_pos ⟨hup, hrate⟩).trans ((if_neg (Nat.not_lt.mpr hburst)).trans (if_pos (.inl huncorrectable)))

theorem doFecWindow_counts (hburst : burst ≤ 16) (hfew : corrected ≤ 6 * codewords ((s.countWindow p corrected 0).r .fabRate p)
    ((s.countWindow p corrected 0).r .fabLanesUp p) 10000) : doFecWindow p corrected 0 burst s = s.countWindow p corrected 0 :=
  (if_pos ⟨hup, hrate⟩).trans ((if_neg (Nat.not_lt.mpr hburst)).trans
    (if_neg (not_or.mpr ⟨Nat.lt_irrefl 0, Nat.not_lt.mpr hfew⟩)))

end

end

/-! ### Adaptation (R344, R345) -/

section
variable {ws : List AdaptWindow}

theorem doAdaptResult_discarded (h : s.up p = false ∨ (s.port p).adapting = false ∨ s.leavesUp p = true) : doAdaptResult p ws s = s :=
  if_pos (by simpa using h)

section
variable (hup : s.up p = true) (hstays : s.leavesUp p = false) (hadapting : (s.port p).adapting = true)
include hup hstays hadapting

theorem adaptResult_taken : ¬((!s.up p) = true ∨ (!(s.port p).adapting) = true ∨ s.leavesUp p = true) := by
  simp [hup, hstays, hadapting]

theorem doAdaptResult_applied (hlanes : ws.length = widthOf (s.r .fabLanesUp p))
    (hgood : ws.all (fun w => windowOk w (s.r .fabRate p)) = true) :
    doAdaptResult p ws s =
      let t : State := { s.setPort p (fun q => { q with adapting := false }) with free := s.free + 1 }
      (List.range (widthOf (s.r .fabLanesUp p))).foldl (fun u l => u.applyAdapt p l u.free) t :=
  (if_neg (adaptResult_taken hup hstays hadapting)).trans (if_pos ⟨hlanes, hgood⟩)

theorem doAdaptResult_deferred
    (hbad : ws.length ≠ widthOf (s.r .fabLanesUp p) ∨ ws.all (fun w => windowOk w (s.r .fabRate p)) = false) :
    doAdaptResult p ws s =
      (((s.setPort p (fun q => { q with adapting := false })).raise .fabCalDeferred p).count .fabCalDeferrals p).calDefer 0 :=
  (if_neg (adaptResult_taken hup hstays hadapting)).trans
    (if_neg (fun ⟨hlanes, hgood⟩ => hbad.elim (fun h => h hlanes) (Bool.eq_false_iff.mp · hgood)))

end

end

/-! ### Steps of the rate (R348, R349) -/

/-- A port in UP that is short of payload in Show says so. -/
def State.flagShort (s : State) (p : Nat) : State :=
  if s.up p = true ∧ s.isShort p = true ∧ s.inShow = true then s.raise .fabRateShort p else s

theorem flagShort_short (hup : s.up p = true) (hshort : s.isShort p = true) (hshow : s.inShow = true) :
    s.flagShort p = s.raise .fabRateShort p :=
  if_pos ⟨hup, hshort, hshow⟩

theorem flagShort_else (h : s.up p = false ∨ s.isShort p = false ∨ s.inShow = false) : s.flagShort p = s :=
  if_neg (fun ⟨hup, hshort, hshow⟩ => by
    rcases h with hdown | henough | hdark
    · exact Bool.eq_false_iff.mp hdown hup
    · exact Bool.eq_false_iff.mp henough hshort
    · exact Bool.eq_false_iff.mp hdark hshow)

theorem doRateStep_eq (s : State) (p : Nat) : doRateStep p s =
    if s.noteNeed.rateDue p = true then
      ((s.noteNeed.flagShort p).restartPort p).setPort p (fun q => { q with floor := s.noteNeed.stepRate p })
    else s.noteNeed.flagShort p := by
  unfold doRateStep State.flagShort
  rfl

theorem doRateStep_due (hdue : s.noteNeed.rateDue p = true) : doRateStep p s =
    ((s.noteNeed.flagShort p).restartPort p).setPort p (fun q => { q with floor := s.noteNeed.stepRate p }) :=
  (doRateStep_eq s p).trans (if_pos hdue)

theorem doRateStep_notDue (hdue : s.noteNeed.rateDue p = false) : doRateStep p s = s.noteNeed.flagShort p :=
  (doRateStep_eq s p).trans (if_neg (ne_true_of_eq_false hdue))

end

/-- Settles O43: each row is `event` of its operation, and each operation, past its guard, is the effect that its clause names. -/
theorem portEventsComplete : Obligations.PortEventsComplete := by
  unfold Obligations.PortEventsComplete
  refine ⟨fun p => ?_, fun p o => ?_, fun p => ?_, fun p t => ?_, fun p l o t hoffer hother => ?_, fun p l o t hoffer hother => ?_,
    fun p l o t hoffer hown => ?_, fun p l => ?_, fun p l t hoffer => ?_, fun p => ?_,
    fun p l control status want ready hcontrol hnumber => ?_, fun p l control status want hcontrol hstatus => ?_,
    fun p l control status want hcontrol hnumber hstatus => ?_, fun p l control status want ready => ?_,
    fun p limit => ?_, fun p limit => ?_, fun p limit => ?_, fun p => ?_, fun p limit => ?_, fun p => ?_, fun p => ?_, fun p => ?_,
    fun p corrected uncorrectable skews => ?_, fun p corrected badSync skews o => ?_,
    fun p corrected uncorrectable badSync skews => ?_, fun p corrected uncorrectable burst hburst => ?_,
    fun p corrected uncorrectable burst hburst hany => ?_, fun p corrected burst hburst => ?_,
    fun p corrected uncorrectable burst => ?_, fun p => ?_, fun p ws => ?_, fun p ws => ?_, fun p ws => ?_,
    fun p => ?_, fun p => ?_, fun p => ?_⟩
  · exact does_of (fun _ => rfl) (fun _ _ ⟨hdue, hstate⟩ => doOfferSend_sends hdue hstate)
  · exact does_of (fun _ => rfl) (fun _ _ ⟨hdue, hbase, hacks, hover, hpartner, hrate⟩ =>
      doOfferSend_trains hdue hbase hacks hover hpartner hrate)
  · exact does_of (fun _ => rfl) (fun _ _ ⟨hdue, hbase, hacks, hover, hrate⟩ => doOfferSend_entersUp hdue hbase hacks hover hrate)
  · exact does_of (fun _ => rfl) (fun _ _ ⟨hlast, hearly⟩ => doOfferSend_notDue hlast hearly)
  · exact does_of (fun _ => rfl) (fun _ _ ⟨hclk, hbase, hreset, hover⟩ => doOfferRx_inBase hoffer hclk hreset hover hbase hother)
  · exact does_of (fun _ => rfl) (fun _ _ ⟨hclk, hstate, hreset, hover⟩ =>
      doOfferRx_entersBase hoffer hclk hreset hover hstate hother)
  · exact does_of (fun _ => rfl) (fun _ _ ⟨hclk, hstate, hreset, hover⟩ => doOfferRx_looped hoffer hclk hreset hover hstate hown)
  · exact does_of (fun _ => rfl) (fun _ _ => doOfferRx_overtaken l)
  · exact does_of (fun _ => rfl) (fun _ _ => doOfferRx_invalid hoffer)
  · exact doesOnly_of (fun _ => rfl) (fun _ hdue => if_pos hdue) (fun _ hdue => if_neg hdue)
  · exact does_of (fun _ => rfl) (fun _ _ ⟨htrain, hlane, hover⟩ =>
      doTrainingWordRx_otherLane htrain hlane hover hcontrol hnumber)
  · exact does_of (fun _ => rfl) (fun _ _ ⟨htrain, hlane, hover⟩ => doTrainingWordRx_unread htrain hlane hover hcontrol hstatus)
  · exact does_of (fun _ => rfl) (fun _ _ ⟨htrain, hlane, hover⟩ =>
      doTrainingWordRx_read htrain hlane hover hcontrol hnumber hstatus)
  · exact does_of (fun _ => rfl) (fun _ _ => doTrainingWordRx_notHeard)
  · exact does_of (fun _ => rfl) (fun _ _ ⟨hover, hlimit, hlate, hstate⟩ =>
      (doTrainStageTimeout_late hover hlimit (.inl (notTrain_of_listen_or_base hstate)) hlate).trans (if_pos hstate))
  · exact does_of (fun _ => rfl) (fun _ _ ⟨hover, hlimit, hlate, halign⟩ =>
      (doTrainStageTimeout_late hover hlimit (.inl (by rw [halign]; decide)) hlate).trans (if_neg (by rw [halign]; decide)))
  · exact does_of (fun _ => rfl) (fun _ _ ⟨hover, hlimit, hlate, htrain, hdone⟩ =>
      (doTrainStageTimeout_late hover hlimit (.inr hdone) hlate).trans (if_neg (by rw [htrain]; decide)))
  · exact does_of (fun _ => rfl) (fun _ _ ⟨hover, htrain, hstage, hlate⟩ => doTrainStageTimeout_lateLanes hover htrain hstage hlate)
  · refine does_of (fun _ => rfl) (fun s _ ⟨hlimit, hearly, hwhole⟩ => ?_)
    cases hover : s.overtaken p
    · exact doTrainStageTimeout_early hover hlimit hwhole hearly
    · exact doTrainStageTimeout_overtaken hover
  · exact does_of (fun _ => rfl) (fun _ _ => doTrainStageTimeout_overtaken)
  · exact doesOnly_of (fun _ => rfl) (fun _ hplugged => if_pos hplugged) (fun _ hplugged => if_neg hplugged)
  · exact doesOnly_of (fun _ => rfl) (fun _ ⟨hstate, hover⟩ => doLane0LockLoss_falls hstate hover) (fun _ => doLane0LockLoss_else)
  · refine does_of (fun _ => rfl) (fun s _ ⟨halign, hover, hrate, hlane, hpartner, hloop⟩ => ?_)
    rw [doAlignCheck_entersUp halign hover (alignPasses_nrz hrate hlane) hpartner hloop, hrate]
    rfl
  · exact does_of (fun _ => rfl) (fun _ _ ⟨halign, hover, hrate, hlane, hfew, hpartner, hasks, hloop, hallow⟩ =>
      doAlignCheck_turns halign hover (alignPasses_fec hrate hlane hfew) hpartner hasks hloop hallow)
  · exact does_of (fun _ => rfl) (fun _ _ => doAlignCheck_notPassed)
  · exact does_of (fun _ => rfl) (fun _ _ ⟨hup, hrate⟩ => doFecWindow_restarts hup hrate hburst)
  · exact does_of (fun _ => rfl) (fun _ _ ⟨hup, hrate⟩ => doFecWindow_adapts hup hrate hburst hany)
  · exact does_of (fun _ => rfl) (fun _ _ ⟨hup, hrate, hfew⟩ => doFecWindow_counts hup hrate hburst hfew)
  · exact does_of (fun _ => rfl) (fun _ _ => doFecWindow_notCounted)
  · exact doesOnly_of (fun _ => rfl) (fun _ hdue => if_pos hdue) (fun _ hdue => if_neg hdue)
  · exact does_of (fun _ => rfl) (fun _ _ ⟨hup, hstays, hadapting, hlanes, hgood⟩ =>
      doAdaptResult_applied hup hstays hadapting hlanes hgood)
  · exact does_of (fun _ => rfl) (fun _ _ ⟨hup, hstays, hadapting, hbad⟩ => doAdaptResult_deferred hup hstays hadapting hbad)
  · exact does_of (fun _ => rfl) (fun _ _ => doAdaptResult_discarded)
  · refine does_of (fun _ => rfl) (fun s _ ⟨hdue, hup, hshort, hshow⟩ => ?_)
    rw [doRateStep_due hdue, flagShort_short hup hshort hshow]
  · refine does_of (fun _ => rfl) (fun s _ ⟨hdue, henough⟩ => ?_)
    rw [doRateStep_due hdue, flagShort_else (.inr henough)]
  · exact does_of (fun _ => rfl) (fun s _ ⟨hdue, henough⟩ => (doRateStep_notDue hdue).trans (flagShort_else henough))

end Sys2Proof.Machine

/-! PROOFS. Scheduled commands (R401, R402): a command in time waits behind those queued before it; one too far ahead, and one too many,
are answered and not queued. -/

namespace Sys2Proof.Machine

@[simp] theorem taken_ftNs (s : State) (c : HostCmd) : (s.taken c).ftNs = s.ftNs := by simp [State.ftNs]
@[simp] theorem taken_scheduled (s : State) (c : HostCmd) : (s.taken c).mbx.scheduled = s.mbx.scheduled := by
  unfold State.taken State.arrive State.renew
  split <;> rfl

section
variable {op : Nat} {c : HostCmd} {s : State}

/-- A scheduled command that neither its role nor its session bars comes to the queue of its node. -/
theorem runHost_scheduled (act : Action) (h : Weighed op c s) (hscheduled : c.isScheduled = true)
    (hrole : (s.taken c).roleBad c = false) (hsession : (s.taken c).sessionBad c = none) :
    runHost op act c s = (s.taken c).schedule op act c := by
  rw [runHost_arrives act h.toArrives]
  simp [State.start, h.header, hrole, h.notRelayed, h.notSpread, h.notMirrored, State.here, hscheduled, hsession]

/-- The final response of a status without data is that of a refusal. -/
theorem final_eq_refusal (status : Nat) : s.final c status = conclude c true false (refuse s status) := by
  simp [State.final, conclude, refuse]

section
variable (act : Action) (hahead : s.ftNs < c.activation)
include hahead

theorem schedule_tooFar (hfar : s.ftNs + 600000000000 < c.activation) : s.schedule op act c = s.final c Status.badArg :=
  (if_neg (Nat.not_le.mpr hahead)).trans (if_pos hfar)

section
variable (hnear : c.activation ≤ s.ftNs + 600000000000)
include hnear

theorem schedule_full (hfull : 64 ≤ s.mbx.scheduled.length) : s.schedule op act c = s.final c Status.busy :=
  (if_neg (Nat.not_le.mpr hahead)).trans ((if_neg (Nat.not_lt.mpr hnear)).trans (if_pos hfull))

/-- Every command but FW_ACTIVATE is queued without being tried first. -/
theorem schedule_queues (hop : op ≠ 0x0C05) (hroom : s.mbx.scheduled.length < 64) :
    s.schedule op act c =
      let p := s.respond c (s.response c Status.accepted false [] s.ftNs c.session)
      { p.1 with mbx := { p.1.mbx with scheduled := p.1.mbx.scheduled ++ [p.2] } } :=
  (if_neg (Nat.not_le.mpr hahead)).trans ((if_neg (Nat.not_lt.mpr hnear)).trans
    ((if_neg (Nat.not_le.mpr hroom)).trans (if_neg (fun h => hop h.1))))

end

end

/-- What the interim response and a place at the end of the queue leave. -/
theorem respond_queued (hpath : ownPath c) :
    let p := s.respond c (s.response c Status.accepted false [] s.ftNs c.session)
    let t : State := { p.1 with mbx := { p.1.mbx with scheduled := p.1.mbx.scheduled ++ [p.2] } }
    Interim c s t Status.accepted [] ∧
      OnlyFields c { s with mbx := { s.mbx with scheduled := s.mbx.scheduled ++ [waitingAs c s] } } t [] [] := by
  intro p t
  obtain ⟨hsent, hkept, -, hmark⟩ := respond_interim (c := c) s hpath Status.accepted []
  have hunit : t.mbx = { s.mbx with
      scheduled := s.mbx.scheduled ++ [waitingAs c s], slots := t.mbx.slots, kept := t.mbx.kept } := by
    have hp : p.1.mbx = { s.mbx with slots := p.1.mbx.slots, kept := p.1.mbx.kept } := hkept.mailbox.unit
    have hq : p.1.mbx.scheduled = s.mbx.scheduled := by rw [hp]
    show { p.1.mbx with scheduled := p.1.mbx.scheduled ++ [p.2] } = _
    rw [hq, show p.2 = waitingAs c s from hmark]
    exact congrArg (fun m => { m with scheduled := s.mbx.scheduled ++ [waitingAs c s] }) hp
  exact ⟨hsent, hkept.regs, hkept.shadow, hkept.rest, hunit, hkept.mailbox.slots, hkept.mailbox.done, hkept.mailbox.busy⟩

end

/-- Settles O7: past the checks of role and session, a scheduled command's fate is that of its activation and of the queue's length. -/
theorem scheduledCommandIsQueued : Obligations.ScheduledCommandIsQueued := by
  unfold Obligations.ScheduledCommandIsQueued
  intro p hp hop c s h hscheduled hrole hsession hahead
  obtain ⟨act, hact⟩ := hostRows_exec p hp
  have hft : (s.taken c).ftNs = s.ftNs := taken_ftNs s c
  have hqueue : (s.taken c).mbx.scheduled = s.mbx.scheduled := taken_scheduled s c
  have hrun : exec (p.2 c) s = .next ((s.taken c).schedule p.1 act c) :=
    (hact c s).trans (congrArg _ (runHost_scheduled act h hscheduled hrole hsession))
  have answered {status : Nat} (hfinal : (s.taken c).schedule p.1 act c = (s.taken c).final c status) : Answered p.2 c s status :=
    answered_of_refuse false h.path (hrun.trans (congrArg _ (hfinal.trans (final_eq_refusal status))))
  rw [← hft] at hahead ⊢
  rw [← hqueue]
  refine ⟨fun hnear hroom => ?_, fun hfar => ?_, fun hnear hfull => ?_⟩
  · exact ⟨_, hrun.trans (congrArg _ (schedule_queues act hahead hnear hop hroom)), respond_queued h.path⟩
  · exact answered (schedule_tooFar act hahead hfar)
  · exact answered (schedule_full act hahead hnear hfull)

end Sys2Proof.Machine

/-! PROOFS. The network commands of group 0x02 (Table 10.14): IDs, discovery, groups, routes, transit slacks and fences. -/

namespace Sys2Proof.Machine

section
variable {c : HostCmd} {s : State}

theorem actFabSetId_sets (hid : c.u16 0 < 0xFFF) :
    actFabSetId c s = done ((s.w .netPreferred 0 (c.u16 0)).putSetting 0x0001 (leBytes 2 (c.u16 0))) :=
  if_neg (Nat.not_le.mpr hid)

theorem actFabDiscover_master (hmaster : s.on .netMaster = true) :
    actFabDiscover c s = done { s with net := { s.net with discoverAt := some s.clk } } :=
  if_pos hmaster

theorem actFabTopoRead_reads (hmaster : s.on .netMaster = true) (hhost : s.hostOk (c.u64 0) = true) :
    actFabTopoRead c s = done
      (s.hostWrite c (c.u64 0) ((List.range (min s.net.map.length (c.u32 8 / 32))).flatMap (topoRecord s.net.map)))
      (leBytes 4 (min s.net.map.length (c.u32 8 / 32))) :=
  (if_neg (by simp [hmaster])).trans (if_neg (by simp [hhost]))

/-- FAB_MEMBER's word of a group with the group's bit as FAB_GROUP_SET asks. -/
def memberWord (c : HostCmd) (s : State) : Nat := setBit (s.r .netMember (c.u8 0 / 32)) (c.u8 0 % 32) (c.u8 1 != 0)

/-- R386: a membership that changes is told to the master. -/
theorem actFabGroupSet_changes (hnew : s.r .netMember (c.u8 0 / 32) ≠ memberWord c s) :
    actFabGroupSet c s = done ((s.w .netMember (c.u8 0 / 32) (memberWord c s)).linkEvent 0 2) :=
  congrArg done (if_neg hnew)

theorem actFabGroupSet_same (hsame : s.r .netMember (c.u8 0 / 32) = memberWord c s) : actFabGroupSet c s = done s :=
  congrArg done (if_pos hsame)

theorem actFabRouteGet_node (hkind : c.u8 2 = 0) (hnode : c.u16 0 ≤ 0xFFF) :
    actFabRouteGet c s = done s [mget 0 s.net.unicast (c.u16 0)] :=
  if_pos ⟨hkind, hnode⟩

theorem actFabRouteGet_group (hkind : c.u8 2 = 1) (hgroup : c.u16 0 ≤ 0xFF) :
    actFabRouteGet c s = done s ((List.range 5).map (fun i => byte (s.groupEntry (c.u16 0) i))) :=
  (if_neg (by simp [hkind])).trans (if_pos ⟨hkind, hgroup⟩)

/-- R393: the smallest slacks of a stream, which a read that asks for it sets back. -/
theorem actFabTransitGet_reads (hstream : c.u8 0 ≤ 15) :
    actFabTransitGet c s = done
      (if c.u8 1 = 0 then s else s.puts [(.netSlackA, c.u8 0, 0x7FFFFFFF), (.netSlackB, c.u8 0, 0x7FFFFFFF)])
      (leBytes 4 (s.r .netSlackA (c.u8 0)) ++ leBytes 4 (s.r .netSlackB (c.u8 0))) :=
  if_neg (Nat.not_lt.mpr hstream)

section
variable (hid : s.id ≠ 0) (hdst : c.u16 0 ≤ 0xFFE) (hroute : s.routeTo (c.u16 0) ≠ none)
include hid hdst hroute

theorem fabFence_routed : ¬(s.id = 0 ∨ 0xFFE < c.u16 0 ∨ s.routeTo (c.u16 0) = none) :=
  not_or.mpr ⟨hid, not_or.mpr ⟨Nat.not_lt.mpr hdst, hroute⟩⟩

theorem actFabFence_noVc (hmask : c.u8 2 % 16 = 0) : actFabFence c s = done s :=
  (if_neg (fabFence_routed hid hdst hroute)).trans (if_pos hmask)

/-- R397: a FENCE goes out on each VC of the mask, and holds what follows until it is done. -/
theorem actFabFence_fences (hmask : c.u8 2 % 16 ≠ 0) :
    actFabFence c s =
      let id := s.net.nextFence % 65536
      let m := c.u8 2 % 16
      let a := (portsOf m).foldl (fun s v => s.route (s.packet 0x12 v (c.u16 0) (leBytes 2 id ++ [byte m, 0, 0, 0, 0, 0]) true)) s
      await { a with net := { a.net with
        fences := a.net.fences ++ [⟨id, c.u16 0, m, a.clk, []⟩], nextFence := id + 1 } } (.fence id) :=
  (if_neg (fabFence_routed hid hdst hroute)).trans (if_neg hmask)

end

end

/-- Settles O12: each command's action, past its refusals, is the effect that its clause names. -/
theorem networkCommandsComplete : Obligations.NetworkCommandsComplete := by
  unfold Obligations.NetworkCommandsComplete
  refine ⟨?_, ?_, ?_, ?_, ?_, ?_, ?_, ?_, ?_, ?_, ?_, ?_⟩
  · exact reads_of actFabNodeGet (fun _ _ => rfl) (fun _ _ _ _ => rfl)
  · exact completes_of actFabSetId (fun _ _ => rfl) (fun _ _ hid => actFabSetId_sets hid)
  · exact completes_of actFabDiscover (fun _ _ => rfl) (fun _ _ hmaster => actFabDiscover_master hmaster)
  · exact fetches_of actFabTopoRead (fun _ _ => rfl) (fun _ _ hmaster hhost => actFabTopoRead_reads hmaster hhost)
  · exact completes_of actFabGroupSet (fun _ _ => rfl) (fun _ _ hnew => actFabGroupSet_changes hnew)
  · exact reads_of actFabGroupSet (fun _ _ => rfl) (fun _ _ _ hsame => actFabGroupSet_same hsame)
  · exact reads_of actFabRouteGet (fun _ _ => rfl) (fun _ _ _ ⟨hkind, hnode⟩ => actFabRouteGet_node hkind hnode)
  · exact reads_of actFabRouteGet (fun _ _ => rfl) (fun _ _ _ ⟨hkind, hgroup⟩ => actFabRouteGet_group hkind hgroup)
  · refine reads_of actFabTransitGet (fun _ _ => rfl) (fun c s _ ⟨hstream, hread⟩ => ?_)
    rw [actFabTransitGet_reads hstream, if_pos hread]
  · refine completes_of actFabTransitGet (fun _ _ => rfl) (fun c s ⟨hstream, hclear⟩ => ?_)
    rw [actFabTransitGet_reads hstream, if_neg hclear]
  · exact awaits_of actFabFence (fun _ _ => rfl)
      (fun _ _ ⟨hid, hdst, hroute, hmask⟩ => actFabFence_fences hid hdst hroute hmask)
  · exact reads_of actFabFence (fun _ _ => rfl)
      (fun _ _ _ ⟨hid, hdst, hroute, hmask⟩ => actFabFence_noVc hid hdst hroute hmask)

end Sys2Proof.Machine

/-! PROOFS. Packets on a link: the checks of what stands at a packet boundary (R356, R359, R371), acks (R365, R366), what an egress port
sends first (R342, R357, R369, R370), replay (R372), loops (R352) and resync (R358). -/

namespace Sys2Proof.Machine

section
variable {s : State} {p : Nat}

/-! ### A port in UP turns nothing around -/

theorem notLoop_of_up (hup : s.up p = true) : s.r .fabState p ≠ Port.loop := by
  rw [show s.r .fabState p = Port.up from eq_of_beq hup]
  decide

theorem turnBack_of_up (i : LineItem) (hup : s.up p = true) : s.turnBack p i = s :=
  if_neg (fun h => notLoop_of_up hup h.1)

/-! ### A received packet (R356, R359, R371) -/

/-- A packet that has passed its checks: LINK goes to its handler; any other is one taken before, comes after one missed, overruns its
buffer or is the next and has its place. -/
def State.takePacket (s : State) (p : Nat) (l : List Byte) : State :=
  let k := pktOf l
  let cls := vcClass k
  let lseq := getLE l 9 1 % 128
  let expected := (s.link p).expected
  let held := (s.link p).held.getD cls 0
  let t := s.setLink p (fun x => { x with expected := (x.expected + 1) % 128, naking := false, linkDue := true, taken := x.taken + 1 })
  if k.ptype = 0x01 then s.deliver k
  else if lseq ≠ expected then (if (expected + 128 - lseq) % 128 ≤ 63 then s else s.sendNak p)
  else if allocation.getD cls 0 < held + pktCost k then (t.raise .fabCreditError p).restartPort p
  else (t.setLink p (fun x => { x with held := updAt x.held cls (fun h => h + pktCost k) })).accepted p k (l.take 12)

section
variable {l : List Byte}

section
variable (hother : (pktOf l).ptype ≠ 0x01)
include hother

theorem takePacket_again (hseq : getLE l 9 1 % 128 ≠ (s.link p).expected)
    (hback : ((s.link p).expected + 128 - getLE l 9 1 % 128) % 128 ≤ 63) : s.takePacket p l = s :=
  (if_neg hother).trans ((if_pos hseq).trans (if_pos hback))

theorem takePacket_missed (hseq : getLE l 9 1 % 128 ≠ (s.link p).expected)
    (hahead : 63 < ((s.link p).expected + 128 - getLE l 9 1 % 128) % 128) : s.takePacket p l = s.sendNak p :=
  (if_neg hother).trans ((if_pos hseq).trans (if_neg (Nat.not_le.mpr hahead)))

theorem takePacket_next (hseq : getLE l 9 1 % 128 = (s.link p).expected)
    (hroom : (s.link p).held.getD (vcClass (pktOf l)) 0 + pktCost (pktOf l) ≤ allocation.getD (vcClass (pktOf l)) 0) :
    s.takePacket p l =
      ((s.setLink p (fun x => { x with
          expected := (x.expected + 1) % 128, naking := false, linkDue := true, taken := x.taken + 1 })).setLink p
        (fun x => { x with held := updAt x.held (vcClass (pktOf l)) (fun h => h + pktCost (pktOf l)) })).accepted p (pktOf l)
        (l.take 12) :=
  (if_neg hother).trans ((if_neg (not_not_intro hseq)).trans (if_neg (Nat.not_lt.mpr hroom)))

end

variable {d : List Byte}

theorem doPacketRx_down (hdown : s.up p = false) : doPacketRx p d s = s.turnBack p (packetItem (s.r .fabRate p) d) :=
  if_pos (by simp [hdown])

section
variable (hup : s.up p = true)
include hup

theorem doPacketRx_lostFraming (hlost : (s.link p).lostFraming = true) : doPacketRx p d s = s :=
  (if_neg (by simp [hup])).trans (if_pos (.inl hlost))

theorem doPacketRx_fill (hfill : s.arrived p d = []) (hdata : d ≠ []) : doPacketRx p d s = s :=
  (if_neg (by simp [hup])).trans (if_pos (.inr ⟨hfill, hdata⟩))

section
variable (hframed : (s.link p).lostFraming = false) (harrived : s.arrived p d = l)
include hframed harrived

/-- A bad header loses framing, but at rate 0, and asks for the packet again. -/
theorem doPacketRx_badHeader (hbad : l.length < 12 ∨ getLE l 10 2 ≠ crc16 (l.take 10)) (hdata : l ≠ [] ∨ d = []) :
    doPacketRx p d s =
      ((s.count .fabHdrErrors p).setLink p (fun x => { x with
        lostFraming := decide (1 ≤ (s.count .fabHdrErrors p).r .fabRate p) })).sendNak p := by
  subst harrived
  have hsome : ¬((s.link p).lostFraming = true ∨ (s.arrived p d = [] ∧ d ≠ [])) :=
    not_or.mpr ⟨ne_true_of_eq_false hframed, fun ⟨hnil, hsent⟩ => hdata.elim (fun h => h hnil) hsent⟩
  exact (if_neg (by simp [hup])).trans ((if_neg hsome).trans (if_pos hbad))

section
variable (hlong : 12 ≤ l.length) (hheader : getLE l 10 2 = crc16 (l.take 10))
include hlong hheader

/-- Past a sound header, the packet's own check decides. -/
theorem doPacketRx_soundHeader :
    doPacketRx p d s = if pktGood l then s.takePacket p l else (s.count .fabCrcErrors p).sendNak p := by
  subst harrived
  have hdata : ¬((s.link p).lostFraming = true ∨ (s.arrived p d = [] ∧ d ≠ [])) := by
    rintro (hlost | ⟨hnil, -⟩)
    · exact ne_true_of_eq_false hframed hlost
    · simp [hnil] at hlong
  have hsound : ¬((s.arrived p d).length < 12 ∨ getLE (s.arrived p d) 10 2 ≠ crc16 ((s.arrived p d).take 10)) :=
    not_or.mpr ⟨Nat.not_lt.mpr hlong, not_not_intro hheader⟩
  refine (if_neg (by simp [hup])).trans ((if_neg hdata).trans ((if_neg hsound).trans ?_))
  cases hgood : pktGood (s.arrived p d)
  · exact if_pos rfl
  · exact if_neg Bool.noConfusion

theorem doPacketRx_badPacket (hbad : pktGood l = false) : doPacketRx p d s = (s.count .fabCrcErrors p).sendNak p :=
  (doPacketRx_soundHeader hup hframed harrived hlong hheader).trans (if_neg (ne_true_of_eq_false hbad))

theorem doPacketRx_good (hgood : pktGood l = true) : doPacketRx p d s = s.takePacket p l :=
  (doPacketRx_soundHeader hup hframed harrived hlong hheader).trans (if_pos hgood)

end

end

end

end

/-! ### LINK packets (R365, R366) -/

section
variable {k : Pkt}

theorem doLinkPacketRx_down (hdown : s.up p = false) :
    doLinkPacketRx p k s = s.turnBack p (packetItem (s.r .fabRate p) (pktBytes k 0)) :=
  if_pos (by simp [hdown])

theorem doLinkPacketRx_lostFraming (hup : s.up p = true) (hlost : (s.link p).lostFraming = true) : doLinkPacketRx p k s = s :=
  (if_neg (by simp [hup])).trans (if_pos hlost)

/-- A LINK packet without a nak: its ack and its freed counts are taken, and nothing is sent again. -/
theorem doLinkPacketRx_acks (hnak : bit (k.u8 1) 0 = false) (hup : s.up p = true) (hframed : (s.link p).lostFraming = false) :
    doLinkPacketRx p k s =
      let l := s.link p
      let ack := k.u8 0 % 128
      let un := afterAck ack l.unacked
      let progress := decide (un.length < l.unacked.length)
      ((s.setLink p (fun x => { x with
        unacked := un, replay := afterAck ack x.replay
        replays := if progress then 0 else x.replays, lastAck := if progress then s.clk else x.lastAck
        freedRx := (List.range 8).map (fun i => k.u16 (4 + 2 * i)) })).w .fabAckRx p ack).showCredit p :=
  (if_neg (by simp [hup])).trans ((if_neg (ne_true_of_eq_false hframed)).trans (if_neg (fun h => ne_true_of_eq_false hnak h.1)))

end

/-! ### What an egress port sends (R342, R352, R357, R369, R370) -/

/-- A new packet goes out: it waits for its ack, its units are debited, and its last copy frees the buffer it came in by (R364). -/
def State.sendNew (s : State) (p : Nat) (q : Queued) (rest : List Queued) : State :=
  let t := ((s.putLine p q.pkt (s.link p).nextSeq).setLink p (fun x => { x with
    queue := rest, unacked := x.unacked ++ [(x.nextSeq, q.pkt)], nextSeq := (x.nextSeq + 1) % 128
    debited := updAt x.debited (vcClass q.pkt) (fun d => (d + pktCost q.pkt) % 65536)
    lastAck := if x.unacked = [] then s.clk else x.lastAck })).showCredit p
  match q.frees with
  | some r => t.release r
  | none => t

/-- What a port sends when no LINK packet is due: a packet to be sent again, a new one, or fill. -/
def State.sendNext (s : State) (p : Nat) : State :=
  match (s.link p).replay with
  | q :: rest => (s.putLine p q.2 q.1).setLink p (fun l => { l with replay := rest })
  | [] =>
    match (if 63 ≤ (s.link p).unacked.length then none else (s.link p).choose s.clk) with
    | some (q, rest) => s.sendNew p q rest
    | none => s.emit (.line p (fillItem (s.r .fabRate p)))

theorem doEgressSelect_loop (hloop : s.r .fabState p = Port.loop) : doEgressSelect p s = s.loopSend p := if_pos hloop

theorem doEgressSelect_silent (hquiet : s.up p = false ∨ s.leavesUp p = true) (hnotLoop : s.r .fabState p ≠ Port.loop) :
    doEgressSelect p s = s :=
  (if_neg hnotLoop).trans (if_pos (by simpa using hquiet))

section
variable (hup : s.up p = true) (hstays : s.leavesUp p = false)
include hup hstays

theorem egressSelect_sends : ¬((!s.up p) = true ∨ s.leavesUp p = true) := by simp [hup, hstays]

theorem doEgressSelect_linkDue (hdue : (s.link p).linkDue = true) : doEgressSelect p s = s.sendLink p :=
  (if_neg (notLoop_of_up hup)).trans ((if_neg (egressSelect_sends hup hstays)).trans (if_pos hdue))

section
variable (hnotDue : (s.link p).linkDue = false)
include hnotDue

/-- With no LINK packet due, a port sends what comes next. -/
theorem doEgressSelect_next : doEgressSelect p s = s.sendNext p := by
  refine (if_neg (notLoop_of_up hup)).trans ((if_neg (egressSelect_sends hup hstays)).trans
    ((if_neg (ne_true_of_eq_false hnotDue)).trans ?_))
  unfold State.sendNext
  cases (s.link p).replay with
  | cons q rest => rfl
  | nil =>
    cases (if 63 ≤ (s.link p).unacked.length then none else (s.link p).choose s.clk) with
    | none => rfl
    | some chosen => rfl

theorem doEgressSelect_replays {q : Nat × Pkt} {rest : List (Nat × Pkt)} (hreplay : (s.link p).replay = q :: rest) :
    doEgressSelect p s = (s.putLine p q.2 q.1).setLink p (fun l => { l with replay := rest }) := by
  rw [doEgressSelect_next hup hstays hnotDue]
  simp only [State.sendNext, hreplay]

section
variable (hnoReplay : (s.link p).replay = [])
include hnoReplay

theorem doEgressSelect_sendsNew {q : Queued} {rest : List Queued} (hfew : (s.link p).unacked.length < 63)
    (hchosen : (s.link p).choose s.clk = some (q, rest)) : doEgressSelect p s = s.sendNew p q rest := by
  rw [doEgressSelect_next hup hstays hnotDue]
  simp only [State.sendNext, hnoReplay, if_neg (Nat.not_le.mpr hfew), hchosen]

theorem doEgressSelect_fills (hnothing : 63 ≤ (s.link p).unacked.length ∨ (s.link p).choose s.clk = none) :
    doEgressSelect p s = s.emit (.line p (fillItem (s.r .fabRate p))) := by
  have hnone : (if 63 ≤ (s.link p).unacked.length then none else (s.link p).choose s.clk) = none := by
    split
    · rfl
    · next hfew => exact hnothing.resolve_left hfew
  rw [doEgressSelect_next hup hstays hnotDue]
  simp only [State.sendNext, hnoReplay, hnone]

end

end

end

/-! ### Resync (R358) -/

theorem doResyncBlockRx_frames (hup : s.up p = true) (hrate : 1 ≤ s.r .fabRate p) :
    doResyncBlockRx p resyncBlock s = s.setLink p (fun l => { l with lostFraming := false }) :=
  if_pos ⟨hup, hrate, rfl⟩

theorem doResyncBlockRx_down {b : List Byte} (hdown : s.up p = false) : doResyncBlockRx p b s = s.turnBack p (.control b) :=
  if_neg (fun h => ne_true_of_eq_false hdown h.1)

theorem doResyncBlockRx_otherBlock {b : List Byte} (hother : b ≠ resyncBlock) (hup : s.up p = true) : doResyncBlockRx p b s = s :=
  (if_neg (fun h => hother h.2.2)).trans (turnBack_of_up _ hup)

end

/-- Settles O44: each row is `event` of its operation, and each operation, past its guard, is the effect that its clause names. -/
theorem linkEventsComplete : Obligations.LinkEventsComplete := by
  unfold Obligations.LinkEventsComplete
  refine ⟨fun p d l hbad => ?_, fun p d l hlong hheader hbad => ?_, fun p d l hlong hheader hgood hlink => ?_,
    fun p d l hlong hheader hgood hother => ?_, fun p d l hlong hheader hgood hother => ?_,
    fun p d l hlong hheader hgood hother => ?_, fun p d hdata => ?_, fun p d => ?_, fun p d => ?_, fun p k hnak => ?_, fun p k => ?_,
    fun p k => ?_, fun p => ?_, fun p => ?_, fun p => ?_, fun p => ?_, fun p q rest => ?_, fun p q rest => ?_, fun p => ?_, fun p => ?_,
    fun p => ?_, fun p => ?_, fun p b hother => ?_, fun p b => ?_⟩
  · exact does_of (fun _ => rfl) (fun _ _ ⟨hup, hframed, harrived, hdata⟩ => doPacketRx_badHeader hup hframed harrived hbad hdata)
  · exact does_of (fun _ => rfl) (fun _ _ ⟨hup, hframed, harrived⟩ => doPacketRx_badPacket hup hframed harrived hlong hheader hbad)
  · exact does_of (fun _ => rfl) (fun _ _ ⟨hup, hframed, harrived⟩ =>
      (doPacketRx_good hup hframed harrived hlong hheader hgood).trans (if_pos hlink))
  · exact does_of (fun _ => rfl) (fun _ _ ⟨hup, hframed, harrived, hseq, hback⟩ =>
      (doPacketRx_good hup hframed harrived hlong hheader hgood).trans (takePacket_again hother hseq hback))
  · exact does_of (fun _ => rfl) (fun _ _ ⟨hup, hframed, harrived, hseq, hahead⟩ =>
      (doPacketRx_good hup hframed harrived hlong hheader hgood).trans (takePacket_missed hother hseq hahead))
  · exact does_of (fun _ => rfl) (fun _ _ ⟨hup, hframed, harrived, hseq, hroom⟩ =>
      (doPacketRx_good hup hframed harrived hlong hheader hgood).trans (takePacket_next hother hseq hroom))
  · exact does_of (fun _ => rfl) (fun _ _ ⟨hup, hfill⟩ => doPacketRx_fill hup hfill hdata)
  · exact does_of (fun _ => rfl) (fun _ _ ⟨hup, hlost⟩ => doPacketRx_lostFraming hup hlost)
  · exact does_of (fun _ => rfl) (fun _ _ hdown => doPacketRx_down hdown)
  · exact does_of (fun _ => rfl) (fun _ _ ⟨hup, hframed⟩ => doLinkPacketRx_acks hnak hup hframed)
  · exact does_of (fun _ => rfl) (fun _ _ hdown => doLinkPacketRx_down hdown)
  · exact does_of (fun _ => rfl) (fun _ _ ⟨hup, hlost⟩ => doLinkPacketRx_lostFraming hup hlost)
  · exact doesOnly_of (fun _ => rfl) (fun _ hdue => if_pos hdue) (fun _ hdue => if_neg hdue)
  · exact does_of (fun _ => rfl) (fun _ _ ⟨hquiet, hnotLoop⟩ => doEgressSelect_silent hquiet hnotLoop)
  · exact does_of (fun _ => rfl) (fun _ _ hloop => doEgressSelect_loop hloop)
  · exact does_of (fun _ => rfl) (fun _ _ ⟨hup, hstays, hdue⟩ => doEgressSelect_linkDue hup hstays hdue)
  · exact does_of (fun _ => rfl) (fun _ _ ⟨hup, hstays, hnotDue, hreplay⟩ => doEgressSelect_replays hup hstays hnotDue hreplay)
  · exact does_of (fun _ => rfl) (fun _ _ ⟨hup, hstays, hnotDue, hnoReplay, hfew, hchosen⟩ =>
      doEgressSelect_sendsNew hup hstays hnotDue hnoReplay hfew hchosen)
  · exact does_of (fun _ => rfl) (fun _ _ ⟨hup, hstays, hnotDue, hnoReplay, hnothing⟩ =>
      doEgressSelect_fills hup hstays hnotDue hnoReplay hnothing)
  · exact doesOnly_of (fun _ => rfl) (fun _ hdue => if_pos (by simpa using hdue)) (fun _ hdue => if_neg (by simpa using hdue))
  · exact doesOnly_of (fun _ => rfl) (fun _ hdue => if_pos hdue) (fun _ hdue => if_neg hdue)
  · exact does_of (fun _ => rfl) (fun _ _ ⟨hup, hrate⟩ => doResyncBlockRx_frames hup hrate)
  · exact does_of (fun _ => rfl) (fun _ _ hup => doResyncBlockRx_otherBlock hother hup)
  · exact does_of (fun _ => rfl) (fun _ _ hdown => doResyncBlockRx_down hdown)

end Sys2Proof.Machine

/-! PROOFS. Discovery (R374 to R377), ID assignment (R378), bulk data (R479), NO_ROUTE (Table 10.5) and fences between nodes (R397). -/

namespace Sys2Proof.Machine

section
variable {s : State} {p : Nat} {k : Pkt}

/-! ### LINK_EVENT (R375, R389) -/

theorem doLinkEventRx_notMaster (hnot : s.on .netMaster = false) : doLinkEventRx k s = s :=
  if_pos (by simp [hnot])

section
variable (hmaster : s.on .netMaster = true)
include hmaster

theorem doLinkEventRx_schedules (hunknown : k.u8 1 = 3 → s.net.map.findIdx? (fun m => m.node = k.src) = none) :
    doLinkEventRx k s = s.discoverSoon := by
  refine (if_neg (by simp [hmaster])).trans ?_
  by_cases hkind : k.u8 1 = 3
  · refine (if_neg (not_not_intro hkind)).trans ?_
    simp only [show s.discoverSoon.net.map = s.net.map from rfl, hunknown hkind]
  · exact if_pos hkind

/-- A node of the map whose route check failed gets its tables again. -/
theorem doLinkEventRx_resends {i : Nat} (hkind : k.u8 1 = 3) (hknown : s.net.map.findIdx? (fun m => m.node = k.src) = some i) :
    doLinkEventRx k s = s.discoverSoon.sendTables s.discoverSoon.net.map i := by
  refine (if_neg (by simp [hmaster])).trans ((if_neg (not_not_intro hkind)).trans ?_)
  simp only [show s.discoverSoon.net.map = s.net.map from rfl, hknown]

end

/-! ### Discovery (R375 to R378) -/

theorem doDiscoveryStart_notDue (h : ¬(s.on .netMaster = true ∧ s.net.discoverAt ≠ none)) : doDiscoveryStart s = s := by
  refine if_pos ?_
  cases hmaster : s.on .netMaster
  · exact .inl rfl
  · cases hat : s.net.discoverAt with
    | none => exact .inr rfl
    | some t => exact absurd ⟨hmaster, hat ▸ nofun⟩ h

theorem doDiscoveryStart_starts (hmaster : s.on .netMaster = true) (hdue : s.net.discoverAt ≠ none) :
    doDiscoveryStart s =
      let self := s.selfNode
      let old := (s.net.map.filter (fun m => m.unit ≠ self.unit)).map (fun (m : MapNode) => { m with found := false })
      let t : State := { s with net := { s.net with
        map := old ++ [self], queries := [], toQuery := [], epoch := (s.net.epoch + 1) % 256, discoverAt := none,
        discovering := true } }
      State.sendQueries 64 (t.addQueries self) :=
  if_neg (by simp [hmaster, hdue])

/-- The query of a tag is over: answered, or given up. -/
def State.endQuery (s : State) (tag : Nat) : State :=
  { s with net := { s.net with queries := s.net.queries.filter (fun (x : Query) => x.tag ≠ tag) } }

/-- A node that a reply describes, bound to the ID and the groups that the map has for its unit. -/
def State.bound (s : State) (m : MapNode) : MapNode :=
  match s.net.map.find? (fun x => x.unit = m.unit) with
  | some o => { m with node := o.node, groups := o.groups }
  | none => m

theorem bound_unknown {m : MapNode} (h : s.net.map.find? (fun x => x.unit = m.unit) = none) : s.bound m = m := by
  simp only [State.bound, h]

theorem bound_known {m o : MapNode} (h : s.net.map.find? (fun x => x.unit = m.unit) = some o) :
    s.bound m = { m with node := o.node, groups := o.groups } := by
  simp only [State.bound, h]

/-- A node found: its entry takes the place of its unit's earlier one, and discovery goes on beyond it. -/
def State.recordNode (s : State) (m : MapNode) : State :=
  ({ s with net := { s.net with map := s.net.map.filter (fun (x : MapNode) => x.unit ≠ m.unit) ++ [m] } } : State).addQueries m
    |>.continueDiscovery

section
variable (hend : hopsLeft k = false)
include hend

theorem doDiscQueryRx_answers : doDiscQueryRx p k s =
    s.egress p (s.packet 0x03 0 0 (discHead (pathOf k).reverse (k.u16 18) ++ s.selfDescription)) :=
  if_neg (ne_true_of_eq_false hend)

theorem doDiscAssignRx_takes : doDiscAssignRx p k s = s.takeId (k.u16 20 % 4096) (k.u16 22 % 4096) (k.u8 24) :=
  if_neg (ne_true_of_eq_false hend)

theorem doDiscReplyRx_notAwaited (h : s.on .netMaster = false ∨ s.net.discovering = false ∨
    s.net.queries.find? (fun q => q.tag = k.u16 18) = none) : doDiscReplyRx p k s = s := by
  refine (if_neg (ne_true_of_eq_false hend)).trans ?_
  by_cases hidle : (!s.on .netMaster) = true ∨ (!s.net.discovering) = true
  · exact if_pos hidle
  · have hnone : s.net.queries.find? (fun q => q.tag = k.u16 18) = none :=
      (h.resolve_left (fun hm => hidle (.inl (by simp [hm])))).resolve_left (fun hd => hidle (.inr (by simp [hd])))
    refine (if_neg hidle).trans ?_
    simp only [hnone]

section
variable {q : Query} (hmaster : s.on .netMaster = true) (hdiscovering : s.net.discovering = true)
  (hquery : s.net.queries.find? (fun q => q.tag = k.u16 18) = some q)
include hmaster hdiscovering hquery

/-- R377: an answered query ends; a node found before adds nothing, a new one is recorded. -/
theorem doDiscReplyRx_answered : doDiscReplyRx p k s =
    if s.foundNodes.any (fun x => x.unit = (nodeOfReply k q.path).unit) then (s.endQuery q.tag).continueDiscovery
    else (s.endQuery q.tag).recordNode (s.bound (nodeOfReply k q.path)) := by
  refine (if_neg (ne_true_of_eq_false hend)).trans ((if_neg (by simp [hmaster, hdiscovering])).trans ?_)
  simp only [hquery]
  rfl

theorem doDiscReplyRx_foundBefore (hfound : s.foundNodes.any (fun x => x.unit = (nodeOfReply k q.path).unit) = true) :
    doDiscReplyRx p k s = (s.endQuery q.tag).continueDiscovery :=
  (doDiscReplyRx_answered hend hmaster hdiscovering hquery).trans (if_pos hfound)

theorem doDiscReplyRx_finds (hnew : s.foundNodes.any (fun x => x.unit = (nodeOfReply k q.path).unit) = false) :
    doDiscReplyRx p k s = (s.endQuery q.tag).recordNode (s.bound (nodeOfReply k q.path)) :=
  (doDiscReplyRx_answered hend hmaster hdiscovering hquery).trans (if_neg (ne_true_of_eq_false hnew))

end

end

section
variable {tag : Nat}

theorem doDiscQueryTimeout_answered (hnone : s.net.queries.find? (fun q => q.tag = tag) = none) : doDiscQueryTimeout tag s = s := by
  simp only [doDiscQueryTimeout, hnone]

section
variable {q : Query} (hquery : s.net.queries.find? (fun q => q.tag = tag) = some q)
include hquery

theorem doDiscQueryTimeout_early (hearly : s.clk < q.sentAt + 1000000) : doDiscQueryTimeout tag s = s := by
  simp only [doDiscQueryTimeout, hquery, if_pos hearly]

section
variable (hlate : q.sentAt + 1000000 ≤ s.clk)
include hlate

theorem doDiscQueryTimeout_sendsAgain (hfew : q.tries < 3) :
    doDiscQueryTimeout tag s =
      ({ s with net := { s.net with queries := s.net.queries.map (fun (x : Query) =>
        if x.tag = tag then { x with tries := x.tries + 1, sentAt := s.clk } else x) } } : State).sendPath 0x02 q.path tag [] := by
  simp only [doDiscQueryTimeout, hquery, if_neg (Nat.not_lt.mpr hlate), if_pos hfew]

theorem doDiscQueryTimeout_givesUp (hthree : 3 ≤ q.tries) :
    doDiscQueryTimeout tag s = (s.endQuery tag).continueDiscovery := by
  simp only [doDiscQueryTimeout, hquery, if_neg (Nat.not_lt.mpr hlate), if_neg (Nat.not_lt.mpr hthree)]
  rfl

end

end

end

/-! ### Bulk data (R389, R479) -/

theorem doBulkDataRx_image (hkind : k.u8 0 = 0) : doBulkDataRx p k s =
    if (s.takePiece p k).fw.isOpen = true ∧ k.u32 4 = (s.takePiece p k).r .fwuXferId then s.takePiece p k
    else ((s.takePiece p k).gather 0 (k.u32 4) k.src 0 (k.u64 8) (k.payload.drop 16)).runAwaiting :=
  if_pos hkind

theorem doBulkDataRx_transfer (hkind : k.u8 0 = 1 ∨ k.u8 0 = 2) :
    doBulkDataRx p k s = (s.gather (k.u8 0) (k.u32 4) k.src 0 (k.u64 8) (k.payload.drop 16)).runAwaiting :=
  (if_neg (by omega)).trans (if_pos hkind)

theorem doBulkDataRx_granule (hkind : k.u8 0 = 3) : doBulkDataRx p k s = s.takeGranule k :=
  (if_neg (by omega)).trans ((if_neg (by omega)).trans (if_pos hkind))

theorem doBulkDataRx_readback (hkind : k.u8 0 = 4) : doBulkDataRx p k s = s.takeReadback k :=
  (if_neg (by omega)).trans ((if_neg (by omega)).trans ((if_neg (by omega)).trans (if_pos hkind)))

theorem doBulkDataRx_reserved (hkind : 5 < k.u8 0) : doBulkDataRx p k s = s :=
  (if_neg (by omega)).trans ((if_neg (by omega)).trans ((if_neg (by omega)).trans ((if_neg (by omega)).trans (if_neg (by omega)))))

/-- The route shadow with the bytes of a packet of kind 5 in their place. -/
def State.shadowOf (s : State) (k : Pkt) : Mem := mwrite 0 s.net.shadow (k.u64 8) (k.payload.drop 16)

/-- R379, R389: what the master sends goes to the route shadow, and past it stands the map for the twin head. -/
theorem doBulkDataRx_tables (hkind : k.u8 0 = 5) : doBulkDataRx p k s =
    if s.isHead = true ∧ (!s.on .netMaster) = true ∧ k.src = s.r .redTwin ∧ mapOffset ≤ k.u64 8 then
      { s with net := { s.net with
        shadow := s.shadowOf k
        map := mapOf (mread 0 (s.shadowOf k) mapOffset (k.u64 8 - mapOffset + (k.payload.drop 16).length)) } }
    else { s with net := { s.net with shadow := s.shadowOf k } } :=
  (if_neg (by omega)).trans ((if_neg (by omega)).trans ((if_neg (by omega)).trans ((if_neg (by omega)).trans (if_pos hkind))))

/-! ### NO_ROUTE (Table 10.5) -/

theorem doNoRouteRx_notRelayed (h : k.u8 0 ≠ 0x10 ∨ bit (k.u8 1) 6 = true) : doNoRouteRx k s = s := if_pos h

section
variable (hcmd : k.u8 0 = 0x10) (hunicast : bit (k.u8 1) 6 = false)
include hcmd hunicast

theorem noRoute_ofRelay : ¬(k.u8 0 ≠ 0x10 ∨ bit (k.u8 1) 6 = true) := by simp [hcmd, hunicast]

theorem doNoRouteRx_noRelay
    (hnone : s.mbx.relays.any (fun r => r.cmd.relay && r.cmd.scope == 0 && r.cmd.node == k.u16 2 % 4096) = false) :
    doNoRouteRx k s = s := by
  have hhit : s.mbx.relays.filter (fun r => r.cmd.relay ∧ r.cmd.scope = 0 ∧ r.cmd.node = k.u16 2 % 4096) = [] := by
    rw [List.filter_eq_nil_iff]
    simpa [and_assoc] using hnone
  refine (if_neg (noRoute_ofRelay hcmd hunicast)).trans ?_
  simp only [hhit, List.foldl_nil]

theorem doNoRouteRx_endsRelay {r : Relay}
    (hhit : s.mbx.relays.filter (fun r => r.cmd.relay ∧ r.cmd.scope = 0 ∧ r.cmd.node = k.u16 2 % 4096) = [r]) :
    doNoRouteRx k s = (s.dropRelay r.tag).postMark r.cmd (s.response r.cmd Status.noNode true [] s.ftNs r.cmd.session) := by
  refine (if_neg (noRoute_ofRelay hcmd hunicast)).trans ?_
  simp only [hhit, List.foldl_cons, List.foldl_nil]

end

/-! ### Fences (R397) -/

/-- The VCs on which a fence has been seen, with the one it comes on now. -/
def State.fenceSeen (s : State) (k : Pkt) : Nat :=
  setBit (match s.net.fencesIn.find? (fun x => x.1 = k.src ∧ x.2.1 = k.u16 0) with | some x => x.2.2 | none => 0) k.vc true

theorem fenceSeen_first (h : s.net.fencesIn.find? (fun x => x.1 = k.src ∧ x.2.1 = k.u16 0) = none) :
    s.fenceSeen k = setBit 0 k.vc true := by
  simp only [State.fenceSeen, h]

theorem fenceSeen_more {x : Nat × Nat × Nat} (h : s.net.fencesIn.find? (fun x => x.1 = k.src ∧ x.2.1 = k.u16 0) = some x) :
    s.fenceSeen k = setBit x.2.2 k.vc true := by
  simp only [State.fenceSeen, h]

theorem doFenceRx_done (hcovers : covers (s.fenceSeen k) (k.u8 2 % 16) = true) :
    doFenceRx k s =
      ({ s with net := { s.net with fencesIn := s.net.fencesIn.filter (fun x => !(x.1 = k.src ∧ x.2.1 = k.u16 0)) } } : State).sendTo
        0x13 k.src (leBytes 2 (k.u16 0) ++ [byte (k.u8 2 % 16), 0, 0, 0, 0, 0]) :=
  if_pos hcovers

theorem doFenceRx_waits {v : Nat} (hseen : s.fenceSeen k = v) (hnot : covers v (k.u8 2 % 16) = false) :
    doFenceRx k s = { s with net := { s.net with
      fencesIn := s.net.fencesIn.filter (fun x => !(x.1 = k.src ∧ x.2.1 = k.u16 0)) ++ [(k.src, k.u16 0, v)] } } := by
  subst hseen
  exact if_neg (ne_true_of_eq_false hnot)

theorem doFenceDoneRx_completes {f : Fence} (h : s.net.fences.find? (fun f => f.id = k.u16 0 ∧ f.dst = k.src) = some f) :
    doFenceDoneRx k s = (s.releaseFence f).complete (.fence f.id) Status.ok := by
  simp only [doFenceDoneRx, h]

theorem doFenceDoneRx_noFence (h : s.net.fences.find? (fun f => f.id = k.u16 0 ∧ f.dst = k.src) = none) : doFenceDoneRx k s = s := by
  simp only [doFenceDoneRx, h]

section
variable {n : Nat}

theorem doFenceTimeout_noFence (h : s.net.fences.find? (fun f => f.id = n) = none) : doFenceTimeout n s = s := by
  simp only [doFenceTimeout, h]

theorem doFenceTimeout_ends {f : Fence} (h : s.net.fences.find? (fun f => f.id = n) = some f) (hlate : f.sentAt + 10000000 ≤ s.clk)
    (hnot : s.doneNow f = false) :
    doFenceTimeout n s = ((s.releaseFence f).raise .netFenceTimeout).complete (.fence n) Status.timeout := by
  simp only [doFenceTimeout, h]
  exact if_neg (not_or.mpr ⟨Nat.not_lt.mpr hlate, ne_true_of_eq_false hnot⟩)

theorem doFenceTimeout_notDue {f : Fence} (h : s.net.fences.find? (fun f => f.id = n) = some f)
    (hnot : s.clk < f.sentAt + 10000000 ∨ s.doneNow f = true) : doFenceTimeout n s = s := by
  simp only [doFenceTimeout, h]
  exact if_pos hnot

end

end

/-- Settles O45: each row is `event` of its operation, and each operation, past its guard, is the effect that its clause names. -/
theorem networkEventsComplete : Obligations.NetworkEventsComplete := by
  unfold Obligations.NetworkEventsComplete
  refine ⟨fun k => ?_, fun k => ?_, fun k i hkind => ?_, ?_, fun p k hhops => ⟨?_, ?_, ?_⟩, fun p k hend => ?_, fun p k q hend => ?_,
    fun p k q o hend => ?_, fun p k q hend => ?_, fun p k hend => ?_, fun p k hend => ?_, fun tag q => ?_, fun tag q => ?_,
    fun tag q => ?_, fun tag => ?_, fun p k hkind => ?_, fun p k hkind => ?_, fun p k hkind => ?_, fun p k hkind => ?_,
    fun p k hkind => ?_, fun p k hkind => ?_, fun p k hkind => ?_, fun p k hkind => ?_, fun k => ?_, fun k hcmd hunicast => ?_,
    fun k r hcmd hunicast => ?_, fun k h => ?_, fun k => ?_, fun k => ?_, fun k x => ?_, fun k f => ?_, fun k => ?_, fun n f => ?_,
    fun n f => ?_, fun n => ?_⟩
  · exact does_of (fun _ => rfl) (fun _ _ hnot => doLinkEventRx_notMaster hnot)
  · exact does_of (fun _ => rfl) (fun _ _ ⟨hmaster, hunknown⟩ => doLinkEventRx_schedules hmaster hunknown)
  · exact does_of (fun _ => rfl) (fun _ _ ⟨hmaster, hknown⟩ => doLinkEventRx_resends hmaster hkind hknown)
  · exact doesOnly_of (fun _ => rfl) (fun _ ⟨hmaster, hdue⟩ => doDiscoveryStart_starts hmaster hdue)
      (fun _ => doDiscoveryStart_notDue)
  · exact does_of (fun _ => rfl) (fun _ _ _ => if_pos hhops)
  · exact does_of (fun _ => rfl) (fun _ _ _ => if_pos hhops)
  · exact does_of (fun _ => rfl) (fun _ _ _ => if_pos hhops)
  · exact does_of (fun _ => rfl) (fun _ _ _ => doDiscQueryRx_answers hend)
  · exact does_of (fun _ => rfl) (fun s _ ⟨hmaster, hdiscovering, hquery, hmap, hnew⟩ =>
      (doDiscReplyRx_finds hend hmaster hdiscovering hquery hnew).trans (congrArg (s.endQuery q.tag).recordNode (bound_unknown hmap)))
  · exact does_of (fun _ => rfl) (fun s _ ⟨hmaster, hdiscovering, hquery, hmap, hnew⟩ =>
      (doDiscReplyRx_finds hend hmaster hdiscovering hquery hnew).trans (congrArg (s.endQuery q.tag).recordNode (bound_known hmap)))
  · exact does_of (fun _ => rfl) (fun _ _ ⟨hmaster, hdiscovering, hquery, hfound⟩ =>
      doDiscReplyRx_foundBefore hend hmaster hdiscovering hquery hfound)
  · exact does_of (fun _ => rfl) (fun _ _ => doDiscReplyRx_notAwaited hend)
  · exact does_of (fun _ => rfl) (fun _ _ _ => doDiscAssignRx_takes hend)
  · exact does_of (fun _ => rfl) (fun _ _ ⟨hquery, hlate, hfew⟩ => doDiscQueryTimeout_sendsAgain hquery hlate hfew)
  · exact does_of (fun _ => rfl) (fun _ _ ⟨hquery, hlate, hthree⟩ => doDiscQueryTimeout_givesUp hquery hlate hthree)
  · exact does_of (fun _ => rfl) (fun _ _ ⟨hquery, hearly⟩ => doDiscQueryTimeout_early hquery hearly)
  · exact does_of (fun _ => rfl) (fun _ _ => doDiscQueryTimeout_answered)
  · exact does_of (fun _ => rfl) (fun _ _ hother => (doBulkDataRx_image hkind).trans
      (if_neg (fun ⟨hopen, hxfer⟩ => hother.elim (fun hclosed => ne_true_of_eq_false hclosed hopen) (fun hne => hne hxfer))))
  · exact does_of (fun _ => rfl) (fun _ _ hown => (doBulkDataRx_image hkind).trans (if_pos hown))
  · exact does_of (fun _ => rfl) (fun _ _ _ => doBulkDataRx_transfer hkind)
  · refine does_of (fun _ => rfl) (fun s _ hnoMap => (doBulkDataRx_tables hkind).trans (if_neg ?_))
    rintro ⟨hhead, hnot, htwin, hpast⟩
    rcases hnoMap with htile | hmaster | hother | hshort
    · exact ne_true_of_eq_false htile hhead
    · simp [hmaster] at hnot
    · exact hother htwin
    · exact Nat.not_lt.mpr hpast hshort
  · exact does_of (fun _ => rfl) (fun _ _ ⟨hhead, hnot, htwin, hpast⟩ =>
      (doBulkDataRx_tables hkind).trans (if_pos ⟨hhead, by simp [hnot], htwin, hpast⟩))
  · exact does_of (fun _ => rfl) (fun _ _ _ => doBulkDataRx_granule hkind)
  · exact does_of (fun _ => rfl) (fun _ _ _ => doBulkDataRx_readback hkind)
  · exact does_of (fun _ => rfl) (fun _ _ _ => doBulkDataRx_reserved hkind)
  · exact does_of (fun _ => rfl) (fun _ _ _ => rfl)
  · exact does_of (fun _ => rfl) (fun _ _ => doNoRouteRx_noRelay hcmd hunicast)
  · exact does_of (fun _ => rfl) (fun _ _ => doNoRouteRx_endsRelay hcmd hunicast)
  · exact does_of (fun _ => rfl) (fun _ _ _ => doNoRouteRx_notRelayed h)
  · exact does_of (fun _ => rfl) (fun _ _ hcovers => doFenceRx_done hcovers)
  · exact does_of (fun _ => rfl) (fun _ _ ⟨hfirst, hnot⟩ => doFenceRx_waits (fenceSeen_first hfirst) hnot)
  · exact does_of (fun _ => rfl) (fun _ _ ⟨hmore, hnot⟩ => doFenceRx_waits (fenceSeen_more hmore) hnot)
  · exact does_of (fun _ => rfl) (fun _ _ => doFenceDoneRx_completes)
  · exact does_of (fun _ => rfl) (fun _ _ => doFenceDoneRx_noFence)
  · exact does_of (fun _ => rfl) (fun _ _ ⟨h, hlate, hnot⟩ => doFenceTimeout_ends h hlate hnot)
  · exact does_of (fun _ => rfl) (fun _ _ ⟨h, hnot⟩ => doFenceTimeout_notDue h hnot)
  · exact does_of (fun _ => rfl) (fun _ _ => doFenceTimeout_noFence)

end Sys2Proof.Machine

/-! PROOFS. Commands that come other than by a slot, and those that begin or end later: MBX_CMD and MBX_RSP (R398, R399, R435), relays
that time out (R400, R475, R478), scheduled and fenced commands (R401, R460), UDP (R457), sessions that lapse (R467) and the PCIe link. -/

namespace Sys2Proof.Machine

section
variable {s : State} {k : Pkt}

/-! ### Relayed commands (R398, R441, R479) -/

/-- The command that an MBX_CMD packet carries, with the bytes of its transfer (Table 10.10). -/
def relayedCmd (k : Pkt) (data : List Byte) : HostCmd :=
  { HostCmd.ofBytes (.fabric (k.u16 68)) 0xFF (k.u32 64) (k.payload.take 64) with data := data }

section
variable {data : List Byte}

theorem doMbxCmdRx_queues (hqueues : s.queuesMirror (relayedCmd k data) = true) :
    doMbxCmdRx k data s = { s with red := { s.red with mirrored := s.red.mirrored ++ [relayedCmd k data] } } :=
  if_pos hqueues

section
variable (hnow : s.queuesMirror (relayedCmd k data) = false)
include hnow

theorem doMbxCmdRx_runs (hnone : readsTransfer (relayedCmd k data) = none) :
    doMbxCmdRx k data s = s.runRelayed (relayedCmd k data) := by
  unfold relayedCmd at *
  refine (if_neg (ne_true_of_eq_false hnow)).trans ?_
  simp only [hnone]

section
variable {n : Nat} (htransfer : readsTransfer (relayedCmd k data) = some n)
include htransfer

/-- R479: a command that reads a transfer runs once all of it is there. -/
theorem doMbxCmdRx_reads : doMbxCmdRx k data s =
    if s.wholeTransfer (relayedCmd k data) n = true ∨ s.fw.restartAt.isSome = true then s.runRelayed (relayedCmd k data)
    else { s.renew (relayedCmd k data) with net := { s.net with awaiting := s.net.awaiting ++ [relayedCmd k data] } } := by
  unfold relayedCmd at *
  refine (if_neg (ne_true_of_eq_false hnow)).trans ?_
  simp only [htransfer]

theorem doMbxCmdRx_awaits (hpart : s.wholeTransfer (relayedCmd k data) n = false) (hup : s.fw.restartAt = none) :
    doMbxCmdRx k data s =
      { s.renew (relayedCmd k data) with net := { s.net with awaiting := s.net.awaiting ++ [relayedCmd k data] } } :=
  (doMbxCmdRx_reads hnow htransfer).trans (if_neg (by simp [hpart, hup]))

end

end

end

/-! ### Responses (R399, R571) and relays that time out (R400, R478) -/

theorem doMbxRspRx_restarting (h : s.fw.restartAt ≠ none) : doMbxRspRx k s = s := if_pos (Option.isSome_iff_ne_none.mpr h)

theorem doMbxRspRx_answers (hup : s.fw.restartAt = none) (hnone : s.fw.fallback = none) :
    doMbxRspRx k s = s.relayAnswer (k.u32 64) (k.u16 68) (Response.ofBytes (k.payload.take 64)) :=
  (if_neg (by simp [hup])).trans (if_neg (by simp [hnone]))

/-- R571: OK to the node's own request for an image ends its repeats. -/
theorem doMbxRspRx_fallback {t : Nat} (hok : k.u16 8 = Status.ok) (hup : s.fw.restartAt = none)
    (hown : s.fw.fallback = some (k.u32 64, t)) :
    doMbxRspRx k s = { s.w .aonFwuFallbackSent 0 1 with fw := { s.fw with fallback := none } } :=
  (if_neg (by simp [hup])).trans ((if_pos (by simp [hown])).trans (if_pos hok))

section
variable {tag : Nat} {r : Relay} (hrelay : s.mbx.relays.find? (fun r => r.tag = tag) = some r)
include hrelay

theorem doRelayTimeout_notDue (hearly : s.relayDue r = false) : doRelayTimeout tag s = s := by
  simp only [doRelayTimeout, hrelay]
  exact if_pos (by simp [hearly])

section
variable (hdue : s.relayDue r = true)
include hdue

theorem doRelayTimeout_finishes
    (hover : r.finals = true ∨ r.endsNow = true ∨ r.responses.any (fun p => !p.2.final) = false) :
    doRelayTimeout tag s = s.finishRelay r := by
  simp only [doRelayTimeout, hrelay]
  refine (if_neg (by simp [hdue])).trans (if_neg ?_)
  rintro ⟨hfirst, hinterim, hgoes⟩
  rcases hover with hfinals | hends | hfinal
  · simp [hfinals] at hfirst
  · simp [hends] at hgoes
  · exact ne_true_of_eq_false hfinal hinterim

/-- R478: with a final response still to come from a node, the relay answers ACCEPTED and goes on. -/
theorem doRelayTimeout_interim (hfirst : r.finals = false) (hgoes : r.endsNow = false)
    (hinterim : r.responses.any (fun p => !p.2.final) = true) : doRelayTimeout tag s = s.interimRelay r := by
  simp only [doRelayTimeout, hrelay]
  exact (if_neg (by simp [hdue])).trans (if_pos ⟨by simp [hfirst], hinterim, by simp [hgoes]⟩)

end

end

/-! ### Scheduled and fenced commands (R401, R460) -/

theorem lapseDue_of_noLapse (h : s.lapsing = []) : s.lapseDue = s := by
  simp only [State.lapseDue, h, List.foldl_nil]

/-- With no activation come, no scheduled command runs. -/
theorem runDue_noneDue (n : Nat) (hahead : ∀ c ∈ s.mbx.scheduled, s.ftNs < c.activation) : State.runDue n s = s := by
  cases n with
  | zero => rfl
  | succ n =>
    have hnone : s.mbx.scheduled.filter (fun c => decide (c.activation ≤ s.ftNs)) = [] :=
      List.filter_eq_nil_iff.mpr (fun c hc => by simpa using hahead c hc)
    simp only [State.runDue, hnone, firstDue]

theorem doScheduledActivation_restarting (h : s.fw.restartAt ≠ none) : doScheduledActivation s = s :=
  if_pos (Option.isSome_iff_ne_none.mpr h)

theorem doScheduledActivation_runs (hup : s.fw.restartAt = none) :
    doScheduledActivation s = State.runDue s.lapseDue.mbx.scheduled.length s.lapseDue :=
  if_neg (by simp [hup])

theorem doFencedCommandStart_starts {c : HostCmd} (hmay : s.lapseDue.mbx.fenced.find? s.lapseDue.mayStart = some c)
    (hup : s.lapseDue.fw.restartAt = none) :
    doFencedCommandStart s =
      State.start { s.lapseDue with mbx := { s.lapseDue.mbx with fenced := s.lapseDue.mbx.fenced.erase c } } c.opcode
        (actionOf c.opcode) c := by
  simp only [doFencedCommandStart, hmay]
  exact if_neg (by simp [hup])

theorem doFencedCommandStart_waits
    (h : s.lapseDue.mbx.fenced.find? s.lapseDue.mayStart = none ∨ s.lapseDue.fw.restartAt ≠ none) :
    doFencedCommandStart s = s.lapseDue := by
  unfold doFencedCommandStart
  dsimp only
  split
  · rfl
  · next hmay => exact if_pos (Option.isSome_iff_ne_none.mpr (h.resolve_left (by simp [hmay])))

/-! ### Datagrams (R457) -/

section
variable {ip sport : Nat} {l : List Byte}

theorem doUdpDatagramRx_unheard (h : s.mbx.pathsUp = false ∨ s.held 3 = true ∨ s.allowed ip = false) :
    doUdpDatagramRx ip sport l s = s :=
  if_pos (by simpa [or_assoc] using h)

section
variable (hpaths : s.mbx.pathsUp = true) (hheld : s.held 3 = false) (hallowed : s.allowed ip = true)
include hpaths hheld hallowed

theorem udpDatagram_heard : ¬(!s.mbx.pathsUp || s.held 3 || !s.allowed ip) = true := by simp [hpaths, hheld, hallowed]

theorem doUdpDatagramRx_takes {n : Nat} (hmagic : l.take 4 = [0x4D, 0x58, 0x55, 0x31]) (hn : getLE l 4 1 = n) (hsome : 1 ≤ n)
    (hmost : n ≤ 8) (hkind : getLE l 5 1 = 0) (hlength : l.length = 8 + 64 * n) (hup : s.fw.restartAt = none) :
    doUdpDatagramRx ip sport l s =
      ((List.range n).foldl (fun t k => t.takeUdp ip sport (getBytes l (8 + 64 * k) 64)) s).answerUnknown := by
  subst hn
  exact (if_neg (udpDatagram_heard hpaths hheld hallowed)).trans
    ((if_neg (by simp [hup])).trans (if_pos ⟨hmagic, hsome, hmost, hkind, hlength⟩))

theorem doUdpDatagramRx_discards (hmagic : l.take 4 ≠ [0x4D, 0x58, 0x55, 0x31]) :
    doUdpDatagramRx ip sport l s = { s with mbx := { s.mbx with discarded := s.mbx.discarded + 1 } } := by
  refine (if_neg (udpDatagram_heard hpaths hheld hallowed)).trans ?_
  cases s.fw.restartAt with
  | none => exact (if_neg Bool.noConfusion).trans (if_neg (fun h => hmagic h.1))
  | some _ => exact if_pos rfl

end

end

/-! ### Sessions that lapse (R467) -/

theorem doSessionLapse_notDue {n : Nat} (h : ¬∃ x, s.mbx.sessions.find? (fun x => x.id = n) = some x ∧ x.expiry ≤ s.clk) :
    doSessionLapse n s = s := by
  unfold doSessionLapse
  split
  · next x hx => exact if_neg (fun hexpired => h ⟨x, hx, hexpired⟩)
  · rfl

theorem doSessionLapse_lapses {n : Nat} {x : Session} (hx : s.mbx.sessions.find? (fun x => x.id = n) = some x)
    (hexpired : x.expiry ≤ s.clk) : doSessionLapse n s = s.lapse x 1 := by
  simp only [doSessionLapse, hx, if_pos hexpired]

end

/-- Settles O46: each row is `event` of its operation, and each operation, past its guard, is the effect that its clause names. -/
theorem commandEventsComplete : Obligations.CommandEventsComplete := by
  unfold Obligations.CommandEventsComplete
  refine ⟨fun k data => ⟨?_, fun hnone => ?_, fun n htransfer => ?_, fun n htransfer => ?_⟩, fun k => ?_, fun k t hok => ?_,
    fun k => ?_, fun tag r => ?_, fun tag r => ?_, fun tag r => ?_, ?_, ?_, ?_, fun c t => ?_, fun t => ?_,
    fun ip sport l n hmagic hn hsome hmost hkind hlength => ?_, fun ip sport l hmagic => ?_, fun ip sport l => ?_, fun n => ?_, ?_⟩
  · exact does_of (fun _ => rfl) (fun _ _ hqueues => doMbxCmdRx_queues hqueues)
  · exact does_of (fun _ => rfl) (fun _ _ hnow => doMbxCmdRx_runs hnow hnone)
  · exact does_of (fun _ => rfl) (fun _ _ ⟨hnow, hwhole⟩ => (doMbxCmdRx_reads hnow htransfer).trans (if_pos (.inl hwhole)))
  · exact does_of (fun _ => rfl) (fun _ _ ⟨hnow, hpart, hup⟩ => doMbxCmdRx_awaits hnow htransfer hpart hup)
  · exact does_of (fun _ => rfl) (fun _ _ ⟨hup, hnone⟩ => doMbxRspRx_answers hup hnone)
  · exact does_of (fun _ => rfl) (fun _ _ ⟨hup, hown⟩ => doMbxRspRx_fallback hok hup hown)
  · exact does_of (fun _ => rfl) (fun _ _ => doMbxRspRx_restarting)
  · exact does_of (fun _ => rfl) (fun _ _ ⟨hrelay, hdue, hover⟩ => doRelayTimeout_finishes hrelay hdue hover)
  · exact does_of (fun _ => rfl) (fun _ _ ⟨hrelay, hdue, hfirst, hgoes, hinterim⟩ =>
      doRelayTimeout_interim hrelay hdue hfirst hgoes hinterim)
  · exact does_of (fun _ => rfl) (fun _ _ ⟨hrelay, hearly⟩ => doRelayTimeout_notDue hrelay hearly)
  · exact does_of (fun _ => rfl) (fun _ _ => doScheduledActivation_restarting)
  · exact does_of (fun _ => rfl) (fun _ _ => doScheduledActivation_runs)
  · refine does_of (fun _ => rfl) (fun s _ ⟨hup, hnoLapse, hahead⟩ => ?_)
    rw [doScheduledActivation_runs hup, lapseDue_of_noLapse hnoLapse, runDue_noneDue _ hahead]
    rfl
  · exact does_of (fun _ => rfl) (fun _ _ ⟨rfl, hmay, hup⟩ => doFencedCommandStart_starts hmay hup)
  · exact does_of (fun _ => rfl) (fun _ _ ⟨rfl, h⟩ => doFencedCommandStart_waits h)
  · exact does_of (fun _ => rfl) (fun _ _ ⟨hpaths, hheld, hallowed, hup⟩ =>
      doUdpDatagramRx_takes hpaths hheld hallowed hmagic hn hsome hmost hkind hlength hup)
  · exact does_of (fun _ => rfl) (fun _ _ ⟨hpaths, hheld, hallowed⟩ => doUdpDatagramRx_discards hpaths hheld hallowed hmagic)
  · exact does_of (fun _ => rfl) (fun _ _ => doUdpDatagramRx_unheard)
  · refine doesOnly_of (fun _ => rfl) (fun s ⟨x, hx, hexpired⟩ => ?_) (fun _ => doSessionLapse_notDue)
    rw [doSessionLapse_lapses hx hexpired, hx]
  · exact does_of (fun _ => rfl) (fun _ _ _ => rfl)

end Sys2Proof.Machine

/-! PROOFS. Twin heads: the redundancy commands (Table 11.12), the lease between the heads (R405 to R411, R414, R418, R419), head claims
(R421 to R426), the pair controller that stands down (R440), and the copy of the clip store to a new standby (R441 to R443). -/

namespace Sys2Proof.Machine

/-! ### Rows with a guard, rows with a port -/

/-- An event whose operation is one guarded effect does that effect where the guard holds, and only there. -/
theorem doesOnly_of_guarded {i : Instr} {d f : State → State} {p g : State → Prop} [DecidablePred p]
    (he : ∀ s, exec i s = event d s) (hd : ∀ s, d s = if p s then f s else s) (hp : ∀ s, p s ↔ g s) : DoesOnly i g f :=
  doesOnly_of he (fun s hg => (hd s).trans (if_pos ((hp s).mpr hg))) (fun s hg => (hd s).trans (if_neg (mt (hp s).mp hg)))

/-- An event whose port lies in range is that of its operation. -/
theorem exec_inRange {i : Instr} {p : Nat} {d : State → State} (hp : p < 4)
    (he : ∀ s, exec i s = event (fun s => if p < 4 then d s else s) s) (s : State) : exec i s = event d s := by
  simp only [he, if_pos hp]

/-! ### The redundancy commands (Table 11.12) -/

section
variable {c : HostCmd} {s : State}

/-- The payload of RED_SET lies in the ranges of Table 11.12, and renew_us is at most a third of lease_us. -/
def RedSetInRange (c : HostCmd) : Prop :=
  c.u8 0 ≤ 1 ∧ c.u8 1 ≤ 1 ∧ c.u8 2 ≠ 0 ∧ c.u8 3 ≠ 0 ∧ 2000 ≤ c.u16 4 ∧ 250 ≤ c.u16 6 ∧ c.u16 6 ≤ c.u16 4 / 3 ∧ 1000 ≤ c.u16 8 ∧
    c.u16 8 ≤ 10000 ∧ 5 ≤ c.u16 10 ∧ c.u16 10 ≤ 500 ∧ c.u16 12 ≤ 0x7FF ∧ c.u8 14 ≤ 1 ∧ c.u8 15 ≤ 1

theorem actRedSet_sets (h : RedSetInRange c) :
    actRedSet c s = done (s.ws [(.redLeaseMode, c.u8 0), (.redClaimMode, c.u8 1), (.redClaimHold, c.u8 2), (.redDwell, c.u8 3),
      (.redLeaseUs, c.u16 4), (.redRenewUs, c.u16 6), (.redGuardUs, c.u16 8), (.redPickWaitUs, c.u16 10),
      (.redStanddownMask, c.u16 12), (.redPairOn, c.u8 14), (.redPairSide, c.u8 15)]) :=
  if_neg (by unfold RedSetInRange at h; omega)

theorem actRedHandover_yields (hnow : s.red.lapsedAt ≠ some s.clk) (hholder : s.on .redHolder = true) (hlease : s.ftNs < s.red.leaseEnd)
    (htwin : s.twinEligible = true) : actRedHandover c s = await s.yield_ .handover := by
  simp [actRedHandover, hnow, hholder, Nat.not_le.mpr hlease, htwin]

theorem actRedTakeover_holder (hhead : s.isHead = true) (hholder : s.on .redHolder = true) : actRedTakeover c s = done s := by
  simp [actRedTakeover, hhead, hholder]

section
variable (hhead : s.isHead = true) (hholder : s.on .redHolder = false) (htwin : s.twinHolds = false)
include hhead hholder htwin

/-- R413: with no map and no twin heard there is nobody to grant the lease. -/
theorem actRedTakeover_alone (hmap : s.net.map = []) (hseen : s.twinSeen = false) :
    actRedTakeover c s =
      let term := max (s.r .aonTerm) s.red.heardTerm + 1
      let t := s.ws [(.aonTerm, term), (.redTerm, term), (.redState, Red.candidate)]
      await { t with red := { t.red with takeFree := true, candidateAt := t.clk } } .takeover :=
  (if_neg (by simp [hhead])).trans ((if_neg (by simp [hholder])).trans ((if_neg (by simp [htwin])).trans
    (if_pos ⟨hmap, by simp [hseen]⟩)))

theorem actRedTakeover_asks (hother : s.net.map ≠ [] ∨ s.twinSeen = true) :
    actRedTakeover c s =
      await { s with red := { s.red with takeReq := true, degraded := !s.eligible && !s.twinSeen } } .takeover := by
  have hnotAlone : ¬(s.net.map = [] ∧ (!s.twinSeen) = true) :=
    fun ⟨hmap, hunseen⟩ => hother.elim (· hmap) (fun hseen => by simp [hseen] at hunseen)
  exact (if_neg (by simp [hhead])).trans ((if_neg (by simp [hholder])).trans ((if_neg (by simp [htwin])).trans (if_neg hnotAlone)))

end

theorem actRedSetSelect_raises (hholder : s.on .redHolder = true) :
    actRedSetSelect c s = done (s.w .redSelect 0 (c.u64 0)).raiseClaim :=
  if_neg (by simp [hholder])

theorem actRedClaim_raises (hhead : s.isHead = true) :
    actRedClaim c s = done s.raiseClaim (leBytes 2 (s.raiseClaim.r .redEpoch) ++ [0, 0] ++ leBytes 4 (s.raiseClaim.r .redClaim)) :=
  if_neg (by simp [hhead])

/-- What RED_RESILVER answers: granules left and lost, and passes. -/
def State.resilverBytes (s : State) : List Byte :=
  leBytes 4 (s.r .redResilverLeft) ++ leBytes 4 (s.r .redResilverLost) ++ [byte (s.r .redPasses)]

theorem actRedResilver_reads (hop : c.u8 0 = 0) : actRedResilver c s = done s s.resilverBytes :=
  if_pos hop

theorem actRedResilver_starts (hop : c.u8 0 = 1) (hhead : s.isHead = true) (hholder : s.on .redHolder = false) :
    actRedResilver c s = done s.startResilver s.startResilver.resilverBytes := by
  simp [actRedResilver, hop, hhead, hholder, State.resilverBytes]

end

/-- Settles O21: each command's action, past its refusals, is the effect that its clause names. -/
theorem redundancyCommandsComplete : Obligations.RedundancyCommandsComplete := by
  unfold Obligations.RedundancyCommandsComplete
  refine ⟨?_, ?_, ?_, ?_, ?_, ?_, ?_, ?_, ?_, ?_⟩
  · exact reads_of actRedGet (fun _ _ => rfl) (fun _ _ _ _ => rfl)
  · exact writes_of_nodup actRedSet (fun _ _ => rfl) (fun _ _ hrange => actRedSet_sets hrange) (fun _ => by simp)
  · exact awaits_of actRedHandover (fun _ _ => rfl) (fun _ _ ⟨hnow, hholder, hlease, htwin⟩ =>
      actRedHandover_yields hnow hholder hlease htwin)
  · exact reads_of actRedTakeover (fun _ _ => rfl) (fun _ _ _ ⟨hhead, hholder⟩ => actRedTakeover_holder hhead hholder)
  · exact awaits_of actRedTakeover (fun _ _ => rfl) (fun _ _ ⟨hhead, hholder, htwin, hmap, hseen⟩ =>
      actRedTakeover_alone hhead hholder htwin hmap hseen)
  · exact awaits_of actRedTakeover (fun _ _ => rfl) (fun _ _ ⟨hhead, hholder, htwin, hother⟩ =>
      actRedTakeover_asks hhead hholder htwin hother)
  · exact completes_of actRedSetSelect (fun _ _ => rfl) (fun _ _ hholder => actRedSetSelect_raises hholder)
  · exact completes_of actRedClaim (fun _ _ => rfl) (fun _ _ hhead => actRedClaim_raises hhead)
  · exact reads_of actRedResilver (fun _ _ => rfl) (fun _ _ _ hop => actRedResilver_reads hop)
  · exact completes_of actRedResilver (fun _ _ => rfl) (fun _ _ ⟨hop, hhead, hholder⟩ => actRedResilver_starts hop hhead hholder)

/-! ### RENEW, ACK and YIELD received (R405 to R408, R410, R414, R419) -/

/-- What a tile does on its first copy of a RENEW (R408, R427): it records the expiry, follows the head, and grants as a witness. -/
def State.witnessRenew (s : State) (k : Pkt) : State :=
  let isB := bit (k.u16 26) 15
  let ids := if k.src = 0 then s.red.headIds else updAt s.red.headIds (b2n isB) (fun _ => k.src)
  let t := ({ s with red := { s.red with expiries := noteExpiry isB (k.u64 8) s.red.expiries, headIds := ids } } : State).followRenew k
  if bit (k.u8 1) 0 ∧ t.id ≠ 0 ∧ t.mayGrant isB then t.sendAck k else t

/-- What a head does on a RENEW of its twin that it does not ignore (R408, R412, R414): it gives way, records the expiry, hears a holder and
grants. -/
def State.heedRenew (s : State) (k : Pkt) : State :=
  let isB := bit (k.u16 26) 15
  let w := s.giveWay k
  let t := { w with red := { w.red with expiries := noteExpiry isB (k.u64 8) w.red.expiries, renewAt := some w.clk, taking := false } }
  let t := if k.u8 2 = Red.active then t.hearHolder.complete .handover Status.ok else t
  if t.mayGrant isB then t.sendAck k else t

section
variable {s u : State} {k : Pkt}

theorem doLeaseRenewRx_otherOp (hop : k.u8 0 ≠ 0 ∨ bit (k.u8 1) 4 = true) : doLeaseRenewRx k s = s :=
  if_pos hop

section
variable (hop : k.u8 0 = 0) (hsender : bit (k.u8 1) 4 = false) (hfirst : s.firstCopy (leaseOrigin k) 0x1C (k.u16 16) = some u)
include hop hsender hfirst

/-- The first copy of a RENEW: a tile is its witness; a head heeds its twin's alone, unless it ignores it. -/
theorem doLeaseRenewRx_first : doLeaseRenewRx k s =
    if u.isHead then
      if !u.fromTwin k then u else if (u.noteTwin k).ignores k then u.noteTwin k else (u.noteTwin k).heedRenew k
    else u.witnessRenew k := by
  refine (if_neg (not_or.mpr ⟨not_not_intro hop, ne_true_of_eq_false hsender⟩)).trans ?_
  simp only [hfirst]
  rfl

theorem doLeaseRenewRx_tile (htile : u.isHead = false) : doLeaseRenewRx k s = u.witnessRenew k :=
  (doLeaseRenewRx_first hop hsender hfirst).trans (if_neg (ne_true_of_eq_false htile))

section
variable (hhead : u.isHead = true)
include hhead

theorem doLeaseRenewRx_notTwin (hother : u.fromTwin k = false) : doLeaseRenewRx k s = u := by
  rw [doLeaseRenewRx_first hop hsender hfirst, if_pos hhead, hother]
  exact if_pos rfl

section
variable (htwin : u.fromTwin k = true)
include htwin

theorem doLeaseRenewRx_twin :
    doLeaseRenewRx k s = if (u.noteTwin k).ignores k then u.noteTwin k else (u.noteTwin k).heedRenew k := by
  rw [doLeaseRenewRx_first hop hsender hfirst, if_pos hhead, htwin]
  exact if_neg Bool.noConfusion

theorem doLeaseRenewRx_ignored (hignores : (u.noteTwin k).ignores k = true) : doLeaseRenewRx k s = u.noteTwin k :=
  (doLeaseRenewRx_twin hop hsender hfirst hhead htwin).trans (if_pos hignores)

theorem doLeaseRenewRx_heeded (hheeds : (u.noteTwin k).ignores k = false) : doLeaseRenewRx k s = (u.noteTwin k).heedRenew k :=
  (doLeaseRenewRx_twin hop hsender hfirst hhead htwin).trans (if_neg (ne_true_of_eq_false hheeds))

end

end

end

theorem doLeaseAckRx_notHeeded (h : s.isHead = false ∨ k.u8 0 ≠ 1) : doLeaseAckRx k s = s :=
  if_pos (h.imp_left (by simp [·]))

/-- The twin's ACK of the RENEW asked for grants it. -/
theorem doLeaseAckRx_grants {e : Nat} (hhead : s.isHead = true) (hop : k.u8 0 = 1)
    (hfirst : s.firstCopy (leaseOrigin k) 0x1C (k.u16 16) = some u) (htwin : u.fromTwin k = true)
    (hasked : (u.noteTwin k).red.asked = some e) (hexpiry : k.u64 8 = e) (hside : bit (k.u16 26) 15 = (u.noteTwin k).isHeadB)
    (hwitness : (u.noteTwin k).red.witness = false) (hstill : (u.noteTwin k).fromTwin k = true) :
    doLeaseAckRx k s = (u.noteTwin k).granted e := by
  refine (if_neg (by simp [hhead, hop])).trans ?_
  simp only [hfirst, if_pos htwin, hasked]
  refine (if_neg (not_or.mpr ⟨not_not_intro hexpiry, not_not_intro hside⟩)).trans ?_
  rw [hwitness, if_pos hstill]
  exact if_pos rfl

theorem doLeaseYieldRx_otherOp (hop : k.u8 0 ≠ 2 ∨ bit (k.u8 1) 4 = true) : doLeaseYieldRx k s = s :=
  if_pos hop

theorem doLeaseYieldRx_candidate (hop : k.u8 0 = 2) (hsender : bit (k.u8 1) 4 = false)
    (hfirst : s.firstCopy (leaseOrigin k) 0x1C (k.u16 16) = some u) (htwin : u.fromTwin k = true) (hheld : u.held 12 = false)
    (hstate : (u.noteTwin k).r .redState ≠ Red.candidate) (hholder : (u.noteTwin k).on .redHolder = false) :
    doLeaseYieldRx k s =
      ({ u.noteTwin k with red := { (u.noteTwin k).red with
        yieldFrame := some (k.u48 32), degraded := false } } : State).enterCandidate := by
  refine (if_neg (not_or.mpr ⟨not_not_intro hop, ne_true_of_eq_false hsender⟩)).trans ?_
  simp only [hfirst]
  exact (if_neg (by simp [htwin, hheld])).trans (if_neg (not_or.mpr ⟨hstate, ne_true_of_eq_false hholder⟩))

/-! ### The lease's time limits (R406, R409 to R411) -/

section
variable (hholder : s.on .redHolder = true) (hend : s.red.leaseEnd ≤ s.ftNs)
include hholder hend

theorem doLeaseEnd_lapses (hacks : s.acksNow.red.leaseEnd ≤ s.acksNow.ftNs) :
    doLeaseEnd s =
      let t := s.acksNow.cease Red.lapsed
      { t with red := { t.red with lapsedAt := some t.clk } } :=
  (if_pos ⟨hholder, hend⟩).trans (if_pos hacks)

/-- A grant that arrives in the cycle of the lease's end counts (Table 11.9). -/
theorem doLeaseEnd_granted (hacks : s.acksNow.ftNs < s.acksNow.red.leaseEnd) : doLeaseEnd s = s.acksNow :=
  (if_pos ⟨hholder, hend⟩).trans (if_neg (Nat.not_le.mpr hacks))

end

theorem doLeaseEnd_notDue (h : s.on .redHolder = false ∨ s.ftNs < s.red.leaseEnd) : doLeaseEnd s = s :=
  if_neg (fun ⟨hholder, hend⟩ => h.elim (fun hoff => ne_true_of_eq_false hoff hholder) (Nat.not_lt.mpr hend))

theorem doLeaseSilence_takes (hhead : s.isHead = true) (hbegun : s.red.begunAt.isSome = true) (hauto : s.r .redLeaseMode = 0)
    (hcandidate : s.r .redState ≠ Red.candidate) (hactive : s.r .redState ≠ Red.active) (hheld : s.held 12 = false)
    (hsilence : s.silence = true) (heligible : s.eligible = true) :
    doLeaseSilence s = { s with red := { s.red with taking := true, degraded := false } } := by
  refine (if_pos ⟨hhead, hbegun, hauto, hcandidate, hactive, by simp [hheld], .inl (by simp [hsilence, heligible])⟩).trans ?_
  rw [heligible]
  rfl

theorem doLeaseSilence_else (h : s.isHead = false ∨ s.red.begunAt = none ∨ s.r .redLeaseMode ≠ 0 ∨ s.r .redState = Red.candidate ∨
    s.r .redState = Red.active ∨ s.held 12 = true) : doLeaseSilence s = s := by
  refine if_neg (fun ⟨hhead, hbegun, hauto, hcandidate, hactive, hheld, _⟩ => ?_)
  rcases h with h | h | h | h | h | h
  · simp [h] at hhead
  · simp [h] at hbegun
  · exact h hauto
  · exact hcandidate h
  · exact hactive h
  · simp [h] at hheld

/-- The guard of a head that is neither CANDIDATE nor ACTIVE and would take the lease has ended (R410, R411, R420). -/
def State.guardEnds (s : State) : Prop :=
  s.isHead = true ∧ s.r .redState ≠ Red.candidate ∧ s.r .redState ≠ Red.active ∧ s.held 12 = false ∧
    ((s.red.taking = true ∧ s.r .redLeaseMode = 0) ∨ s.red.takeReq = true) ∧ s.guardOver = true

theorem doGuardEnd_enters (hhead : s.isHead = true) (hends : s.renewsNow.guardEnds) :
    doGuardEnd s = s.renewsNow.enterCandidate := by
  simp only [doGuardEnd, if_pos hhead, Bool.not_eq_true']
  exact if_pos hends

theorem doGuardEnd_waits (hhead : s.isHead = true) (hnot : ¬s.renewsNow.guardEnds) : doGuardEnd s = s.renewsNow := by
  simp only [doGuardEnd, if_pos hhead, Bool.not_eq_true']
  exact if_neg hnot

theorem doGuardEnd_tile (htile : s.isHead = false) : doGuardEnd s = s := by
  simp [doGuardEnd, htile]

theorem not_guardEnds (h : s.r .redState = Red.candidate ∨ s.r .redState = Red.active ∨ s.held 12 = true ∨
    (s.red.takeReq = false ∧ (s.red.taking = false ∨ s.r .redLeaseMode ≠ 0)) ∨ s.guardOver = false) : ¬s.guardEnds := by
  rintro ⟨-, hcandidate, hactive, hheld, hasks, hover⟩
  rcases h with h | h | h | ⟨hreq, hno⟩ | h
  · exact hcandidate h
  · exact hactive h
  · simp [h] at hheld
  · rcases hasks with ⟨htaking, hauto⟩ | hasked
    · exact hno.elim (fun h => ne_true_of_eq_false h htaking) (fun h => h hauto)
    · exact ne_true_of_eq_false hreq hasked
  · simp [h] at hover

theorem doRenewMissed_counts {t : Nat} (hheard : s.red.renewAt = some t) (hholder : s.on .redHolder = false)
    (hlate : t + 1000 * s.r .redRenewUs + 100000 ≤ s.clk) (hnew : s.on .redRenewMissed = false) :
    doRenewMissed s = (s.raise .redRenewMissed).count .redRenewsMissed := by
  simp only [doRenewMissed, hheard]
  exact if_pos ⟨by simp [hholder], hlate, by simp [hnew]⟩

theorem doRenewMissed_else (h : ¬∃ t, s.red.renewAt = some t ∧ s.on .redHolder = false ∧
    t + 1000 * s.r .redRenewUs + 100000 ≤ s.clk ∧ s.on .redRenewMissed = false) : doRenewMissed s = s := by
  unfold doRenewMissed
  split
  · next t hheard =>
    exact if_neg (fun ⟨hholder, hlate, hnew⟩ => h ⟨t, hheard, by simpa using hholder, hlate, by simpa using hnew⟩)
  · rfl

end

/-- Settles O48: each row is `event` of its operation, and each operation, past its guard, is the effect that its clause names. -/
theorem leaseEventsComplete : Obligations.LeaseEventsComplete := by
  unfold Obligations.LeaseEventsComplete
  refine ⟨?_, fun p k hp hop hsender u => ?_, fun p k hp hop hsender u => ?_, fun p k hp hop hsender u => ?_,
    fun p k hp hop hsender u => ?_, fun p k hop => ?_, fun k u e hop hexpiry => ?_, fun k => ?_, fun k u hop hsender => ?_,
    fun k hop => ?_, ?_, ?_, ?_, ?_, ?_, ?_, ?_, ?_, ?_, ?_⟩
  · exact doesOnly_of_guarded (fun _ => rfl) (fun _ => rfl) (fun _ => by simp)
  · exact does_of (exec_inRange hp (fun _ => rfl)) (fun _ _ ⟨hfirst, htile⟩ => doLeaseRenewRx_tile hop hsender hfirst htile)
  · exact does_of (exec_inRange hp (fun _ => rfl)) (fun _ _ ⟨hfirst, hhead, hother⟩ =>
      doLeaseRenewRx_notTwin hop hsender hfirst hhead hother)
  · exact does_of (exec_inRange hp (fun _ => rfl)) (fun _ _ ⟨hfirst, hhead, htwin, hignores⟩ =>
      doLeaseRenewRx_ignored hop hsender hfirst hhead htwin hignores)
  · exact does_of (exec_inRange hp (fun _ => rfl)) (fun _ _ ⟨hfirst, hhead, htwin, hheeds⟩ =>
      doLeaseRenewRx_heeded hop hsender hfirst hhead htwin hheeds)
  · refine does_of (d := fun s => if p < 4 then doLeaseRenewRx k s else s) (fun _ => rfl) (fun s _ _ => ?_)
    simp only [doLeaseRenewRx_otherOp hop, ite_self, id]
  · exact does_of (fun _ => rfl) (fun _ _ ⟨hhead, hfirst, htwin, hasked, hside, hwitness, hstill⟩ =>
      doLeaseAckRx_grants hhead hop hfirst htwin hasked hexpiry hside hwitness hstill)
  · exact does_of (fun _ => rfl) (fun _ _ => doLeaseAckRx_notHeeded)
  · exact does_of (fun _ => rfl) (fun _ _ ⟨hfirst, htwin, hheld, hstate, hholder⟩ =>
      doLeaseYieldRx_candidate hop hsender hfirst htwin hheld hstate hholder)
  · exact does_of (fun _ => rfl) (fun _ _ _ => doLeaseYieldRx_otherOp hop)
  · exact does_of (fun _ => rfl) (fun _ _ ⟨hholder, hend, hacks⟩ => doLeaseEnd_lapses hholder hend hacks)
  · exact does_of (fun _ => rfl) (fun _ _ ⟨hholder, hend, hacks⟩ => doLeaseEnd_granted hholder hend hacks)
  · exact does_of (fun _ => rfl) (fun _ _ => doLeaseEnd_notDue)
  · exact does_of (fun _ => rfl) (fun _ _ ⟨hhead, hbegun, hauto, hcandidate, hactive, hheld, hsilence, heligible⟩ =>
      doLeaseSilence_takes hhead hbegun hauto hcandidate hactive hheld hsilence heligible)
  · exact does_of (fun _ => rfl) (fun _ _ => doLeaseSilence_else)
  · exact does_of (fun _ => rfl) (fun _ _ ⟨hhead, hends⟩ => doGuardEnd_enters hhead hends)
  · exact does_of (fun _ => rfl) (fun _ _ ⟨hhead, hnot⟩ => doGuardEnd_waits hhead (not_guardEnds hnot))
  · exact does_of (fun _ => rfl) (fun _ _ => doGuardEnd_tile)
  · exact doesOnly_of_guarded (fun _ => rfl) (fun _ => rfl) (fun _ => by simp)
  · exact doesOnly_of (fun _ => rfl) (fun _ ⟨_, hheard, hholder, hlate, hnew⟩ => doRenewMissed_counts hheard hholder hlate hnew)
      (fun _ => doRenewMissed_else)

/-! ### Head claims (R421 to R426) -/

section
variable {s u : State} {k : Pkt}

theorem doHeadClaimRx_laterCopy (hlater : s.firstCopy (8192 + k.u32 4 % 2) 0x1D (k.u48 16 % 65536) = none) : doHeadClaimRx k s = s := by
  simp only [doHeadClaimRx, hlater]

section
variable (hfirst : s.firstCopy (8192 + k.u32 4 % 2) 0x1D (k.u48 16 % 65536) = some u)
include hfirst

/-- A head notes a claim of the other parity as its twin's. -/
theorem doHeadClaimRx_twin (hhead : u.isHead = true) (hparity : k.u32 4 % 2 = 1 ↔ u.isHeadB = false) :
    doHeadClaimRx k s = { u.w .redTwinClaim 0 (k.u32 4) with red := { u.red with
      twinHeard := true, twinClaim := k.u32 4, twinEpoch := k.u16 0, heardEpoch := max u.red.heardEpoch (k.u16 0) } } := by
  have hnotOwn : ¬((k.u32 4 % 2 == 1) == u.isHeadB) = true := by
    cases hside : u.isHeadB <;> simp [hparity, hside]
  simp only [doHeadClaimRx, hfirst, if_pos hhead]
  exact if_neg hnotOwn

section
variable (htile : u.isHead = false)
include htile

/-- R425: a claim below the live one of the same head is rejected. -/
theorem doHeadClaimRx_rejects (hlive : (u.red.claims.getD (k.u32 4 % 2) State.claim0).liveAt (u.r .redClaimHold) u.frameNow = true)
    (hbelow : pairLt (k.u16 0, k.u32 4) ((u.red.claims.getD (k.u32 4 % 2) State.claim0).epoch,
      (u.red.claims.getD (k.u32 4 % 2) State.claim0).claim) = true) :
    doHeadClaimRx k s = u.raise .redClaimRejected := by
  simp only [doHeadClaimRx, hfirst, if_neg (ne_true_of_eq_false htile)]
  exact if_pos ⟨hlive, hbelow⟩

/-- Where no claim of that head is live, the claim is recorded alone; a tile that has not stood down has nothing to relight. -/
theorem doHeadClaimRx_records (hdead : (u.red.claims.getD (k.u32 4 % 2) State.claim0).liveAt (u.r .redClaimHold) u.frameNow = false)
    (hlit : u.red.standdownAt = none) :
    doHeadClaimRx k s = { u with red := { u.red with claims := updAt u.red.claims (k.u32 4 % 2) (fun _ =>
      { epoch := k.u16 0, claim := k.u32 4, select := k.u64 8, apply := k.u48 16, oldEpoch := 0, oldClaim := 0, oldSelect := 0,
        lastFrame := u.frameNow, live := true }) } } := by
  simp only [doHeadClaimRx, hfirst, if_neg (ne_true_of_eq_false htile), hdead, hlit, Bool.false_and, Bool.false_eq_true, false_and,
    if_false]

end

end

/-! ### The copy of the clip store (R441 to R443) -/

theorem doResilverRx_notHeard (h : s.isHead = false ∨ k.src = s.id) : doResilverRx k s = s :=
  if_pos (h.imp_left (by simp [·]))

section
variable (hhead : s.isHead = true) (hother : k.src ≠ s.id)
include hhead hother

theorem resilver_heard : ¬((!s.isHead) = true ∨ k.src = s.id) := by simp [hhead, hother]

theorem doResilverRx_request (hop : k.u8 0 = 0)
    (hfirst : s.firstCopy (8192 + b2n (!s.isHeadB)) 0x1E (k.u32 16 % 8192 * 8 + 0) = some u) :
    doResilverRx k s = if u.on .redHolder then u.serveResilver else u.startResilver := by
  refine (if_neg (resilver_heard hhead hother)).trans ?_
  simp only [hop, Nat.reduceMod, hfirst]
  rfl

theorem doResilverRx_done (hop : k.u8 0 = 2)
    (hfirst : s.firstCopy (8192 + b2n (!s.isHeadB)) 0x1E (k.u32 16 % 8192 * 8 + 2) = some u) (hstate : u.r .redState = Red.resilver) :
    doResilverRx k s = u.ws [(.redState, Red.standby), (.redMirrorComplete, 1), (.redResilverLeft, 0)] := by
  refine (if_neg (resilver_heard hhead hother)).trans ?_
  simp only [hop, Nat.reduceMod, hfirst]
  exact if_pos hstate

theorem doResilverRx_asks (hop : k.u8 0 = 3)
    (hfirst : s.firstCopy (8192 + b2n (!s.isHeadB)) 0x1E (k.u32 16 % 8192 * 8 + 3) = some u)
    (hsound : u.granuleOk (k.u64 8 / 4096) = true) : doResilverRx k s = u.sendGranules [k.u64 8 / 4096] := by
  refine (if_neg (resilver_heard hhead hother)).trans ?_
  simp only [hop, Nat.reduceMod, hfirst]
  exact if_pos hsound

theorem doResilverRx_lost (hop : k.u8 0 = 4)
    (hfirst : s.firstCopy (8192 + b2n (!s.isHeadB)) 0x1E (k.u32 16 % 8192 * 8 + 4) = some u) :
    doResilverRx k s = (u.count .redResilverLost 0 (k.u32 4)).unlist (k.u64 8 / 4096) := by
  refine (if_neg (resilver_heard hhead hother)).trans ?_
  simp only [hop, Nat.reduceMod, hfirst]
  rfl

end

theorem doResilverPassDone_notReading (hidle : s.red.reading = false) : doResilverPassDone s = s :=
  if_pos (by simp [hidle])

/-- R442: with no granule dirty, the copy is complete. -/
theorem doResilverPassDone_clean (hreading : s.red.reading = true) (hclean : s.red.dirty = []) :
    doResilverPassDone s =
      let t := ({ s with net := { s.net with nextTransfer := s.net.nextTransfer + 1 } } : State).w .redPasses 0 (s.r .redPasses + 1)
      ({ t with red := { t.red with reading := false, dirty := [] } } : State).sendResilver 2 0 0 s.net.nextTransfer := by
  refine (if_neg (by simp [hreading])).trans (if_pos ?_)
  exact (congrArg (List.filter _) hclean).trans List.filter_nil

end

/-- Settles O49: each row is `event` of its operation, and each operation, past its guard, is the effect that its clause names. -/
theorem redundancyEventsComplete : Obligations.RedundancyEventsComplete := by
  unfold Obligations.RedundancyEventsComplete
  refine ⟨fun p k u hp => ?_, fun p k u hp => ?_, fun p k u hp => ?_, fun p k => ?_, ?_, fun k u hop => ?_, fun k u hop => ?_,
    fun k u hop => ?_, fun k u hop => ?_, fun k => ?_, ?_, ?_⟩
  · exact does_of (exec_inRange hp (fun _ => rfl)) (fun _ _ ⟨hfirst, hhead, hparity⟩ => doHeadClaimRx_twin hfirst hhead hparity)
  · exact does_of (exec_inRange hp (fun _ => rfl)) (fun _ _ ⟨hfirst, htile, hlive, hbelow⟩ =>
      doHeadClaimRx_rejects hfirst htile hlive hbelow)
  · exact does_of (exec_inRange hp (fun _ => rfl)) (fun _ _ ⟨hfirst, htile, hdead, hlit⟩ =>
      doHeadClaimRx_records hfirst htile hdead hlit)
  · refine does_of (d := fun s => if p < 4 then doHeadClaimRx k s else s) (fun _ => rfl) (fun s _ hlater => ?_)
    simp only [doHeadClaimRx_laterCopy hlater, ite_self, id]
  · exact doesOnly_of_guarded (fun _ => rfl) (fun _ => rfl) (fun _ => by simp)
  · exact does_of (fun _ => rfl) (fun _ _ ⟨hhead, hother, hfirst⟩ => doResilverRx_request hhead hother hop hfirst)
  · exact does_of (fun _ => rfl) (fun _ _ ⟨hhead, hother, hfirst, hstate⟩ => doResilverRx_done hhead hother hop hfirst hstate)
  · exact does_of (fun _ => rfl) (fun _ _ ⟨hhead, hother, hfirst, hsound⟩ => doResilverRx_asks hhead hother hop hfirst hsound)
  · exact does_of (fun _ => rfl) (fun _ _ ⟨hhead, hother, hfirst⟩ => doResilverRx_lost hhead hother hop hfirst)
  · exact does_of (fun _ => rfl) (fun _ _ => doResilverRx_notHeard)
  · exact does_of (fun _ => rfl) (fun _ _ => doResilverPassDone_notReading)
  · exact does_of (fun _ => rfl) (fun _ _ ⟨hreading, hclean⟩ => doResilverPassDone_clean hreading hclean)

end Sys2Proof.Machine

/-! PROOFS. One step of the block, and what keeps a host command from being carried out at all: a node that does not run (R511, R590), a
closed path (R622), a firmware restart (R561), a fence (R460, R461) and a bad header (R448 to R450, R483). -/

namespace Sys2Proof.Machine

/-! ### The three forms of a row -/

/-- The rows that reach a node that does not run: the supplies, the reset pin and JTAG (R511, R590). -/
def Instr.ReachesStopped (i : Instr) : Prop :=
  i = .backupEnter ∨ i = .vbakLoss ∨ (∃ role te ch, i = .powerOnReset role te ch) ∨ i = .powerOnResetAssert ∨
    (∃ low also, i = .pinReset low also) ∨ ∃ j, i = .jtagInstruction j

/-- What RAIL_LOW does: the flag of its rail set, and the rail noted (R603). -/
def doRailLow (rail : Nat) (s : State) : State :=
  match railLowFlag rail with
  | some f => { s.raise f with boot := { s.boot with railsLow := setBit s.boot.railsLow rail true } }
  | none => s

/-- Each row is a host command, an event, or an operation that reaches a stopped node, too. -/
theorem exec_form (i : Instr) : (∃ op act c, ∀ s, exec i s = .next (runHost op act c s)) ∨ (∃ d, ∀ s, exec i s = event d s) ∨
    (Instr.ReachesStopped i ∧ ∃ d, ∀ s, exec i s = always d s) := by
  cases i
  case sysIdent | sysStatus | sysPing | regRead | regWrite | eventSet | uploadWrite | logRead | sessionOpen | sessionClose |
    sessionRenew | sessionGet | abort | fabPortGet | fabPortSet | fabRestart | fabLoop | fabLaneGet | fabNodeGet | fabSetId |
    fabDiscover | fabTopoRead | fabGroupSet | fabRouteGet | fabLinkGet | fabTransitGet | fabFence | timeGet | timeSetSource |
    timeSetPeriod | timeSetAnchor | timeStep | timeSetTrim | timeSetHold | layerGet | layerSetVideo | layerSetGraphic |
    layerWriteGraphic | layerSetWindow | layerSetBg | layerSetGuard | commit | commitStatus | pSet | pWrite | pKey | wbSet | wbRing |
    frostGet | frostSet | layerGetCoef | cloverSet | cloverGet | streamGet | streamSetup | streamSetFrame | streamPlayClip |
    streamStop | dpSet | dpGet | clipInfo | clipAlloc | clipFree | clipWrite | clipRead | clipPins | clipSetWindow | colGet | colSet |
    coefLoad | coefRead | coefSave | coefCheck | zoneGet | scanGet | scanSetLanes | scanSetTiming | scanSetFeed | scanSetWindow |
    scanPlan | genlockSet | genlockGet | shutterSet | scanSetTrim | laneGet | laneRestart | laneReg | laneSetCurrent | laneSetCurmap |
    diagSet | diagSummary | diagReadMap | diagEvents | laneEcho | redGet | redSet | redHandover | redTakeover | redSetSelect |
    redClaim | redResilver | thmGet | thmSet | thmSensor | thmNeighSet | calRun | calRead | calWrite | calRefSet | fwGet | fwBegin |
    fwWrite | fwWriteData | fwSpread | fwActivate | fwConfirm | fwRevert | fwFallbackReq | settingsGet | settingsPut | settingsSave |
    traceSet | traceRead | pseSetService | tstRun | tstLoop | tstResult | tstCounters | frostExpect | pwrGet | pwrSet | rstGet |
    rstNode | rstBlock | aonRead | aonWrite | bootClear =>
    exact .inl ⟨_, _, _, fun _ => rfl⟩
  case bar0Write | ftNowRead | lowWordRead | mbxDoorbell | cqHeadWrite | fraddrWrite | bar4Write | bar4Read | restart | diagEventRead |
    traceCtrlWrite | watchdogExpire | lockupReset | clockFailureReset | pendingReleaseComplete | pendingReleaseTimeout |
    clockSourceRetry | pwrGoodChange | otpLoadDone | bootStepEnd | bootStepTimeout | bootStepRetry | autoShowEnter | roleSetLost |
    frameBoundary | latchPoint | ftTick | timeSyncSend | timeSyncRx | pdelayReqSend | pdelayReqRx | pdelayRespRx | ptpMessageRx |
    parentTimeout | refLost | holdLimitExpire | alignLimitExpire | timeReturnShow | refDisagreeTimer | genlockEdge | genlockMissed |
    shutterAssert | shutterDeassert | dpFrameComplete | dpModeReceived | dpLinkLoss | dpHoldExpire | sendWindowOpen | lineSlot |
    fraddrLatch | cxlLinkUp | arbiterGrant | burstCut | clipFreeComplete | streamPacketRx | frameCompleteRx | headPickRx |
    pickWaitExpire | gust | engineLull | taskComplete | engineOverrun | pDataWritten | coefCopyComplete | slotClearComplete |
    coefBlockReload | memoryScrub | wbDataRx | subUpdateStart | loadStart | probeStarvedTimer | laneTrainDone | laneReplyRx |
    laneReplyTimeout | laneRetryTimer | offerSend | offerRx | silentBurst | trainingWordRx | trainStageTimeout | signalLoss |
    lane0LockLoss | alignCheck | fecWindow | adaptTrigger | adaptResult | rateStep | packetRx | linkPacketRx | linkSend |
    egressSelect | replayTimeout | nakRepeat | linkEventRx | discoveryStart | discQueryRx | discReplyRx | discQueryTimeout |
    discAssignRx | bulkDataRx | routeSetRx | noRouteRx | fenceRx | fenceDoneRx | fenceTimeout | mbxCmdRx | mbxRspRx | relayTimeout |
    scheduledActivation | fencedCommandStart | udpDatagramRx | sessionLapse | commitPrepareRx | commitVoteRx | commitSealRx |
    commitAbandonRx | voteTimeout | preparedSetExpire | leaseRenewSend | leaseAckRx | leaseYieldRx | leaseEnd | leaseSilence |
    guardEnd | candidateTimeout | renewMissed | pairStanddown | resilverRx | resilverPassDone | thermalSample | calRunStart |
    calRunDone | firmwareRestart | firmwareRestartTimeout | fallbackReqRepeat | spreadPoll | spreadTimeout | testRunStart |
    testChunkDone | debugResponse | pcieLinkDown | cxlLinkDown | flashWriteComplete | resyncBlockRx =>
    exact .inr (.inl ⟨_, fun _ => rfl⟩)
  case rstCtrlNode key =>
    exact .inr (.inl ⟨fun s => s.bar0Reset (fun s => if key % 65536 = 0xD96A then s.resetNode 0x10 false else s), fun _ => rfl⟩)
  case rstCtrlWarm key =>
    exact .inr (.inl ⟨fun s => s.bar0Reset (fun s => if key % 65536 = 0xD96A then s.resetNode 0x20 true else s), fun _ => rfl⟩)
  case rstBlockWrite value => exact .inr (.inl ⟨fun s => s.bar0Reset (fun s => (s.writeBlocks true 0x3FFF value).2), fun _ => rfl⟩)
  case warmReset => exact .inr (.inl ⟨fun s => s.dueReset 1, fun _ => rfl⟩)
  case brownOutReset also => exact .inr (.inl ⟨fun s => s.resetNode (2 ||| also % 512) false, fun _ => rfl⟩)
  case railLow rail => exact .inr (.inl ⟨doRailLow rail, fun _ => rfl⟩)
  case leaseRenewRx p k => exact .inr (.inl ⟨fun s => if p < 4 then doLeaseRenewRx k s else s, fun _ => rfl⟩)
  case headClaimRx p k => exact .inr (.inl ⟨fun s => if p < 4 then doHeadClaimRx k s else s, fun _ => rfl⟩)
  case backupEnter => exact .inr (.inr ⟨.inl rfl, _, fun _ => rfl⟩)
  case vbakLoss => exact .inr (.inr ⟨.inr (.inl rfl), _, fun _ => rfl⟩)
  case powerOnReset => exact .inr (.inr ⟨.inr (.inr (.inl ⟨_, _, _, rfl⟩)), _, fun _ => rfl⟩)
  case powerOnResetAssert => exact .inr (.inr ⟨.inr (.inr (.inr (.inl rfl))), _, fun _ => rfl⟩)
  case pinReset => exact .inr (.inr ⟨.inr (.inr (.inr (.inr (.inl ⟨_, _, rfl⟩)))), _, fun _ => rfl⟩)
  case jtagInstruction => exact .inr (.inr ⟨.inr (.inr (.inr (.inr (.inr ⟨_, rfl⟩)))), _, fun _ => rfl⟩)

/-- Every row answers a next state. -/
theorem exec_safe (i : Instr) (s : State) : Safe (exec i s) := by
  obtain ⟨op, act, c, h⟩ | ⟨d, h⟩ | ⟨-, d, h⟩ := exec_form i
  · exact ⟨_, h s⟩
  · exact ⟨_, h s⟩
  · exact ⟨_, h s⟩

theorem step_front {c : Instr} {rest : List Instr} {s : State} (h : s.pending = c :: rest) :
    step s = exec c { s with pending := rest } := by
  simp only [step, h]

theorem step_idle {s : State} (h : s.pending = []) : step s = .next s := by
  simp only [step, h]

/-- Settles O52: the equation of `step` for each form of the queue. -/
theorem stepRunsTheFrontCommand : Obligations.StepRunsTheFrontCommand := by
  unfold Obligations.StepRunsTheFrontCommand
  exact ⟨fun _ _ _ => step_front, fun _ => step_idle⟩

/-- Settles O53: an idle step answers its own state, and the front command's row answers a next state. -/
theorem everyStepSafe : Obligations.EveryStepSafe := by
  unfold Obligations.EveryStepSafe
  intro s
  cases h : s.pending with
  | nil => exact ⟨s, step_idle h⟩
  | cons c rest =>
    rw [step_front h]
    exact exec_safe c _

/-- Settles O26: on a stopped node host commands and events only begin a step, and no other row is left. -/
theorem stoppedNodeDoesNothing : Obligations.StoppedNodeDoesNothing := by
  unfold Obligations.StoppedNodeDoesNothing
  intro i s hs hi
  obtain ⟨op, act, c, h⟩ | ⟨d, h⟩ | ⟨hr, -⟩ := exec_form i
  · exact (h s).trans (runHost_stopped op act c hs)
  · exact (h s).trans (event_stopped hs)
  · obtain rfl | rfl | ⟨_, _, _, rfl⟩ | rfl | ⟨_, _, rfl⟩ | ⟨_, rfl⟩ := hr <;> exact hi.elim

/-- Settles O55: each store of the reset state is empty or a short list of fields. -/
theorem resetCanonical : Obligations.ResetCanonical := by
  unfold Obligations.ResetCanonical
  constructor <;> decide +kernel

/-! ### Host commands that are not carried out -/

/-- Every host row is its opcode's action, run. -/
theorem exec_hostRow {p : HostRow} (hp : p ∈ hostRows) {t : State} {c : HostCmd} {s : State}
    (h : ∀ act, runHost p.1 act c s = t) : exec (p.2 c) s = .next t := by
  obtain ⟨act, hact⟩ := hostRows_exec p hp
  rw [hact, h act]

section
variable {op : Nat} {c : HostCmd} {s : State} (act : Action)

theorem withOpcode (h : c.opcode = op) : { c with opcode := op } = c := by rw [← h]

/-- A node that does not run, or that has no path open to the command, only begins a step. -/
theorem runHost_unheard (h : s.running = false ∨ ({ s with out := [] } : State).hears { c with opcode := op } = false) :
    runHost op act c s = { s with out := [] } :=
  if_pos (by
    have h' : ({ s with out := [] } : State).running = false ∨ ({ s with out := [] } : State).hears { c with opcode := op } = false := h
    simpa using h')

/-- During a firmware restart a command by PCIe stays posted, once, and any other is discarded and counted (R561). -/
theorem runHost_restarting (hop : c.opcode = op) (hrun : s.running = true) (hheard : s.hears c = true)
    (hrestart : s.fw.restartAt ≠ none) :
    runHost op act c s = { s with
      out := []
      mbx := if c.req = .pcie then { s.mbx with posted := s.mbx.posted.filter (fun d => !samePost c d) ++ [c] }
        else { s.mbx with discarded := s.mbx.discarded + 1 } } := by
  have hopen : ¬((!({ s with out := [] } : State).running || !({ s with out := [] } : State).hears c) = true) := by
    simpa using ⟨hrun, hheard⟩
  have hrestarting : ({ s with out := [] } : State).fw.restartAt.isSome = true := Option.isSome_iff_ne_none.mpr hrestart
  unfold runHost State.receive
  rw [withOpcode hop]
  refine (if_neg hopen).trans ((if_pos hrestarting).trans ?_)
  cases hreq : c.req with
  | pcie => rfl
  | udp _ _ => rfl
  | fabric _ => rfl

/-- A command that has to wait behind a fence is taken, and put behind those that wait (R460). -/
theorem runHost_waits (hop : c.opcode = op) (hrun : s.running = true) (hheard : s.hears c = true)
    (hrestart : s.fw.restartAt = none) (hlapse : s.lapsing = []) (hwait : s.mustWait op c = true) :
    runHost op act c s = { s.taken c with mbx := { (s.taken c).mbx with fenced := (s.taken c).mbx.fenced ++ [c] } } := by
  have hopen : ¬((!({ s with out := [] } : State).running || !({ s with out := [] } : State).hears c) = true) := by
    simpa using ⟨hrun, hheard⟩
  have hnone : ¬(({ s with out := [] } : State).fw.restartAt.isSome = true) := by simp [hrestart]
  have hkept : ({ s with out := [] } : State).lapseDue = { s with out := [] } := by
    have hl : ({ s with out := [] } : State).lapsing = [] := hlapse
    simp [State.lapseDue, hl]
  unfold runHost State.receive
  rw [withOpcode hop]
  refine (if_neg hopen).trans ((if_neg hnone).trans ?_)
  rw [hkept]
  exact if_pos hwait

/-- A header that Table 12.2 or a descriptor that Table 12.3 does not allow. -/
theorem headerBad_of (h : c.reserved ≠ 0 ∨ 16 ≤ c.flags ∨ 0x4000 ≤ c.target ∨ c.scope = 3 ∨
    (c.dma = true ∧ (c.req ≠ .pcie ∨ getLE c.payload 8 2 = 0 ∨ 512 < getLE c.payload 8 2))) : s.headerBad c = true := by
  obtain h | h | h | h | ⟨hdma, h | h | h⟩ := h
  · simp [State.headerBad, h]
  · simp [State.headerBad, h]
  · simp [State.headerBad, h]
  · simp [State.headerBad, h]
  · simp [State.headerBad, hdma, h]
  · simp [State.headerBad, hdma, h]
  · simp [State.headerBad, hdma, h]

/-- A bad header is answered before anything else is looked at. -/
theorem start_headerBad (h : s.headerBad c = true) : s.start op act c = s.final c Status.badArg := if_pos h

end

/-- Settles O1: the first test of every host command. -/
theorem unheardCommandDoesNothing : Obligations.UnheardCommandDoesNothing := by
  unfold Obligations.UnheardCommandDoesNothing
  exact fun _ hp _ _ h => exec_hostRow hp (fun act => runHost_unheard act h)

/-- Settles O2: the second test of every host command. -/
theorem restartHoldsOrDiscardsCommands : Obligations.RestartHoldsOrDiscardsCommands := by
  unfold Obligations.RestartHoldsOrDiscardsCommands
  exact fun _ hp _ _ hop hrun hheard hrestart => exec_hostRow hp (fun act => runHost_restarting act hop hrun hheard hrestart)

/-- Settles O3: each of the three reasons makes the command wait. -/
theorem fencedCommandsWait : Obligations.FencedCommandsWait := by
  unfold Obligations.FencedCommandsWait
  intro p hp c s hop hrun hheard hrestart hlapse hfence
  have hwait : s.mustWait p.1 c = true := by
    obtain h | h | ⟨h, hearlier⟩ := hfence
    · simp [State.mustWait, h]
    · simp [State.mustWait, h]
    · simp [State.mustWait, h, hearlier]
  exact exec_hostRow hp (fun act => runHost_waits act hop hrun hheard hrestart hlapse hwait)

/-- Settles O4: an earlier command open is enough for the opcode of COMMIT, whatever its fence flag. -/
theorem commitIsAlwaysFenced : Obligations.CommitIsAlwaysFenced := by
  unfold Obligations.CommitIsAlwaysFenced
  intro c s hop hrun hheard hrestart hlapse hearlier
  have hwait : s.mustWait 0x0407 c = true := by simp [State.mustWait, hearlier]
  have hp : ((0x0407, .commit) : HostRow) ∈ hostRows := by simp [hostRows]
  exact exec_hostRow hp (fun act => runHost_waits act hop hrun hheard hrestart hlapse hwait)

/-- Settles O5: a bad header is the first thing that a command which arrives is refused for. -/
theorem badHeaderAnsweredBadArg : Obligations.BadHeaderAnsweredBadArg := by
  unfold Obligations.BadHeaderAnsweredBadArg
  intro p hp c s h hbad
  refine answered_of_refuse false h.path (exec_hostRow hp (fun act => ?_))
  rw [runHost_arrives act h, start_headerBad act (headerBad_of hbad), final_eq_refusal]
  rfl

end Sys2Proof.Machine

/-! PROOFS. The system and session commands (Table 12.14), the doorbell (R451), and operands that are refused (R483). -/

namespace Sys2Proof.Machine

/-! ### System commands -/

section
variable {c : HostCmd} {s : State}

theorem actRegRead_reads (halign : c.u32 0 % 4 = 0) (hmin : 1 ≤ c.u8 4) (hmax : c.u8 4 ≤ 8) (hend : c.u32 0 + 4 * c.u8 4 ≤ 0x8000) :
    actRegRead c s = done (s.readWords (c.u32 0) (c.u8 4)).2 (s.readWords (c.u32 0) (c.u8 4)).1 :=
  if_neg (by omega)

/-- A write of any word but RST_CTRL ends with the value read back. -/
theorem actRegWrite_writes (halign : c.u32 0 % 4 = 0) (hend : c.u32 0 ≤ 0x7FFF) (hreset : c.u32 0 ≠ 0x104)
    (hfits : s.imageBreaks (c.u32 0) (c.u32 4) (c.u32 8) = false) :
    actRegWrite c s =
      let t := s.writeWord c.session (c.req == .pcie) false (c.u32 0) (c.u32 4) (c.u32 8)
      done t (leBytes 4 (t.bar0 (c.u32 0))) := by
  have hgood : ¬(c.u32 0 % 4 ≠ 0 ∨ 0x7FFF < c.u32 0 ∨ s.imageBreaks (c.u32 0) (c.u32 4) (c.u32 8) = true) := by
    simp [halign, Nat.not_lt.mpr hend, hfits]
  have hkeeps : ¬(c.u32 0 == 0x104 && (c.u32 4 &&& c.u32 8) % 65536 == 0xD96A &&
      (bit (c.u32 4 &&& c.u32 8) 31 || bit (c.u32 4 &&& c.u32 8) 30)) = true := by
    simp [hreset]
  exact (if_neg hgood).trans (if_neg hkeeps)

theorem isHead_of_hasClip (h : s.hasClip = true) : s.isHead = true := by
  simp only [State.hasClip, Bool.and_eq_true] at h
  exact h.1

theorem actUploadWrite_writes (hclip : s.hasClip = true) (hmin : 1 ≤ c.u8 4) (hmax : c.u8 4 ≤ 32) (hend : c.u32 0 + c.u8 4 ≤ uploadSize) :
    actUploadWrite c s =
      done { s with ing := { s.ing with upload := mwrite 0 s.ing.upload (c.u32 0) (getBytes c.body 8 (c.u8 4)) } } := by
  have hgood : ¬(c.u8 4 = 0 ∨ 32 < c.u8 4 ∨ uploadSize < c.u32 0 + c.u8 4 ∨ (!s.hasClip) = true) := by
    simp only [hclip, Bool.not_true, Bool.false_eq_true, or_false]
    omega
  exact (if_neg (by simp [isHead_of_hasClip hclip])).trans (if_neg hgood)

theorem actLogRead_reads (hcount : c.u16 10 ≤ 64) (hhost : s.hostOk (c.u64 0) = true) :
    actLogRead c s =
      let es := (s.mbx.log.drop (c.u16 8)).take (c.u16 10)
      done (s.hostWrite c (c.u64 0) (es.flatMap SessionLog.bytes)) (leBytes 2 es.length) :=
  if_neg (by simp [Nat.not_lt.mpr hcount, hhost])

end

/-- Settles O9: each command's action, past its refusals, is the effect that its clause names. -/
theorem systemCommandsComplete : Obligations.SystemCommandsComplete := by
  unfold Obligations.SystemCommandsComplete
  refine ⟨?_, ?_, ?_, ?_, ?_, ?_, ?_, ?_⟩
  · exact reads_of actSysIdent (fun _ _ => rfl) (fun _ _ _ _ => rfl)
  · exact reads_of actSysStatus (fun _ _ => rfl) (fun _ _ _ _ => rfl)
  · exact reads_of actSysPing (fun _ _ => rfl) (fun _ _ _ _ => rfl)
  · exact completes_of actRegRead (fun _ _ => rfl) (fun _ _ ⟨halign, hmin, hmax, hend⟩ => actRegRead_reads halign hmin hmax hend)
  · exact completes_of actRegWrite (fun _ _ => rfl)
      (fun _ _ ⟨halign, hend, hreset, hfits⟩ => actRegWrite_writes halign hend hreset hfits)
  · exact writes_of actEventSet (fun _ _ => rfl) (fun _ _ _ _ => rfl) (fun _ _ _ _ => List.pairwise_singleton _ _)
      (fun _ e he => by rw [List.mem_singleton.mp he]; exact ⟨nofun, nofun⟩)
  · exact completes_of actUploadWrite (fun _ _ => rfl)
      (fun _ _ ⟨hclip, hmin, hmax, hend⟩ => actUploadWrite_writes hclip hmin hmax hend)
  · exact fetches_of actLogRead (fun _ _ => rfl) (fun _ _ hcount hhost => actLogRead_reads hcount hhost)

/-! ### Session commands -/

section
variable {c : HostCmd} {s : State}

/-- The state after a session without an ID of its own is opened for a command (R463). -/
def State.sessionOpened (s : State) (c : HostCmd) : State :=
  { s with mbx := { s.mbx with
    sessions := s.mbx.sessions ++ [⟨s.localId, c.u16 0, s.ownerOf c, s.clk + 500000000, false⟩]
    nextLocal := s.localId % 0x7FFF + 1 } }

theorem actSessionOpen_opens (hid : c.u16 2 = 0) (hareas : c.u16 0 ≤ 0x7FF) (hroom : s.mbx.sessions.length < 16)
    (hfree : s.conflict (c.u16 0) = none) :
    actSessionOpen c s =
      { done (s.sessionOpened c) (leBytes 2 s.localId ++ leBytes 2 (c.u16 0) ++ [0, 0, 0, 0] ++ leBytes 8 (s.ftNs + 500000000)) with
        opened := some s.localId } := by
  have hgood : ¬(0x7FF < c.u16 0 ∨ (c.u16 2 ≠ 0 ∧ ¬(0x8000 ≤ c.u16 2 ∧ c.u16 2 ≤ 0xFFFE))) := by omega
  unfold actSessionOpen
  refine (if_neg hgood).trans ((if_neg (fun h => h.1 hid)).trans ((if_neg (fun h => h.1 hid)).trans
    ((if_neg (Nat.not_le.mpr hroom)).trans ?_)))
  simp only [hfree, hid, if_true, State.sessionOpened]
  simp [done, leBytes, byte, State.ftNs]

theorem actSessionClose_keeps {x : Session} (hown : s.ownSession c (c.u16 0) = .ok x) (hkeep : c.u8 2 = 0) :
    actSessionClose c s = done (s.closeKeep x) := by
  simp only [actSessionClose, hown, hkeep, if_true]

theorem actSessionClose_discards {x : Session} (hown : s.ownSession c (c.u16 0) = .ok x) (hdiscard : c.u8 2 ≠ 0) :
    actSessionClose c s = done (s.lapse x 2) := by
  simp only [actSessionClose, hown, hdiscard, if_false]

theorem actSessionRenew_renews {x : Session} (hown : s.ownSession c (c.u16 0) = .ok x) :
    actSessionRenew c s = done { s with mbx := { s.mbx with sessions := s.mbx.sessions.map (fun y =>
      if y.id = x.id then { y with expiry := s.clk + 500000000, owner := s.ownerOf c, rebind := false } else y) } }
      (leBytes 8 (s.ftNs + 500000000)) := by
  simp only [actSessionRenew, hown]

theorem actSessionGet_reads :
    actSessionGet c s = done s (leBytes 2 s.heldAreas ++
      (List.range 11).flatMap (fun a => leBytes 2 ((s.holderOf a).elim 0 (fun x => x.id))) ++ [byte s.mbx.sessions.length]) := by
  have hid (o : Option Session) : (o.map (fun x => x.id)).getD 0 = o.elim 0 (fun x => x.id) := by cases o <;> rfl
  simp only [actSessionGet, hid]

/-- ABORT of a scheduled command before its activation takes it out of its queue (Table 12.10). -/
theorem actAbort_scheduled {d : HostCmd} (hrelay : s.mbx.relays.find? (fun r => named c r.cmd) = none)
    (hfenced : s.mbx.fenced.find? (named c) = none) (hqueued : s.mbx.scheduled.find? (named c) = some d) (hahead : s.ftNs < d.activation) :
    actAbort c s = done (({ s with mbx := { s.mbx with scheduled := s.mbx.scheduled.erase d } } : State).final d Status.aborted) := by
  simp only [actAbort, hrelay, actAbortHere, hfenced, hqueued, Nat.not_le.mpr hahead, if_false]

end

theorem execSessionOpen_opens {c : HostCmd} {s : State} (h : Direct 0x0100 c s) (hid : c.u16 2 = 0) (hareas : c.u16 0 ≤ 0x7FF)
    (hroom : (s.taken c).mbx.sessions.length < 16) (hfree : (s.taken c).conflict (c.u16 0) = none) :
    ∃ t, exec (.sessionOpen c) s = .next t ∧
      Sent c t (finalOf c t Status.ok (leBytes 2 (s.taken c).localId ++ leBytes 2 (c.u16 0) ++ [0, 0, 0, 0] ++
        leBytes 8 (s.ftNs + 500000000)) (s.taken c).localId) ∧
      OnlyFields c ((s.taken c).sessionOpened c) t [] [] := by
  have hact := actSessionOpen_opens (c := c) hid hareas hroom hfree
  rw [taken_ftNs] at hact
  obtain ⟨hsent, hkept, -⟩ := conclude_done (c := c) (actSessionOpen c (s.taken c)) h.path (by rw [hact]; rfl) (by rw [hact]; rfl)
  refine ⟨conclude c true false (actSessionOpen c (s.taken c)), congrArg Host.Outcome.next (runHost_direct actSessionOpen h), ?_, ?_⟩
  · rw [hact] at hsent ⊢
    exact hsent
  · rw [hact] at hkept ⊢
    exact hkept

/-- Settles O10: each command's action, past its refusals, is the effect that its clause names. -/
theorem sessionCommandsComplete : Obligations.SessionCommandsComplete := by
  unfold Obligations.SessionCommandsComplete
  refine ⟨?_, fun x => ?_, fun x => ?_, fun x => ?_, ?_, fun d => ?_⟩
  · intro c s h hid hareas hroom hfree
    obtain ⟨t, he, hsent, hkept⟩ := execSessionOpen_opens h hid hareas hroom hfree
    refine ⟨t, he, hsent, ?_⟩
    rw [← taken_clk s c]
    exact hkept
  · exact completes_of actSessionClose (fun _ _ => rfl) (fun _ _ ⟨hown, hkeep⟩ => actSessionClose_keeps hown hkeep)
  · exact completes_of actSessionClose (fun _ _ => rfl) (fun _ _ ⟨hown, hdiscard⟩ => actSessionClose_discards hown hdiscard)
  · exact completes_of actSessionRenew (fun _ _ => rfl) (fun _ _ hown => actSessionRenew_renews hown)
  · exact reads_of actSessionGet (fun _ _ => rfl) (fun _ _ _ _ => actSessionGet_reads)
  · exact completes_of actAbort (fun _ _ => rfl)
      (fun _ _ ⟨hrelay, hfenced, hqueued, hahead⟩ => actAbort_scheduled hrelay hfenced hqueued hahead)

/-! ### The doorbell (R451) -/

section
variable {m n : Nat} {s : State}

theorem postSlot_busy (h : bit (s.r .mbxBusy) n = true) : s.postSlot n = s.raise .mbxDoorbellBusy := if_pos h

theorem postSlot_free (h : bit (s.r .mbxBusy) n = false) :
    s.postSlot n = { s.w .mbxBusy 0 (setBit (s.r .mbxBusy) n true) with mbx := { s.mbx with
      posted := s.mbx.posted ++ [HostCmd.ofBytes .pcie n 0 (mread 0 s.mbx.slots (0x80 * n) 64)] } } :=
  if_neg (by simp [h])

/-- A slot that is posted sets its own busy bit and no other. -/
theorem postSlot_free_busy (h : bit (s.r .mbxBusy) n = false) {k : Nat} (hk : k < 32) :
    bit ((s.postSlot n).r .mbxBusy) k = if k = n then true else bit (s.r .mbxBusy) k := by
  have hreg : (s.postSlot n).r .mbxBusy = setBit (s.r .mbxBusy) n true % 2 ^ FName.mbxBusy.width := by
    rw [postSlot_free h]
    exact r_w_same s .mbxBusy 0 _
  rw [hreg, show FName.mbxBusy.width = 32 from rfl, bit_mod _ _ _ hk, bit_setBit]

theorem postSlot_free_other (h : bit (s.r .mbxBusy) n = false) {f : FName} (i : Nat) (hf : f ≠ .mbxBusy) :
    (s.postSlot n).r f i = s.r f i := by
  rw [postSlot_free h]
  exact r_w_other s 0 i _ hf

section
variable (hheld : s.held 2 = false) (hup : s.mbx.pathsUp = true) (hrole : s.isHead = true ∨ s.inMin = true)
include hheld hup hrole

theorem doMbxDoorbell_posts (hrestart : s.fw.restartAt = none) :
    doMbxDoorbell m s = (((List.range 32).filter (bit m)).foldl State.postSlot s).answerUnknown := by
  have hheard : (s.isHead || s.inMin) = true := by simpa using hrole
  exact (if_neg (by simp [hheld])).trans ((if_neg (by simp [hup, hheard])).trans (if_neg (by simp [hrestart])))

theorem doMbxDoorbell_holds (hrestart : s.fw.restartAt ≠ none) :
    doMbxDoorbell m s = { s with mbx := { s.mbx with heldBells := s.mbx.heldBells ||| m % 2 ^ 32 } } := by
  have hheard : (s.isHead || s.inMin) = true := by simpa using hrole
  exact (if_neg (by simp [hheld])).trans
    ((if_neg (by simp [hup, hheard])).trans (if_pos (Option.isSome_iff_ne_none.mpr hrestart)))

end

/-- Where one command waits among those posted and the spec does not name its opcode, it is answered UNSUPPORTED (R484). -/
theorem answerUnknown_single {c : HostCmd} (hposted : s.mbx.posted = [c]) (hunknown : opcodeNamed c.opcode = false) :
    ({ s with out := [] } : State).answerUnknown = runHost c.opcode actUnknown c s := by
  have hfilter : ({ s with out := [] } : State).mbx.posted.filter (fun c => !opcodeNamed c.opcode) = [c] := by
    simp [hposted, hunknown]
  unfold State.answerUnknown
  rw [hfilter]
  rfl

theorem answerUnknown_named (h : ∀ c ∈ s.mbx.posted, opcodeNamed c.opcode = true) : s.answerUnknown = s := by
  have hfilter : s.mbx.posted.filter (fun c => !opcodeNamed c.opcode) = [] :=
    List.filter_eq_nil_iff.mpr (fun c hc => by simp [h c hc])
  unfold State.answerUnknown
  rw [hfilter]
  rfl

end

/-- Settles O29: the doorbell's fold posts its slots one by one; a slot posted and one that is busy have an equation each, and what a
posted command gets at once is that of its opcode. -/
theorem doorbellPostsSlots : Obligations.DoorbellPostsSlots := by
  unfold Obligations.DoorbellPostsSlots
  refine ⟨fun m => ?_, fun n s hn hfree => ⟨?_, fun k hk hlt => ?_, ?_, fun f i hf => ?_, ?_⟩, fun n s hbusy => ?_, fun m => ?_, ?_, ?_⟩
  · exact does_of (fun _ => rfl) (fun _ _ ⟨hheld, hup, hrole, hrestart⟩ => doMbxDoorbell_posts hheld hup hrole hrestart)
  · rw [postSlot_free_busy hfree hn, if_pos rfl]
  · rw [postSlot_free_busy hfree hlt, if_neg hk]
  · rw [postSlot_free hfree]
  · exact postSlot_free_other hfree i hf
  · rw [postSlot_free hfree]
    rfl
  · rw [postSlot_busy hbusy]
    exact ⟨raise_flagged s _ 0 (by decide) (by decide), raise_mbx _ _ _, fun f i hf hev => raise_r_other _ _ _ _ hf hev, raise_rest _ _ _⟩
  · exact does_of (fun _ => rfl) (fun _ _ ⟨hheld, hup, hrole, hrestart⟩ => doMbxDoorbell_holds hheld hup hrole hrestart)
  · intro c s h hunknown hposted
    obtain ⟨hsent, hkept, -⟩ := conclude_done (c := c) (refuse (s.taken c) Status.unsupported) h.path rfl rfl
    rw [answerUnknown_single hposted hunknown, runHost_direct actUnknown h]
    exact ⟨hsent, hkept⟩
  · exact fun s => answerUnknown_named

/-! ### Operands that are refused -/

/-- Settles O8: each command's first tests refuse these operands and states. -/
theorem operandRefusals : Obligations.OperandRefusals := by
  unfold Obligations.OperandRefusals
  refine ⟨?_, ?_, ?_, ?_, ?_, ?_, ?_, ?_, ?_, ?_, ?_, ?_, ?_, ?_, ?_, ?_, ?_, ?_, ?_, ?_, ?_⟩
  · exact refuses_of actRegRead (fun _ _ => rfl) (fun _ _ h => if_pos (by omega))
  · exact refuses_of actFabPortGet (fun _ _ => rfl) (fun _ _ h => if_pos h)
  · exact refuses_of actFabSetId (fun _ _ => rfl) (fun _ _ h => if_pos h)
  · exact refuses_of actFabDiscover (fun _ _ => rfl) (fun _ _ h => if_neg (by simp [h]))
  · exact refuses_of actFabFence (fun _ _ => rfl) (fun _ _ h => if_pos (.inr (.inr h)))
  · exact refuses_of actTimeSetPeriod (fun _ _ => rfl) (fun _ _ h => if_pos (by simp [h]))
  · exact refuses_of actTimeStep (fun _ _ => rfl) (fun _ _ h => if_pos (.inl (by simp [h])))
  · exact refuses_of actLayerSetVideo (fun _ _ => rfl) (fun _ _ h => if_pos (.inl h))
  · exact refuses_of actStreamSetFrame (fun _ _ => rfl) (fun _ _ h => if_pos (.inr (h.imp_right .inl)))
  · refine refuses_of actClipWrite (fun _ _ => rfl) (fun _ _ ⟨hbuf, hreach, hpin⟩ => (if_neg ?_).trans (if_pos hpin))
    simpa [hreach] using Option.isSome_iff_ne_none.mp hbuf
  · exact refuses_of actClipSetWindow (fun _ _ => rfl) (fun _ _ h => if_pos h)
  · exact refuses_of actZoneGet (fun _ _ => rfl) (fun _ _ h => if_pos h)
  · exact refuses_of actScanSetTrim (fun _ _ => rfl) (fun _ _ h => if_pos h)
  · exact refuses_of actLaneSetCurmap (fun _ _ => rfl) (fun _ _ h => if_pos h)
  · exact refuses_of actRedHandover (fun _ _ => rfl) (fun _ _ ⟨hlapse, hother⟩ => (if_neg hlapse).trans (if_pos (by simp [hother])))
  · exact refuses_of actRedHandover (fun _ _ => rfl) (fun _ _ h => if_pos h)
  · exact refuses_of actThmNeighSet (fun _ _ => rfl) (fun _ _ h => if_pos h)
  · exact refuses_of actFwConfirm (fun _ _ => rfl) (fun _ _ ⟨hflash, htrial⟩ => (if_pos hflash).trans (if_pos (.inl (by simp [htrial]))))
  · exact refuses_of actTstResult (fun _ _ => rfl) (fun _ _ h => if_pos h)
  · refine refuses_of actPwrSet (fun _ _ => rfl) (fun c s ⟨hshow, hnot, hbad⟩ =>
      (if_pos hshow).trans ((if_neg (by simp [hnot])).trans (if_pos ?_)))
    simpa [hnot] using hbad
  · exact refuses_of actRstNode (fun _ _ => rfl) (fun _ _ h => if_pos h)

end Sys2Proof.Machine

/-! PROOFS. Accesses of the BARs (R487, R49, R456, R106, R113, R494), the writes that reset the node, its blocks and its ports (R333, R489,
R497), and the commands of groups 0x0E and 0x0F (Table 13.12). -/

namespace Sys2Proof.Machine

/-! ### Accesses of the BARs -/

section
variable {s : State} (hup : s.pcieUp = true)
include hup

theorem doBar0Write_narrow {n : Nat} (off v : Nat) (hn : n < 4) : doBar0Write off n v s = s.raise .mbxBarNarrow :=
  (if_neg (by simp [hup])).trans (if_pos hn)

/-- An aligned write of 4 bytes is one word; one of 8 is two. -/
theorem doBar0Write_aligned {off n : Nat} (v : Nat) (hn : 4 ≤ n) (halign : off % 4 = 0) :
    doBar0Write off n v s = if n = 8 then (s.hostWord off (v % 2 ^ 32)).hostWord (off + 4) (v / 2 ^ 32 % 2 ^ 32)
      else s.hostWord off (v % 2 ^ 32) :=
  (if_neg (by simp [hup])).trans ((if_neg (Nat.not_lt.mpr hn)).trans (if_neg (not_not_intro halign)))

theorem doFtNowRead_latches :
    doFtNowRead s = ({ s with mbx := { s.mbx with ftLatch := s.time.ft } } : State).emit (.readData (leBytes 4 s.ftNs)) :=
  if_neg (by simp [hup])

theorem doLowWordRead_reads {off : Nat} (hlow : isLowWord off = true) :
    doLowWordRead off s = (s.readWord off).2.emit (.readData (leBytes 4 (s.readWord off).1)) :=
  if_neg (by simp [hup, hlow])

theorem doCqHeadWrite_drains (v : Nat) : doCqHeadWrite v s = State.drain s.mbx.heldFinals.length (s.w .mbxCqHead 0 v) :=
  if_neg (by simp [hup])

theorem doFraddrWrite_stores {i : Nat} (v : Nat) (hi : i ≤ 15) (hheld : s.held 0 = false) (hlock : s.lockedAt 0x808 = false) :
    doFraddrWrite i v s = s.store true .ingFraddr i (v % 2 ^ 41) :=
  (if_neg (by simp [hup, Nat.not_lt.mpr hi])).trans ((if_neg (by simp [hheld])).trans (if_neg (by simp [hlock])))

section
variable {off csa : Nat} {l : List Byte} (hcsa : s.bar4Csa off l.length = some csa)
include hcsa

theorem doBar4Write_writes (hpin : s.pinned csa l.length = false) : doBar4Write off l s = s.clipWrite csa l := by
  simp [doBar4Write, hup, hcsa, hpin]

theorem doBar4Write_pinned (hpin : s.pinned csa l.length = true) :
    doBar4Write off l s = ((s.w .cxlPinLogCsa 0 csa).count .cxlPinRefusals).emit (.pcieError 0) := by
  simp [doBar4Write, hup, hcsa, hpin]

end

theorem doBar4Read_reads {off n csa : Nat} (hcsa : s.bar4Csa off n = some csa) (hclean : s.firstPoison csa n = none) :
    doBar4Read off n s = s.emit (.readData (s.clipRead csa n)) := by
  simp [doBar4Read, hup, hcsa, hclean]

theorem doBar4Read_outside {off n : Nat} (hcsa : s.bar4Csa off n = none) : doBar4Read off n s = s.emit (.pcieError 1) := by
  simp [doBar4Read, hup, hcsa]

theorem doDiagEventRead_removes (hheld : s.held 10 = false) :
    doDiagEventRead s =
      let t := s.emit (.readData (leBytes 4 (s.bar0 0x2B20)))
      { t with lan := { t.lan with events := t.lan.events.drop 1 } } :=
  (if_neg (by simp [hup])).trans (if_neg (by simp [hheld]))

theorem doTraceCtrlWrite_writes {off : Nat} (v : Nat) (hoff : off = 0x1440 ∨ off = 0x1444) :
    doTraceCtrlWrite off v s = s.writeWord 0 true (s.lockedAt off) off 0xFFFFFFFF (v % 2 ^ 32) := by
  refine if_neg ?_
  rintro (h | ⟨h0, h4⟩)
  · simp [hup] at h
  · exact hoff.elim h0 h4

end

/-- Settles O27: each row is `event` of its operation, and each operation, past its guard, is the effect that its clause names. -/
theorem barAccessesComplete : Obligations.BarAccessesComplete := by
  unfold Obligations.BarAccessesComplete
  refine ⟨?_, ?_, ?_, ?_, ?_, ?_, ?_, ?_, ?_, ?_, ?_, ?_, ?_, ?_⟩
  · exact fun off n v hn => does_of (fun _ => rfl) (fun _ _ hup => doBar0Write_narrow hup off v hn)
  · exact fun off v halign => does_of (fun _ => rfl)
      (fun _ _ hup => (doBar0Write_aligned hup v (by decide) halign).trans (if_neg (by decide)))
  · exact fun off v halign => does_of (fun _ => rfl)
      (fun _ _ hup => (doBar0Write_aligned hup v (by decide) halign).trans (if_pos rfl))
  · exact does_of (fun _ => rfl) (fun _ _ => doFtNowRead_latches)
  · exact fun off hlow => does_of (fun _ => rfl) (fun _ _ hup => doLowWordRead_reads hup hlow)
  · refine fun v => does_of (fun _ => rfl) (fun s _ ⟨hup, hnone⟩ => ?_)
    rw [doCqHeadWrite_drains hup, hnone]
    rfl
  · exact fun v => does_of (fun _ => rfl) (fun _ _ hup => doCqHeadWrite_drains hup v)
  · exact fun i v hi => does_of (fun _ => rfl) (fun _ _ ⟨hup, hheld, hlock⟩ => doFraddrWrite_stores hup v hi hheld hlock)
  · exact fun off l csa => does_of (fun _ => rfl) (fun _ _ ⟨hup, hcsa, hpin⟩ => doBar4Write_writes hup hcsa hpin)
  · exact fun off l csa => does_of (fun _ => rfl) (fun _ _ ⟨hup, hcsa, hpin⟩ => doBar4Write_pinned hup hcsa hpin)
  · exact fun off n csa => does_of (fun _ => rfl) (fun _ _ ⟨hup, hcsa, hclean⟩ => doBar4Read_reads hup hcsa hclean)
  · exact fun off n => does_of (fun _ => rfl) (fun _ _ ⟨hup, hcsa⟩ => doBar4Read_outside hup hcsa)
  · exact does_of (fun _ => rfl) (fun _ _ ⟨hup, hheld⟩ => doDiagEventRead_removes hup hheld)
  · exact fun off v hoff => does_of (fun _ => rfl) (fun _ _ hup => doTraceCtrlWrite_writes hup v hoff)

/-! ### Writes that reset -/

section
variable {s : State} {p : Nat}

section
variable (hp : p < 4) (hup : s.pcieUp = true)
include hp hup

theorem doRestart_held (hheld : s.held (4 + p) = true) : doRestart p s = s.raise .rstRetry :=
  (if_neg (by simp [hup, Nat.not_le.mpr hp])).trans (if_pos hheld)

theorem doRestart_free (hheld : s.held (4 + p) = false) :
    doRestart p s = if (s.holderOf 6).isSome then s.raise .mbxBarLocked else s.restartPort p :=
  (if_neg (by simp [hup, Nat.not_le.mpr hp])).trans (if_neg (by simp [hheld]))

end

/-- A write to area 10 that no session locks out does what it asks for. -/
theorem bar0Reset_acts (f : State → State) (hup : s.pcieUp = true) (hfree : s.holderOf 10 = none) : s.bar0Reset f = f s :=
  (if_neg (by simp [hup])).trans (if_neg (by simp [hfree]))

theorem dueReset_warm {t : Nat} (hdue : s.boot.rstDue = some (1, t)) :
    s.dueReset 1 = if t ≤ s.clk then s.resetNode 0x20 true else s := by
  simp [State.dueReset, hdue]

end

/-- Settles O28: each row is `event` of its operation, and each operation, past its locks, is the effect that its clause names. -/
theorem resetWritesComplete : Obligations.ResetWritesComplete := by
  unfold Obligations.ResetWritesComplete
  refine ⟨?_, ?_, ?_, ?_, ?_, ?_, ?_, ?_, ?_, ?_⟩
  · exact fun p hp => does_of (fun _ => rfl) (fun _ _ ⟨hup, hheld, hfree⟩ =>
      (doRestart_free hp hup hheld).trans (if_neg (by simp [hfree])))
  · exact fun p hp => does_of (fun _ => rfl) (fun _ _ ⟨hup, hheld⟩ => doRestart_held hp hup hheld)
  · exact fun p hp => does_of (fun _ => rfl) (fun _ _ ⟨hup, hheld, hlock⟩ =>
      (doRestart_free hp hup hheld).trans (if_pos (Option.isSome_iff_ne_none.mpr hlock)))
  · exact fun k hk => does_of (d := fun s => s.bar0Reset (fun s => if k % 65536 = 0xD96A then s.resetNode 0x10 false else s))
      (fun _ => rfl) (fun _ _ ⟨hup, hfree⟩ => (bar0Reset_acts _ hup hfree).trans (if_pos hk))
  · exact fun k hk => does_of (d := fun s => s.bar0Reset (fun s => if k % 65536 = 0xD96A then s.resetNode 0x10 false else s))
      (fun _ => rfl) (fun _ _ ⟨hup, hfree⟩ => (bar0Reset_acts _ hup hfree).trans (if_neg hk))
  · exact fun k hk => does_of (d := fun s => s.bar0Reset (fun s => if k % 65536 = 0xD96A then s.resetNode 0x20 true else s))
      (fun _ => rfl) (fun _ _ ⟨hup, hfree⟩ => (bar0Reset_acts _ hup hfree).trans (if_pos hk))
  · exact fun k hk => does_of (d := fun s => s.bar0Reset (fun s => if k % 65536 = 0xD96A then s.resetNode 0x20 true else s))
      (fun _ => rfl) (fun _ _ ⟨hup, hfree⟩ => (bar0Reset_acts _ hup hfree).trans (if_neg hk))
  · exact fun v => does_of (d := fun s => s.bar0Reset (fun s => (s.writeBlocks true 0x3FFF v).2))
      (fun _ => rfl) (fun _ _ ⟨hup, hfree⟩ => bar0Reset_acts _ hup hfree)
  · exact fun t => does_of (d := fun s => s.dueReset 1) (fun _ => rfl) (fun _ _ ⟨hdue, hcome⟩ => (dueReset_warm hdue).trans (if_pos hcome))
  · exact fun t => does_of (d := fun s => s.dueReset 1) (fun _ => rfl)
      (fun _ _ ⟨hdue, hahead⟩ => (dueReset_warm hdue).trans (if_neg (Nat.not_le.mpr hahead)))

/-! ### The commands of groups 0x0E and 0x0F -/

section
variable {c : HostCmd} {s : State}

/-- What PWR_SET does first: commands that wait for Show are aborted, and auto_show is set. -/
def State.powerAsked (s : State) (c : HostCmd) : State := (s.completeAll isShowWait Status.aborted).setAutoShow (c.u8 1)

/-- A node in Standby is not in Show. -/
theorem notShow_of_standby (h : s.inStandby = true) : s.inShow = false := by
  simp only [State.inStandby, beq_iff_eq] at h
  simp [State.inShow, h]

theorem actPwrSet_show (hst : c.u8 0 = 4) (hfrom : s.inStandby = true ∨ (s.inShow = true ∧ s.boot.leaveShow = true))
    (hrole : s.roleHolds = true) (hdark : s.darkTest = false) (hhot : s.on .thmShutdownHold = false) :
    actPwrSet c s = accept (s.powerAsked c) (.show_ (max (c.u64 8) s.nextFrame)) := by
  have hgoes : ¬(s.inShow = true ∧ (!s.boot.leaveShow) = true) := by
    obtain h | ⟨-, h⟩ := hfrom
    · simp [notShow_of_standby h]
    · simp [h]
  have hready : ¬(((!s.inStandby) = true ∧ (!s.inShow) = true) ∨ (!s.roleHolds) = true ∨ s.darkTest = true ∨
      s.on .thmShutdownHold = true) := by
    obtain h | ⟨h, -⟩ := hfrom
    · simp [h, hrole, hdark, hhot]
    · simp [h, hrole, hdark, hhot]
  exact (if_pos hst).trans ((if_neg hgoes).trans (if_neg hready))

theorem actPwrSet_standby_fromShow (hst : c.u8 0 = 3) (hshow : s.inShow = true) :
    actPwrSet c s = done ((s.powerAsked c).goTo false) :=
  (if_neg (by omega)).trans ((if_pos hst).trans (if_pos hshow))

theorem actPwrSet_min_fromShow (hst : c.u8 0 = 2) (hshow : s.inShow = true) : actPwrSet c s = done ((s.powerAsked c).goTo true) :=
  (if_neg (by omega)).trans ((if_neg (by omega)).trans ((if_pos hst).trans (if_pos hshow)))

/-- A node that is already where PWR_SET sends it stays there. -/
theorem actPwrSet_there (h : (c.u8 0 = 4 ∧ s.inShow = true ∧ s.boot.leaveShow = false) ∨
    (c.u8 0 = 3 ∧ s.inShow = false ∧ s.inStandby = true) ∨ (c.u8 0 = 2 ∧ s.inShow = false ∧ s.inStandby = false)) :
    actPwrSet c s = done (s.powerAsked c) := by
  obtain ⟨hst, hshow, hstays⟩ | ⟨hst, hshow, hstandby⟩ | ⟨hst, hshow, hstandby⟩ := h
  · exact (if_pos hst).trans (if_pos (by simp [hshow, hstays]))
  · exact (if_neg (by omega)).trans ((if_pos hst).trans ((if_neg (by simp [hshow])).trans (if_pos hstandby)))
  · exact (if_neg (by omega)).trans ((if_neg (by omega)).trans ((if_pos hst).trans
      ((if_neg (by simp [hshow])).trans (if_neg (by simp [hstandby])))))

theorem actPwrSet_min_fromStandby (hst : c.u8 0 = 2) (hshow : s.inShow = false) (hstandby : s.inStandby = true) :
    actPwrSet c s = done ((s.powerAsked c).enterState 2) :=
  (if_neg (by omega)).trans ((if_neg (by omega)).trans ((if_pos hst).trans ((if_neg (by simp [hshow])).trans (if_pos hstandby))))

theorem actPwrSet_standby_fromMin (hst : c.u8 0 = 3) (hshow : s.inShow = false) (hstandby : s.inStandby = false)
    (hrole : s.roleHolds = true) (hready : s.boot.reached = 0x1F ∨ s.on .sysRoleActive = true) :
    actPwrSet c s = done ((s.powerAsked c).enterState 3) :=
  (if_neg (by omega)).trans ((if_pos hst).trans ((if_neg (by simp [hshow])).trans
    ((if_neg (by simp [hstandby])).trans (if_pos ⟨hrole, hready⟩))))

theorem actRstNode_due (hkind : c.u8 0 ≤ 1) : actRstNode c s = done { s with boot := { s.boot with rstDue := some (s.rstSoon (c.u8 0)) } } :=
  if_neg (Nat.not_lt.mpr hkind)

theorem actRstBlock_ok (h : (s.writeBlocks (c.req == .pcie) (c.u32 0) (c.u32 4)).1 = Status.ok) :
    actRstBlock c s = done (s.writeBlocks (c.req == .pcie) (c.u32 0) (c.u32 4)).2 :=
  (if_neg (by rw [h]; decide)).trans (if_pos h)

theorem actRstBlock_accepted (h : (s.writeBlocks (c.req == .pcie) (c.u32 0) (c.u32 4)).1 = Status.accepted) :
    actRstBlock c s = accept (s.writeBlocks (c.req == .pcie) (c.u32 0) (c.u32 4)).2 .block :=
  if_pos h

theorem actAonRead_reads {l : List Byte} (h : s.aonBytes (c.u8 0) (c.u16 2) (c.u8 4) = some l) : actAonRead c s = done s l := by
  simp only [actAonRead, h]

section
variable (hmin : c.u8 4 ≠ 0) (hmax : c.u8 4 ≤ 32)
include hmin hmax

theorem actAonWrite_scratch (harea : c.u8 0 = 0) (hfrom : 0x20 ≤ c.u16 2) (hend : c.u16 2 + c.u8 4 ≤ 0x40) :
    actAonWrite c s =
      done ((getBytes c.body 8 (c.u8 4)).zipIdx.foldl (fun s p => s.scratchByte (c.u16 2 - 0x20 + p.2) p.1) s) :=
  (if_neg (by omega)).trans (if_pos ⟨harea, hfrom, hend⟩)

theorem actAonWrite_retained (harea : c.u8 0 = 1) (hfrom : 0xC00 ≤ c.u16 2) (hend : c.u16 2 + c.u8 4 ≤ 0x1000) :
    actAonWrite c s =
      done { s with boot := { s.boot with retained := mwrite 0 s.boot.retained (c.u16 2) (getBytes c.body 8 (c.u8 4)) } } :=
  (if_neg (by omega)).trans ((if_neg (by omega)).trans (if_pos ⟨harea, hfrom, hend⟩))

end

end

/-- Settles O25: each command's action, past its refusals, is the effect that its clause names. -/
theorem powerResetCommandsComplete : Obligations.PowerResetCommandsComplete := by
  unfold Obligations.PowerResetCommandsComplete
  refine ⟨?_, ?_, ?_, ?_, ?_, ?_, ?_, ?_, ?_, ?_, ?_, fun l => ?_, ?_, ?_, ?_⟩
  · exact reads_of actPwrGet (fun _ _ => rfl) (fun _ _ _ _ => rfl)
  · exact accepts_of actPwrSet (fun _ _ => rfl)
      (fun _ _ ⟨hst, hfrom, hrole, hdark, hhot⟩ => actPwrSet_show hst hfrom hrole hdark hhot)
  · exact completes_of actPwrSet (fun _ _ => rfl) (fun _ _ ⟨hst, hshow⟩ => actPwrSet_standby_fromShow hst hshow)
  · exact completes_of actPwrSet (fun _ _ => rfl) (fun _ _ ⟨hst, hshow⟩ => actPwrSet_min_fromShow hst hshow)
  · exact completes_of actPwrSet (fun _ _ => rfl) (fun _ _ => actPwrSet_there)
  · exact completes_of actPwrSet (fun _ _ => rfl) (fun _ _ ⟨hst, hshow, hstandby⟩ => actPwrSet_min_fromStandby hst hshow hstandby)
  · exact completes_of actPwrSet (fun _ _ => rfl)
      (fun _ _ ⟨hst, hshow, hstandby, hrole, hready⟩ => actPwrSet_standby_fromMin hst hshow hstandby hrole hready)
  · exact reads_of actRstGet (fun _ _ => rfl) (fun _ _ _ _ => rfl)
  · exact completes_of actRstNode (fun _ _ => rfl) (fun _ _ hkind => actRstNode_due hkind)
  · exact completes_of actRstBlock (fun _ _ => rfl) (fun _ _ => actRstBlock_ok)
  · exact accepts_of actRstBlock (fun _ _ => rfl) (fun _ _ => actRstBlock_accepted)
  · exact reads_of actAonRead (fun _ _ => rfl) (fun _ s _ h => actAonRead_reads h)
  · exact completes_of actAonWrite (fun _ _ => rfl)
      (fun _ _ ⟨hmin, hmax, harea, hfrom, hend⟩ => actAonWrite_scratch hmin hmax harea hfrom hend)
  · exact completes_of actAonWrite (fun _ _ => rfl)
      (fun _ _ ⟨hmin, hmax, harea, hfrom, hend⟩ => actAonWrite_retained hmin hmax harea hfrom hend)
  · exact completes_of actBootClear (fun _ _ => rfl) (fun _ _ _ => rfl)

end Sys2Proof.Machine

/-! PROOFS. Clock failures, rails and boot (R495, R496, R500 to R515, R603, R609), and what a reset of the node sets and keeps (R489, R490,
Tables 13.1 and 13.2). -/

namespace Sys2Proof.Machine

/-! ### What a change of some registers leaves of the role -/

theorem isHead_congr {s t : State} (h : t.r .sysRoleStrap = s.r .sysRoleStrap) : t.isHead = s.isHead := by
  simp only [State.isHead, h]

theorem raise_boot (s : State) (f : FName) (i : Nat) : (s.raise f i).boot = s.boot := by rw [raise_parts]

/-! ### Clocks -/

section
variable {s : State} {b d : Nat}

theorem doPendingReleaseComplete_frees (hb : b < 14) (hpending : bit (s.r .rstPending) b = true) (hruns : s.blockRuns b = true) :
    doPendingReleaseComplete b s = s.freeBlock b :=
  if_pos ⟨hpending, hb, hruns⟩

/-- A release that has waited 1 ms completes, waits for a clock of this cycle, or fails the domains it misses (R495). -/
theorem doPendingReleaseTimeout_due {t : Nat} (hwaits : s.boot.pendings.find? (fun p => p.1 = b) = some (b, t))
    (hdue : t + 1000000 ≤ s.clk) :
    doPendingReleaseTimeout b s = if s.blockRuns b then s.freeBlock b else if s.stillMissing b = [] then s
      else (s.stillMissing b).foldl State.failDomain (s.holdBlock b) := by
  simp only [doPendingReleaseTimeout, hwaits]
  exact if_neg (Nat.not_lt.mpr hdue)

/-- A tile stops no domain below 20. -/
theorem stopped_low (hd : d < 20) : s.stopped d = false := by
  have h28 : ¬(28 ≤ d ∧ d ≤ 32) := by omega
  have h34 : d ≠ 34 := by omega
  have h33 : d ≠ 33 := by omega
  simp [State.stopped, h28, h34, h33]

theorem noteTry_good (g : Bool) : (s.noteTry d g).good d = s.good d := rfl

theorem doClockSourceRetry_low (g : Bool) (hd : d < 20) (hdue : s.retryDue d = true) :
    doClockSourceRetry d g s =
      if g then (((s.noteTry d g).clockReturns d).settleReleases).noteRole else s.noteTry d g := by
  have hnot39 : d ≠ 39 := by omega
  have hgoes : ¬(39 < d ∨ s.stopped d = true ∨ (!s.retryDue d) = true) := by
    simp only [stopped_low hd, hdue, Bool.not_true, Bool.false_eq_true, or_false]
    omega
  exact (if_neg hnot39).trans (if_neg hgoes)

/-- The return of a clock below 20 lets the firmware release the domain's blocks (R496). -/
theorem clockReturns_low (hd : d < 20) (hgood : s.good d = false) :
    s.clockReturns d = ((failureBlocks d).filter (fun b => bit (s.r .rstBlock) b)).foldl State.releaseBlock (s.setGood d true) :=
  (if_neg (by omega)).trans ((if_neg (by omega)).trans (if_neg (by simp [hgood])))

theorem doClockSourceRetry_early (g : Bool) (hd : d ≠ 39) (hearly : s.retryDue d = false) : doClockSourceRetry d g s = s :=
  (if_neg hd).trans (if_pos (.inr (.inr (by simp [hearly]))))

theorem doRailLow_raises {rail : Nat} {f : FName} (h : railLowFlag rail = some f) :
    doRailLow rail s = { s.raise f with boot := { (s.raise f).boot with railsLow := setBit s.boot.railsLow rail true } } := by
  simp only [doRailLow, h, raise_boot]

end

/-! ### PWR_GOOD_IN -/

section
variable {s : State} {n : Nat}

/-- PWR_GOOD_IN as it is shown, pwr_fail set where it falls (R609). -/
def State.powerShown (s : State) (level : Bool) : State :=
  (s.w .sysPwrGood 0 (b2n level)).raiseIf (!level && s.on .sysPwrGood) .sysPwrFail

theorem powerShown_isHead (s : State) (level : Bool) : (s.powerShown level).isHead = s.isHead := by
  refine isHead_congr ?_
  unfold State.powerShown
  rw [raiseIf_r_other (g := .sysRoleStrap) _ _ _ _ _ (by decide) (by decide),
    r_w_other (f := .sysPwrGood) (g := .sysRoleStrap) _ _ _ _ (by decide)]

section
variable (hn : 1000 ≤ n)
include hn

theorem doPwrGoodChange_tile (level : Bool) (h : s.isHead = false) : doPwrGoodChange level n s = s.powerShown level :=
  (if_neg (Nat.not_lt.mpr hn)).trans (if_pos (by
    show (!(s.powerShown level).isHead) = true
    simp [powerShown_isHead, h]))

theorem doPwrGoodChange_head (level : Bool) (h : s.isHead = true) :
    doPwrGoodChange level n s =
      let t := (s.powerShown level).setHealth 0 (!level)
      let t := if level then t else { t with red := { t.red with powerFell := some t.clk } }
      if !level ∧ t.on .redHolder ∧ t.r .redLeaseMode = 0 then t.yield_ else t :=
  (if_neg (Nat.not_lt.mpr hn)).trans (if_neg (by
    show ¬(!(s.powerShown level).isHead) = true
    simp [powerShown_isHead, h]))

end

end

/-! ### The OTP load and boot steps -/

section
variable {s : State} {n : Nat}

theorem doOtpLoadDone_resets (ok : Bool) (h : s.sameCycle.any s.resetBy = true) : doOtpLoadDone ok s = s :=
  if_pos (.inr (.inr h))

section
variable (hloads : s.boot.otpLoading = true) (hwhole : s.boot.otpAt + 327680 ≤ s.clk) (hkept : s.sameCycle.any s.resetBy = false)
include hloads hwhole hkept

theorem otpLoad_ends : ¬((!s.boot.otpLoading) = true ∨ s.clk < s.boot.otpAt + 327680 ∨ s.sameCycle.any s.resetBy = true) := by
  simp only [hloads, hkept, Bool.not_true, Bool.false_eq_true, or_false, false_or]
  exact Nat.not_lt.mpr hwhole

theorem doOtpLoadDone_passes :
    doOtpLoadDone true s =
      let t := s.puts [(.aonInterrupted, 0, 0), (.rstTrimsValid, 0, 1), (.rstTrimBad, 0, 0), (.rstOtpCopy, 0, s.boot.otpCopy)]
      (({ t with boot := { t.boot with otpLoading := false } } : State).passStep 4 0).goOn 4 :=
  if_neg (otpLoad_ends hloads hwhole hkept)

theorem doOtpLoadDone_copy (hfirst : s.boot.otpCopy = 0) :
    doOtpLoadDone false s = { s with boot := { s.boot with otpCopy := 1, otpAt := s.clk } } :=
  (if_neg (otpLoad_ends hloads hwhole hkept)).trans (if_pos hfirst)

end

section
variable (hn : n ≠ 4) (hat : s.atStep n = true)
include hn hat

theorem bootStep_ends : ¬((!s.atStep n) = true ∨ n = 4) := by simp [hat, hn]

theorem doBootStepEnd_fails (r w : Nat) : doBootStepEnd n (some r) w s = s.failStep n 1 r :=
  if_neg (bootStep_ends hn hat)

theorem doBootStepEnd_refused (w : Nat) (hrefused : s.imageRefused n = true) :
    doBootStepEnd n none w s = (s.raise .fwuVersionRefused).failStep n 1 1 :=
  (if_neg (bootStep_ends hn hat)).trans (if_pos hrefused)

theorem doBootStepEnd_passes (w : Nat) (hgood : s.imageRefused n = false) (hholds : s.stepHolds n = true) :
    doBootStepEnd n none w s = (s.passStep n w).goOn n :=
  (if_neg (bootStep_ends hn hat)).trans ((if_neg (by simp [hgood])).trans (if_pos hholds))

end

theorem doBootStepTimeout_limited {l : Nat} (h : stepLimit n = some l) :
    doBootStepTimeout n s = if s.atStep n = true ∧ s.boot.stepAt + l ≤ s.clk then s.failStep n 2 2 else s := by
  simp only [doBootStepTimeout, h]

theorem autoShows_of {t : Nat} (hauto : s.on .rstAutoShow = true) (hlocked : s.time.lockedSince = some t) (hlock : t + 100000000 ≤ s.clk)
    (hstandby : s.boot.standbySince + 100000000 ≤ s.clk) : s.autoShows = true := by
  simp [State.autoShows, hauto, hlocked, hlock, hstandby]

theorem doRoleSetLost_leaves {t : Nat} (hlost : s.noteRole.boot.roleLost = some t) (hstandby : s.noteRole.inStandby = true)
    (hdue : t + 1000000000 ≤ s.noteRole.clk) : doRoleSetLost s = s.noteRole.enterState 2 := by
  simp only [doRoleSetLost, hlost]
  exact if_pos ⟨hstandby, hdue⟩

end

/-- Settles O31: each row is `event` of its operation, and each operation, past its guard, is the effect that its clause names. -/
theorem clockAndBootEventsComplete : Obligations.ClockAndBootEventsComplete := by
  unfold Obligations.ClockAndBootEventsComplete
  refine ⟨?_, ?_, ?_, ?_, ?_, ?_, ?_, ?_, ?_, ?_, ?_, ?_, ?_, ?_, ?_, ?_, ?_, ?_, ?_, ?_, ?_, ?_, ?_, ?_, ?_, ?_⟩
  · exact fun d hd => does_of (fun _ => rfl) (fun _ _ hgood => if_pos ⟨hd, hgood⟩)
  · exact fun d => does_of (fun _ => rfl) (fun _ _ hbad => if_neg (by simp [hbad]))
  · exact fun b hb => does_of (fun _ => rfl) (fun _ _ ⟨hpending, hruns⟩ => doPendingReleaseComplete_frees hb hpending hruns)
  · exact fun b t => does_of (fun _ => rfl) (fun _ _ ⟨hwaits, hdue, hruns, hmiss⟩ =>
      (doPendingReleaseTimeout_due hwaits hdue).trans ((if_neg (by simp [hruns])).trans (if_neg hmiss)))
  · exact fun b t => does_of (fun _ => rfl) (fun _ _ ⟨hwaits, hdue, hruns, hmiss⟩ =>
      (doPendingReleaseTimeout_due hwaits hdue).trans ((if_neg (by simp [hruns])).trans (if_pos hmiss)))
  · exact fun b t => does_of (fun _ => rfl) (fun _ _ ⟨hwaits, hdue, hruns⟩ =>
      (doPendingReleaseTimeout_due hwaits hdue).trans (if_pos hruns))
  · refine fun d hd => does_of (fun _ => rfl) (fun s _ ⟨hbad, hdue⟩ => ?_)
    rw [doClockSourceRetry_low true hd hdue, if_pos rfl, clockReturns_low hd ((noteTry_good true).trans hbad)]
  · exact fun d hd => does_of (fun _ => rfl) (fun _ _ hdue => (doClockSourceRetry_low false hd hdue).trans (if_neg (by decide)))
  · exact fun d g hd => does_of (fun _ => rfl) (fun _ _ => doClockSourceRetry_early g hd)
  · exact fun rail f h => does_of (d := doRailLow rail) (fun _ => rfl) (fun _ _ _ => doRailLow_raises h)
  · exact fun b n hn => does_of (fun _ => rfl) (fun _ _ _ => if_pos hn)
  · exact fun n hn => does_of (fun _ => rfl) (fun _ _ => doPwrGoodChange_tile hn true)
  · exact fun n hn => does_of (fun _ => rfl) (fun _ _ => doPwrGoodChange_tile hn false)
  · exact fun n hn => does_of (fun _ => rfl) (fun _ _ h => (doPwrGoodChange_head hn true h).trans (if_neg (by simp)))
  · refine fun n hn => does_of (fun _ => rfl) (fun _ _ h => (doPwrGoodChange_head hn false h).trans ?_)
    simp only [Bool.not_false, true_and, Bool.false_eq_true, if_false]
    rfl
  · exact does_of (fun _ => rfl) (fun _ _ ⟨hloads, hwhole, hkept⟩ => doOtpLoadDone_passes hloads hwhole hkept)
  · exact does_of (fun _ => rfl) (fun _ _ ⟨hloads, hfirst, hwhole, hkept⟩ => doOtpLoadDone_copy hloads hwhole hkept hfirst)
  · exact fun ok => does_of (fun _ => rfl) (fun _ _ => doOtpLoadDone_resets ok)
  · exact fun n w hn => does_of (fun _ => rfl) (fun _ _ ⟨hat, hgood, hholds⟩ => doBootStepEnd_passes hn hat w hgood hholds)
  · exact fun n w hn => does_of (fun _ => rfl) (fun _ _ ⟨hat, hrefused⟩ => doBootStepEnd_refused hn hat w hrefused)
  · exact fun n r w hn => does_of (fun _ => rfl) (fun _ _ hat => doBootStepEnd_fails hn hat r w)
  · exact fun n l hl => does_of (fun _ => rfl) (fun _ _ h => (doBootStepTimeout_limited hl).trans (if_pos h))
  · exact fun n l hl => does_of (fun _ => rfl)
      (fun _ _ h => (doBootStepTimeout_limited hl).trans (if_neg (fun hdue => absurd hdue.2 (Nat.not_le.mpr h))))
  · exact does_of (fun _ => rfl) (fun _ _ h => if_pos h)
  · exact fun t => does_of (fun _ => rfl) (fun _ _ ⟨hauto, hlocked, hlock, hstandby, hshow⟩ =>
      if_pos ⟨autoShows_of hauto hlocked hlock hstandby, hshow⟩)
  · exact fun t => does_of (fun _ => rfl) (fun _ _ ⟨hlost, hstandby, hdue⟩ => doRoleSetLost_leaves hlost hstandby hdue)

end Sys2Proof.Machine

/-! PROOFS. What a reset of the node sets and keeps (R489, R490, Tables 13.1 and 13.2), cold or warm, alone or with another of its cycle. -/

namespace Sys2Proof.Machine

/-! ### Fields copied into a register file at reset -/

/-- A field that is not kept reads its value after reset. -/
theorem rget_keepFieldsOf_other (l : List (FName × Nat)) (g : Store) (f : FName) (i : Nat) (h : f ∉ l.map (·.1)) :
    rget (keepFieldsOf l g) f i = State.reset.r f i := by
  unfold keepFieldsOf State.r
  generalize State.reset.regs = k
  induction l generalizing k with
  | nil => rfl
  | cons p r ih =>
    simp only [List.map_cons, List.mem_cons, not_or] at h
    exact (ih h.2 _).trans (rget_rput_other k p.2 i _ h.1)

/-! ### The restart: banks read, boot at its step -/

/-- `t` is `u` but for registers, the unit of firmware update apart from its flash, and what boot keeps apart from the supply. -/
structure Rebooted (u t : State) : Prop where
  parts : t = { u with regs := t.regs, hot := t.hot, fw := t.fw, boot := t.boot, out := t.out }
  flash : t.fw.flash = u.fw.flash
  supply : t.boot.supply = u.boot.supply

theorem Rebooted.trans {s t u : State} (h : Rebooted s t) (k : Rebooted t u) : Rebooted s u where
  parts := by
    have e := k.parts
    rw [h.parts] at e
    exact e
  flash := k.flash.trans h.flash
  supply := k.supply.trans h.supply

theorem rebooted_readBanks (s : State) : Rebooted s s.readBanks where
  parts := by
    have e := readBanks_parts s
    generalize s.readBanks = t at e ⊢
    rw [e]
  flash := by
    simp only [State.readBanks]
    rw [ws_parts]
    rfl
  supply := by rw [readBanks_parts]

theorem rebooted_raiseIf (s : State) (b : Bool) (f : FName) (i : Nat) : Rebooted s (s.raiseIf b f i) where
  parts := by
    have e := raiseIf_parts s b f i
    generalize s.raiseIf b f i = t at e ⊢
    rw [e]
  flash := by rw [raiseIf_parts]
  supply := by rw [raiseIf_parts]

/-- The cause set, the banks read, and a trial that the reset ends flagged. -/
def State.causeSet (s : State) (cause : Nat) (trial : Bool) : State :=
  (s.w .rstCause 0 cause).readBanks.raiseIf trial .fwuTrialFailed

/-- The clocks and the lock state of a warm reset; `good` is the node's word of the clock-good bits 32 to 39 (Table 13.2). -/
def State.warmClocks (s : State) (warm : Bool) (good : Nat) : State :=
  if warm then ((s.w .clkGood310 0 (2 + 1 + 4 + 8 + 16)).w .clkGood3932 0 (good &&& 0x46)).w .ftLockState 0 3 else s

theorem rebooted_causeSet (s : State) (cause : Nat) (trial : Bool) : Rebooted s (s.causeSet cause trial) := by
  have hset : Rebooted s (s.w .rstCause 0 cause) := ⟨rfl, rfl, rfl⟩
  unfold State.causeSet
  exact hset.trans ((rebooted_readBanks (s.w .rstCause 0 cause)).trans (rebooted_raiseIf _ trial .fwuTrialFailed 0))

theorem rebooted_warmClocks (s : State) (warm : Bool) (good : Nat) : Rebooted s (s.warmClocks warm good) := by
  unfold State.warmClocks
  split <;> exact ⟨rfl, rfl, rfl⟩

/-- With no command waiting, the floor fuses begin or end without an answer, and no register changes. -/
theorem startFuses_noneWaits {s : State} (h : s.mbx.deferred = []) : ∃ x, s.startFuses = { s with fw := { s.fw with fuseAt := x } } := by
  have hmbx : ({ s.mbx with deferred := [] } : Mbx) = s.mbx := by rw [← h]
  unfold State.startFuses
  split
  · split
    · exact ⟨s.fw.fuseAt, rfl⟩
    · exact ⟨_, rfl⟩
  · refine ⟨none, ?_⟩
    simp [State.endFuses, State.complete, h, hmbx]

/-- Boot step 0x01 of a cold reset and 0x06 of a warm one begin: their number, their instant and, at 0x06, the floor fuses. -/
theorem enterStep_restart {s : State} (warm : Bool) (hdeferred : s.mbx.deferred = []) (hotp : s.boot.otpFailed = false) :
    let t := s.enterStep (if warm then 6 else 1)
    Rebooted s t ∧ t.regs = (s.w .aonBootStep 0 (if warm then 6 else 1)).regs := by
  cases warm with
  | false => exact ⟨⟨rfl, rfl, rfl⟩, rfl⟩
  | true =>
    let u : State := { s.w .aonBootStep 0 6 with boot := { s.boot with stepAt := s.clk, retrying := false } }
    obtain ⟨x, hx⟩ := startFuses_noneWaits (s := u) hdeferred
    have he : s.enterStep 6 = u.startFuses := by
      unfold State.enterStep
      exact (if_neg (by decide)).trans ((if_pos (by decide)).trans (if_neg (by simp [hotp])))
    show Rebooted s (s.enterStep 6) ∧ (s.enterStep 6).regs = _
    rw [he, hx]
    exact ⟨⟨rfl, rfl, rfl⟩, rfl⟩

/-- What a restart leaves of the parts that it does not reset whole (Table 13.2). -/
structure Wiped (warm : Bool) (s t : State) : Prop where
  ft : t.time.ft = if warm then s.time.ft else 0
  clip : t.ing.clip = s.ing.clip
  graphic : t.lay.graphic = s.lay.graphic
  pstore : t.lay.pstore = s.lay.pstore
  store : t.col.store = s.col.store
  flash : t.fw.flash = s.fw.flash
  mbx : t.mbx = State.reset.mbx
  net : t.net = State.reset.net
  sets : t.lay.sets = []
  supply : t.boot.supply = s.boot.supply
  pending : t.pending = s.pending

theorem Wiped.rebooted {warm : Bool} {s t u : State} (h : Wiped warm s t) (k : Rebooted t u) : Wiped warm s u := by
  obtain ⟨hparts, hflash, hsupply⟩ := k
  have hflash' := hflash.trans h.flash
  have hsupply' := hsupply.trans h.supply
  rw [hparts]
  exact ⟨h.ft, h.clip, h.graphic, h.pstore, h.store, hflash', h.mbx, h.net, h.sets, hsupply', h.pending⟩

/-- The fields that a restart sets on the way to its boot step, but for that step. -/
def rebootFields : List FName :=
  [.rstCause, .fwuTrialFailed, .mbxEvents, .clkGood310, .clkGood3932, .ftLockState, .fwuStateA, .fwuStateB, .fwuSecA, .fwuSecB,
    .fwuFloorTarget, .fwuRunning]

theorem causeSet_r_other (u : State) (cause : Nat) (trial : Bool) {f : FName} (i : Nat) (h : f ∉ rebootFields) :
    (u.causeSet cause trial).r f i = u.r f i := by
  have hbank : f ∉ bankFields := fun hb => h (List.mem_append_right
    [FName.rstCause, .fwuTrialFailed, .mbxEvents, .clkGood310, .clkGood3932, .ftLockState] hb)
  simp only [rebootFields, List.mem_cons, not_or] at h
  obtain ⟨hcause, htrial, hevents, -⟩ := h
  rw [State.causeSet, raiseIf_r_other _ _ _ _ _ htrial hevents, readBanks_r_other _ _ hbank, r_w_other _ _ _ _ hcause]

theorem causeSet_cause (u : State) (cause : Nat) (trial : Bool) :
    (u.causeSet cause trial).r .rstCause = cause % 2 ^ FName.rstCause.width := by
  have h : .rstCause ∉ bankFields := by decide
  rw [State.causeSet, raiseIf_r_other (g := .rstCause) _ _ _ _ _ (by decide) (by decide), readBanks_r_other _ _ h, r_w_same]

theorem warmClocks_r_other (u : State) (warm : Bool) (good : Nat) {f : FName} (i : Nat)
    (h : f ∉ [FName.clkGood310, .clkGood3932, .ftLockState]) : (u.warmClocks warm good).r f i = u.r f i := by
  simp only [List.mem_cons, List.not_mem_nil, or_false, not_or] at h
  obtain ⟨hlow, hhigh, hlock⟩ := h
  unfold State.warmClocks
  split
  · rw [r_w_other _ _ _ _ hlock, r_w_other _ _ _ _ hhigh, r_w_other _ _ _ _ hlow]
  · rfl

/-- The fields that a reset keeps, cold or warm. -/
def keptBy (warm : Bool) : List (FName × Nat) := if warm then keptFields ++ warmFields else keptFields

theorem mem_keptBy {warm : Bool} {p : FName × Nat} (h : p ∈ keptFields) : p ∈ keptBy warm := by
  cases warm
  · exact h
  · exact List.mem_append_left _ h

/-- A restart wipes the node, and boot begins at its step. -/
theorem restartAll_reboots (s : State) (cause : Nat) (warm trial : Bool) :
    ∃ u : State, s.restartAll cause warm trial =
        ((u.causeSet cause trial).warmClocks warm (s.r .clkGood3932)).enterStep (if warm then 6 else 1) ∧
      u.regs = keepFieldsOf (keptBy warm) s.regs ∧ u.boot.otpFailed = false ∧ Wiped warm s u := by
  cases warm
  · exact ⟨_, rfl, rfl, rfl, ⟨rfl, rfl, rfl, rfl, rfl, rfl, rfl, rfl, rfl, rfl, rfl⟩⟩
  · exact ⟨_, rfl, rfl, rfl, ⟨rfl, rfl, rfl, rfl, rfl, rfl, rfl, rfl, rfl, rfl, rfl⟩⟩

/-- What a restart leaves: its cause, its boot step, the fields kept, every other field at reset, and the rest wiped. -/
theorem restartAll_leaves (s : State) (cause : Nat) (warm trial : Bool) : let t := s.restartAll cause warm trial
    t.r .rstCause = cause % 2 ^ FName.rstCause.width ∧ t.r .aonBootStep = (if warm then 6 else 1) ∧
    (∀ f i, (f, i) ∈ keptFields → f ≠ .aonBootStep → f ∉ rebootFields → t.r f i = s.r f i % 2 ^ f.width) ∧
    (∀ f i, f ∉ (keptBy warm).map (·.1) → f ≠ .aonBootStep → f ∉ rebootFields → t.r f i = State.reset.r f i) ∧ Wiped warm s t := by
  obtain ⟨u, hu, hregs, hotp, hwiped⟩ := restartAll_reboots s cause warm trial
  intro t
  have hreb := (rebooted_causeSet u cause trial).trans (rebooted_warmClocks _ warm (s.r .clkGood3932))
  have hclocks (f : FName) (h : f ∉ rebootFields) : f ∉ [FName.clkGood310, .clkGood3932, .ftLockState] := fun hm => h (by
    simp only [List.mem_cons, List.not_mem_nil, or_false] at hm
    obtain rfl | rfl | rfl := hm <;> decide)
  have hother (f : FName) (i : Nat) (h : f ∉ rebootFields) :
      ((u.causeSet cause trial).warmClocks warm (s.r .clkGood3932)).r f i = u.r f i := by
    rw [warmClocks_r_other _ _ _ i (hclocks f h), causeSet_r_other _ _ _ i h]
  have hcause : ((u.causeSet cause trial).warmClocks warm (s.r .clkGood3932)).r .rstCause = cause % 2 ^ FName.rstCause.width := by
    rw [warmClocks_r_other (f := .rstCause) _ _ _ 0 (by decide), causeSet_cause]
  have hotp' : ((u.causeSet cause trial).warmClocks warm (s.r .clkGood3932)).boot.otpFailed = false := by
    unfold State.warmClocks
    split
    · show (u.causeSet cause trial).boot.otpFailed = false
      rw [State.causeSet, raiseIf_boot, readBanks_parts]
      exact hotp
    · rw [State.causeSet, raiseIf_boot, readBanks_parts]
      exact hotp
  have hwiped' := hwiped.rebooted hreb
  generalize (u.causeSet cause trial).warmClocks warm (s.r .clkGood3932) = v at hu hother hcause hotp' hwiped'
  obtain ⟨hstep, hstepRegs⟩ := enterStep_restart warm (congrArg Mbx.deferred hwiped'.mbx) hotp'
  have ht : t = v.enterStep (if warm then 6 else 1) := hu
  have hr (f : FName) (i : Nat) : t.r f i = (v.w .aonBootStep 0 (if warm then 6 else 1)).r f i := by
    rw [ht, State.r, hstepRegs]
    rfl
  refine ⟨?_, ?_, fun f i hk hb hf => ?_, fun f i hk hb hf => ?_, ?_⟩
  · rw [hr, r_w_other (f := .aonBootStep) (g := .rstCause) _ _ _ _ (by decide), hcause]
  · rw [hr, r_w_same]
    cases warm <;> rfl
  · rw [hr, r_w_other _ _ _ _ hb, hother f i hf, State.r, hregs, rget_keepFieldsOf _ _ _ _ (mem_keptBy hk)]
    rfl
  · rw [hr, r_w_other _ _ _ _ hb, hother f i hf, State.r, hregs, rget_keepFieldsOf_other _ _ _ _ hk]
  · rw [ht]
    exact hwiped'.rebooted hstep

/-! ### Two resets of one cycle -/

section
variable {s : State} {cause : Nat} {warm : Bool}

theorem resetNode_joins (h : s.boot.resetAt = some s.clk) : s.resetNode cause warm = s.joinReset cause warm := if_pos h

/-- The causes name both. -/
def State.bothCauses (s : State) (cause : Nat) : State := s.w .aonLastCause 0 (cause ||| s.r .rstCause)

theorem bothCauses_r_other {f : FName} (i : Nat) (h : f ≠ .aonLastCause) : (s.bothCauses cause).r f i = s.r f i :=
  r_w_other s 0 i _ h

/-- A second reset of a cycle that is not wider than the first only adds its cause. -/
theorem joinReset_notWider (h : warm = true ∨ s.r .rstCause ≠ 0x20) :
    s.joinReset cause warm = (s.bothCauses cause).w .rstCause 0 (cause ||| s.r .rstCause) :=
  if_pos (by rwa [r_w_other (f := .aonLastCause) (g := .rstCause) _ _ _ _ (by decide)])

/-- A cold reset in the cycle of a warm one restarts the node. -/
theorem joinReset_wider (hcold : warm = false) (hwarm : s.r .rstCause = 0x20) :
    ∃ trial, s.joinReset cause warm = (s.bothCauses cause).restartAll (cause ||| s.r .rstCause) false trial := by
  have h : ¬(warm = true ∨ (s.bothCauses cause).r .rstCause ≠ 0x20) := by
    rw [bothCauses_r_other (f := .rstCause) 0 (by decide)]
    simp [hcold, hwarm]
  exact ⟨_, if_neg h⟩

end

/-! ### The first reset of a cycle -/

/-- What a reset notes before it acts, but for causes and count: the boot failure, the interrupted load, the trial ended. -/
def State.endsNoted (s : State) : State :=
  let n := s.cutShort.noteInterrupted.bootClear
  if n.inTrial then n.clearTrial else n

/-- The fields that may change so. -/
def endFields : List FName :=
  [.aonInterrupted, .aonAlter, .aonRepeats, .aonReason, .aonFailStep, .aonFwuTrial, .aonFwuActRecord]

theorem cutShort_regs (s : State) : s.cutShort.regs = s.regs := by
  unfold State.cutShort
  dsimp only
  split <;> rfl

theorem noteInterrupted_r_other (s : State) {f : FName} (i : Nat) (h : f ≠ .aonInterrupted) : s.noteInterrupted.r f i = s.r f i := by
  unfold State.noteInterrupted
  split
  · exact r_w_other s 0 i _ h
  · rfl

theorem bootClear_r_other (s : State) {f : FName} (i : Nat) (h : f ∉ [FName.aonAlter, .aonRepeats, .aonReason, .aonFailStep]) :
    s.bootClear.r f i = s.r f i := by
  unfold State.bootClear
  split
  · exact ws_r_other [(.aonAlter, 0), (.aonRepeats, 0), (.aonReason, 0), (.aonFailStep, 0)] s f i h
  · rfl

theorem clearTrial_r_other (s : State) {f : FName} (i : Nat) (h : f ∉ [FName.aonFwuTrial, .aonFwuActRecord]) :
    s.clearTrial.r f i = s.r f i :=
  ws_r_other [(.aonFwuTrial, 0), (.aonFwuActRecord, 0)] s f i h

theorem endsNoted_r_other (s : State) {f : FName} (i : Nat) (h : f ∉ endFields) : s.endsNoted.r f i = s.r f i := by
  simp only [endFields, List.mem_cons, List.not_mem_nil, or_false, not_or] at h
  obtain ⟨hload, halter, hreps, hreason, hstep, htrial, hrecord⟩ := h
  have hnoted : s.cutShort.noteInterrupted.bootClear.r f i = s.r f i := by
    rw [bootClear_r_other _ _ (by simp [halter, hreps, hreason, hstep]), noteInterrupted_r_other _ _ hload, State.r, cutShort_regs]
    rfl
  unfold State.endsNoted
  dsimp only
  split
  · exact (clearTrial_r_other _ i (by simp [htrial, hrecord])).trans hnoted
  · exact hnoted

theorem noted_endsNoted (s : State) : Noted s s.endsNoted := by
  have hn := ((noted_cutShort s).trans (noted_noteInterrupted _)).trans (noted_bootClear _)
  unfold State.endsNoted
  dsimp only
  split
  · exact hn.trans (noted_ws _ [(.aonFwuTrial, 0), (.aonFwuActRecord, 0)] (by decide))
  · exact hn

/-- The causes and the count of a reset (R490). -/
def State.counted (s : State) (cause : Nat) : State :=
  s.ws [(.aonPrevCause, s.r .aonLastCause), (.aonLastCause, cause), (.aonResetCount, s.r .aonResetCount + 1)]

theorem resetNode_first {s : State} {cause : Nat} {warm : Bool} (h : s.boot.resetAt ≠ some s.clk) :
    ∃ trial, s.resetNode cause warm = (s.endsNoted.counted cause).restartAll cause warm trial :=
  ⟨_, if_neg h⟩

theorem counted_fields (s : State) (cause : Nat) : let t := s.counted cause
    t.r .aonPrevCause = s.r .aonLastCause % 2 ^ FName.aonPrevCause.width ∧
    t.r .aonLastCause = cause % 2 ^ FName.aonLastCause.width ∧
    t.r .aonResetCount = (s.r .aonResetCount + 1) % 2 ^ FName.aonResetCount.width := by
  refine ⟨?_, ?_, ?_⟩ <;> simp [State.counted, State.ws, State.r, State.w]

theorem counted_r_other (s : State) (cause : Nat) {f : FName} (i : Nat)
    (h : f ∉ [FName.aonPrevCause, .aonLastCause, .aonResetCount]) : (s.counted cause).r f i = s.r f i :=
  ws_r_other _ s f i h

theorem Wiped.noted {warm : Bool} {s n t : State} (hn : Noted s n) (h : Wiped warm n t) : Wiped warm s t := by
  obtain ⟨hft, hclip, hgraphic, hpstore, hstore, hflash, hmbx, hnet, hsets, hsupply, hpending⟩ := h
  have hparts := hn.parts
  refine ⟨hft.trans ?_, hclip.trans ?_, hgraphic.trans ?_, hpstore.trans ?_, hstore.trans ?_, hflash.trans ?_, hmbx, hnet, hsets,
    hsupply.trans hn.supply, hpending.trans ?_⟩ <;> rw [hparts]

theorem noted_counted (s : State) (cause : Nat) : Noted s (s.counted cause) := noted_ws s _ (by simp [notedFields])

/-- Settles O32: a reset is a restart of the node with its causes and its count noted; a second one of a cycle adds its cause, or, where it
is the wider, restarts the node again. -/
theorem nodeResetKeeps : Obligations.NodeResetKeeps := by
  unfold Obligations.NodeResetKeeps
  refine ⟨fun s cause warm h => ?_, fun s cause warm h => ?_⟩
  · intro t
    have ht : t = s.joinReset cause warm := resetNode_joins h
    by_cases hwider : warm = false ∧ s.r .rstCause = 0x20
    · obtain ⟨trial, hjoin⟩ := joinReset_wider (cause := cause) hwider.1 hwider.2
      obtain ⟨hcause, hstep, hkept, -, hwiped⟩ := restartAll_leaves (s.bothCauses cause) (cause ||| s.r .rstCause) false trial
      rw [← hjoin, ← ht] at hcause hstep hkept hwiped
      refine ⟨hcause, ?_, fun _ _ => ⟨hstep, hwiped.ft, ?_⟩, fun hnot => ?_⟩
      · rw [hkept .aonLastCause 0 (by decide) (by decide) (by decide), State.bothCauses, r_w_same, Nat.mod_mod]
      · rw [hkept .aonResetCount 0 (by decide) (by decide) (by decide), bothCauses_r_other (f := .aonResetCount) 0 (by decide)]
      · simp [hwider.1, hwider.2] at hnot
    · have hnot : warm = true ∨ s.r .rstCause ≠ 0x20 := by
        by_cases hw : warm = true
        · exact .inl hw
        · exact .inr (fun hc => hwider ⟨by simpa using hw, hc⟩)
      rw [ht, joinReset_notWider hnot]
      refine ⟨r_w_same _ _ _ _, ?_, fun hcold hwarm => absurd ⟨hcold, hwarm⟩ hwider, fun _ => ⟨rfl, fun f i hc hl => ?_⟩⟩
      · rw [r_w_other (f := .rstCause) (g := .aonLastCause) _ _ _ _ (by decide), State.bothCauses, r_w_same]
      · rw [r_w_other _ _ _ _ hc, bothCauses_r_other i hl]
  · intro t
    obtain ⟨trial, ht⟩ := resetNode_first (cause := cause) (warm := warm) h
    obtain ⟨hcause, hstep, hkept, hreset, hwiped⟩ := restartAll_leaves (s.endsNoted.counted cause) cause warm trial
    rw [← ht] at hcause hstep hkept hreset hwiped
    obtain ⟨hprev, hlast, hcount⟩ := counted_fields s.endsNoted cause
    obtain ⟨hft, hclip, hgraphic, hpstore, hstore, hflash, hmbx, hnet, hsets, hsupply, hpending⟩ :=
      hwiped.noted ((noted_endsNoted s).trans (noted_counted _ cause))
    have hkeeps (f : FName) (i : Nat) (hk : (f, i) ∈ keptFields) (hf : f ≠ .aonBootStep ∧ f ∉ rebootFields ∧
        f ∉ [FName.aonPrevCause, .aonLastCause, .aonResetCount] ∧ f ∉ endFields) : t.r f i = s.r f i % 2 ^ f.width := by
      obtain ⟨hb, hr, hc, he⟩ := hf
      rw [hkept f i hk hb hr, counted_r_other _ _ i hc, endsNoted_r_other _ i he]
    refine ⟨hcause, ?_, ?_, ?_, hstep, fun k hk => ?_, ?_, ?_, hft, hclip, hgraphic, hpstore, hstore, hflash, hmbx, hnet, hsets, hsupply,
      hpending⟩
    · rw [hkept .aonLastCause 0 (by decide) (by decide) (by decide), hlast, Nat.mod_mod]
    · rw [hkept .aonPrevCause 0 (by decide) (by decide) (by decide), hprev, Nat.mod_mod,
        endsNoted_r_other (f := .aonLastCause) s 0 (by decide)]
    · rw [hkept .aonResetCount 0 (by decide) (by decide) (by decide), hcount, Nat.mod_mod,
        endsNoted_r_other (f := .aonResetCount) s 0 (by decide)]
    · exact hkeeps .aonScratch k (List.mem_append_right _ (List.mem_map.mpr ⟨k, List.mem_range.mpr hk, rfl⟩)) (by decide)
    · exact hkeeps .sysRoleStrap 0 (by decide) (by decide)
    · refine hreset .fabMaxRate 0 ?_ (by decide) (by decide)
      cases warm <;> decide

end Sys2Proof.Machine

/-! PROOFS. The thermal and calibration commands of group 0x0B (Table 14.9). -/

namespace Sys2Proof.Machine

/-! ### Temperature -/

/-- A sensor as THM_SENSOR answers it (Table 14.9). -/
def State.sensorBytes (s : State) (cls i : Nat) : List Byte :=
  leBytes 2 (s.r (tempReg cls) i) ++ [byte (s.r (stateReg cls) i), 0] ++ leBytes 2 (ofInt 16 (s.sensor cls i).raw) ++ [0, 0] ++
    leBytes 4 (s.sensor cls i).samples

/-- What a change of a sensor's state leaves: the substitutes of the zones, and the levels. -/
def State.sensorChanged (s : State) (cls : Nat) : State := (if cls = 1 then s.refreshZones else s).showLevels cls

section
variable {c : HostCmd} {s : State}

theorem actThmSet_sets (hmask : c.u8 3 ≤ 7) (hlevel : bit (c.u8 3) 0 = true → c.u8 0 ≤ 1 ∧ 1 ≤ c.u8 1 ∧ c.u8 1 ≤ 4) :
    actThmSet c s = done
      (let a := if bit (c.u8 3) 0 then s.setLevel (levelIx (c.u8 0) (c.u8 1)) (some (HostCmdFlag c 2)) (some (c.u16 4)) else s
       let a := if bit (c.u8 3) 1 then a.w .thmTscaleDerate 0 (c.u16 6) else a
       if bit (c.u8 3) 2 then a.w .thmTscaleThrottle 0 (c.u16 8) else a) := by
  refine if_neg ?_
  rintro (h | ⟨hset, hbad⟩)
  · omega
  · have := hlevel hset
    omega

section
variable (hcls : c.u8 0 ≤ 1) (hi : c.u8 1 < sensorsIn (c.u8 0))
include hcls hi

theorem actThmSensor_reads (hop : c.u8 2 = 0) : actThmSensor c s = done s (s.sensorBytes (c.u8 0) (c.u8 1)) := by
  refine (if_neg (by omega)).trans ?_
  simp [hop, State.sensorBytes]

/-- A sensor excluded or readmitted: its answer tells how it stands after. -/
theorem actThmSensor_changes (hop : c.u8 2 = 1 ∨ c.u8 2 = 2) {t : State}
    (ht : t = if c.u8 2 = 2 then s.readmitCmd (c.u8 0) (c.u8 1)
      else if s.r (stateReg (c.u8 0)) (c.u8 1) = 5 then s else s.cutSensor (c.u8 0) (c.u8 1) 5 false) :
    actThmSensor c s = done (t.sensorChanged (c.u8 0)) ((t.sensorChanged (c.u8 0)).sensorBytes (c.u8 0) (c.u8 1)) := by
  subst ht
  refine (if_neg (by omega)).trans ?_
  obtain hop | hop := hop
  · simp [hop, State.sensorBytes, State.sensorChanged]
  · simp [hop, State.sensorBytes, State.sensorChanged]

end

theorem actThmNeighSet_sets (hzone : c.u8 0 ≤ 95) :
    actThmNeighSet c s = done (s.w .thmNeigh (c.u8 0) (getLE c.body 1 4)).substituteZones :=
  if_neg (Nat.not_lt.mpr hzone)

/-! ### Calibration -/

theorem actCalRead_reads (hkind : c.u8 0 = 0 ∨ c.u8 0 = 2) (hi : c.u8 1 < itemsOf (c.u8 0)) :
    actCalRead c s = done s (s.calRecord (c.u8 0) (c.u8 1)).bytes :=
  if_neg (by simp [hkind, Nat.not_le.mpr hi])

theorem actCalWrite_stores {r : CalRec} (hr : r = CalRec.ofBytes (getBytes c.body 0 32)) (hkind : r.kind = 0 ∨ r.kind = 2)
    (hi : r.index < itemsOf r.kind) : actCalWrite c s = done (s.storeSeed r) := by
  subst hr
  exact if_neg (by simp [hkind, Nat.not_le.mpr hi])

theorem actCalRefSet_sets :
    actCalRefSet c s = done (s.puts ((List.range 16).map (fun j => (.calRefComp, j, c.u16 (2 * j))))).freeRun := by
  simp only [actCalRefSet, State.puts, List.foldl_map]

/-- The run that CAL_RUN asks for. -/
def calRunOf (c : HostCmd) (s : State) : Run :=
  { retRun (c.u8 1) with
    kind := c.u8 0, when_ := c.u8 2, at_ := c.u64 8, cmd := some c, late := decide (c.u8 2 = 2) && decide (c.u64 8 ≤ s.ftNs) }

section
variable (hi : c.u8 1 < calItems (c.u8 0)) (hwhen : c.u8 2 ≤ 2) (hat : c.u8 2 = 2 → c.u64 8 ≤ s.ftNs + 600000000000)
  (href : c.u8 0 = 5 → s.r .ftLockState = 2)
  (hidle : c.u8 2 = 0 → calDisturbs (c.u8 0) = true → s.calIdle (calRunOf c s) = true)
include hi hwhen hat href hidle

/-- CAL_RUN past its refusals: the run starts, or is queued where there is room. -/
theorem actCalRun_taken : actCalRun c s =
    if s.thm.running.isNone ∧ s.calStarts (calRunOf c s) then accept (s.startCal (calRunOf c s)) .cal
    else if 16 ≤ s.thm.cals.length then refuse s Status.busy
    else accept { s with thm := { s.thm with cals := s.thm.cals ++ [calRunOf c s] } } .cal := by
  refine (if_neg (by omega)).trans (if_neg ?_)
  rintro (⟨hkind, hstate⟩ | ⟨hnow, hdisturbs, hbusy⟩)
  · exact hstate (href hkind)
  · exact absurd (hidle hnow hdisturbs) (by simpa [calRunOf] using hbusy)

theorem actCalRun_queues (hwaits : s.thm.running.isSome = true ∨ s.calStarts (calRunOf c s) = false) (hroom : s.thm.cals.length < 16) :
    actCalRun c s = accept { s with thm := { s.thm with cals := s.thm.cals ++ [calRunOf c s] } } .cal := by
  refine (actCalRun_taken hi hwhen hat href hidle).trans ((if_neg ?_).trans (if_neg (Nat.not_le.mpr hroom)))
  rintro ⟨hnone, hstarts⟩
  obtain h | h := hwaits
  · exact Option.not_isSome_iff_eq_none.mpr (Option.isNone_iff_eq_none.mp hnone) h
  · simp [h] at hstarts

theorem actCalRun_starts (hfree : s.thm.running.isSome = false) (hstarts : s.calStarts (calRunOf c s) = true) :
    actCalRun c s = accept (s.startCal (calRunOf c s)) .cal :=
  (actCalRun_taken hi hwhen hat href hidle).trans (if_pos ⟨Option.isSome_eq_false_iff.mp hfree, hstarts⟩)

end

end

/-- Settles O22: each command's action, past its refusals, is the effect that its clause names. -/
theorem thermalCommandsComplete : Obligations.ThermalCommandsComplete := by
  unfold Obligations.ThermalCommandsComplete
  refine ⟨?_, ?_, ?_, ?_, ?_, ?_, ?_, ?_, ?_⟩
  · exact reads_of actThmGet (fun _ _ => rfl) (fun _ _ _ _ => rfl)
  · exact completes_of actThmSet (fun _ _ => rfl) (fun _ _ ⟨hmask, hlevel⟩ => actThmSet_sets hmask hlevel)
  · exact reads_of actThmSensor (fun _ _ => rfl) (fun _ _ _ ⟨hcls, hi, hop⟩ => actThmSensor_reads hcls hi hop)
  · exact fun a ha => completes_of actThmSensor (fun _ _ => rfl)
      (fun c s ⟨hcls, hi, hop⟩ => actThmSensor_changes hcls hi hop (ha c s))
  · exact completes_of actThmNeighSet (fun _ _ => rfl) (fun _ _ => actThmNeighSet_sets)
  · intro r hr
    obtain rfl : r = calRunOf := funext₂ hr
    refine ⟨?_, ?_⟩
    · exact accepts_of actCalRun (fun _ _ => rfl) (fun _ _ ⟨hi, hwhen, hat, href, hidle, hwaits, hroom⟩ =>
        actCalRun_queues hi hwhen hat href hidle hwaits hroom)
    · exact accepts_of actCalRun (fun _ _ => rfl) (fun _ _ ⟨hi, hwhen, hat, href, hidle, hfree, hstarts⟩ =>
        actCalRun_starts hi hwhen hat href hidle hfree hstarts)
  · exact reads_of actCalRead (fun _ _ => rfl) (fun _ _ _ ⟨hkind, hi⟩ => actCalRead_reads hkind hi)
  · exact completes_of actCalWrite (fun _ _ => rfl) (fun _ _ ⟨hkind, hi⟩ => actCalWrite_stores rfl hkind hi)
  · exact completes_of actCalRefSet (fun _ _ => rfl) (fun _ _ _ => actCalRefSet_sets)

end Sys2Proof.Machine

/-! PROOFS. Calibration runs (R533 to R537), tests and loops (R576 to R586), JTAG (R589, R590) and the debug port (R591, R592). -/

namespace Sys2Proof.Machine

/-! ### The end of a calibration run -/

/-- The node with no calibration run in progress. -/
def State.calEnded (s : State) : State := { s with thm := { s.thm with running := none } }

section
variable {s : State} {r : Run} {o : CalOutcome} (hrun : s.thm.running = some r)
include hrun

theorem doCalRunDone_sweeping (hsweep : r.sweeping = true) : doCalRunDone o s = s := by
  simp only [doCalRunDone, hrun, hsweep, if_true]

/-- A run whose chunks are all made ends: its result applies or counts, and its command completes. -/
theorem doCalRunDone_ends (hsweep : r.sweeping = false) : doCalRunDone o s =
    let t := if r.aborting ∨ !s.calEnded.calBlock r then s.calEnded
      else if s.calEnded.calPasses o r then s.calEnded.applyCal r o
      else s.calEnded.calDefer r.kind
    ((t.raiseIf r.cmd.isSome .thmCalDone).finishRun .cal r
      (if r.aborting then Status.aborted else if r.late then Status.late else Status.ok) []).nextCal := by
  simp only [doCalRunDone, hrun, hsweep, State.calEnded]
  rfl

theorem doCalRunDone_aborted (habort : r.aborting = true) : doCalRunDone o s =
    ((s.calEnded.raiseIf r.cmd.isSome .thmCalDone).finishRun .cal r Status.aborted []).nextCal := by
  rw [doCalRunDone_ends hrun (by simp [Run.sweeping, habort])]
  simp only [habort, true_or, if_true]

section
variable (habort : r.aborting = false) (hsweep : r.sweeping = false)
include habort hsweep

theorem doCalRunDone_passed (hpass : s.calEnded.calPasses o r = true) (hblock : s.calEnded.calBlock r = true) : doCalRunDone o s =
    (((s.calEnded.applyCal r o).raiseIf r.cmd.isSome .thmCalDone).finishRun .cal r
      (if r.late then Status.late else Status.ok) []).nextCal := by
  simp [doCalRunDone_ends hrun hsweep, habort, hpass, hblock]

theorem doCalRunDone_deferred (hpass : s.calEnded.calPasses o r = false) (hblock : s.calEnded.calBlock r = true) : doCalRunDone o s =
    (((s.calEnded.calDefer r.kind).raiseIf r.cmd.isSome .thmCalDone).finishRun .cal r
      (if r.late then Status.late else Status.ok) []).nextCal := by
  simp [doCalRunDone_ends hrun hsweep, habort, hpass, hblock]

theorem doCalRunDone_blockGone (hblock : s.calEnded.calBlock r = false) : doCalRunDone o s =
    ((s.calEnded.raiseIf r.cmd.isSome .thmCalDone).finishRun .cal r
      (if r.late then Status.late else Status.ok) []).nextCal := by
  simp [doCalRunDone_ends hrun hsweep, habort, hblock]

end

end

/-! ### Chunks of tests and loops -/

section
variable {s : State} {l : Bool} {k x : Nat} {r : Run} {c : Chunk}

@[simp] theorem Run.add_isLoop : (r.add c).isLoop = r.isLoop := by
  unfold Run.add
  split
  · rfl
  · split <;> rfl

/-- A run that takes a chunk is of the chunk's kind. -/
theorem kind_of_chunkRun (hrun : s.chunkRun l k x = some r) : r.isLoop = l ∧ r.kind = k := by
  have h := List.find?_some hrun
  simp only [Bool.and_eq_true, beq_iff_eq] at h
  obtain ⟨⟨⟨hl, hk⟩, -⟩, -⟩ := h
  exact ⟨hl, hk⟩

theorem setRun_runEnded (r' : Run) : (s.setRun r r').runEnded r' = s.runEnded r' := rfl

/-- A chunk that is not one of MEM_READ leaves the memories as they are. -/
theorem plain_of_not_read (a b : State) (hkind : l = true ∨ k ≠ 4) : b = if !l ∧ k = 4 then a else b := by
  refine (if_neg ?_).symm
  rintro ⟨hl, hk⟩
  obtain h | h := hkind
  · simp [h] at hl
  · exact h hk

/-- The end of a test does not turn on what its errors did. -/
theorem runEnded_readErrors (hloop : r.isLoop = false) : (s.readErrors x c).runEnded r = s.runEnded r := by
  simp [State.runEnded, hloop]

section
variable (hrun : s.chunkRun l k x = some r)
include hrun

/-- What a chunk does to its run once the chunk is added and its errors are told, `t`. -/
theorem doTestChunkDone_added {t : State}
    (ht : t = if !l ∧ k = 4 then (s.setRun r (r.add c)).readErrors x c else s.setRun r (r.add c)) :
    doTestChunkDone l k x c s =
      if s.runEnded (r.add c) then t.endRun (r.add c) (b2n ((r.add c).errors != 0))
      else if r.aborting then t.endRun (r.add c) 2
      else if l ∧ k = 1 ∧ r.code = 3 then t.echoOn (r.add c)
      else t.readyChunk (r.add c) := by
  obtain ⟨hl, hk⟩ := kind_of_chunkRun hrun
  have hend : t.runEnded (r.add c) = s.runEnded (r.add c) := by
    rw [ht]
    split
    · next h => exact runEnded_readErrors (by simpa [hl] using h.1)
    · rfl
  rw [← hend, ht]
  simp only [doTestChunkDone, hrun, hl, hk]

theorem doTestChunkDone_last (hkind : l = true ∨ k ≠ 4) (hend : s.runEnded (r.add c) = true) :
    doTestChunkDone l k x c s = (s.setRun r (r.add c)).endRun (r.add c) (b2n ((r.add c).errors != 0)) :=
  (doTestChunkDone_added hrun (plain_of_not_read _ _ hkind)).trans (if_pos hend)

section
variable (hend : s.runEnded (r.add c) = false)
include hend

theorem doTestChunkDone_aborted (hkind : l = true ∨ k ≠ 4) (habort : r.aborting = true) :
    doTestChunkDone l k x c s = (s.setRun r (r.add c)).endRun (r.add c) 2 :=
  (doTestChunkDone_added hrun (plain_of_not_read _ _ hkind)).trans ((if_neg (by simp [hend])).trans (if_pos habort))

/-- A run with chunks left goes on: a DRIVER loop with its next ECHO, any other with its next chunk. -/
theorem doTestChunkDone_goesOn (hkind : l = true ∨ k ≠ 4) (habort : r.aborting = false) :
    doTestChunkDone l k x c s = if l ∧ k = 1 ∧ r.code = 3 then (s.setRun r (r.add c)).echoOn (r.add c)
      else (s.setRun r (r.add c)).readyChunk (r.add c) :=
  (doTestChunkDone_added hrun (plain_of_not_read _ _ hkind)).trans
    ((if_neg (by simp [hend])).trans (if_neg (by simp [habort])))

end

end

theorem doTestChunkDone_lastRead (hrun : s.chunkRun false 4 x = some r) (hend : s.runEnded (r.add c) = true) :
    doTestChunkDone false 4 x c s =
      ((s.setRun r (r.add c)).readErrors x c).endRun (r.add c) (b2n ((r.add c).errors != 0)) :=
  (doTestChunkDone_added hrun (if_pos ⟨rfl, rfl⟩).symm).trans (if_pos hend)

end

/-! ### Boundary scan and the debug port -/

section
variable {s : State}

section
variable {i : Jtag} (hon : s.boot.supply = .on)
include hon

theorem doJtagInstruction_holds (hi : i ∈ [Jtag.extest, Jtag.clamp, Jtag.highz]) (hscan : s.on .tstBscan = false) :
    doJtagInstruction i s = (({ s with thm := { s.thm with jtag := i } } : State).emit .laneIdle).w .tstBscan 0 1 := by
  simp only [List.mem_cons, List.not_mem_nil, or_false] at hi
  obtain rfl | rfl | rfl := hi
  all_goals simp [doJtagInstruction, hon, hscan]

theorem doJtagInstruction_releases (hi : i ∉ [Jtag.extest, Jtag.clamp, Jtag.highz, Jtag.idcode]) (hscan : s.on .tstBscan = true)
    (hruns : s.boot.halted = false) :
    doJtagInstruction i s = (({ s with thm := { s.thm with jtag := i } } : State).w .tstBscan 0 0).resetNode 0x40 false := by
  cases i
  case extest | clamp | highz | idcode => simp at hi
  all_goals simp [doJtagInstruction, hon, hscan, hruns]

theorem doJtagInstruction_idcode (hscan : s.on .tstBscan = false) : doJtagInstruction .idcode s =
    ({ s with thm := { s.thm with jtag := .idcode } } : State).emit
      (.readData (leBytes 4 (2 ^ 28 + 0x0D96 * 2 ^ 12 + Config.manufacturer % 2 ^ 11 * 2 + 1))) := by
  simp only [doJtagInstruction, hon, hscan, ne_eq, not_true_eq_false, if_false, if_true, Bool.false_eq_true]

end

theorem doJtagInstruction_off {i : Jtag} (hoff : s.boot.supply ≠ .on) : doJtagInstruction i s = s := if_pos hoff

/-- The node with one challenge more given out. -/
def State.challenged (s : State) : State :=
  let d := (s.draw 128).2
  { d with thm := { d.thm with challenges := d.thm.challenges + 1 } }

/-- A challenge resets nothing. -/
theorem challenged_resetBy : s.challenged.resetBy = s.resetBy := rfl

section
variable {sig : List Byte} {too : Bool}

theorem doDebugResponse_shut (h : Config.debugFused = true ∨ s.on .tstDebugRefusing = true) : doDebugResponse sig too s = s := if_pos h

section
variable (hfused : Config.debugFused = false) (hopen : s.on .tstDebugRefusing = false)
include hfused hopen

theorem doDebugResponse_right (hsame : s.sameCycle.any s.resetBy = false) (hreset : s.boot.resetAt ≠ some s.clk)
    (hsig : Config.debugSignatureOk (Config.sha384 (leBytes 16 Config.unitId ++ leBytes 16 (s.draw 128).1)) sig = true) :
    doDebugResponse sig false s = (s.challenged.w .tstDebugUnlocked 0 1).event 15 := by
  refine (if_neg (by simp [hfused, hopen])).trans ((if_pos hsig).trans (if_neg ?_))
  rintro (h | h | h)
  · exact Bool.false_ne_true h
  · exact Bool.false_ne_true (hsame.symm.trans h)
  · exact hreset h

theorem doDebugResponse_wrong
    (hsig : Config.debugSignatureOk (Config.sha384 (leBytes 16 Config.unitId ++ leBytes 16 (s.draw 128).1)) sig = false) :
    doDebugResponse sig too s =
      let t := { s.challenged with thm := { s.challenged.thm with wrong := s.challenged.thm.wrong + 1 } }
      if 4 ≤ t.thm.wrong then t.w .tstDebugRefusing 0 1 else t :=
  (if_neg (by simp [hfused, hopen])).trans (if_neg (by simp [hsig]))

end

end

end

/-- Settles O50: each row is `event` of its operation, or `always` for JTAG, and each operation is, in its cases, the effect that its
clause names. -/
theorem calibrationTestEventsComplete : Obligations.CalibrationTestEventsComplete := by
  unfold Obligations.CalibrationTestEventsComplete
  refine ⟨?_, ?_, ?_, ?_, ?_, ?_, ?_, ?_, ?_, ?_, ?_, ?_, ?_, ?_, ?_, ?_, ?_, ?_, ?_, ?_, ?_⟩
  · exact does_of (fun _ => rfl) (fun _ _ _ => rfl)
  · refine fun o => does_of (d := doCalRunDone o) (fun _ => rfl) (fun s _ hnone => ?_)
    simp only [doCalRunDone, hnone, id_eq]
  · exact fun o r => does_of (fun _ => rfl) (fun _ _ ⟨hrun, hsweep⟩ => doCalRunDone_sweeping hrun hsweep)
  · exact fun o r => does_of (fun _ => rfl) (fun _ _ ⟨hrun, habort⟩ => doCalRunDone_aborted hrun habort)
  · exact fun o r => does_of (fun _ => rfl)
      (fun _ _ ⟨hrun, habort, hsweep, hpass, hblock⟩ => doCalRunDone_passed hrun habort hsweep hpass hblock)
  · exact fun o r => does_of (fun _ => rfl)
      (fun _ _ ⟨hrun, habort, hsweep, hpass, hblock⟩ => doCalRunDone_deferred hrun habort hsweep hpass hblock)
  · exact fun o r => does_of (fun _ => rfl)
      (fun _ _ ⟨hrun, habort, hsweep, hblock⟩ => doCalRunDone_blockGone hrun habort hsweep hblock)
  · exact does_of (fun _ => rfl) (fun _ _ _ => rfl)
  · refine fun l k x c => does_of (d := doTestChunkDone l k x c) (fun _ => rfl) (fun s _ hnone => ?_)
    simp only [doTestChunkDone, hnone, id_eq]
  · exact fun l k x c r hkind => does_of (fun _ => rfl) (fun _ _ ⟨hrun, hend⟩ => doTestChunkDone_last hrun hkind hend)
  · exact fun x c r => does_of (fun _ => rfl) (fun _ _ ⟨hrun, hend⟩ => doTestChunkDone_lastRead hrun hend)
  · exact fun l k x c r hkind => does_of (fun _ => rfl)
      (fun _ _ ⟨hrun, hend, habort⟩ => doTestChunkDone_aborted hrun hend hkind habort)
  · exact fun k x c r hkind => does_of (fun _ => rfl) (fun _ _ ⟨hrun, hend, habort⟩ =>
      (doTestChunkDone_goesOn hrun hend (.inr hkind) habort).trans (if_neg (by simp)))
  · exact fun x c r hcode => does_of (fun _ => rfl) (fun _ _ ⟨hrun, hend, habort⟩ =>
      (doTestChunkDone_goesOn hrun hend (.inl rfl) habort).trans (if_pos ⟨rfl, rfl, hcode⟩))
  · exact fun i s hi hon hscan => exec_always rfl (doJtagInstruction_holds hon hi hscan)
  · exact fun i s hi hon hscan hruns => exec_always rfl (doJtagInstruction_releases hon hi hscan hruns)
  · exact fun s hon hscan => exec_always rfl (doJtagInstruction_idcode hon hscan)
  · exact fun i s hoff => exec_always rfl (doJtagInstruction_off hoff)
  · exact fun sig too => does_of (fun _ => rfl) (fun _ _ => doDebugResponse_shut)
  · exact fun sig => does_of (fun _ => rfl)
      (fun _ _ ⟨hfused, hopen, hsame, hreset, hsig⟩ => doDebugResponse_right hfused hopen hsame hreset hsig)
  · exact fun sig too => does_of (fun _ => rfl) (fun _ _ ⟨hfused, hopen, hsig⟩ => doDebugResponse_wrong hfused hopen hsig)

end Sys2Proof.Machine

/-! PROOFS. The firmware and settings commands of group 0x0C (Table 15.10), the trace and test commands of group 0x0D (Tables 16.6 and
5.11), and the firmware's restart, its spread and the flash's writes (R544, R555 to R563, R571, R572). -/

namespace Sys2Proof.Machine

/-! ### Firmware commands -/

section
variable {c : HostCmd} {s : State} (hflash : s.flashUp = true)
include hflash

/-- With its flash up, a command of firmware update runs. -/
theorem withFlash_up (act : Action) : withFlash act c s = act c s := if_pos hflash

theorem actFwBegin_opens (htrial : s.inTrial = false) (hmin : 1025 ≤ c.u32 4) (hmax : c.u32 4 ≤ 4194304) :
    actFwBegin c s = done
      (let a := (s.setBank s.receiver Bank.receiving 0xFFFFFFFF).puts [(.fwuXferId, 0, c.u32 0), (.fwuBlocksDone, 0, 0)]
       { a with fw := { a.fw with isOpen := true, length := c.u32 4, written := [], fails := [], status := 0, closed :=
        (if s.fw.isOpen then some (s.clk, s.r .fwuXferId) else none) } }) :=
  (withFlash_up hflash _).trans ((if_neg (by simp [htrial])).trans (if_neg (by omega)))

theorem actFwWrite_writes {l : List Byte} {a : State} {n : Passed} (hread : s.hostRead c (c.u64 16) (c.u32 8) = some l)
    (hpiece : s.writePiece (c.u32 0) (c.u32 4) l = (a, Status.ok, n)) :
    actFwWrite c s = await (a.flashAsk .write) (.write Status.ok []) := by
  refine (withFlash_up hflash _).trans ?_
  simp only [hread, State.commandWrite, hpiece, if_true]

theorem actFwWriteData_writes {a : State} {n : Passed}
    (hpiece : s.writePiece (c.u32 0) (c.u32 4) (getBytes c.body 8 32) = (a, Status.ok, n)) :
    actFwWriteData c s = await (a.flashAsk .write) (.write Status.ok []) := by
  refine (withFlash_up hflash _).trans ?_
  simp only [State.commandWrite, hpiece, if_true]

section
variable (hhead : s.isHead = true) (hbank : s.bank s.receiver = Bank.ready) (hxfer : c.u32 4 = s.r .fwuXferId)
  (hfree : s.fw.spread.isSome = false)
include hhead hbank hxfer hfree

/-- FW_SPREAD past its refusals: every piece of the image goes out, to the partners or to one node. -/
theorem actFwSpread_sends {scope : Nat} (hscope : c.u8 0 = scope) (hknown : scope = 0 ∨ scope = 2) :
    actFwSpread c s =
      let pieces : Passed := none :: (List.range (blockCount (headLength (s.headerOf s.receiver)))).map some
      let a := if scope = 2 then s.spreadOn (s.broadcastPorts 4) s.receiver (c.u32 4) pieces
        else pieces.foldl (fun a x =>
          let r := a.pieceRange s.receiver x
          a.sendPieceTo (c.u16 2) s.receiver (c.u32 4) r.1 r.2) s
      accept { a with fw := { a.fw with spread := some ⟨scope, c.u16 2, c.u32 4, a.clk, a.clk, []⟩ } } .spread := by
  subst hscope
  refine (withFlash_up hflash _).trans ((if_neg (by simp [hhead])).trans ((if_neg ?_).trans (if_neg (by simp [hfree]))))
  rintro (⟨h0, h2⟩ | h | h)
  · exact hknown.elim h0 h2
  · exact h hbank
  · exact h hxfer

end

theorem actFwActivate_activates (hok : s.activateStatus (c.u32 0) = Status.ok) :
    actFwActivate c s = done
      (let bank := s.receiver
       let a := s.writeActRecord c (c.u32 0)
       let a := a.mbx.sessions.foldl (fun s x => s.lapse x 4) a
       let gone := a.mbx.scheduled
       let a : State := { a with mbx := { a.mbx with scheduled := [] } }
       let a := gone.foldl (fun s d => if d = c then s else s.final d Status.aborted) a
       let a := a.setBank bank Bank.trial (headSec (a.headerOf bank))
       (a.ws [(.aonFwuTrial, 1), (.aonFwuTrialBank, bank), (.aonFwuTrialXfer, c.u32 0), (.aonFwuFallbackSent, 0)]).askRestart true) :=
  (withFlash_up hflash _).trans (if_neg (not_not_intro hok))

theorem actFwConfirm_waits (htrial : s.inTrial = true) (hxfer : c.u32 0 = s.trialXfer) (hdue : s.fw.restartDue.isSome = false)
    (hstays : s.revertsNow = false) : actFwConfirm c s = await (s.flashAsk .write) .confirm :=
  (withFlash_up hflash _).trans (if_neg (by simp [htrial, hxfer, hdue, hstays]))

theorem actFwRevert_reverts (htrial : s.inTrial = true) (hxfer : c.u32 0 = 0 ∨ c.u32 0 = s.trialXfer) :
    actFwRevert c s = done ((s.completeAll (· == .confirm) Status.denied).endTrial.askRestart false) := by
  refine (withFlash_up hflash _).trans (if_neg ?_)
  rintro (h | ⟨h0, hx⟩)
  · simp [htrial] at h
  · exact hxfer.elim h0 hx

theorem actFwRevert_nothing (h : s.inTrial = false ∨ (c.u32 0 ≠ 0 ∧ c.u32 0 ≠ s.trialXfer)) : actFwRevert c s = done s :=
  (withFlash_up hflash _).trans (if_pos (h.imp_left (by simp [·])))

end

theorem actFwFallbackReq_falls {c : HostCmd} {s : State} (hhead : s.isHead = true) (hholder : s.on .redHolder = true) :
    actFwFallbackReq c s = done (s.fallbackFor (c.u32 0) (c.u16 4)) :=
  (if_neg (by simp [hhead])).trans (if_neg (by simp [hholder]))

/-- Settles O23: each command's action, past its refusals, is the effect that its clause names. -/
theorem firmwareCommandsComplete : Obligations.FirmwareCommandsComplete := by
  unfold Obligations.FirmwareCommandsComplete
  refine ⟨?_, ?_, fun l a n => ?_, fun a n => ?_, ?_, ?_, ?_, ?_, ?_, ?_, ?_⟩
  · exact reads_of actFwGet (fun _ _ => rfl) (fun _ _ _ _ => rfl)
  · exact completes_of actFwBegin (fun _ _ => rfl) (fun _ _ ⟨hflash, htrial, hmin, hmax⟩ => actFwBegin_opens hflash htrial hmin hmax)
  · exact awaits_of actFwWrite (fun _ _ => rfl) (fun _ _ ⟨hflash, hread, hpiece⟩ => actFwWrite_writes hflash hread hpiece)
  · exact awaits_of actFwWriteData (fun _ _ => rfl) (fun _ _ ⟨hflash, hpiece⟩ => actFwWriteData_writes hflash hpiece)
  · exact accepts_of actFwSpread (fun _ _ => rfl) (fun _ _ ⟨hflash, hhead, hscope, hbank, hxfer, hfree⟩ =>
      actFwSpread_sends hflash hhead hbank hxfer hfree hscope (.inr rfl))
  · exact accepts_of actFwSpread (fun _ _ => rfl) (fun _ _ ⟨hflash, hhead, hscope, hbank, hxfer, hfree⟩ =>
      actFwSpread_sends hflash hhead hbank hxfer hfree hscope (.inl rfl))
  · exact completes_of actFwActivate (fun _ _ => rfl) (fun _ _ ⟨hflash, hok⟩ => actFwActivate_activates hflash hok)
  · exact awaits_of actFwConfirm (fun _ _ => rfl)
      (fun _ _ ⟨hflash, htrial, hxfer, hdue, hstays⟩ => actFwConfirm_waits hflash htrial hxfer hdue hstays)
  · exact completes_of actFwRevert (fun _ _ => rfl) (fun _ _ ⟨hflash, htrial, hxfer⟩ => actFwRevert_reverts hflash htrial hxfer)
  · exact reads_of actFwRevert (fun _ _ => rfl) (fun _ _ _ ⟨hflash, h⟩ => actFwRevert_nothing hflash h)
  · exact completes_of actFwFallbackReq (fun _ _ => rfl) (fun _ _ ⟨hhead, hholder⟩ => actFwFallbackReq_falls hhead hholder)

/-! ### Settings commands -/

/-- The slot that SETTINGS_GET reads as its own (R568). -/
def State.ownSlot (s : State) : Nat := s.readSlot.elim s.fw.slot (·.1)

section
variable {c : HostCmd} {s : State}

theorem actSettingsGet_fetches {k : Nat} (hwhich : c.u8 12 ≤ 1) (hk : (if c.u8 12 = 0 then s.ownSlot else 1 - s.ownSlot) = k)
    (hroom : s.slotLength k ≤ c.u32 8) (hhost : s.hostOk (c.u64 0) = true) :
    actSettingsGet c s =
      done (s.hostWrite c (c.u64 0) (hideKey (s.flashRead (slotBase k) (s.slotLength k)))) (leBytes 4 (s.slotLength k)) := by
  have hown : (match s.readSlot with | some (k, _) => k | none => s.fw.slot) = s.ownSlot := by
    unfold State.ownSlot
    cases s.readSlot <;> rfl
  subst hk
  rw [← hown] at hroom ⊢
  refine if_neg ?_
  rintro (h | h | h)
  · omega
  · exact absurd hroom (Nat.not_le.mpr h)
  · simp [hhost] at h

section
variable (hflash : s.flashUp = true)
include hflash

theorem actSettingsPut_writes {l : List Byte} {x : Slot} (htrial : s.inTrial = false)
    (hread : s.hostRead c (c.u64 0) (c.u32 8) = some l) (hfits : l.length ≤ slotSize) (hslot : parseSlot l = some x)
    (hparses : x.parses = true) (hmin : s.r .fwuSettingsMin ≤ x.format) (hmax : x.format ≤ s.r .fwuSettingsFormat) :
    actSettingsPut c s = await
      (let k := 1 - s.fw.slot % 2
       let a := (s.flashErase (slotBase k) slotSize).flashWrite (slotBase k) (slotBytes x.format (s.fw.slotSeq + 1) false x.records)
       State.flashAsk { a with fw := { a.fw with slot := k, slotSeq := a.fw.slotSeq + 1 } } .write) (.write Status.ok []) := by
  refine (withFlash_up hflash _).trans ((if_neg (by simp [htrial])).trans ?_)
  simp only [hread, Option.bind_some, hfits, if_true, hslot]
  exact if_neg (by simp [hparses, Nat.not_lt.mpr hmin, Nat.not_lt.mpr hmax])

theorem actSettingsSave_writes (hidle : s.saveRuns = false) (hknown : s.inTrial = false ∨ s.fw.records.all recordOk = true) :
    actSettingsSave c s = await ((s.writeSlot s.recordsNow).flashAsk .write)
      (.write Status.ok (leBytes 4 (32 + (s.recordsNow.flatMap recordBytes).length))) := by
  refine (withFlash_up hflash _).trans ((if_neg (by simp [hidle])).trans (if_neg ?_))
  rintro ⟨htrial, hbad⟩
  obtain h | h := hknown
  · simp [h] at htrial
  · rw [h] at hbad
    exact absurd hbad (by decide)

end

/-! ### Trace commands -/

theorem actTraceSet_sets (hmin : 16 ≤ c.u16 4) (hmax : c.u16 4 ≤ 256) (hstep : c.u16 4 % 16 = 0) :
    actTraceSet c s = done ((s.puts [(.clvClassMask, 0, if bit (c.u8 1) 7 then c.u8 1 else c.u8 1 + 128),
      (.clvStopWhenFull, 0, HostCmdFlag c 2), (.clvTraceVc3, 0, HostCmdFlag c 3),
      (.clvTraceDest, 0, c.u16 6 % 4096)]).setTrace (HostCmdFlag c 0) (c.u16 4)) :=
  if_neg (by omega)

theorem actTraceRead_fetches (hcount : c.u32 12 ≤ s.traceCap) (hhost : s.hostOk (c.u64 0) = true) :
    actTraceRead c s =
      let n := min (c.u32 12) (s.r .clvWritten - c.u32 8)
      done (s.hostWrite c (c.u64 0) ((List.range n).flatMap (fun i =>
          mread 0 s.clv.trace ((c.u32 8 + i) % max 1 s.traceCap * 16) 16)))
        (leBytes 4 (s.r .clvWritten) ++ leBytes 4 (c.u32 8 + n) ++ leBytes 4 (s.r .clvLost)) :=
  if_neg (by simp [hhost, Nat.not_lt.mpr hcount])

theorem actPseSetService_sets (h : ¬(c.u16 0 % 4096 = 0 ∧ s.inShow = true)) :
    actPseSetService c s = done (s.setService (c.u16 0 % 4096)) :=
  if_neg h

/-! ### Test commands -/

section
variable {r : Run} (hat : r.when_ = 2 → r.at_ ≤ s.ftNs + 600000000000)
include hat

theorem takeRun_queues (hlater : r.when_ ≠ 0) (hwaits : s.runStarts r = false) (hroom : s.thm.tests.length < 16) :
    s.takeRun r = accept { s with thm := { s.thm with tests := s.thm.tests ++ [r] } } .test :=
  (if_neg (by omega)).trans ((if_neg (fun h => hlater h.1)).trans ((if_neg (by simp [hwaits])).trans (if_neg (Nat.not_le.mpr hroom))))

theorem takeRun_starts (hstarts : s.runStarts r = true) : s.takeRun r = accept (s.startRunT r) .test := by
  refine (if_neg (by omega)).trans ((if_neg ?_).trans (if_pos hstarts))
  simp only [State.runStarts, Bool.and_eq_true, Bool.not_eq_true'] at hstarts
  obtain ⟨⟨hfree, hidle⟩, -⟩ := hstarts
  simp [hfree, hidle]

end

/-- The run that TST_RUN asks for. -/
def testRunOf (c : HostCmd) (s : State) : Run :=
  { retRun (c.u8 1) with
    kind := c.u8 0, when_ := c.u8 2, at_ := c.u64 8, cmd := some c, late := decide (c.u8 2 = 2) && decide (c.u64 8 ≤ s.ftNs) }

theorem actTstRun_taken (hi : c.u8 1 < testItems (c.u8 0)) (hwhen : c.u8 2 ≤ 2) : actTstRun c s = s.takeRun (testRunOf c s) :=
  if_neg (by omega)

/-- The run that TST_LOOP asks for. -/
def loopRunOf (c : HostCmd) (s : State) : Run :=
  { retRun (c.u8 1) with
    isLoop := true, kind := c.u8 0, code := c.u8 2, when_ := c.u8 3, at_ := c.u64 8, duration := c.u32 4, driver := c.u8 16,
    cmd := some c, late := decide (c.u8 3 = 2) && decide (c.u64 8 ≤ s.ftNs) }

theorem actTstLoop_taken (hloop : s.loopOk (c.u8 0) (c.u8 1) (c.u8 2) = true) (hwhen : c.u8 3 ≤ 2) (hmin : 1 ≤ c.u32 4)
    (hmax : c.u32 4 ≤ 60000) (hdriver : c.u8 0 = 1 → c.u8 2 = 3 → c.u8 16 ≤ 15)
    (hpartner : c.u8 0 = 0 → c.u8 2 = 3 → s.partnerAllows (c.u8 1) = true) : actTstLoop c s = s.takeRun (loopRunOf c s) := by
  refine (if_neg ?_).trans (if_neg ?_)
  · rintro (h | h)
    · simp [hloop] at h
    · omega
  · rintro ⟨hkind, hcode, hrefused⟩
    simp [hpartner hkind hcode] at hrefused

theorem actTstCounters_fetches (hhost : s.hostOk (c.u64 0) = true) :
    actTstCounters c s =
      let l := counterOffsets.take (c.u32 8 / 8)
      done (s.hostWrite c (c.u64 0) (l.flatMap (fun o => leBytes 4 o ++ leBytes 4 (s.bar0 o)))) (leBytes 4 l.length ++ leBytes 8 s.ftNs) :=
  if_neg (by simp [hhost])

theorem actFrostExpect_sets (hi : c.u8 0 ≤ 7) :
    actFrostExpect c s = done (s.puts [(.tstExpect, c.u8 0, c.u32 4), (.tstCheckOn, c.u8 0, HostCmdFlag c 1)]) :=
  if_neg (Nat.not_lt.mpr hi)

end

/-- Settles O24: each command's action, past its refusals, is the effect that its clause names. -/
theorem settingsTraceTestCommandsComplete : Obligations.SettingsTraceTestCommandsComplete := by
  unfold Obligations.SettingsTraceTestCommandsComplete
  refine ⟨?_, ?_, fun l x => ?_, ?_, ?_, ?_, ?_, ?_, ?_, ?_, ?_, ?_⟩
  · exact fetches_of actSettingsGet (fun _ _ => rfl) (fun c s ⟨hother, hroom⟩ hhost =>
      actSettingsGet_fetches (by omega) (if_neg (by omega)) hroom hhost)
  · exact fetches_of actSettingsGet (fun _ _ => rfl) (fun c s ⟨hown, hroom⟩ hhost =>
      actSettingsGet_fetches (by omega) (if_pos hown) hroom hhost)
  · exact awaits_of actSettingsPut (fun _ _ => rfl)
      (fun _ _ ⟨hflash, htrial, hread, hfits, hslot, hparses, hmin, hmax⟩ =>
        actSettingsPut_writes hflash htrial hread hfits hslot hparses hmin hmax)
  · exact awaits_of actSettingsSave (fun _ _ => rfl) (fun _ _ ⟨hflash, hidle, hknown⟩ => actSettingsSave_writes hflash hidle hknown)
  · exact completes_of actTraceSet (fun _ _ => rfl) (fun _ _ ⟨hmin, hmax, hstep⟩ => actTraceSet_sets hmin hmax hstep)
  · exact fetches_of actTraceRead (fun _ _ => rfl) (fun _ _ => actTraceRead_fetches)
  · exact completes_of actPseSetService (fun _ _ => rfl) (fun _ _ => actPseSetService_sets)
  · intro r hr
    obtain rfl : r = testRunOf := funext₂ hr
    refine ⟨?_, ?_⟩
    · exact accepts_of actTstRun (fun _ _ => rfl) (fun c s ⟨hi, hwhen, hat, hwaits, hroom⟩ =>
        (actTstRun_taken hi (by omega)).trans
          (takeRun_queues (r := testRunOf c s) hat (fun h : c.u8 2 = 0 => by omega) hwaits hroom))
    · exact accepts_of actTstRun (fun _ _ => rfl) (fun c s ⟨hi, hwhen, hat, hstarts⟩ =>
        (actTstRun_taken hi hwhen).trans (takeRun_starts (r := testRunOf c s) hat hstarts))
  · intro r hr
    obtain rfl : r = loopRunOf := funext₂ hr
    refine ⟨?_, ?_⟩
    · exact accepts_of actTstLoop (fun _ _ => rfl)
        (fun c s ⟨hloop, hwhen, hat, hmin, hmax, hdriver, hpartner, hwaits, hroom⟩ =>
          (actTstLoop_taken hloop (by omega) hmin hmax hdriver hpartner).trans
            (takeRun_queues (r := loopRunOf c s) hat (fun h : c.u8 3 = 0 => by omega) hwaits hroom))
    · exact accepts_of actTstLoop (fun _ _ => rfl)
        (fun c s ⟨hloop, hwhen, hat, hmin, hmax, hdriver, hpartner, hstarts⟩ =>
          (actTstLoop_taken hloop hwhen hmin hmax hdriver hpartner).trans (takeRun_starts (r := loopRunOf c s) hat hstarts))
  · refine reads_of actTstResult (fun _ _ => rfl) (fun c s _ hi => (if_neg (Nat.not_lt.mpr hi)).trans rfl)
  · exact fetches_of actTstCounters (fun _ _ => rfl) (fun _ _ _ => actTstCounters_fetches)
  · exact writes_of_nodup actFrostExpect (fun _ _ => rfl) (fun _ _ => actFrostExpect_sets) (fun _ => by simp)

/-! ### The restart, the spread and the flash -/

section
variable {s : State} {c : HostCmd}

section
variable {sp : Spread} (hspread : s.fw.spread = some sp)
include hspread

theorem doSpreadPoll_due (hdue : sp.polled + 1000000000 ≤ s.clk) :
    doSpreadPoll s = if s.spreadDone sp then s.endSpread sp else (s.resend sp).pollSpread sp := by
  simp only [doSpreadPoll, hspread, Nat.not_lt.mpr hdue, if_false]

theorem doSpreadPoll_early (hearly : s.clk < sp.polled + 1000000000) : doSpreadPoll s = s := by
  simp only [doSpreadPoll, hspread, hearly, if_true]

theorem doSpreadTimeout_some : doSpreadTimeout s =
    if sp.started + 1000000000 * s.r .fwuSpreadLimit ≤ s.clk then s.endSpread sp else s := by
  simp only [doSpreadTimeout, hspread]

end

theorem doSpreadPoll_none (hnone : s.fw.spread = none) : doSpreadPoll s = s := by
  simp only [doSpreadPoll, hnone]

theorem doSpreadTimeout_none (hnone : s.fw.spread = none) : doSpreadTimeout s = s := by
  simp only [doSpreadTimeout, hnone]

/-- The node with no command that waits. -/
def State.noneDeferred (s : State) : State := { s with mbx := { s.mbx with deferred := [] } }

/-- A command goes on to wait for the floor fuses (R565). -/
def State.toFuses (s : State) (c : HostCmd) : State :=
  ({ s with mbx := { s.mbx with deferred := s.mbx.deferred ++ [⟨c, .fuses, true⟩] } } : State).startFuses

/-- One command waits for a write of the flash: the write's end answers it. -/
theorem endWrite_write {st : Nat} {l : List Byte} (hwaits : s.mbx.deferred = [⟨c, .write st l, true⟩]) :
    s.endWrite = s.noneDeferred.final c st l := by
  simp [State.endWrite, hwaits, isFlashWrite, State.noneDeferred]

/-- One FW_CONFIRM waits for its selection record: the trial bank becomes CONFIRMED, and the command goes on to the floor fuses. -/
theorem endWrite_confirm (hwaits : s.mbx.deferred = [⟨c, .confirm, true⟩]) :
    s.endWrite = s.noneDeferred.confirmTrial.toFuses c := by
  simp [State.endWrite, hwaits, isFlashWrite, State.noneDeferred, State.toFuses]

theorem confirmTrial_confirms (htrial : s.inTrial = true) : s.confirmTrial =
    let b := s.trialBank
    let t := s.confirmSlot
    let t := ((t.writeSelection b (max (t.r .fwuFloorTarget) (t.r (secReg b)))).clearTrial).w (bankReg b) 0 Bank.confirmed
    if t.bank (1 - b) = Bank.confirmed then t.w (bankReg (1 - b)) 0 Bank.ready else t :=
  if_pos htrial

theorem doFlashWriteComplete_write (hjob : s.fw.job = .write) : doFlashWriteComplete s = s.endWrite.flashFree := by
  simp only [doFlashWriteComplete, hjob]

theorem doFirmwareRestart_due {d : Nat} {parsed : Bool} (hnone : s.fw.restartAt = none) (hdue : s.fw.restartDue = some d) :
    doFirmwareRestart parsed s = if s.restartReady d then s.beginRestart else s := by
  simp only [doFirmwareRestart, hnone, hdue]

end

/-- Settles O51: each row is `event` of its operation, and each operation is, in its cases, the effect that its clause names. -/
theorem firmwareEventsComplete : Obligations.FirmwareEventsComplete := by
  unfold Obligations.FirmwareEventsComplete
  refine ⟨?_, ?_, ?_, ?_, ?_, ?_, ?_, ?_, ?_, ?_, ?_, ?_, ?_, ?_, ?_, ?_, ?_⟩
  · refine fun t parsed => does_of (d := doFirmwareRestart parsed) (fun _ => rfl) (fun s _ hrun => ?_)
    simp only [doFirmwareRestart, hrun]
  · exact fun d parsed => does_of (fun _ => rfl)
      (fun _ _ ⟨hnone, hdue, hready⟩ => (doFirmwareRestart_due hnone hdue).trans (if_pos hready))
  · exact fun d parsed => does_of (fun _ => rfl)
      (fun _ _ ⟨hnone, hdue, hready⟩ => (doFirmwareRestart_due hnone hdue).trans (if_neg (by simp [hready])))
  · refine fun parsed => does_of (d := doFirmwareRestart parsed) (fun _ => rfl) (fun s _ ⟨hnone, hdue⟩ => ?_)
    simp only [doFirmwareRestart, hnone, hdue, id_eq]
  · refine doesOnly_of (d := doFirmwareRestartTimeout) (fun _ => rfl) (fun s ⟨t, hrun, hlate⟩ => ?_) (fun s hearly => ?_)
    · simp only [doFirmwareRestartTimeout, hrun, hlate, if_true]
    · unfold doFirmwareRestartTimeout
      split
      · next t hrun => exact if_neg (fun hlate => hearly ⟨t, hrun, hlate⟩)
      · rfl
  · refine doesOnly_of (d := doFallbackReqRepeat) (fun _ => rfl) (fun s ⟨f, hasks, hlate⟩ => ?_) (fun s hearly => ?_)
    · simp only [doFallbackReqRepeat, hasks, hlate, if_true]
    · unfold doFallbackReqRepeat
      split
      · next f hasks => exact if_neg (fun hlate => hearly ⟨f, hasks, hlate⟩)
      · rfl
  · exact fun sp => does_of (fun _ => rfl) (fun _ _ ⟨hspread, hdue, hdone⟩ => (doSpreadPoll_due hspread hdue).trans (if_pos hdone))
  · exact fun sp => does_of (fun _ => rfl)
      (fun _ _ ⟨hspread, hdue, hdone⟩ => (doSpreadPoll_due hspread hdue).trans (if_neg (by simp [hdone])))
  · exact fun sp => does_of (fun _ => rfl) (fun _ _ ⟨hspread, hearly⟩ => doSpreadPoll_early hspread hearly)
  · exact does_of (fun _ => rfl) (fun _ _ => doSpreadPoll_none)
  · exact fun sp => does_of (fun _ => rfl) (fun _ _ ⟨hspread, hlate⟩ => (doSpreadTimeout_some hspread).trans (if_pos hlate))
  · exact fun sp => does_of (fun _ => rfl)
      (fun _ _ ⟨hspread, hearly⟩ => (doSpreadTimeout_some hspread).trans (if_neg (Nat.not_le.mpr hearly)))
  · exact does_of (fun _ => rfl) (fun _ _ => doSpreadTimeout_none)
  · exact fun c st l => does_of (fun _ => rfl)
      (fun _ _ ⟨hjob, hwaits⟩ => (doFlashWriteComplete_write hjob).trans (congrArg State.flashFree (endWrite_write hwaits)))
  · exact fun c => does_of (fun _ => rfl) (fun s _ ⟨hjob, hwaits, htrial⟩ =>
      ((doFlashWriteComplete_write hjob).trans (congrArg State.flashFree (endWrite_confirm hwaits))).trans
        (congrArg (fun t => (State.toFuses t c).flashFree) (confirmTrial_confirms (s := s.noneDeferred) htrial)))
  · refine does_of (d := doFlashWriteComplete) (fun _ => rfl) (fun s _ hjob => ?_)
    simp only [doFlashWriteComplete, hjob]
  · refine does_of (d := doFlashWriteComplete) (fun _ => rfl) (fun s _ hjob => ?_)
    obtain hjob | hjob := hjob
    all_goals simp only [doFlashWriteComplete, hjob, id_eq]

end Sys2Proof.Machine

/-! PROOFS. A command leaves the queue of those that wait as it was (R459). One frame lemma per operation of the model that answers a
state, in the order of the model's sections and tagged for `simp`, so that each proof cites those of the operations it calls; then one
for each form of a row. Where unfolding a function would let the kernel evaluate frame arithmetic, its proof rewrites the state by the
function's definition first and names the part it does not look into (`generalize`). -/

namespace Sys2Proof.Machine

/-- The action of a command leaves the queue of waiting commands as it was. -/
def LeavesQueue (act : Action) : Prop := ∀ c s, (act c s).s.pending = s.pending

/-! ### Choices, folds and answers -/

@[simp] theorem ite_pending {p : Prop} [Decidable p] (a b : State) : (if p then a else b).pending = if p then a.pending else b.pending :=
  apply_ite State.pending p a b
@[simp] theorem ite_s {p : Prop} [Decidable p] (a b : Ack) : (if p then a else b).s = if p then a.s else b.s :=
  apply_ite Ack.s p a b
theorem ite_keeps {p : Prop} [Decidable p] {a b : State} {l : List Instr} (ha : a.pending = l) (hb : b.pending = l) :
    (if p then a else b).pending = l := by
  split
  · exact ha
  · exact hb
@[simp] theorem foldl_pending {α : Type} {f : State → α → State} (hf : ∀ s a, (f s a).pending = s.pending) (l : List α) (s : State) :
    (l.foldl f s).pending = s.pending := by
  induction l generalizing s with
  | nil => rfl
  | cons a l ih => exact (ih _).trans (hf s a)
@[simp] theorem done_s (s : State) (l : List Byte) : (done s l).s = s := rfl
@[simp] theorem refuse_s (s : State) (st : Nat) (l : List Byte) : (refuse s st l).s = s := rfl
@[simp] theorem accept_s (s : State) (w : Waits) (st : Nat) (l : List Byte) : (accept s w st l).s = s := rfl
@[simp] theorem await_s (s : State) (w : Waits) : (await s w).s = s := rfl

/-! ### Reading and writing the register fields -/

@[simp] theorem count_pending (s : State) (f : FName) (i n : Nat) : (s.count f i n).pending = s.pending := rfl
@[simp] theorem event_pending (s : State) (b : Nat) : (s.event b).pending = s.pending := by simp [State.event]
@[simp] theorem raiseBit_pending (s : State) (f : FName) (i b : Nat) : (s.raiseBit f i b).pending = s.pending := by
  simp only [State.raiseBit]
  repeat' split
  all_goals simp
@[simp] theorem raise_pending (s : State) (f : FName) (i : Nat) : (s.raise f i).pending = s.pending := by simp [State.raise]

/-! ### Staged fields -/

@[simp] theorem stages_pending (s : State) (session : Nat) (l : List (FName × Nat × Nat)) : (s.stages session l).pending = s.pending := by
  unfold State.stages
  exact foldl_pending (fun _ _ => stage_pending ..) l s
@[simp] theorem nodeSet_pending (s : State) (f : FName) (i v : Nat) : (s.nodeSet f i v).pending = s.pending := by simp [State.nodeSet]
@[simp] theorem wKey_pending (s : State) (key v : Nat) : (s.wKey key v).pending = s.pending := by
  simp only [State.wKey]
  split <;> simp

/-! ### Time and state of the node -/

@[simp] theorem leaveNext_pending (s : State) : s.leaveNext.pending = s.pending := by simp [State.leaveNext]

/-! ### Parts of the state -/

@[simp] theorem takeStamp_pending (s : State) (stamp : Nat) : (s.takeStamp stamp).2.pending = s.pending := by
  rw [takeStamp_eq]
  exact raiseIf_pending ..

/-! ### Packets -/

@[simp] theorem egress_pending (s : State) (p : Nat) (k : Pkt) (frees : Option Release) : (s.egress p k frees).pending = s.pending := by
  simp [State.egress]
@[simp] theorem freeUnits_pending (s : State) (p k n : Nat) : (s.freeUnits p k n).pending = s.pending := rfl
@[simp] theorem release_pending (s : State) (r : Release) : (s.release r).pending = s.pending := by simp [State.release]
@[simp] theorem route_pending (s : State) (k : Pkt) : (s.route k).pending = s.pending := by
  simp only [State.route]
  repeat' split
  all_goals simp
@[simp] theorem sendTo_pending (s : State) (ptype dst : Nat) (payload : List Byte) (fence : Bool) :
    (s.sendTo ptype dst payload fence).pending = s.pending := by
  simp [State.sendTo]
@[simp] theorem sendPort_pending (s : State) (p ptype : Nat) (payload : List Byte) : (s.sendPort p ptype payload).pending = s.pending := by
  simp [State.sendPort]
@[simp] theorem sendRing_pending (s : State) (ptype : Nat) (payload : List Byte) : (s.sendRing ptype payload).pending = s.pending := by
  simp [State.sendRing]
@[simp] theorem sendResilver_pending (s : State) (op count csa transfer : Nat) :
    (s.sendResilver op count csa transfer).pending = s.pending := by
  simp [State.sendResilver]
@[simp] theorem sendBulk_pending (s : State) (dst kind id base : Nat) (l : List Byte) :
    (s.sendBulk dst kind id base l).pending = s.pending := by
  simp [State.sendBulk]

/-! ### Responses -/

@[simp] theorem slotWrite_pending (s : State) (n : Nat) (r : Response) : (s.slotWrite n r).pending = s.pending := by simp [State.slotWrite]
@[simp] theorem slotComplete_pending (s : State) (n : Nat) : (s.slotComplete n).pending = s.pending := by simp [State.slotComplete]
@[simp] theorem ringWrite_pending (s : State) (r : Response) : (s.ringWrite r).pending = s.pending := rfl
@[simp] theorem ringPost_pending (s : State) (r : Response) : (s.ringPost r).pending = s.pending := by simp [State.ringPost]
@[simp] theorem post_pending (s : State) (c : HostCmd) (r : Response) : (s.post c r).1.pending = s.pending := by
  simp only [State.post]
  repeat' split
  all_goals simp
@[simp] theorem markReleased_pending (s : State) (c d : HostCmd) : (s.markReleased c d).pending = s.pending := rfl
@[simp] theorem postMark_pending (s : State) (c : HostCmd) (r : Response) : (s.postMark c r).pending = s.pending := by simp [State.postMark]

/-! ### Relay results (R399, R400, R476 to R478) -/

@[simp] theorem writeList_pending (s : State) (r : Relay) : (s.writeList r).1.pending = s.pending := by
  simp only [State.writeList]
  split <;> simp
@[simp] theorem dropRelay_pending (s : State) (tag : Nat) : (s.dropRelay tag).pending = s.pending := rfl
@[simp] theorem logSession_pending (s : State) (x : Session) (reason : Nat) : (s.logSession x reason).pending = s.pending := by
  simp [State.logSession]
@[simp] theorem closeOpened_pending (s : State) (r : Relay) : (s.closeOpened r).pending = s.pending := by
  simp only [State.closeOpened]
  split <;> simp
@[simp] theorem diverged_pending (s : State) : s.diverged.pending = s.pending := by simp [State.diverged]
@[simp] theorem finishRelay_pending (s : State) (r : Relay) : (s.finishRelay r).pending = s.pending := by
  simp only [State.finishRelay]
  repeat' split
  all_goals simp
@[simp] theorem interimRelay_pending (s : State) (r : Relay) : (s.interimRelay r).pending = s.pending := by
  simp only [State.interimRelay]
  split <;> simp
@[simp] theorem learnGroup_pending (s : State) (c : HostCmd) (node : Nat) (r : Response) : (s.learnGroup c node r).pending = s.pending := by
  simp [State.learnGroup]
@[simp] theorem learnSpread_pending (s : State) (c : HostCmd) (node : Nat) (r : Response) :
    (s.learnSpread c node r).pending = s.pending := by
  simp only [State.learnSpread]
  split <;> simp
@[simp] theorem relayAnswer_pending (s : State) (tag node : Nat) (resp : Response) : (s.relayAnswer tag node resp).pending = s.pending := by
  simp only [State.relayAnswer]
  split <;> simp
@[simp] theorem respond_pending (s : State) (c : HostCmd) (r : Response) : (s.respond c r).1.pending = s.pending := by
  simp only [State.respond]
  split <;> simp
@[simp] theorem final_pending (s : State) (c : HostCmd) (status : Nat) (data : List Byte) :
    (s.final c status data).pending = s.pending := by
  simp [State.final]
@[simp] theorem complete_pending (s : State) (w : Waits) (status : Nat) (data : List Byte) :
    (s.complete w status data).pending = s.pending := by
  simp [State.complete]
@[simp] theorem completeAll_pending (s : State) (f : Waits → Bool) (status : Nat) : (s.completeAll f status).pending = s.pending := by
  simp [State.completeAll]

/-! ### Checks before a command -/

@[simp] theorem noteHeld_pending (s : State) (op : Nat) (c : HostCmd) : (s.noteHeld op c).pending = s.pending := by simp [State.noteHeld]
theorem carry_pending {act : Action} (hact : LeavesQueue act) (s : State) (op : Nat) (c : HostCmd) :
    (s.carry op act c).s.pending = s.pending := by
  unfold State.carry
  split
  · exact noteHeld_pending ..
  · exact hact c s
@[simp] theorem conclude_pending (c : HostCmd) (first late : Bool) (a : Ack) : (conclude c first late a).pending = a.s.pending := by
  unfold conclude
  dsimp only
  generalize a.waits = w
  cases w with
  | none => simp
  | some w => simp

/-! ### Scheduling and relay -/

theorem schedule_pending {act : Action} (hact : LeavesQueue act) (s : State) (op : Nat) (c : HostCmd) :
    (s.schedule op act c).pending = s.pending := by
  simp [State.schedule, carry_pending hact]
theorem here_pending {act : Action} (hact : LeavesQueue act) (s : State) (op : Nat) (c : HostCmd) :
    (s.here op act c).pending = s.pending := by
  unfold State.here
  split
  · split
    · simp
    · exact schedule_pending hact s op c
  · exact (conclude_pending ..).trans (carry_pending hact s op c)
@[simp] theorem sendRelay_pending (s : State) (c : HostCmd) (tag : Nat) (nodes : List Nat) :
    (s.sendRelay c tag nodes).pending = s.pending := by
  simp [State.sendRelay]
theorem moveData_pending {s t : State} {op : Nat} {c d : HostCmd} {nodes : List Nat} (h : s.moveData op c nodes = some (t, d)) :
    t.pending = s.pending := by
  unfold State.moveData at h
  split at h
  · cases h
    rfl
  · simp only at h
    repeat' split at h
    all_goals cases h
    all_goals simp
theorem relayOut_pending {act : Action} (hact : LeavesQueue act) (s : State) (op : Nat) (c : HostCmd) :
    (s.relayOut op act c).pending = s.pending := by
  have hextra (f : HostCmd) (tag : Nat) (l : List Nat) (s : State) :
      (l.foldl (fun s n => s.sendTo 0x10 n (f.bytes ++ leBytes 4 tag ++ leBytes 2 s.id ++ [0, 0]) f.fence) s).pending = s.pending :=
    foldl_pending (fun _ _ => sendTo_pending ..) l s
  unfold State.relayOut
  cases s.relayRefusal op c with
  | some st => exact final_pending ..
  | none =>
    dsimp only
    rw [ite_pending, ite_pending, ite_pending, ite_pending]
    generalize hmoved : State.moveData _ _ _ _ = m
    cases m with
    | none => simp only [final_pending, ite_pending, ite_self]
    | some m =>
      simp only [final_pending, here_pending hact, hextra, sendRelay_pending, moveData_pending hmoved, ite_pending, ite_self]
theorem mirrorScheduled_pending {act : Action} (hact : LeavesQueue act) (s : State) (op : Nat) (c : HostCmd) :
    (s.mirrorScheduled op act c).pending = s.pending := by
  simp [State.mirrorScheduled, here_pending hact]
theorem mirror_pending {act : Action} (hact : LeavesQueue act) (s : State) (op : Nat) (c : HostCmd) :
    (s.mirror op act c).pending = s.pending := by
  have hcarry := carry_pending hact s op c
  unfold State.mirror
  generalize s.carry op act c = a at hcarry ⊢
  dsimp only
  cases a.waits with
  | none => exact (sendTo_pending ..).trans hcarry
  | some w => exact (sendTo_pending ..).trans hcarry

/-! ### COMMIT to a scope -/

theorem start_pending {act : Action} (hact : LeavesQueue act) (s : State) (op : Nat) (c : HostCmd) :
    (s.start op act c).pending = s.pending := by
  unfold State.start
  refine ite_keeps (final_pending ..) (ite_keeps (final_pending ..) (ite_keeps (relayOut_pending hact ..) ?_))
  cases s.commitForm op c with
  | some d => exact relayOut_pending hact ..
  | none =>
    exact ite_keeps (here_pending hact ..) (ite_keeps (mirrorScheduled_pending hact ..) (mirror_pending hact ..))

/-! ### The end of a session (R467, R468) -/

@[simp] theorem setShadow_pending (s : State) (key v : Nat) : (s.setShadow key v).pending = s.pending := by
  simp only [State.setShadow]
  split <;> simp
@[simp] theorem lapse_pending (s : State) (x : Session) (reason : Nat) : (s.lapse x reason).pending = s.pending := by simp [State.lapse]
@[simp] theorem doSessionLapse_pending (id : Nat) (s : State) : (doSessionLapse id s).pending = s.pending := by
  simp only [doSessionLapse]
  split <;> simp
@[simp] theorem lapseDue_pending (s : State) : s.lapseDue.pending = s.pending := by simp [State.lapseDue]

/-! ### Arrival -/

@[simp] theorem renew_pending (s : State) (c : HostCmd) : (s.renew c).pending = s.pending := by simp [State.renew]
@[simp] theorem arrive_pending (s : State) (c : HostCmd) : (s.arrive c).pending = s.pending := by simp [State.arrive]
theorem receive_pending {act : Action} (hact : LeavesQueue act) (s : State) (op : Nat) (c : HostCmd) :
    (s.receive op act c).pending = s.pending := by
  unfold State.receive
  dsimp only
  split
  · rfl
  · split
    · split <;> rfl
    · simp [start_pending hact]
theorem runHost_pending {act : Action} (hact : LeavesQueue act) (op : Nat) (c : HostCmd) (s : State) :
    (runHost op act c s).pending = s.pending :=
  receive_pending hact { s with out := [] } op c

/-! ### Host memory -/

@[simp] theorem hostWrite_pending (s : State) (c : HostCmd) (addr : Nat) (l : List Byte) : (s.hostWrite c addr l).pending = s.pending := by
  simp only [State.hostWrite]
  repeat' split
  all_goals simp

/-! ### System commands -/

@[simp] theorem actSysIdent_pending (c : HostCmd) (s : State) : (actSysIdent c s).s.pending = s.pending := rfl
@[simp] theorem actSysStatus_pending (c : HostCmd) (s : State) : (actSysStatus c s).s.pending = s.pending := rfl
@[simp] theorem actSysPing_pending (c : HostCmd) (s : State) : (actSysPing c s).s.pending = s.pending := rfl
@[simp] theorem actEventSet_pending (c : HostCmd) (s : State) : (actEventSet c s).s.pending = s.pending := by simp [actEventSet]
@[simp] theorem actUploadWrite_pending (c : HostCmd) (s : State) : (actUploadWrite c s).s.pending = s.pending := by simp [actUploadWrite]
@[simp] theorem actLogRead_pending (c : HostCmd) (s : State) : (actLogRead c s).s.pending = s.pending := by simp [actLogRead]

/-! ### Sessions -/

@[simp] theorem actSessionOpen_pending (c : HostCmd) (s : State) : (actSessionOpen c s).s.pending = s.pending := by
  simp only [actSessionOpen]
  repeat' split
  all_goals simp
@[simp] theorem closeKeep_pending (s : State) (x : Session) : (s.closeKeep x).pending = s.pending := rfl
@[simp] theorem actSessionClose_pending (c : HostCmd) (s : State) : (actSessionClose c s).s.pending = s.pending := by
  simp only [actSessionClose]
  split <;> simp
@[simp] theorem actSessionRenew_pending (c : HostCmd) (s : State) : (actSessionRenew c s).s.pending = s.pending := by
  simp only [actSessionRenew]
  split <;> simp
@[simp] theorem actSessionGet_pending (c : HostCmd) (s : State) : (actSessionGet c s).s.pending = s.pending := rfl

/-! ### Slots, ring and datagrams -/

@[simp] theorem postSlot_pending (s : State) (n : Nat) : (s.postSlot n).pending = s.pending := by simp [State.postSlot]
@[simp] theorem actUnknown_pending (c : HostCmd) (s : State) : (actUnknown c s).s.pending = s.pending := rfl
@[simp] theorem answerUnknown_pending (s : State) : s.answerUnknown.pending = s.pending := by
  have hunknown : LeavesQueue actUnknown := actUnknown_pending
  unfold State.answerUnknown
  exact foldl_pending (fun _ _ => receive_pending hunknown ..) _ s
@[simp] theorem doMbxDoorbell_pending (mask : Nat) (s : State) : (doMbxDoorbell mask s).pending = s.pending := by simp [doMbxDoorbell]
@[simp] theorem drain_pending (n : Nat) (s : State) : (State.drain n s).pending = s.pending := by
  induction n generalizing s with
  | zero => rfl
  | succ n ih =>
    unfold State.drain
    split
    · rfl
    · simp [ih]
@[simp] theorem doCqHeadWrite_pending (v : Nat) (s : State) : (doCqHeadWrite v s).pending = s.pending := by simp [doCqHeadWrite]
@[simp] theorem takeUdp_pending (s : State) (ip sport : Nat) (l : List Byte) : (s.takeUdp ip sport l).pending = s.pending := by
  simp only [State.takeUdp]
  split <;> simp
@[simp] theorem doUdpDatagramRx_pending (ip sport : Nat) (l : List Byte) (s : State) :
    (doUdpDatagramRx ip sport l s).pending = s.pending := by
  simp [doUdpDatagramRx]
@[simp] theorem doPcieLinkDown_pending (s : State) : (doPcieLinkDown s).pending = s.pending := by simp [doPcieLinkDown]

/-! ### What the line carries (Table 9.8) -/

@[simp] theorem showLine_pending (s : State) (p : Nat) : (s.showLine p).pending = s.pending := rfl
@[simp] theorem turnBack_pending (s : State) (p : Nat) (i : LineItem) : (s.turnBack p i).pending = s.pending := by simp [State.turnBack]

/-! ### Leaving and entering states -/

@[simp] theorem setTx_pending (s : State) (p l pre post : Nat) : (s.setTx p l pre post).pending = s.pending := rfl
@[simp] theorem clearEq_pending (s : State) (p : Nat) : (s.clearEq p).pending = s.pending := by
  unfold State.clearEq
  exact foldl_pending (fun _ _ => by simp) _ s
@[simp] theorem discoverSoon_pending (s : State) : s.discoverSoon.pending = s.pending := rfl
@[simp] theorem linkEvent_pending (s : State) (p ev : Nat) : (s.linkEvent p ev).pending = s.pending := by simp [State.linkEvent]
@[simp] theorem dropResults_pending (s : State) (p : Nat) (f : CalRec → Bool) : (s.dropResults p f).pending = s.pending := rfl
@[simp] theorem dropLink_pending (s : State) (p : Nat) : (s.dropLink p).pending = s.pending := by simp [State.dropLink]
@[simp] theorem leaveUp_pending (s : State) (p : Nat) : (s.leaveUp p).pending = s.pending := by simp [State.leaveUp]
@[simp] theorem enterPort_pending (s : State) (p state : Nat) : (s.enterPort p state).pending = s.pending := by simp [State.enterPort]
@[simp] theorem listen_pending (s : State) (p : Nat) : (s.listen p).pending = s.pending := by simp [State.listen]
@[simp] theorem restartPort_pending (s : State) (p : Nat) : (s.restartPort p).pending = s.pending := by simp [State.restartPort]
@[simp] theorem followEnable_pending (s : State) (p : Nat) : (s.followEnable p).pending = s.pending := by simp [State.followEnable]
@[simp] theorem enterTrain_pending (s : State) (p rate : Nat) : (s.enterTrain p rate).pending = s.pending := by
  have hseeds (mine : Nat × Nat × List Byte → Bool) (s : State) (q : Option (Nat × Nat × List Byte) × Nat) :
      (match q.1.filter mine with
        | some (_, _, v) => (s.w .fabLaneCtle (pl p q.2) (getLE v 0 1)).w .fabLaneDfe1 (pl p q.2) (getLE v 2 1)
        | none => s).pending = s.pending := by
    split <;> rfl
  unfold State.enterTrain
  refine (showLine_pending ..).trans ((setPort_pending ..).trans ((draw_pending ..).trans ((foldl_pending (hseeds _) _ _).trans ?_)))
  simp
@[simp] theorem showCredit_pending (s : State) (p : Nat) : (s.showCredit p).pending = s.pending := by
  unfold State.showCredit
  dsimp only
  rw [foldl_pending]
  exact fun s v => (w_pending ..).trans (w_pending ..)
@[simp] theorem enterUp_pending (s : State) (p rate lanes : Nat) : (s.enterUp p rate lanes).pending = s.pending := by
  unfold State.enterUp
  refine (linkEvent_pending ..).trans ((showLine_pending ..).trans ((setPort_pending ..).trans ((setTimePort_pending ..).trans ?_)))
  refine (draw_pending ..).trans ((showCredit_pending ..).trans ((setLink_pending ..).trans ?_))
  exact ite_keeps ((raise_pending ..).trans (enterPort_pending ..)) (enterPort_pending ..)
@[simp] theorem fallBack_pending (s : State) (p : Nat) : (s.fallBack p).pending = s.pending := by simp [State.fallBack]
@[simp] theorem failAttempt_pending (s : State) (p : Nat) : (s.failAttempt p).pending = s.pending := by simp [State.failAttempt]
@[simp] theorem exclude_pending (s : State) (p mask : Nat) : (s.exclude p mask).pending = s.pending := by simp [State.exclude]

/-! ### Restart and loss of signal -/

@[simp] theorem doSignalLoss_pending (p : Nat) (s : State) : (doSignalLoss p s).pending = s.pending := by simp [doSignalLoss]
@[simp] theorem doRestart_pending (p : Nat) (s : State) : (doRestart p s).pending = s.pending := by simp [doRestart]
@[simp] theorem actFabRestart_pending (c : HostCmd) (s : State) : (actFabRestart c s).s.pending = s.pending := by simp [actFabRestart]

/-! ### Offers -/

@[simp] theorem doOfferSend_pending (p : Nat) (s : State) : (doOfferSend p s).pending = s.pending := by simp [doOfferSend]
@[simp] theorem doOfferRx_pending (p : Nat) (l : List Byte) (s : State) : (doOfferRx p l s).pending = s.pending := by
  simp only [doOfferRx]
  split <;> simp
@[simp] theorem doSilentBurst_pending (p : Nat) (s : State) : (doSilentBurst p s).pending = s.pending := by simp [doSilentBurst]

/-! ### Training -/

@[simp] theorem answerControl_pending (s : State) (p l control : Nat) : (s.answerControl p l control).pending = s.pending := by
  simp [State.answerControl]
@[simp] theorem sendFrame_pending (s : State) (p l : Nat) : (s.sendFrame p l).pending = s.pending := rfl
@[simp] theorem sendFrames_pending (s : State) (p : Nat) : (s.sendFrames p).pending = s.pending := by
  unfold State.sendFrames
  dsimp only
  split
  · exact (setPort_pending ..).trans (foldl_pending (fun s l => sendFrame_pending s p l) _ s)
  · rfl
@[simp] theorem seeStatus_pending (s : State) (p l status : Nat) : (s.seeStatus p l status).pending = s.pending := rfl
@[simp] theorem askAgain_pending (s : State) (p l want : Nat) : (s.askAgain p l want).pending = s.pending := by simp [State.askAgain]
@[simp] theorem advance_pending (s : State) (p : Nat) : (s.advance p).pending = s.pending := by
  simp only [State.advance]
  repeat' split
  all_goals simp
@[simp] theorem doTrainingWordRx_pending (p l control status want : Nat) (rxReady : Bool) (s : State) :
    (doTrainingWordRx p l control status want rxReady s).pending = s.pending := by
  simp [doTrainingWordRx]
@[simp] theorem doTrainStageTimeout_pending (p : Nat) (s : State) : (doTrainStageTimeout p s).pending = s.pending := by
  simp only [doTrainStageTimeout]
  split <;> simp
@[simp] theorem doLane0LockLoss_pending (p : Nat) (s : State) : (doLane0LockLoss p s).pending = s.pending := by simp [doLane0LockLoss]
@[simp] theorem doAlignCheck_pending (p corrected uncorrectable badSync : Nat) (skews : List (Option Nat)) (s : State) :
    (doAlignCheck p corrected uncorrectable badSync skews s).pending = s.pending := by
  simp [doAlignCheck]

/-! ### Service -/

@[simp] theorem doFecWindow_pending (p corrected uncorrectable burst : Nat) (s : State) :
    (doFecWindow p corrected uncorrectable burst s).pending = s.pending := by
  simp [doFecWindow]
@[simp] theorem doAdaptTrigger_pending (p : Nat) (s : State) : (doAdaptTrigger p s).pending = s.pending := by simp [doAdaptTrigger]
@[simp] theorem putRecord_pending (s : State) (r : CalRec) : (s.putRecord r).pending = s.pending := rfl
@[simp] theorem calDefer_pending (s : State) (kind : Nat) : (s.calDefer kind).pending = s.pending := by simp [State.calDefer]
@[simp] theorem applyAdapt_pending (s : State) (p l n : Nat) : (s.applyAdapt p l n).pending = s.pending := rfl
@[simp] theorem noteNeed_pending (s : State) : s.noteNeed.pending = s.pending :=
  foldl_pending (fun s p => (setPort_pending ..).trans (w_pending s .fabNeed p (s.need p))) _ s
@[simp] theorem doRateStep_pending (p : Nat) (s : State) : (doRateStep p s).pending = s.pending := by
  unfold doRateStep
  extract_lets u t
  have ht : t.pending = s.pending := ite_keeps ((raise_pending ..).trans (noteNeed_pending s)) (noteNeed_pending s)
  exact ite_keeps ((setPort_pending ..).trans ((restartPort_pending ..).trans ht)) ht
@[simp] theorem doAdaptResult_pending (p : Nat) (ws : List AdaptWindow) (s : State) : (doAdaptResult p ws s).pending = s.pending := by
  unfold doAdaptResult
  dsimp only
  split
  · rfl
  · split
    · exact foldl_pending (fun s l => applyAdapt_pending s p l _) _ _
    · simp

/-! ### Commands (Table 9.16) -/

@[simp] theorem actFabPortGet_pending (c : HostCmd) (s : State) : (actFabPortGet c s).s.pending = s.pending := by simp [actFabPortGet]
@[simp] theorem actFabPortSet_pending (c : HostCmd) (s : State) : (actFabPortSet c s).s.pending = s.pending := by simp [actFabPortSet]
@[simp] theorem actFabLoop_pending (c : HostCmd) (s : State) : (actFabLoop c s).s.pending = s.pending := by simp [actFabLoop]
@[simp] theorem actFabLaneGet_pending (c : HostCmd) (s : State) : (actFabLaneGet c s).s.pending = s.pending := by simp [actFabLaneGet]

/-! ### The flash as a store, and the settings slots in it -/

@[simp] theorem flashWrite_pending (s : State) (a : Nat) (l : List Byte) : (s.flashWrite a l).pending = s.pending := rfl
@[simp] theorem flashErase_pending (s : State) (a n : Nat) : (s.flashErase a n).pending = s.pending := rfl
@[simp] theorem writeSlot_pending (s : State) (records : List (Nat × List Byte)) : (s.writeSlot records).pending = s.pending := by
  simp [State.writeSlot]
@[simp] theorem putSetting_pending (s : State) (tag : Nat) (v : List Byte) : (s.putSetting tag v).pending = s.pending := by
  simp [State.putSetting]
@[simp] theorem applyImageWord_pending (s : State) (off v : Nat) : (s.applyImageWord off v).pending = s.pending := by
  refine foldl_pending (fun s p => ?_) _ s
  dsimp only
  split
  · split
    · split <;> rfl
    · rfl
  · rfl
@[simp] theorem applyImage_pending (n : Nat) (l : List Byte) (s : State) : (State.applyImage n l s).pending = s.pending := by
  induction n generalizing l s with
  | zero => rfl
  | succ n ih => simp [State.applyImage, ih]

/-! ### The link layer of a port -/

@[simp] theorem putLine_pending (s : State) (p : Nat) (k : Pkt) (lseq : Nat) : (s.putLine p k lseq).pending = s.pending := rfl
@[simp] theorem sendLink_pending (s : State) (p : Nat) : (s.sendLink p).pending = s.pending := rfl
@[simp] theorem doLinkSend_pending (p : Nat) (s : State) : (doLinkSend p s).pending = s.pending := by simp [doLinkSend]
@[simp] theorem doNakRepeat_pending (p : Nat) (s : State) : (doNakRepeat p s).pending = s.pending := by simp [doNakRepeat]
@[simp] theorem doResyncBlockRx_pending (p : Nat) (b : List Byte) (s : State) : (doResyncBlockRx p b s).pending = s.pending := by
  simp [doResyncBlockRx]

/-! ### Sending -/

@[simp] theorem loopSend_pending (s : State) (p : Nat) : (s.loopSend p).pending = s.pending := by simp [State.loopSend]
@[simp] theorem doEgressSelect_pending (p : Nat) (s : State) : (doEgressSelect p s).pending = s.pending := by
  simp only [doEgressSelect]
  repeat' split
  all_goals simp
@[simp] theorem startReplay_pending (s : State) (p : Nat) : (s.startReplay p).pending = s.pending := by simp [State.startReplay]
@[simp] theorem doLinkPacketRx_pending (p : Nat) (k : Pkt) (s : State) : (doLinkPacketRx p k s).pending = s.pending := by
  simp [doLinkPacketRx]
@[simp] theorem doReplayTimeout_pending (p : Nat) (s : State) : (doReplayTimeout p s).pending = s.pending := by simp [doReplayTimeout]

/-! ### Receiving -/

@[simp] theorem sendNak_pending (s : State) (p : Nat) : (s.sendNak p).pending = s.pending := rfl
@[simp] theorem noteReport_pending (s : State) (k : Pkt) : (s.noteReport k).pending = s.pending := rfl
@[simp] theorem deliver_pending (s : State) (k : Pkt) : (s.deliver k).pending = s.pending := by simp [State.deliver]
@[simp] theorem deliverCopy_pending (s : State) (p : Nat) (k : Pkt) : (s.deliverCopy p k).pending = s.pending := by simp [State.deliverCopy]
@[simp] theorem noRoute_pending (s : State) (p : Nat) (k : Pkt) (head : List Byte) : (s.noRoute p k head).pending = s.pending := by
  simp [State.noRoute]
@[simp] theorem forward_pending (s : State) (p : Nat) (k : Pkt) (cls : Nat) (ports : List Nat) :
    (s.forward p k cls ports).pending = s.pending := by
  simp [State.forward]
@[simp] theorem accepted_pending (s : State) (p : Nat) (k0 : Pkt) (head : List Byte) : (s.accepted p k0 head).pending = s.pending := by
  simp only [State.accepted]
  repeat' split
  all_goals simp
@[simp] theorem doPacketRx_pending (p : Nat) (data : List Byte) (s : State) : (doPacketRx p data s).pending = s.pending := by
  simp [doPacketRx]

/-! ### Source routing (R376) -/

@[simp] theorem sourceForward_pending (s : State) (p : Nat) (k : Pkt) : (s.sourceForward p k).pending = s.pending := by
  simp [State.sourceForward]
@[simp] theorem sendPath_pending (s : State) (ptype : Nat) (path : List Nat) (tag : Nat) (rest : List Byte) :
    (s.sendPath ptype path tag rest).pending = s.pending := by
  simp only [State.sendPath]
  split <;> simp
@[simp] theorem doDiscQueryRx_pending (p : Nat) (k : Pkt) (s : State) : (doDiscQueryRx p k s).pending = s.pending := by simp [doDiscQueryRx]

/-! ### Discovery (R375, R377) -/

@[simp] theorem sendQueries_pending (n : Nat) (s : State) : (State.sendQueries n s).pending = s.pending := by
  induction n generalizing s with
  | zero => rfl
  | succ n ih =>
    unfold State.sendQueries
    split
    · rfl
    · split
      · rfl
      · simp [ih]
@[simp] theorem addQueries_pending (s : State) (m : MapNode) : (s.addQueries m).pending = s.pending := by simp [State.addQueries]
@[simp] theorem doDiscoveryStart_pending (s : State) : (doDiscoveryStart s).pending = s.pending := by simp [doDiscoveryStart]
@[simp] theorem takeId_pending (s : State) (id master attr : Nat) : (s.takeId id master attr).pending = s.pending := by simp [State.takeId]
@[simp] theorem useUnicast_pending (s : State) : s.useUnicast.pending = s.pending := by simp [State.useUnicast]
@[simp] theorem useMulticast_pending (s : State) (m : Mem) : (s.useMulticast m).pending = s.pending := by simp [State.useMulticast]
@[simp] theorem routeSet_pending (s : State) (epoch parts crc fa : Nat) : (s.routeSet epoch parts crc fa).pending = s.pending := by
  simp [State.routeSet]
@[simp] theorem doRouteSetRx_pending (k : Pkt) (s : State) : (doRouteSetRx k s).pending = s.pending := by simp [doRouteSetRx]
@[simp] theorem sendTables_pending (s : State) (ns : List MapNode) (i : Nat) : (s.sendTables ns i).pending = s.pending := by
  simp [State.sendTables]
@[simp] theorem sendMap_pending (s : State) : s.sendMap.pending = s.pending := by simp [State.sendMap]
@[simp] theorem finishDiscovery_pending (s : State) : s.finishDiscovery.pending = s.pending := by simp [State.finishDiscovery]
@[simp] theorem continueDiscovery_pending (s : State) : s.continueDiscovery.pending = s.pending := by simp [State.continueDiscovery]
@[simp] theorem doDiscReplyRx_pending (p : Nat) (k : Pkt) (s : State) : (doDiscReplyRx p k s).pending = s.pending := by
  simp only [doDiscReplyRx]
  repeat' split
  all_goals simp
@[simp] theorem doDiscQueryTimeout_pending (tag : Nat) (s : State) : (doDiscQueryTimeout tag s).pending = s.pending := by
  simp only [doDiscQueryTimeout]
  split <;> simp
@[simp] theorem doDiscAssignRx_pending (p : Nat) (k : Pkt) (s : State) : (doDiscAssignRx p k s).pending = s.pending := by
  simp [doDiscAssignRx]
@[simp] theorem doLinkEventRx_pending (k : Pkt) (s : State) : (doLinkEventRx k s).pending = s.pending := by
  simp only [doLinkEventRx]
  repeat' split
  all_goals simp

/-! ### Fences (R397) -/

@[simp] theorem releaseFence_pending (s : State) (f : Fence) : (s.releaseFence f).pending = s.pending := by simp [State.releaseFence]
@[simp] theorem doFenceRx_pending (k : Pkt) (s : State) : (doFenceRx k s).pending = s.pending := by simp [doFenceRx]
@[simp] theorem doFenceDoneRx_pending (k : Pkt) (s : State) : (doFenceDoneRx k s).pending = s.pending := by
  simp only [doFenceDoneRx]
  split <;> simp
@[simp] theorem doFenceTimeout_pending (id : Nat) (s : State) : (doFenceTimeout id s).pending = s.pending := by
  simp only [doFenceTimeout]
  split <;> simp

/-! ### Relays (R399, R400) -/

@[simp] theorem doNoRouteRx_pending (k : Pkt) (s : State) : (doNoRouteRx k s).pending = s.pending := by simp [doNoRouteRx]
@[simp] theorem doMbxRspRx_pending (k : Pkt) (s : State) : (doMbxRspRx k s).pending = s.pending := by simp [doMbxRspRx]
@[simp] theorem doRelayTimeout_pending (tag : Nat) (s : State) : (doRelayTimeout tag s).pending = s.pending := by
  simp only [doRelayTimeout]
  split <;> simp

/-! ### Commands (Table 10.14) -/

@[simp] theorem actFabNodeGet_pending (c : HostCmd) (s : State) : (actFabNodeGet c s).s.pending = s.pending := rfl
@[simp] theorem actFabSetId_pending (c : HostCmd) (s : State) : (actFabSetId c s).s.pending = s.pending := by simp [actFabSetId]
@[simp] theorem actFabDiscover_pending (c : HostCmd) (s : State) : (actFabDiscover c s).s.pending = s.pending := by simp [actFabDiscover]
@[simp] theorem actFabTopoRead_pending (c : HostCmd) (s : State) : (actFabTopoRead c s).s.pending = s.pending := by simp [actFabTopoRead]
@[simp] theorem actFabGroupSet_pending (c : HostCmd) (s : State) : (actFabGroupSet c s).s.pending = s.pending := by simp [actFabGroupSet]
@[simp] theorem actFabRouteGet_pending (c : HostCmd) (s : State) : (actFabRouteGet c s).s.pending = s.pending := by simp [actFabRouteGet]
@[simp] theorem actFabLinkGet_pending (c : HostCmd) (s : State) : (actFabLinkGet c s).s.pending = s.pending := by simp [actFabLinkGet]
@[simp] theorem actFabTransitGet_pending (c : HostCmd) (s : State) : (actFabTransitGet c s).s.pending = s.pending := by
  simp [actFabTransitGet]
@[simp] theorem actFabFence_pending (c : HostCmd) (s : State) : (actFabFence c s).s.pending = s.pending := by simp [actFabFence]

/-! ### Stamps (R55, R56, R60) -/

@[simp] theorem showDelay_pending (s : State) (p : Nat) : (s.showDelay p).pending = s.pending := by simp [State.showDelay]

/-! ### The increment (R46, R47) -/

@[simp] theorem setIncr_pending (s : State) (i : ℤ) : (s.setIncr i).pending = s.pending := by simp [State.setIncr]
@[simp] theorem servo_pending (s : State) (offset : ℤ) : (s.servo offset).pending = s.pending := by simp [State.servo]
@[simp] theorem freeRun_pending (s : State) : s.freeRun.pending = s.pending := by simp [State.freeRun]

/-! ### Cutoffs and planned frames -/

@[simp] theorem lateSets_pending (s : State) (missed : CommitSet → Bool) (moment : CommitSet → Nat) :
    (s.lateSets missed moment).pending = s.pending := by
  simp [State.lateSets]
@[simp] theorem stepTo_pending (s : State) (ft : Nat) : (s.stepTo ft).pending = s.pending := by simp [State.stepTo]
@[simp] theorem setLock_pending (s : State) (l : Nat) : (s.setLock l).pending = s.pending := by simp [State.setLock]
@[simp] theorem leaveForTime_pending (s : State) : s.leaveForTime.pending = s.pending := by simp [State.leaveForTime]

/-! ### The tick -/

@[simp] theorem gclkEdges_pending (s : State) (old new : Nat) : (s.gclkEdges old new).pending = s.pending := by
  unfold State.gclkEdges
  split
  · exact foldl_pending (fun s g => foldl_pending (fun s k => emit_pending s _) _ s) _ s
  · rfl
@[simp] theorem doFtTick_pending (s : State) : (doFtTick s).pending = s.pending := by simp [doFtTick]
@[simp] theorem doFtNowRead_pending (s : State) : (doFtNowRead s).pending = s.pending := by simp [doFtNowRead]

/-! ### Time packets (R57, R58) -/

@[simp] theorem doTimeSyncSend_pending (s : State) : (doTimeSyncSend s).pending = s.pending := by simp [doTimeSyncSend]
@[simp] theorem doPdelayReqSend_pending (tout : List Nat) (s : State) : (doPdelayReqSend tout s).pending = s.pending := by
  simp [doPdelayReqSend]
@[simp] theorem doPdelayReqRx_pending (p : Nat) (k : Pkt) (tin tout : Nat) (s : State) :
    (doPdelayReqRx p k tin tout s).pending = s.pending := by
  simp [doPdelayReqRx]
@[simp] theorem doPdelayRespRx_pending (p : Nat) (k : Pkt) (tin : Nat) (s : State) : (doPdelayRespRx p k tin s).pending = s.pending := by
  simp only [doPdelayRespRx]
  split <;> simp

/-! ### Following the root (R54, R67 to R71, R75, R417) -/

@[simp] theorem setParent_pending (s : State) (p : Nat) : (s.setParent p).pending = s.pending := by simp [State.setParent]
@[simp] theorem countOffset_pending (s : State) (a : ℤ) : (s.countOffset a).pending = s.pending := rfl
@[simp] theorem lockBy_pending (s : State) (base mayStep : Bool) (offset : ℤ) : (s.lockBy base mayStep offset).pending = s.pending := by
  simp [State.lockBy]
@[simp] theorem alignBy_pending (s : State) (offset : ℤ) : (s.alignBy offset).pending = s.pending := by simp [State.alignBy]
@[simp] theorem follow_pending (s : State) (p : Nat) (k : Pkt) (tin offset : ℤ) (tout : List Nat) :
    (s.follow p k tin offset tout).pending = s.pending := by
  simp [State.follow]
@[simp] theorem doTimeSyncRx_pending (p : Nat) (k : Pkt) (tin : Nat) (tout : List Nat) (s : State) :
    (doTimeSyncRx p k tin tout s).pending = s.pending := by
  simp only [doTimeSyncRx]
  repeat' split
  all_goals simp
@[simp] theorem doParentTimeout_pending (s : State) : (doParentTimeout s).pending = s.pending := by
  simp only [doParentTimeout]
  repeat' split
  all_goals simp
@[simp] theorem doHoldLimitExpire_pending (s : State) : (doHoldLimitExpire s).pending = s.pending := by
  simp only [doHoldLimitExpire]
  split <;> simp
@[simp] theorem doAlignLimitExpire_pending (s : State) : (doAlignLimitExpire s).pending = s.pending := by
  simp only [doAlignLimitExpire]
  split <;> simp
@[simp] theorem doTimeReturnShow_pending (s : State) : (doTimeReturnShow s).pending = s.pending := by
  simp only [doTimeReturnShow]
  split <;> simp

/-! ### The reference of a time root (R52, R53, R72, R77, R78) -/

@[simp] theorem setHealth_pending (s : State) (b : Nat) (v : Bool) : (s.setHealth b v).pending = s.pending := by simp [State.setHealth]
@[simp] theorem rootOffset_pending (s : State) (offset : ℤ) : (s.rootOffset offset).pending = s.pending := by simp [State.rootOffset]
@[simp] theorem measureRef_pending (s : State) (diff : ℤ) : (s.measureRef diff).pending = s.pending := by simp [State.measureRef]
@[simp] theorem doPtpMessageRx_pending (ptp domain : Nat) (s : State) : (doPtpMessageRx ptp domain s).pending = s.pending := by
  simp [doPtpMessageRx]
@[simp] theorem doRefLost_pending (s : State) : (doRefLost s).pending = s.pending := by simp [doRefLost]
@[simp] theorem doRefDisagreeTimer_pending (s : State) : (doRefDisagreeTimer s).pending = s.pending := by
  simp only [doRefDisagreeTimer]
  split <;> simp
@[simp] theorem genlockServo_pending (s : State) (half : Nat) : (s.genlockServo half).pending = s.pending := by simp [State.genlockServo]
@[simp] theorem genlockRef_pending (s : State) (input half : Nat) : (s.genlockRef input half).pending = s.pending := by
  simp [State.genlockRef]
@[simp] theorem genlockMiss_pending (s : State) (input : Nat) : (s.genlockMiss input).pending = s.pending := by simp [State.genlockMiss]
@[simp] theorem takeRoot_pending (s : State) : s.takeRoot.pending = s.pending := by simp [State.takeRoot]
@[simp] theorem leaveRoot_pending (s : State) : s.leaveRoot.pending = s.pending := by simp [State.leaveRoot]

/-! ### Commands (Table 2.14) -/

@[simp] theorem actTimeGet_pending (c : HostCmd) (s : State) : (actTimeGet c s).s.pending = s.pending := rfl
@[simp] theorem actTimeSetSource_pending (c : HostCmd) (s : State) : (actTimeSetSource c s).s.pending = s.pending := by
  simp [actTimeSetSource]
@[simp] theorem actTimeSetPeriod_pending (c : HostCmd) (s : State) : (actTimeSetPeriod c s).s.pending = s.pending := by
  simp [actTimeSetPeriod]
@[simp] theorem actTimeSetAnchor_pending (c : HostCmd) (s : State) : (actTimeSetAnchor c s).s.pending = s.pending := by
  simp [actTimeSetAnchor]
@[simp] theorem actTimeStep_pending (c : HostCmd) (s : State) : (actTimeStep c s).s.pending = s.pending := by simp [actTimeStep]
@[simp] theorem actTimeSetTrim_pending (c : HostCmd) (s : State) : (actTimeSetTrim c s).s.pending = s.pending := by simp [actTimeSetTrim]
@[simp] theorem actTimeSetHold_pending (c : HostCmd) (s : State) : (actTimeSetHold c s).s.pending = s.pending := by simp [actTimeSetHold]

/-! ### The clip store (R88 to R92) -/

@[simp] theorem clipWrite_pending (s : State) (a : Nat) (l : List Byte) : (s.clipWrite a l).pending = s.pending := by simp [State.clipWrite]

/-! ### DisplayPort capture -/

@[simp] theorem putLines_pending (s : State) (csa w f h : Nat) (l : List Byte) : (s.putLines csa w f h l).pending = s.pending := by
  induction h generalizing s csa l with
  | zero => rfl
  | succ h ih => simp [State.putLines, ih]
@[simp] theorem ringFrameIn_pending (s : State) (p : Nat) (x : DpFrame) : (s.ringFrameIn p x).pending = s.pending := by
  simp [State.ringFrameIn]
@[simp] theorem doDpFrameComplete_pending (p : Nat) (l : List Byte) (s : State) : (doDpFrameComplete p l s).pending = s.pending := by
  simp [doDpFrameComplete]
@[simp] theorem loseVideo_pending (s : State) (p : Nat) : (s.loseVideo p).pending = s.pending := by simp [State.loseVideo]
@[simp] theorem doDpModeReceived_pending (p : Nat) (m : DpMode) (s : State) : (doDpModeReceived p m s).pending = s.pending := by
  simp [doDpModeReceived]
@[simp] theorem doDpLinkLoss_pending (p : Nat) (linkUp : Bool) (s : State) : (doDpLinkLoss p linkUp s).pending = s.pending := by
  simp [doDpLinkLoss]
@[simp] theorem doDpHoldExpire_pending (p : Nat) (s : State) : (doDpHoldExpire p s).pending = s.pending := by
  simp only [doDpHoldExpire]
  split <;> simp

/-! ### The send window -/

@[simp] theorem stopStream_pending (s : State) (i : Nat) : (s.stopStream i).pending = s.pending := by simp [State.stopStream]
@[simp] theorem ringSends_pending (s : State) (p csa : Nat) : (s.ringSends p csa).pending = s.pending := by
  unfold State.ringSends
  exact (setRing_pending ..).trans (ite_keeps (w_pending ..) rfl)
@[simp] theorem openStream_pending (s : State) (f i : Nat) : (s.openStream f i).pending = s.pending := by
  simp only [State.openStream]
  repeat' split
  all_goals simp
@[simp] theorem holdAnew_pending (s : State) (p : Nat) : (s.holdAnew p).pending = s.pending := by simp [State.holdAnew]
@[simp] theorem openWindows_pending (s : State) : s.openWindows.pending = s.pending := by
  simp only [State.openWindows]
  split <;> simp
@[simp] theorem doSendWindowOpen_pending (s : State) : (doSendWindowOpen s).pending = s.pending := by simp [doSendWindowOpen]
@[simp] theorem sendStream_pending (s : State) (group line : Nat) (payload : List Byte) :
    (s.sendStream group line payload).pending = s.pending := by
  simp only [State.sendStream]
  repeat' split
  all_goals simp
@[simp] theorem sendPixels_pending (s : State) (i feed line first count target : Nat) :
    (s.sendPixels i feed line first count target).pending = s.pending := by
  simp [State.sendPixels]
@[simp] theorem sendLine_pending (s : State) (i feed line target : Nat) : (s.sendLine i feed line target).pending = s.pending := by
  simp [State.sendLine]
@[simp] theorem endFrame_pending (s : State) (i target : Nat) : (s.endFrame i target).pending = s.pending := by simp [State.endFrame]
@[simp] theorem runSlot_pending (s : State) (i : Nat) : (s.runSlot i).pending = s.pending := by simp [State.runSlot]
@[simp] theorem doLineSlot_pending (i : Nat) (s : State) : (doLineSlot i s).pending = s.pending := by simp [doLineSlot]

/-! ### Frame addresses (R104 to R107) -/

@[simp] theorem doFraddrLatch_pending (i : Nat) (s : State) : (doFraddrLatch i s).pending = s.pending := by
  simp only [doFraddrLatch]
  split <;> simp
@[simp] theorem stageAddr_pending (s : State) (i a : Nat) : (s.stageAddr i a).pending = s.pending := by simp [State.stageAddr]

/-! ### The CXL links and their arbiters -/

@[simp] theorem dropTable_pending (s : State) : s.dropTable.pending = s.pending := by simp [State.dropTable]
@[simp] theorem showLinks_pending (s : State) : s.showLinks.pending = s.pending := by simp [State.showLinks]
@[simp] theorem doCxlLinkUp_pending (l : Nat) (type3 switched : Bool) (size : Nat) (tableOk : Bool) (s : State) :
    (doCxlLinkUp l type3 switched size tableOk s).pending = s.pending := by
  simp [doCxlLinkUp]
@[simp] theorem poisonDevice_pending (s : State) (l : Nat) : (s.poisonDevice l).pending = s.pending := rfl
@[simp] theorem doCxlLinkDown_pending (l : Nat) (deviceError : Bool) (s : State) : (doCxlLinkDown l deviceError s).pending = s.pending := by
  simp [doCxlLinkDown]
@[simp] theorem setArb_pending (s : State) (l : Nat) (f : ArbSt → ArbSt) : (s.setArb l f).pending = s.pending := rfl
@[simp] theorem grant_pending (s : State) (l : Nat) (r : ArbReq) : (s.grant l r).pending = s.pending := rfl
@[simp] theorem moveUnits_pending (s : State) (l units : Nat) : (s.moveUnits l units).pending = s.pending := by
  simp only [State.moveUnits]
  split <;> simp
@[simp] theorem preempt_pending (s : State) (l : Nat) (b : Burst) : (s.preempt l b).pending = s.pending := by simp [State.preempt]
@[simp] theorem rotateLink_pending (s : State) (l : Nat) (rs : List ArbReq) : (s.rotateLink l rs).pending = s.pending := by
  simp only [State.rotateLink]
  split <;> simp
@[simp] theorem doArbiterGrant_pending (l : Nat) (rs : List ArbReq) (units : Nat) (s : State) :
    (doArbiterGrant l rs units s).pending = s.pending := by
  simp only [doArbiterGrant]
  repeat' split
  all_goals simp
@[simp] theorem doBurstCut_pending (l units : Nat) (s : State) : (doBurstCut l units s).pending = s.pending := by
  simp only [doBurstCut]
  split <;> simp

/-! ### Stops (R119, Table 13.4) -/

@[simp] theorem ingestStop_pending (s : State) : s.ingestStop.pending = s.pending := by
  unfold State.ingestStop
  rw [foldl_pending]
  exact fun s i => w_pending s .ingSending i 0

/-! ### BAR4 (R90, R92, R106, R113) -/

@[simp] theorem doBar4Write_pending (off : Nat) (l : List Byte) (s : State) : (doBar4Write off l s).pending = s.pending := by
  simp only [doBar4Write]
  repeat' split
  all_goals simp
@[simp] theorem doBar4Read_pending (off n : Nat) (s : State) : (doBar4Read off n s).pending = s.pending := by
  simp only [doBar4Read]
  repeat' split
  all_goals simp

/-! ### Commands (Table 3.14) -/

@[simp] theorem actStreamGet_pending (c : HostCmd) (s : State) : (actStreamGet c s).s.pending = s.pending := by simp [actStreamGet]
@[simp] theorem actStreamSetup_pending (c : HostCmd) (s : State) : (actStreamSetup c s).s.pending = s.pending := by simp [actStreamSetup]
@[simp] theorem actStreamSetFrame_pending (c : HostCmd) (s : State) : (actStreamSetFrame c s).s.pending = s.pending := by
  simp [actStreamSetFrame]
@[simp] theorem actStreamPlayClip_pending (c : HostCmd) (s : State) : (actStreamPlayClip c s).s.pending = s.pending := by
  simp [actStreamPlayClip]
@[simp] theorem actStreamStop_pending (c : HostCmd) (s : State) : (actStreamStop c s).s.pending = s.pending := by simp [actStreamStop]
@[simp] theorem actDpSet_pending (c : HostCmd) (s : State) : (actDpSet c s).s.pending = s.pending := by
  simp only [actDpSet]
  split <;> simp
@[simp] theorem actDpGet_pending (c : HostCmd) (s : State) : (actDpGet c s).s.pending = s.pending := by simp [actDpGet]
@[simp] theorem actClipInfo_pending (c : HostCmd) (s : State) : (actClipInfo c s).s.pending = s.pending := rfl
@[simp] theorem actClipAlloc_pending (c : HostCmd) (s : State) : (actClipAlloc c s).s.pending = s.pending := by
  simp only [actClipAlloc]
  repeat' split
  all_goals simp
@[simp] theorem freeBuf_pending (s : State) (h : Nat) : (s.freeBuf h).pending = s.pending := rfl
@[simp] theorem actClipFree_pending (c : HostCmd) (s : State) : (actClipFree c s).s.pending = s.pending := by
  simp only [actClipFree]
  split <;> simp
@[simp] theorem doClipFreeComplete_pending (h : Nat) (s : State) : (doClipFreeComplete h s).pending = s.pending := by
  simp only [doClipFreeComplete]
  split <;> simp
@[simp] theorem actClipWrite_pending (c : HostCmd) (s : State) : (actClipWrite c s).s.pending = s.pending := by
  simp only [actClipWrite]
  repeat' split
  all_goals simp
@[simp] theorem actClipRead_pending (c : HostCmd) (s : State) : (actClipRead c s).s.pending = s.pending := by
  simp only [actClipRead]
  repeat' split
  all_goals simp
@[simp] theorem actClipPins_pending (c : HostCmd) (s : State) : (actClipPins c s).s.pending = s.pending := by
  simp only [actClipPins]
  split <;> simp
@[simp] theorem actClipSetWindow_pending (c : HostCmd) (s : State) : (actClipSetWindow c s).s.pending = s.pending := by
  simp [actClipSetWindow]

/-! ### Lamps -/

@[simp] theorem packPixel_pending (s : State) (v : View) (f feed x y : Nat) : (s.packPixel v f feed x y).pending = s.pending := by
  simp [State.packPixel]
@[simp] theorem composeUnits_pending (s : State) (v : View) (f feed j first n : Nat) :
    (s.composeUnits v f feed j first n).pending = s.pending := by
  simp [State.composeUnits]

/-! ### The trace -/

@[simp] theorem traceWrite_pending (s : State) (r : List Byte) : (s.traceWrite r).pending = s.pending := by
  simp only [State.traceWrite]
  repeat' split
  all_goals simp
@[simp] theorem trace_pending (s : State) (ev engine feed group slice reason first units : Nat) :
    (s.trace ev engine feed group slice reason first units).pending = s.pending := by
  simp [State.trace]
@[simp] theorem traceClear_pending (s : State) : s.traceClear.pending = s.pending := rfl

/-! ### The slice table -/

@[simp] theorem setSlice_pending (s : State) (k j : Nat) (f : Slice → Slice) : (s.setSlice k j f).pending = s.pending := rfl
@[simp] theorem list_pending (s : State) (g : Nat) (f : List (Nat × Nat) → List (Nat × Nat)) : (s.list g f).pending = s.pending := by
  simp [State.list]
@[simp] theorem makeReady_pending (s : State) (k j : Nat) : (s.makeReady k j).pending = s.pending := by
  simp only [State.makeReady]
  split <;> simp
@[simp] theorem giveBack_pending (s : State) (k j : Nat) : (s.giveBack k j).pending = s.pending := by simp [State.giveBack]
@[simp] theorem refill_pending (s : State) : s.refill.pending = s.pending := by simp [State.refill]
@[simp] theorem readyVideo_pending (s : State) : s.readyVideo.pending = s.pending := by simp [State.readyVideo]

/-! ### Dispatch -/

@[simp] theorem startEngine_pending (s : State) (e : Nat) : (s.startEngine e).pending = s.pending := by
  simp only [State.startEngine]
  split <;> simp
@[simp] theorem fillEngine_pending (s : State) (e : Nat) : (s.fillEngine e).pending = s.pending := by
  simp only [State.fillEngine]
  repeat' split
  all_goals simp
@[simp] theorem dispatch_pending (s : State) : s.dispatch.pending = s.pending := by simp [State.dispatch]

/-! ### Lull and Gust -/

@[simp] theorem wake_pending (s : State) (e : Nat) : (s.wake e).pending = s.pending := by simp [State.wake]
@[simp] theorem gustPlan_pending (s : State) : s.gustPlan.pending = s.pending := by simp [State.gustPlan]
@[simp] theorem doGust_pending (s : State) : (doGust s).pending = s.pending := by simp [doGust]
@[simp] theorem doEngineLull_pending (e : Nat) (s : State) : (doEngineLull e s).pending = s.pending := by simp [doEngineLull]

/-! ### Composition and completion -/

@[simp] theorem underruns_pending (s : State) (v : View) (k j : Nat) : (s.underruns v k j).pending = s.pending := by simp [State.underruns]
@[simp] theorem sendMonitor_pending (s : State) : s.sendMonitor.pending = s.pending := by simp [State.sendMonitor]
@[simp] theorem signFeed_pending (s : State) (k : Nat) : (s.signFeed k).pending = s.pending := by simp [State.signFeed]
@[simp] theorem finalise_pending (s : State) (e k j : Nat) : (s.finalise e k j).pending = s.pending := by simp [State.finalise]
@[simp] theorem nextTask_pending (s : State) (e : Nat) : (s.nextTask e).pending = s.pending := by simp [State.nextTask]
@[simp] theorem completeTask_pending (s : State) (e k j : Nat) : (s.completeTask e k j).pending = s.pending := by
  simp only [State.completeTask]
  split <;> simp
@[simp] theorem completePlan_pending (s : State) (e : Nat) : (s.completePlan e).pending = s.pending := by
  unfold State.completePlan
  refine (foldl_pending (fun s r => ?_) _ _).trans (setEngine_pending ..)
  dsimp only
  split
  · simp
  · simp
@[simp] theorem doTaskComplete_pending (e : Nat) (s : State) : (doTaskComplete e s).pending = s.pending := by
  simp only [doTaskComplete]
  repeat' split
  all_goals simp

/-! ### Staleness and cancels -/

@[simp] theorem markStale_pending (s : State) (k j reason : Nat) : (s.markStale k j reason).pending = s.pending := by
  simp only [State.markStale]
  split <;> simp
@[simp] theorem removeSlices_pending (s : State) (l : List Slice) : (s.removeSlices l).pending = s.pending := by
  unfold State.removeSlices
  exact foldl_pending (fun s x => by simp) l _
@[simp] theorem engineCancels_pending (s : State) (l : List Slice) (reason e : Nat) (x : Engine) :
    (s.engineCancels l reason e x).pending = s.pending := by
  simp only [State.engineCancels]
  repeat' split
  all_goals simp
@[simp] theorem ownCancels_pending (s : State) (l : List Slice) (reason : Nat) : (s.ownCancels l reason).pending = s.pending := by
  simp [State.ownCancels]

/-! ### The latch-point plan -/

@[simp] theorem formPlan_pending (s : State) (l : List Slice) : (s.formPlan l).pending = s.pending := by
  have hslices (f : Slice → Slice → Slice) (s : State) :
      (l.foldl (fun s x => s.setSlice x.feed x.slice (f x)) s).pending = s.pending :=
    foldl_pending (fun _ _ => setSlice_pending ..) l s
  have hengines (f : Nat → Engine → Engine) (es : List Nat) (s : State) :
      (es.foldl (fun s e => s.setEngine e (f e)) s).pending = s.pending :=
    foldl_pending (fun _ _ => setEngine_pending ..) es s
  unfold State.formPlan
  dsimp only
  rw [ite_pending, trace_pending, refill_pending, ite_self, hengines, hslices]
@[simp] theorem latchEngine_pending (s : State) (gone stale : List Slice) (e : Nat) (x : Engine) :
    (s.latchEngine gone stale e x).pending = s.pending := by
  simp only [State.latchEngine]
  repeat' split
  all_goals simp
@[simp] theorem latchClover_pending (s : State) : s.latchClover.pending = s.pending := by
  have hmark (l : List Slice) (s : State) :
      (l.foldl (fun s x => s.setSlice x.feed x.slice (fun y => { y with stale := 4 })) s).pending = s.pending :=
    foldl_pending (fun _ _ => setSlice_pending ..) l s
  have hengines (gone aborts : List Slice) (l : List (Engine × Nat)) (s : State) :
      (l.foldl (fun s p => s.latchEngine gone aborts p.2 p.1) s).pending = s.pending :=
    foldl_pending (fun _ _ => latchEngine_pending ..) l s
  have htrace (n : Nat) (l : List Slice) (s : State) :
      (l.foldl (fun s x => s.trace 0x06 0xFF x.feed x.group x.slice 4 0 n) s).pending = s.pending :=
    foldl_pending (fun _ _ => trace_pending ..) l s
  have hsquash (n : Nat) (l : List Slice) (s : State) :
      (l.foldl (fun s x => (s.count .clvSquashes).trace 0x07 0xFF x.feed 0 x.slice x.stale 0 n) s).pending = s.pending :=
    foldl_pending (fun _ _ => (trace_pending ..).trans (count_pending ..)) l s
  have hkeep (l : List Slice) (s : State) : (l.foldl (fun s x => s.finalise 0xFF x.feed x.slice) s).pending = s.pending :=
    foldl_pending (fun _ _ => finalise_pending ..) l s
  have hwake (l : List Nat) (s : State) : (l.foldl (fun s e => s.wake e) s).pending = s.pending :=
    foldl_pending (fun _ _ => wake_pending ..) l s
  have hnext (l : List Nat) (s : State) :
      (l.foldl (fun s e => if (s.engine e).task.isNone then s.nextTask e else s) s).pending = s.pending :=
    foldl_pending (fun _ _ => ite_keeps (nextTask_pending ..) rfl) l s
  simp only [State.latchClover, hmark, hengines, htrace, hsquash, hkeep, hwake, hnext, ite_pending, ws_pending, gustPlan_pending,
    formPlan_pending, w_pending, ownCancels_pending, removeSlices_pending, ite_self]
@[simp] theorem doPDataWritten_pending (s : State) : (doPDataWritten s).pending = s.pending := by simp [doPDataWritten]

/-! ### Engines out of service -/

@[simp] theorem joinPlan_pending (s : State) (runs : List PlanRun) : (s.joinPlan runs).pending = s.pending := by
  simp only [State.joinPlan]
  split <;> simp
@[simp] theorem replaned_pending (s : State) (r : PlanRun) : (s.replaned r).pending = s.pending := by simp [State.replaned]
@[simp] theorem dropService_pending (s : State) (e : Nat) (failed : Bool) : (s.dropService e failed).pending = s.pending := by
  simp only [State.dropService]
  split <;> simp
@[simp] theorem dropEngine_pending (s : State) (e reason : Nat) : (s.dropEngine e reason).pending = s.pending := by
  simp only [State.dropEngine]
  repeat' split
  all_goals simp
@[simp] theorem failEngine_pending (s : State) (e : Nat) : (s.failEngine e).pending = s.pending := by
  simp only [State.failEngine]
  split <;> simp
@[simp] theorem doEngineOverrun_pending (e : Nat) (s : State) : (doEngineOverrun e s).pending = s.pending := by
  simp only [doEngineOverrun]
  split <;> simp
@[simp] theorem setService_pending (s : State) (mask : Nat) : (s.setService mask).pending = s.pending := by simp [State.setService]

/-! ### The frame's slices -/

@[simp] theorem openFrame_pending (s : State) (f : Nat) : (s.openFrame f).pending = s.pending := by simp [State.openFrame]
@[simp] theorem closeFrame_pending (s : State) : s.closeFrame.pending = s.pending := by simp [State.closeFrame]

/-! ### Commands (Table 5.11) -/

@[simp] theorem actCloverSet_pending (c : HostCmd) (s : State) : (actCloverSet c s).s.pending = s.pending := by simp [actCloverSet]
@[simp] theorem actCloverGet_pending (c : HostCmd) (s : State) : (actCloverGet c s).s.pending = s.pending := by simp [actCloverGet]
@[simp] theorem setTrace_pending (s : State) (on size : Nat) : (s.setTrace on size).pending = s.pending := by simp [State.setTrace]
@[simp] theorem actTraceSet_pending (c : HostCmd) (s : State) : (actTraceSet c s).s.pending = s.pending := by simp [actTraceSet]
@[simp] theorem actTraceRead_pending (c : HostCmd) (s : State) : (actTraceRead c s).s.pending = s.pending := by simp [actTraceRead]
@[simp] theorem actPseSetService_pending (c : HostCmd) (s : State) : (actPseSetService c s).s.pending = s.pending := by
  simp [actPseSetService]

/-! ### Staged fields -/

@[simp] theorem revert_pending (s : State) (keys : List Nat) : (s.revert keys).pending = s.pending := by simp [State.revert]

/-! ### Validation (Table 4.5) -/

@[simp] theorem refit_pending (s : State) : s.refit.pending = s.pending := rfl

/-! ### Staleness (R195) -/

@[simp] theorem staleBy_pending (s : State) (before : View) (set_ : CommitSet) : (s.staleBy before set_).pending = s.pending := by
  simp [State.staleBy]

/-! ### Capture -/

@[simp] theorem capture_pending (s : State) (id mode : Nat) (state : SetState) (fa : Nat) (late : Bool) (reject origin : Nat) :
    (s.capture id mode state fa late reject origin).pending = s.pending := by
  simp [State.capture]
@[simp] theorem noteCommit_pending (s : State) (id st frame : Nat) : (s.noteCommit id st frame).pending = s.pending := by
  simp [State.noteCommit]
@[simp] theorem takeCommitId_pending (s : State) : (s.takeCommitId).2.pending = s.pending := rfl
@[simp] theorem countUnits_pending (s : State) : s.countUnits.pending = s.pending := by simp [State.countUnits]
@[simp] theorem undoSet_pending (s : State) (set_ : CommitSet) : (s.undoSet set_).pending = s.pending := by simp [State.undoSet]
@[simp] theorem discardSet_pending (s : State) (set_ : CommitSet) (status : Nat) : (s.discardSet set_ status).pending = s.pending := by
  simp [State.discardSet]
@[simp] theorem dropCoef_pending (s : State) : s.dropCoef.pending = s.pending := rfl

/-! ### Sealed commits (Table 4.6) -/

@[simp] theorem commitPacket_pending (s : State) (ptype scope group : Nat) (payload : List Byte) (fence : Bool) :
    (s.commitPacket ptype scope group payload fence).pending = s.pending := by
  simp [State.commitPacket]
@[simp] theorem interim_pending (s : State) (w : Waits) (data : List Byte) : (s.interim w data).pending = s.pending := by
  simp [State.interim]
@[simp] theorem sealSet_pending (s : State) (id reject fa : Nat) : (s.sealSet id reject fa).pending = s.pending := by
  simp only [State.sealSet]
  split <;> simp
@[simp] theorem endSeal_pending (s : State) (r : SealRun) (status : Nat) : (s.endSeal r status).pending = s.pending := by
  simp [State.endSeal]
@[simp] theorem abandonRun_pending (s : State) (r : SealRun) (status : Nat) : (s.abandonRun r status).pending = s.pending := by
  simp only [State.abandonRun]
  split <;> simp
@[simp] theorem finishVotes_pending (s : State) (r : SealRun) : (s.finishVotes r).pending = s.pending := by simp [State.finishVotes]
@[simp] theorem startRun_pending (s : State) (id origin scope group ft reject : Nat) :
    (s.startRun id origin scope group ft reject).pending = s.pending := by
  simp [State.startRun]

/-! ### COMMIT -/

@[simp] theorem actCommit_pending (c : HostCmd) (s : State) : (actCommit c s).s.pending = s.pending := by
  unfold actCommit
  dsimp only
  iterate 7 rw [ite_s]
  iterate 7 refine ite_keeps rfl ?_
  cases s.validate s.candidate with
  | none => exact dropCoef_pending s
  | some reject =>
    dsimp only
    rw [ite_s, ite_s]
    refine ite_keeps (ite_keeps rfl ?_) ?_
    · split
      · rw [ite_s]
        simp
      · simp
    · simp
@[simp] theorem actCommitStatus_leaves_pending (c : HostCmd) (s : State) : (actCommitStatus c s).s.pending = s.pending := by
  simp only [actCommitStatus]
  repeat' split
  all_goals simp

/-! ### Commit packets -/

@[simp] theorem doCommitPrepareRx_pending (k : Pkt) (s : State) : (doCommitPrepareRx k s).pending = s.pending := by
  simp only [doCommitPrepareRx]
  repeat' split
  all_goals simp
@[simp] theorem doCommitVoteRx_pending (k : Pkt) (s : State) : (doCommitVoteRx k s).pending = s.pending := by
  simp only [doCommitVoteRx]
  repeat' split
  all_goals simp
theorem heard_pending {s t : State} {k : Pkt} {id : Nat} (h : s.heard k id = some t) : t.pending = s.pending := by
  unfold State.heard at h
  split at h
  · cases h
  · simp only at h
    split at h
    · cases h
      split
      · split
        · exact commitPacket_pending ..
        · rfl
      · exact route_pending ..
    · cases h
      rfl
@[simp] theorem doCommitSealRx_pending (k : Pkt) (s : State) : (doCommitSealRx k s).pending = s.pending := by
  unfold doCommitSealRx
  split
  · rfl
  · next h => simp [heard_pending h]
@[simp] theorem doCommitAbandonRx_pending (k : Pkt) (s : State) : (doCommitAbandonRx k s).pending = s.pending := by
  unfold doCommitAbandonRx
  split
  · rfl
  · next t h =>
    have hend : (match s.lay.sealRun with
        | some r => if r.id = k.u16 0 then t.endSeal r (k.u16 2) else t
        | none => t).pending = s.pending := by
      split
      · simp [heard_pending h]
      · exact heard_pending h
    dsimp only
    split
    · exact (discardSet_pending ..).trans hend
    · exact hend
@[simp] theorem doVoteTimeout_pending (s : State) : (doVoteTimeout s).pending = s.pending := by
  simp only [doVoteTimeout]
  split <;> simp
@[simp] theorem doPreparedSetExpire_pending (s : State) : (doPreparedSetExpire s).pending = s.pending := by
  simp only [doPreparedSetExpire]
  split <;> simp
@[simp] theorem abandonPrepared_pending (s : State) : s.abandonPrepared.pending = s.pending := by
  simp only [State.abandonPrepared]
  split <;> simp

/-! ### Application -/

@[simp] theorem gainsChanged_pending (s : State) (ch : Store) : (s.gainsChanged ch).pending = s.pending := by
  unfold State.gainsChanged
  split
  · exact foldl_pending (fun s z => foldl_pending (fun s e => w_pending s _ z _) _ s) _ s
  · rfl
@[simp] theorem countLamps_pending (s : State) : s.countLamps.pending = s.pending := rfl
@[simp] theorem putLamp_pending (s : State) (lamp code : Nat) : (s.putLamp lamp code).pending = s.pending := by simp [State.putLamp]
@[simp] theorem forgetLamps_pending (s : State) (p : Nat → Bool) : (s.forgetLamps p).pending = s.pending := by simp [State.forgetLamps]
@[simp] theorem judgeMap_pending (s : State) : s.judgeMap.pending = s.pending := rfl
@[simp] theorem endOwed_pending (s : State) (id status fa late : Nat) : (s.endOwed id status fa late).pending = s.pending := by
  simp only [State.endOwed]
  split <;> simp
@[simp] theorem applySet_pending (s : State) (c : CommitSet) : (s.applySet c).pending = s.pending := by simp [State.applySet]
@[simp] theorem applySets_pending (s : State) (f : Nat) : (s.applySets f).pending = s.pending := by simp [State.applySets]
@[simp] theorem replan_pending (s : State) (f : Nat) (anchored : Bool) : (s.replan f anchored).pending = s.pending := by simp [State.replan]
@[simp] theorem openSets_pending (s : State) (fa : Nat) : (s.openSets fa).pending = s.pending := by simp [State.openSets]

/-! ### Staging commands -/

@[simp] theorem actLayerGet_pending (c : HostCmd) (s : State) : (actLayerGet c s).s.pending = s.pending := by simp [actLayerGet]
@[simp] theorem actLayerSetVideo_pending (c : HostCmd) (s : State) : (actLayerSetVideo c s).s.pending = s.pending := by
  simp [actLayerSetVideo]
@[simp] theorem actLayerSetGraphic_pending (c : HostCmd) (s : State) : (actLayerSetGraphic c s).s.pending = s.pending := by
  simp [actLayerSetGraphic]
@[simp] theorem actLayerWriteGraphic_pending (c : HostCmd) (s : State) : (actLayerWriteGraphic c s).s.pending = s.pending := by
  simp only [actLayerWriteGraphic]
  repeat' split
  all_goals simp
@[simp] theorem actLayerSetWindow_pending (c : HostCmd) (s : State) : (actLayerSetWindow c s).s.pending = s.pending :=
  stages_pending ..
@[simp] theorem actLayerSetBg_pending (c : HostCmd) (s : State) : (actLayerSetBg c s).s.pending = s.pending := by simp [actLayerSetBg]
@[simp] theorem actLayerSetGuard_pending (c : HostCmd) (s : State) : (actLayerSetGuard c s).s.pending = s.pending := by
  simp [actLayerSetGuard]

/-! ### The protected layer (R170, R171, R616, R617) -/

theorem checkKey_ok_pending {s t : State} {key : Nat} (h : s.checkKey key = .ok t) : t.pending = s.pending := by
  unfold State.checkKey at h
  repeat' split at h
  all_goals cases h
  rfl
theorem checkKey_error_pending {s : State} {key : Nat} {a : Ack} (h : s.checkKey key = .error a) : a.s.pending = s.pending := by
  unfold State.checkKey at h
  split at h
  · cases h
    rfl
  · split at h
    · cases h
    · cases h
      simp
@[simp] theorem actPSet_pending (c : HostCmd) (s : State) : (actPSet c s).s.pending = s.pending := by
  unfold actPSet
  split
  · next h => exact checkKey_error_pending h
  · next h => simp [checkKey_ok_pending h]
@[simp] theorem actPWrite_pending (c : HostCmd) (s : State) : (actPWrite c s).s.pending = s.pending := by
  unfold actPWrite
  split
  · next h => exact checkKey_error_pending h
  · next t h =>
    rw [← checkKey_ok_pending h]
    dsimp only
    split
    · rfl
    · split <;> rfl
@[simp] theorem actPKey_pending (c : HostCmd) (s : State) : (actPKey c s).s.pending = s.pending := by
  unfold actPKey
  split
  · next h => exact checkKey_error_pending h
  · next h => simp [checkKey_ok_pending h]

/-! ### Write-back -/

@[simp] theorem actWbSet_pending (c : HostCmd) (s : State) : (actWbSet c s).s.pending = s.pending := by simp [actWbSet]
@[simp] theorem actWbRing_pending (c : HostCmd) (s : State) : (actWbRing c s).s.pending = s.pending := by
  simp only [actWbRing]
  repeat' split
  all_goals simp

/-! ### Frost and the scaler sets -/

@[simp] theorem actFrostGet_pending (c : HostCmd) (s : State) : (actFrostGet c s).s.pending = s.pending := by
  simp only [actFrostGet]
  repeat' split
  all_goals simp
@[simp] theorem actFrostSet_pending (c : HostCmd) (s : State) : (actFrostSet c s).s.pending = s.pending :=
  ws_pending ..
@[simp] theorem actLayerGetCoef_pending (c : HostCmd) (s : State) : (actLayerGetCoef c s).s.pending = s.pending := by simp [actLayerGetCoef]

/-! ### Packets of a stream -/

@[simp] theorem doStreamPacketRx_pending (k : Pkt) (s : State) : (doStreamPacketRx k s).pending = s.pending := by
  have hstamp := takeStamp_pending s (k.u32 8)
  generalize h : doStreamPacketRx k s = t
  rw [show doStreamPacketRx = _ by delta doStreamPacketRx; rfl] at h
  generalize s.takeStamp (k.u32 8) = x at h hstamp
  obtain ⟨o, u⟩ := x
  rw [← h, ← hstamp]
  simp
@[simp] theorem noteSlack_pending (s : State) (stream src f : Nat) : (s.noteSlack stream src f).pending = s.pending := by
  simp [State.noteSlack]
@[simp] theorem staleStream_pending (s : State) (stream : Nat) : (s.staleStream stream).pending = s.pending := by simp [State.staleStream]
@[simp] theorem doFrameCompleteRx_pending (k : Pkt) (s : State) : (doFrameCompleteRx k s).pending = s.pending := by
  have hstamp (u : State) := takeStamp_pending u (k.u32 8)
  obtain ⟨take, htake⟩ : ∃ take, State.takeStamp = take := ⟨_, rfl⟩
  rw [show doFrameCompleteRx = _ by delta doFrameCompleteRx; rfl]
  rw [htake] at hstamp ⊢
  extract_lets stream m recolour lay s1 s2
  have hstale : s2.pending = s.pending := by
    simp only [s2, s1, ite_pending, staleStream_pending, ite_self]
  rw [← hstale, ← hstamp s2]
  generalize take s2 (k.u32 8) = x
  obtain ⟨o, u⟩ := x
  dsimp only
  split
  · split
    · exact noteSlack_pending ..
    · rfl
  · simp

/-! ### The write-back ring of a head (R175) -/

@[simp] theorem endMonitor_pending (s : State) (r : WbRing) (x : WbFrame) : (s.endMonitor r x).pending = s.pending := rfl
@[simp] theorem monitorBoundary_pending (s : State) (f : Nat) : (s.monitorBoundary f).pending = s.pending := by
  unfold State.monitorBoundary
  split
  · rfl
  · refine foldl_pending (fun s x => ?_) _ s
    split
    · simp
    · rfl
@[simp] theorem monitorNodeOf_pending (s : State) (x : WbFrame) (node : Nat) : (s.monitorNodeOf x node).2.pending = s.pending := by
  simp only [State.monitorNodeOf]
  repeat' split
  all_goals simp
@[simp] theorem putPixels_pending (s : State) (base size : Nat) (at_ : Int) (k : Pkt) (n : Nat) :
    (s.putPixels base size at_ k n).pending = s.pending := by
  induction n with
  | zero => rfl
  | succ n ih => simp [State.putPixels, ih]
@[simp] theorem takeImage_pending (s : State) (k : Pkt) (r : WbRing) (b : ClipBuf) (target : Nat) :
    (s.takeImage k r b target).pending = s.pending := by
  simp [State.takeImage]
@[simp] theorem doWbDataRx_pending (k : Pkt) (s : State) : (doWbDataRx k s).pending = s.pending := by
  have hstamp := takeStamp_pending s (k.u32 8)
  generalize h : doWbDataRx k s = t
  rw [show doWbDataRx = _ by delta doWbDataRx; rfl] at h
  generalize s.takeStamp (k.u32 8) = x at h hstamp
  obtain ⟨o, u⟩ := x
  rw [← h, ← hstamp]
  dsimp only
  split
  · split
    · simp
    · rfl
  · rfl

/-! ### The flash controller (R544) -/

@[simp] theorem flashAsk_pending (s : State) (j : FlashJob) : (s.flashAsk j).pending = s.pending := by simp [State.flashAsk]
@[simp] theorem flashGoOn_pending (s : State) : s.flashGoOn.pending = s.pending := rfl

/-! ### Blocks and regions -/

@[simp] theorem judgeTables_pending (s : State) : s.judgeTables.pending = s.pending := rfl
@[simp] theorem resetLamps_pending (s : State) : s.resetLamps.pending = s.pending := by simp [State.resetLamps]
@[simp] theorem putCoef_pending (s : State) (a : Nat) (l : List Byte) (save : Bool) : (s.putCoef a l save).pending = s.pending := by
  simp [State.putCoef]

/-! ### COEF_LOAD (R234, R235, R239, R240) -/

@[simp] theorem actCoefLoad_pending (c : HostCmd) (s : State) : (actCoefLoad c s).s.pending = s.pending := by
  simp only [actCoefLoad]
  repeat' split
  all_goals simp

/-! ### The flash copy -/

@[simp] theorem endSaves_pending (s : State) : s.endSaves.pending = s.pending := by
  simp only [State.endSaves]
  split <;> simp
@[simp] theorem savedCoef_pending (s : State) : s.savedCoef.pending = s.pending := by
  simp only [State.savedCoef]
  split <;> simp
@[simp] theorem actCoefSave_pending (c : HostCmd) (s : State) : (actCoefSave c s).s.pending = s.pending := by simp [actCoefSave]
@[simp] theorem actCoefCheck_pending (c : HostCmd) (s : State) : (actCoefCheck c s).s.pending = s.pending := rfl
@[simp] theorem actCoefRead_pending (c : HostCmd) (s : State) : (actCoefRead c s).s.pending = s.pending := by simp [actCoefRead]

/-! ### Colour commands -/

@[simp] theorem actColGet_pending (c : HostCmd) (s : State) : (actColGet c s).s.pending = s.pending := rfl
@[simp] theorem actColSet_pending (c : HostCmd) (s : State) : (actColSet c s).s.pending = s.pending := by simp [actColSet]
@[simp] theorem actZoneGet_pending (c : HostCmd) (s : State) : (actZoneGet c s).s.pending = s.pending := by simp [actZoneGet]

/-! ### Copies and clears -/

@[simp] theorem doCoefCopyComplete_pending (s : State) : (doCoefCopyComplete s).pending = s.pending := by simp [doCoefCopyComplete]
@[simp] theorem doSlotClearComplete_pending (s : State) : (doSlotClearComplete s).pending = s.pending := by simp [doSlotClearComplete]

/-! ### Memory errors (R29 to R31, Tables 1.4 and 1.5) -/

@[simp] theorem reloadBlock_pending (s : State) (b : Nat) (ok : Bool) : (s.reloadBlock b ok).pending = s.pending := by
  simp [State.reloadBlock]
@[simp] theorem readCoef_pending (s : State) : s.readCoef.pending = s.pending := by simp [State.readCoef]
@[simp] theorem clearCoef_pending (s : State) : s.clearCoef.pending = s.pending := by simp [State.clearCoef]
@[simp] theorem reloadWhole_pending (s : State) (ok : Bool) : (s.reloadWhole ok).pending = s.pending := by simp [State.reloadWhole]
@[simp] theorem doCoefBlockReload_pending (b : Nat) (ok : Bool) (s : State) : (doCoefBlockReload b ok s).pending = s.pending := by
  simp [doCoefBlockReload]
@[simp] theorem coefError_pending (s : State) (b : Nat) : (s.coefError b).pending = s.pending := by simp [State.coefError]

/-! ### Sensors -/

@[simp] theorem setSensor_pending (s : State) (c i : Nat) (f : Sensor → Sensor) : (s.setSensor c i f).pending = s.pending := by
  simp [State.setSensor]
@[simp] theorem substituteZones_pending (s : State) : s.substituteZones.pending = s.pending := by
  refine foldl_pending (fun t z => ?_) _ s
  split
  · rfl
  · split <;> rfl
@[simp] theorem refreshZones_pending (s : State) : s.refreshZones.pending = s.pending := by simp [State.refreshZones]

/-! ### Levels (R526 to R530) -/

@[simp] theorem levelEvent_pending (s : State) (up : Bool) : (s.levelEvent up).pending = s.pending := by simp [State.levelEvent]
@[simp] theorem countLevel_pending (s : State) (c i k : Nat) (t : ℤ) : (s.countLevel c i k t).pending = s.pending := by
  simp [State.countLevel]
@[simp] theorem countLevels_pending (s : State) (c i : Nat) (t : ℤ) : (s.countLevels c i t).pending = s.pending := by
  simp [State.countLevels]
@[simp] theorem showDie_pending (s : State) : s.showDie.pending = s.pending := by simp [State.showDie]
@[simp] theorem showNode_pending (s : State) : s.showNode.pending = s.pending := by simp [State.showNode]
@[simp] theorem showLevels_pending (s : State) (c : Nat) : (s.showLevels c).pending = s.pending := by simp [State.showLevels]
@[simp] theorem classChanged_pending (s : State) (c : Nat) : (s.classChanged c).pending = s.pending := by simp [State.classChanged]
@[simp] theorem putLevels_pending (s : State) (c : Nat) (enables sets : List Nat) : (s.putLevels c enables sets).pending = s.pending :=
  foldl_pending (fun _ _ => (w_pending ..).trans (w_pending ..)) _ s
@[simp] theorem countSample_pending (s : State) (c i : Nat) (t : ℤ) : (s.countSample c i t).pending = s.pending := by
  simp [State.countSample]

/-! ### Samples (R519 to R525) -/

@[simp] theorem cutSensor_pending (s : State) (c i code : Nat) (fresh : Bool) : (s.cutSensor c i code fresh).pending = s.pending := by
  simp [State.cutSensor]
@[simp] theorem readmit_pending (s : State) (c i : Nat) (t : ℤ) (back : Bool) : (s.readmit c i t back).pending = s.pending := by
  simp [State.readmit]
@[simp] theorem failedRead_pending (s : State) (c i : Nat) : (s.failedRead c i).pending = s.pending := by simp [State.failedRead]
@[simp] theorem failedNow_pending (s : State) (c i : Nat) : (s.failedNow c i).pending = s.pending := by simp [State.failedNow]
@[simp] theorem recordSample_pending (s : State) (c i : Nat) (v : ℤ) : (s.recordSample c i v).pending = s.pending := by
  simp [State.recordSample]
@[simp] theorem goodSample_pending (s : State) (c i : Nat) (v : ℤ) (first : Bool) : (s.goodSample c i v first).pending = s.pending := by
  simp [State.goodSample]
@[simp] theorem takeSample_pending (s : State) (c i : Nat) (v : ℤ) : (s.takeSample c i v).pending = s.pending := by simp [State.takeSample]

/-! ### Drift triggers (R532) -/

@[simp] theorem drift_pending (s : State) (i : Nat) : (s.drift i).pending = s.pending := by simp [State.drift]
@[simp] theorem sampleDie_pending (s : State) (i : Nat) (v : Option ℤ) : (s.sampleDie i v).pending = s.pending := by
  simp only [State.sampleDie]
  repeat' split
  all_goals simp
@[simp] theorem countSubstitute_pending (s : State) (z : Nat) : (s.countSubstitute z).pending = s.pending := by simp [State.countSubstitute]
@[simp] theorem sampleZone_pending (s : State) (z : Nat) (v : Option ℤ) : (s.sampleZone z v).pending = s.pending := by
  simp only [State.sampleZone]
  split <;> simp
@[simp] theorem sampleOut_pending (s : State) (z : Nat) : (s.sampleOut z).pending = s.pending := by simp [State.sampleOut]
@[simp] theorem zoneOut_pending (s : State) (z : Nat) : (s.zoneOut z).pending = s.pending := by simp [State.zoneOut]

/-! ### Commands (Table 14.9) -/

@[simp] theorem actThmGet_pending (c : HostCmd) (s : State) : (actThmGet c s).s.pending = s.pending := rfl
@[simp] theorem setLevel_pending (s : State) (i : Nat) (enable set_ : Option Nat) : (s.setLevel i enable set_).pending = s.pending := by
  simp only [State.setLevel]
  repeat' split
  all_goals simp
@[simp] theorem actThmSet_pending (c : HostCmd) (s : State) : (actThmSet c s).s.pending = s.pending := by simp [actThmSet]
@[simp] theorem readmitCmd_pending (s : State) (c i : Nat) : (s.readmitCmd c i).pending = s.pending := by simp [State.readmitCmd]
@[simp] theorem actThmSensor_pending (c : HostCmd) (s : State) : (actThmSensor c s).s.pending = s.pending := by simp [actThmSensor]
@[simp] theorem actThmNeighSet_pending (c : HostCmd) (s : State) : (actThmNeighSet c s).s.pending = s.pending := by simp [actThmNeighSet]

/-! ### Calibration records (Table 14.6) -/

@[simp] theorem actCalRead_pending (c : HostCmd) (s : State) : (actCalRead c s).s.pending = s.pending := by simp [actCalRead]
@[simp] theorem storeSeed_pending (s : State) (r : CalRec) : (s.storeSeed r).pending = s.pending := by simp [State.storeSeed]
@[simp] theorem actCalWrite_pending (c : HostCmd) (s : State) : (actCalWrite c s).s.pending = s.pending := by simp [actCalWrite]
@[simp] theorem actCalRefSet_pending (c : HostCmd) (s : State) : (actCalRefSet c s).s.pending = s.pending :=
  (freeRun_pending _).trans (foldl_pending (fun s j => w_pending s .calRefComp j _) _ s)

/-! ### Packets -/

@[simp] theorem laneOut_pending (s : State) (n start : Nat) (l : List Byte) : (s.laneOut n start l).pending = s.pending := by
  simp [State.laneOut]
@[simp] theorem control_pending (s : State) (n addr type : Nat) (payload : List Byte) :
    (s.control n addr type payload).pending = s.pending := by
  simp [State.control]
@[simp] theorem regWrite_pending (s : State) (n addr reg data : Nat) : (s.regWrite n addr reg data).pending = s.pending := by
  simp [State.regWrite]
@[simp] theorem stageLane_pending (s : State) (v : View) (n : Nat) : (s.stageLane v n).pending = s.pending := by simp [State.stageLane]
@[simp] theorem claimLane_pending (s : State) (n : Nat) : (s.claimLane n).pending = s.pending := by simp [State.claimLane]
@[simp] theorem diagConfig_pending (s : State) (n : Nat) : (s.diagConfig n).pending = s.pending := by simp [State.diagConfig]
@[simp] theorem boundaryLanes_pending (s : State) : s.boundaryLanes.pending = s.pending := by simp [State.boundaryLanes]
@[simp] theorem stageNew_pending (s : State) : s.stageNew.pending = s.pending := by simp [State.stageNew]
@[simp] theorem setClaim_pending (s : State) (epoch claim : Nat) : (s.setClaim epoch claim).pending = s.pending := by simp [State.setClaim]
@[simp] theorem curmapLane_pending (s : State) (n : Nat) : (s.curmapLane n).pending = s.pending := by simp [State.curmapLane]
@[simp] theorem sendCurmap_pending (s : State) : s.sendCurmap.pending = s.pending := by simp [State.sendCurmap]

/-! ### Requests on the return pairs (R299 to R302) -/

@[simp] theorem setAsking_pending (s : State) (g : Nat) (r : Option RetReq) : (s.setAsking g r).pending = s.pending := rfl
@[simp] theorem setWaiting_pending (s : State) (g : Nat) (l : List RetReq) : (s.setWaiting g l).pending = s.pending := rfl
@[simp] theorem sendRequest_pending (s : State) (r : RetReq) : (s.sendRequest r).pending = s.pending := by simp [State.sendRequest]
@[simp] theorem ask_pending (s : State) (g : Nat) (r : RetReq) : (s.ask g r).pending = s.pending := by simp [State.ask]
@[simp] theorem askDiag_pending (s : State) (g : Nat) : (s.askDiag g).pending = s.pending := by
  simp only [State.askDiag]
  repeat' split
  all_goals simp
@[simp] theorem dropRequest_pending (s : State) (r : RetReq) (status : Nat) : (s.dropRequest r status).pending = s.pending := by
  simp [State.dropRequest]
@[simp] theorem dropEchoes_pending (s : State) (g : Nat) : (s.dropEchoes g).pending = s.pending := by simp [State.dropEchoes]
@[simp] theorem pump_pending (s : State) (g : Nat) : (s.pump g).pending = s.pending := by
  simp only [State.pump]
  repeat' split
  all_goals simp
@[simp] theorem enqueue_pending (s : State) (r : RetReq) : (s.enqueue r).pending = s.pending := by simp [State.enqueue]

/-! ### Lane states (R281, R282, Table 8.5) -/

@[simp] theorem enterLane_pending (s : State) (n st : Nat) : (s.enterLane n st).pending = s.pending := by simp [State.enterLane]
@[simp] theorem trainLane_pending (s : State) (n : Nat) : (s.trainLane n).pending = s.pending := by
  simp only [State.trainLane]
  split <;> simp
@[simp] theorem freshLane_pending (s : State) (n : Nat) : (s.freshLane n).pending = s.pending := by simp [State.freshLane]
@[simp] theorem followLanes_pending (s : State) : s.followLanes.pending = s.pending := by simp [State.followLanes]
@[simp] theorem restartLane_pending (s : State) (n : Nat) : (s.restartLane n).pending = s.pending := by simp [State.restartLane]
@[simp] theorem failLane_pending (s : State) (n : Nat) : (s.failLane n).pending = s.pending := by simp [State.failLane]
@[simp] theorem configLane_pending (s : State) (n : Nat) : (s.configLane n).pending = s.pending := by simp [State.configLane]
@[simp] theorem afterEnum_pending (s : State) (n : Nat) (answered : Bool) : (s.afterEnum n answered).pending = s.pending := by
  simp [State.afterEnum]
@[simp] theorem afterConfig_pending (s : State) (n : Nat) (ok : Bool) : (s.afterConfig n ok).pending = s.pending := by
  simp only [State.afterConfig]
  repeat' split
  all_goals simp
@[simp] theorem doLaneTrainDone_pending (n : Nat) (s : State) : (doLaneTrainDone n s).pending = s.pending := by simp [doLaneTrainDone]
@[simp] theorem doLaneRetryTimer_pending (n : Nat) (s : State) : (doLaneRetryTimer n s).pending = s.pending := by simp [doLaneRetryTimer]

/-! ### Lamp status (R306 to R309) -/

@[simp] theorem setLamp_pending (s : State) (lamp code : Nat) : (s.setLamp lamp code).pending = s.pending := by simp [State.setLamp]
@[simp] theorem diagnose_pending (s : State) (r : RetReq) (data : List Byte) : (s.diagnose r data).pending = s.pending := by
  simp [State.diagnose]

/-! ### Replies -/

@[simp] theorem learn_pending (s : State) (n d reg v : Nat) : (s.learn n d reg v).pending = s.pending := by simp [State.learn]
@[simp] theorem answered_pending (s : State) (r : RetReq) (data : List Byte) : (s.answered r data).pending = s.pending := by
  simp only [State.answered]
  split <;> simp
@[simp] theorem requestFailed_pending (s : State) (r : RetReq) : (s.requestFailed r).pending = s.pending := by
  simp only [State.requestFailed]
  split <;> simp
@[simp] theorem attemptFailed_pending (s : State) (g : Nat) (r : RetReq) : (s.attemptFailed g r).pending = s.pending := by
  simp [State.attemptFailed]
@[simp] theorem doLaneReplyRx_pending (g : Nat) (l : List Byte) (s : State) : (doLaneReplyRx g l s).pending = s.pending := by
  simp only [doLaneReplyRx]
  split <;> simp
@[simp] theorem doLaneReplyTimeout_pending (g : Nat) (s : State) : (doLaneReplyTimeout g s).pending = s.pending := by
  simp only [doLaneReplyTimeout]
  split <;> simp
@[simp] theorem doThermalSample_pending (cls i : Nat) (v : Option ℤ) (s : State) : (doThermalSample cls i v s).pending = s.pending := by
  simp [doThermalSample]

/-! ### Commands (Table 8.10) -/

@[simp] theorem actLaneGet_pending (c : HostCmd) (s : State) : (actLaneGet c s).s.pending = s.pending := by simp [actLaneGet]
@[simp] theorem actLaneRestart_pending (c : HostCmd) (s : State) : (actLaneRestart c s).s.pending = s.pending := by simp [actLaneRestart]
@[simp] theorem askFor_pending (s : State) (n d kind arg : Nat) : (s.askFor n d kind arg).s.pending = s.pending := by simp [State.askFor]
@[simp] theorem actLaneReg_pending (c : HostCmd) (s : State) : (actLaneReg c s).s.pending = s.pending := by simp [actLaneReg]
@[simp] theorem actLaneSetCurrent_pending (c : HostCmd) (s : State) : (actLaneSetCurrent c s).s.pending = s.pending := by
  simp [actLaneSetCurrent]
@[simp] theorem actLaneSetCurmap_pending (c : HostCmd) (s : State) : (actLaneSetCurmap c s).s.pending = s.pending := by
  unfold actLaneSetCurmap
  split
  · rfl
  · exact (sendCurmap_pending _).trans (foldl_pending (fun s k => w_pending s .llCurmap k _) _ s)
@[simp] theorem actDiagSet_pending (c : HostCmd) (s : State) : (actDiagSet c s).s.pending = s.pending := by simp [actDiagSet]
@[simp] theorem actDiagSummary_pending (c : HostCmd) (s : State) : (actDiagSummary c s).s.pending = s.pending := rfl
@[simp] theorem actDiagReadMap_pending (c : HostCmd) (s : State) : (actDiagReadMap c s).s.pending = s.pending := by simp [actDiagReadMap]
@[simp] theorem actDiagEvents_pending (c : HostCmd) (s : State) : (actDiagEvents c s).s.pending = s.pending := by simp [actDiagEvents]
@[simp] theorem actLaneEcho_pending (c : HostCmd) (s : State) : (actLaneEcho c s).s.pending = s.pending := by simp [actLaneEcho]
@[simp] theorem doDiagEventRead_pending (s : State) : (doDiagEventRead s).pending = s.pending := by simp [doDiagEventRead]

/-! ### The schedule -/

@[simp] theorem scheduleFrame_pending (s : State) (f : Nat) : (s.scheduleFrame f).pending = s.pending := by simp [State.scheduleFrame]
@[simp] theorem cutScan_pending (s : State) (f : Nat) : (s.cutScan f).pending = s.pending := by simp [State.cutScan]

/-! ### Loads (R254, R284 to R290) -/

@[simp] theorem greyLane_pending (s : State) (v : View) (feed bank n : Nat) : (s.greyLane v feed bank n).pending = s.pending := by
  simp [State.greyLane]
@[simp] theorem subLane_pending (s : State) (x : Machine.Sub) (n : Nat) : (s.subLane x n).pending = s.pending := by simp [State.subLane]
@[simp] theorem probeLane_pending (s : State) (v : View) (x : Sub) (n : Nat) : (s.probeLane v x n).pending = s.pending := by
  unfold State.probeLane
  dsimp only
  rw [count_pending, foldl_pending, foldl_pending]
  · exact fun _ _ => setLane_pending ..
  · exact fun _ _ => control_pending ..
@[simp] theorem probes_pending (s : State) (v : View) (x : Machine.Sub) : (s.probes v x).pending = s.pending := by simp [State.probes]
@[simp] theorem doLoadStart_pending (s : State) : (doLoadStart s).pending = s.pending := by
  simp only [doLoadStart]
  split <;> simp

/-! ### LINE marks (R280) -/

@[simp] theorem lineMarks_pending (s : State) (loads : List Machine.Sub) (r : MarkRun) (until_ : Nat) :
    (s.lineMarks loads r until_).pending = s.pending := by
  simp [State.lineMarks]
@[simp] theorem sendMarks_pending (s : State) (loads : List Machine.Sub) (r : MarkRun) : (s.sendMarks loads r).pending = s.pending := by
  simp [State.sendMarks]
@[simp] theorem doSubUpdateStart_pending (s : State) : (doSubUpdateStart s).pending = s.pending := by
  simp only [doSubUpdateStart]
  split <;> simp
@[simp] theorem doProbeStarvedTimer_pending (s : State) : (doProbeStarvedTimer s).pending = s.pending := by simp [doProbeStarvedTimer]

/-! ### GENLOCK inputs (R264 to R266) -/

@[simp] theorem setGenlock_pending (s : State) (n : Nat) (f : Genlock → Genlock) : (s.setGenlock n f).pending = s.pending := rfl
@[simp] theorem checkSlip_pending (s : State) (half w : Nat) : (s.checkSlip half w).pending = s.pending := by
  generalize h : s.checkSlip half w = t
  rw [show State.checkSlip = _ by delta State.checkSlip; rfl] at h
  generalize s.frameOf (half / 2) = o at h
  rw [← h]
  cases o with
  | none => rfl
  | some f => simp
@[simp] theorem takeEdge_pending (s : State) (n half : Nat) : (s.takeEdge n half).pending = s.pending := by
  generalize h : s.takeEdge n half = t
  rw [show State.takeEdge = _ by delta State.takeEdge; rfl] at h
  extract_lets x iv s1 s2 s3 at h
  have h3 : s3.pending = s.pending := by simp [s3, s2, s1]
  generalize s3.frameOf (half / 2) = f at h
  rw [← h, ← h3]
  cases f with
  | none => rfl
  | some f => exact w_pending ..
@[simp] theorem doGenlockEdge_pending (n : Nat) (rising : Bool) (held half : Nat) (s : State) :
    (doGenlockEdge n rising held half s).pending = s.pending := by
  have hcheck (l : List Nat) (s : State) : (l.foldl (fun s w => s.checkSlip half w) s).pending = s.pending := by
    induction l generalizing s with
    | nil => rfl
    | cons w l ih => rw [List.foldl_cons, ih, checkSlip_pending]
  by_cases hdeaf : 3 < n ∨ (!s.on .genEnable n) = true ∨ rising = s.on .genFalling n
  · exact congrArg State.pending (if_pos hdeaf)
  · by_cases hshort : held < s.r .genFilter n
    · exact (congrArg State.pending ((if_neg hdeaf).trans (if_pos hshort))).trans (raise_pending ..)
    · obtain ⟨l, h⟩ : ∃ l : List Nat, doGenlockEdge n rising held half s =
          (l.foldl (fun s w => s.checkSlip half w) (s.takeEdge n half)).genlockRef n half := ⟨_, (if_neg hdeaf).trans (if_neg hshort)⟩
      rw [h, genlockRef_pending, hcheck, takeEdge_pending]
@[simp] theorem doGenlockMissed_pending (n : Nat) (s : State) : (doGenlockMissed n s).pending = s.pending := by simp [doGenlockMissed]
@[simp] theorem setGenlockIn_pending (s : State) (n enable falling filter : Nat) :
    (s.setGenlockIn n enable falling filter).pending = s.pending := by
  simp [State.setGenlockIn]

/-! ### SHUTTER outputs (R267, R268) -/

@[simp] theorem setShutter_pending (s : State) (n : Nat) (f : Shutter → Shutter) : (s.setShutter n f).pending = s.pending := rfl
@[simp] theorem doShutterAssert_pending (n : Nat) (s : State) : (doShutterAssert n s).pending = s.pending := by
  simp only [doShutterAssert]
  repeat' split
  all_goals simp
@[simp] theorem deassert_pending (s : State) (n : Nat) : (s.deassert n).pending = s.pending := rfl
@[simp] theorem doShutterDeassert_pending (n : Nat) (s : State) : (doShutterDeassert n s).pending = s.pending := by simp [doShutterDeassert]

/-! ### Commands (Table 7.8) -/

@[simp] theorem actScanGet_pending (c : HostCmd) (s : State) : (actScanGet c s).s.pending = s.pending := rfl
@[simp] theorem actScanSetLanes_pending (c : HostCmd) (s : State) : (actScanSetLanes c s).s.pending = s.pending := by simp [actScanSetLanes]
@[simp] theorem actScanSetTiming_pending (c : HostCmd) (s : State) : (actScanSetTiming c s).s.pending = s.pending := by
  simp [actScanSetTiming]
@[simp] theorem actScanSetFeed_pending (c : HostCmd) (s : State) : (actScanSetFeed c s).s.pending = s.pending := by simp [actScanSetFeed]
@[simp] theorem actScanSetWindow_pending (c : HostCmd) (s : State) : (actScanSetWindow c s).s.pending = s.pending := by
  simp [actScanSetWindow]
@[simp] theorem actScanPlan_pending (c : HostCmd) (s : State) : (actScanPlan c s).s.pending = s.pending := by simp [actScanPlan]
@[simp] theorem actGenlockSet_pending (c : HostCmd) (s : State) : (actGenlockSet c s).s.pending = s.pending := by simp [actGenlockSet]
@[simp] theorem actGenlockGet_pending (c : HostCmd) (s : State) : (actGenlockGet c s).s.pending = s.pending := by simp [actGenlockGet]
@[simp] theorem actShutterSet_pending (c : HostCmd) (s : State) : (actShutterSet c s).s.pending = s.pending := by simp [actShutterSet]
@[simp] theorem setTrim_pending (s : State) (g v : Nat) : (s.setTrim g v).pending = s.pending := by simp [State.setTrim]
@[simp] theorem actScanSetTrim_pending (c : HostCmd) (s : State) : (actScanSetTrim c s).s.pending = s.pending := by simp [actScanSetTrim]

/-! ### Clock domains and service sets -/

@[simp] theorem setGood_pending (s : State) (d : Nat) (v : Bool) : (s.setGood d v).pending = s.pending := by simp [State.setGood]

/-! ### Packets -/

theorem firstCopy_pending {s t : State} {origin type seq : Nat} (h : s.firstCopy origin type seq = some t) : t.pending = s.pending := by
  unfold State.firstCopy at h
  simp only at h
  repeat' split at h
  all_goals cases h
  all_goals rfl
@[simp] theorem sendLease_pending (s : State) (op : Nat) (witness : Bool) (term expiry holder frame : Nat) :
    (s.sendLease op witness term expiry holder frame).pending = s.pending := by
  simp [State.sendLease]

/-! ### The lease -/

@[simp] theorem sendRenew_pending (s : State) : s.sendRenew.pending = s.pending := by simp [State.sendRenew]
@[simp] theorem cease_pending (s : State) (st : Nat) : (s.cease st).pending = s.pending := by simp [State.cease]
@[simp] theorem withdraw_pending (s : State) (status : Nat) : (s.withdraw status).pending = s.pending := by simp [State.withdraw]
@[simp] theorem enterCandidate_pending (s : State) : s.enterCandidate.pending = s.pending := by simp [State.enterCandidate]
@[simp] theorem noteTwin_pending (s : State) (k : Pkt) : (s.noteTwin k).pending = s.pending := by simp [State.noteTwin]
@[simp] theorem sendAck_pending (s : State) (k : Pkt) : (s.sendAck k).pending = s.pending := by simp [State.sendAck]
@[simp] theorem startResilver_pending (s : State) : s.startResilver.pending = s.pending := by simp [State.startResilver]
@[simp] theorem hearHolder_pending (s : State) : s.hearHolder.pending = s.pending := by simp [State.hearHolder]
@[simp] theorem followRenew_pending (s : State) (k : Pkt) : (s.followRenew k).pending = s.pending := by simp [State.followRenew]
@[simp] theorem giveWay_pending (s : State) (k : Pkt) : (s.giveWay k).pending = s.pending := by simp [State.giveWay]
@[simp] theorem doLeaseRenewRx_pending (k : Pkt) (s : State) : (doLeaseRenewRx k s).pending = s.pending := by
  unfold doLeaseRenewRx
  split
  · rfl
  · split
    · rfl
    · next h => simp [firstCopy_pending h]
@[simp] theorem renewsNow_pending (s : State) : s.renewsNow.pending = s.pending := by
  refine foldl_pending (fun t i => ?_) _ s
  split
  · simp
  · rfl
@[simp] theorem doLeaseRenewSend_pending (s : State) : (doLeaseRenewSend s).pending = s.pending := by simp [doLeaseRenewSend]
@[simp] theorem granted_pending (s : State) (e : Nat) : (s.granted e).pending = s.pending := rfl
@[simp] theorem doLeaseAckRx_pending (k : Pkt) (s : State) : (doLeaseAckRx k s).pending = s.pending := by
  unfold doLeaseAckRx
  split
  · rfl
  · split
    · rfl
    · next h =>
      dsimp only
      split
      · simp [firstCopy_pending h]
      · simp [firstCopy_pending h]
@[simp] theorem acksNow_pending (s : State) : s.acksNow.pending = s.pending := by
  refine foldl_pending (fun t i => ?_) _ s
  split
  · simp
  · rfl
@[simp] theorem doLeaseEnd_pending (s : State) : (doLeaseEnd s).pending = s.pending := by simp [doLeaseEnd]
@[simp] theorem doLeaseSilence_pending (s : State) : (doLeaseSilence s).pending = s.pending := by simp [doLeaseSilence]
@[simp] theorem doGuardEnd_pending (s : State) : (doGuardEnd s).pending = s.pending := by simp [doGuardEnd]
@[simp] theorem doCandidateTimeout_pending (s : State) : (doCandidateTimeout s).pending = s.pending := by simp [doCandidateTimeout]
@[simp] theorem doRenewMissed_pending (s : State) : (doRenewMissed s).pending = s.pending := by
  simp only [doRenewMissed]
  split <;> simp
@[simp] theorem yield_pending (s : State) : s.yield_.pending = s.pending := by simp [State.yield_]
@[simp] theorem doLeaseYieldRx_pending (k : Pkt) (s : State) : (doLeaseYieldRx k s).pending = s.pending := by
  unfold doLeaseYieldRx
  split
  · rfl
  · split
    · rfl
    · next h => simp [firstCopy_pending h]

/-! ### Claims -/

@[simp] theorem newEpoch_pending (s : State) : s.newEpoch.pending = s.pending := by
  simp only [State.newEpoch, ws_pending]
@[simp] theorem raiseClaim_pending (s : State) : s.raiseClaim.pending = s.pending := by simp [State.raiseClaim]
@[simp] theorem takeLease_pending (s : State) (f : Nat) : (s.takeLease f).pending = s.pending := by simp [State.takeLease]
@[simp] theorem sendClaim_pending (s : State) (f : Nat) : (s.sendClaim f).pending = s.pending := by simp [State.sendClaim]
@[simp] theorem obey_pending (s : State) (f : Nat) : (s.obey f).pending = s.pending := by
  simp only [State.obey]
  split <;> simp
@[simp] theorem doHeadClaimRx_pending (k : Pkt) (s : State) : (doHeadClaimRx k s).pending = s.pending := by
  unfold doHeadClaimRx
  dsimp only
  split
  · rfl
  · next t h =>
    rw [← firstCopy_pending h]
    split
    · simp
    · split
      · simp
      · split
        · simp
        · rfl
@[simp] theorem doPairStanddown_pending (s : State) : (doPairStanddown s).pending = s.pending := by simp [doPairStanddown]

/-! ### HEAD_PICK -/

@[simp] theorem sendPick_pending (s : State) (f : Nat) : (s.sendPick f).pending = s.pending := by simp [State.sendPick]
@[simp] theorem takePick_pending (s : State) (k : Pkt) (n : Nat) : (s.takePick k n).pending = s.pending := rfl
@[simp] theorem doHeadPickRx_pending (k : Pkt) (s : State) : (doHeadPickRx k s).pending = s.pending := by
  have hopen (f n : Nat) (s : State) :
      ((List.range n).foldl (fun (s : State) (j : Nat) => s.openStream f (k.u8 (16 + 24 * j) % 16)) s).pending = s.pending :=
    foldl_pending (fun _ _ => openStream_pending ..) _ s
  have hhold (s : State) : ((List.range 4).foldl State.holdAnew s).pending = s.pending := foldl_pending holdAnew_pending _ s
  have htake (n : Nat) (s : State) : ((List.range n).foldl (fun (s : State) (j : Nat) => s.takePick k j) s).pending = s.pending :=
    foldl_pending (fun _ _ => takePick_pending ..) _ s
  have hstamp := takeStamp_pending s (k.u32 0)
  generalize h : doHeadPickRx k s = t
  rw [show doHeadPickRx = _ by delta doHeadPickRx; rfl] at h
  generalize s.takeStamp (k.u32 0) = x at h hstamp
  obtain ⟨o, u⟩ := x
  rw [← h, ← hstamp]
  simp only [ite_pending, hopen, hhold, htake, ite_self]
@[simp] theorem doPickWaitExpire_pending (s : State) : (doPickWaitExpire s).pending = s.pending := by
  simp only [doPickWaitExpire]
  split <;> simp

/-! ### Resilvering -/

@[simp] theorem sendGranules_pending (s : State) (gs : List Nat) : (s.sendGranules gs).pending = s.pending := by simp [State.sendGranules]
@[simp] theorem serveResilver_pending (s : State) : s.serveResilver.pending = s.pending := by simp [State.serveResilver]
@[simp] theorem unlist_pending (s : State) (g : Nat) : (s.unlist g).pending = s.pending := rfl
@[simp] theorem doResilverRx_pending (k : Pkt) (s : State) : (doResilverRx k s).pending = s.pending := by
  unfold doResilverRx
  dsimp only
  split
  · rfl
  · split
    · rfl
    · next h => simp [firstCopy_pending h]
@[simp] theorem doResilverPassDone_pending (s : State) : (doResilverPassDone s).pending = s.pending := by simp [doResilverPassDone]

/-! ### The frame boundary -/

@[simp] theorem refreshHealth_pending (s : State) : s.refreshHealth.pending = s.pending := by simp [State.refreshHealth]
@[simp] theorem dwell_pending (s : State) : s.dwell.pending = s.pending := by simp [State.dwell]
@[simp] theorem redBoundary_pending (s : State) (f : Nat) : (s.redBoundary f).pending = s.pending := by simp [State.redBoundary]

/-! ### Commands (Table 11.12) -/

@[simp] theorem actRedGet_pending (c : HostCmd) (s : State) : (actRedGet c s).s.pending = s.pending := rfl
@[simp] theorem actRedSet_pending (c : HostCmd) (s : State) : (actRedSet c s).s.pending = s.pending := by simp [actRedSet]
@[simp] theorem actRedHandover_pending (c : HostCmd) (s : State) : (actRedHandover c s).s.pending = s.pending := by simp [actRedHandover]
@[simp] theorem actRedTakeover_pending (c : HostCmd) (s : State) : (actRedTakeover c s).s.pending = s.pending := by simp [actRedTakeover]
@[simp] theorem actRedSetSelect_pending (c : HostCmd) (s : State) : (actRedSetSelect c s).s.pending = s.pending := by simp [actRedSetSelect]
@[simp] theorem actRedClaim_pending (c : HostCmd) (s : State) : (actRedClaim c s).s.pending = s.pending := by simp [actRedClaim]
@[simp] theorem actRedResilver_pending (c : HostCmd) (s : State) : (actRedResilver c s).s.pending = s.pending := by simp [actRedResilver]

/-! ### Banks -/

@[simp] theorem setBank_pending (s : State) (b st sec : Nat) : (s.setBank b st sec).pending = s.pending := rfl

/-! ### Writing (R550 to R553) -/

@[simp] theorem eraseFirst_pending (s : State) (bank a b : Nat) : (s.eraseFirst bank a b).pending = s.pending :=
  foldl_pending (fun _ _ => flashErase_pending ..) _ s
@[simp] theorem putBytes_pending (s : State) (bank off : Nat) (l : List Byte) : (s.putBytes bank off l).pending = s.pending := by
  simp [State.putBytes]
@[simp] theorem failBank_pending (s : State) (bank status : Nat) : (s.failBank bank status).pending = s.pending := by simp [State.failBank]
@[simp] theorem checkBlock_pending (s : State) (bank : Nat) (p : List Nat) (b : Nat) : (s.checkBlock bank p b).1.pending = s.pending := by
  simp only [State.checkBlock]
  repeat' split
  all_goals simp
@[simp] theorem checkBody_pending (s : State) (bank : Nat) : (s.checkBody bank).pending = s.pending := by simp [State.checkBody]
@[simp] theorem writePiece_pending (s : State) (xfer off : Nat) (l : List Byte) : (s.writePiece xfer off l).1.pending = s.pending := by
  have hblocks (bank : Nat) (bs : List Nat) (acc : State × List Nat) :
      (bs.foldl (fun acc b => acc.1.checkBlock bank acc.2 b) acc).1.pending = acc.1.pending := by
    induction bs generalizing acc with
    | nil => rfl
    | cons b bs ih => exact (ih _).trans (checkBlock_pending ..)
  unfold State.writePiece
  dsimp only
  split
  · rfl
  · split
    · exact putBytes_pending ..
    · rw [apply_ite (fun x : State × Nat × Passed => x.1.pending)]
      simp [hblocks]
theorem withFlash_pending {act : Action} (hact : LeavesQueue act) : LeavesQueue (withFlash act) := by
  intro c s
  unfold withFlash
  split
  · exact hact c s
  · rfl

/-! ### FW_GET, FW_BEGIN, FW_WRITE, FW_WRITE_DATA -/

@[simp] theorem actFwGet_pending (c : HostCmd) (s : State) : (actFwGet c s).s.pending = s.pending := rfl
@[simp] theorem actFwBegin_pending (c : HostCmd) (s : State) : (actFwBegin c s).s.pending = s.pending :=
  withFlash_pending (fun c s => by simp) c s
@[simp] theorem commandWrite_pending (s : State) (xfer off : Nat) (l : List Byte) : (s.commandWrite xfer off l).s.pending = s.pending := by
  simp [State.commandWrite]
@[simp] theorem actFwWrite_pending (c : HostCmd) (s : State) : (actFwWrite c s).s.pending = s.pending := by
  refine withFlash_pending (fun c s => ?_) c s
  split
  · rfl
  · simp
@[simp] theorem actFwWriteData_pending (c : HostCmd) (s : State) : (actFwWriteData c s).s.pending = s.pending :=
  withFlash_pending (fun _ _ => commandWrite_pending ..) c s

/-! ### Spreading (R554 to R557) -/

@[simp] theorem sendPieceOn_pending (s : State) (p bank xfer a b : Nat) : (s.sendPieceOn p bank xfer a b).pending = s.pending := by
  simp [State.sendPieceOn]
@[simp] theorem sendPieceTo_pending (s : State) (node bank xfer a b : Nat) : (s.sendPieceTo node bank xfer a b).pending = s.pending := by
  simp [State.sendPieceTo]
@[simp] theorem spreadOn_pending (s : State) (ports : List Nat) (bank xfer : Nat) (l : Passed) :
    (s.spreadOn ports bank xfer l).pending = s.pending := by
  simp [State.spreadOn]
@[simp] theorem takePiece_pending (s : State) (p : Nat) (k : Pkt) : (s.takePiece p k).pending = s.pending := by simp [State.takePiece]
@[simp] theorem actFwSpread_pending (c : HostCmd) (s : State) : (actFwSpread c s).s.pending = s.pending :=
  withFlash_pending (fun c s => by simp) c s
@[simp] theorem endSpread_pending (s : State) (sp : Spread) : (s.endSpread sp).pending = s.pending := by simp [State.endSpread]
@[simp] theorem resend_pending (s : State) (sp : Spread) : (s.resend sp).pending = s.pending := by
  refine foldl_pending (fun s node => ?_) _ s
  split
  · exact foldl_pending (fun s b => sendPieceTo_pending ..) _ s
  · rfl
@[simp] theorem pollSpread_pending (s : State) (sp : Spread) : (s.pollSpread sp).pending = s.pending := by simp [State.pollSpread]
@[simp] theorem doSpreadPoll_pending (s : State) : (doSpreadPoll s).pending = s.pending := by
  simp only [doSpreadPoll]
  split <;> simp
@[simp] theorem doSpreadTimeout_pending (s : State) : (doSpreadTimeout s).pending = s.pending := by
  simp only [doSpreadTimeout]
  split <;> simp

/-! ### Selection record and settings slots (R543, R568) -/

@[simp] theorem writeSelection_pending (s : State) (bank target : Nat) : (s.writeSelection bank target).pending = s.pending := by
  simp [State.writeSelection]
@[simp] theorem loadRecords_pending (s : State) (x : Option (Nat × Slot)) : (s.loadRecords x).pending = s.pending := by
  unfold State.loadRecords
  generalize s.confirmedSlot = o
  cases o with
  | none => cases x <;> rfl
  | some p => cases x <;> rfl
@[simp] theorem applyAutoShow_pending (s : State) : s.applyAutoShow.pending = s.pending := by
  simp only [State.applyAutoShow]
  split <;> simp
@[simp] theorem applyWatchdog_pending (s : State) : s.applyWatchdog.pending = s.pending := by
  simp only [State.applyWatchdog]
  split <;> simp
@[simp] theorem applyItems_pending (s : State) : s.applyItems.pending = s.pending := by
  simp only [State.applyItems]
  repeat' split
  all_goals simp
@[simp] theorem defaultItems_pending (s : State) : s.defaultItems.pending = s.pending := by simp [State.defaultItems]
@[simp] theorem applyRecords_pending (s : State) : s.applyRecords.pending = s.pending := by
  have hseeds (l : List Byte) (n : Nat) (s : State) : ((List.range n).foldl (fun (s : State) (i : Nat) =>
      s.storeSeed (CalRec.ofBytes (getBytes l (32 * i) 32))) s).pending = s.pending := foldl_pending (fun _ _ => storeSeed_pending ..) _ s
  unfold State.applyRecords
  extract_lets s1 s2 s3
  have h1 : s1.pending = s.pending := by
    unfold s1
    split
    · exact applyImage_pending ..
    · rfl
  have h2 : s2.pending = s.pending := by simp only [s2, applyItems_pending, applyAutoShow_pending, applyWatchdog_pending, h1]
  have h3 : s3.pending = s.pending := by
    unfold s3
    split
    · rw [hseeds, h2]
    · exact h2
  split
  · exact h3
  · exact h3

/-! ### Activation and trial (R558 to R566) -/

@[simp] theorem writeActRecord_pending (s : State) (c : HostCmd) (xfer : Nat) : (s.writeActRecord c xfer).pending = s.pending := rfl
@[simp] theorem beginRestart_pending (s : State) : s.beginRestart.pending = s.pending := by simp [State.beginRestart]
@[simp] theorem askRestart_pending (s : State) (toTrial : Bool) : (s.askRestart toTrial).pending = s.pending := by simp [State.askRestart]
@[simp] theorem actFwActivate_pending (c : HostCmd) (s : State) : (actFwActivate c s).s.pending = s.pending :=
  withFlash_pending (fun c s => by simp) c s
@[simp] theorem endFuses_pending (s : State) : s.endFuses.pending = s.pending := by simp [State.endFuses]
@[simp] theorem startFuses_pending (s : State) : s.startFuses.pending = s.pending := by simp [State.startFuses]
@[simp] theorem blowFuse_pending (s : State) : s.blowFuse.pending = s.pending := by
  simp only [State.blowFuse]
  split <;> simp
@[simp] theorem clearTrial_pending (s : State) : s.clearTrial.pending = s.pending := rfl
@[simp] theorem confirmSlot_pending (s : State) : s.confirmSlot.pending = s.pending := by
  simp only [State.confirmSlot]
  split <;> simp
@[simp] theorem confirmTrial_pending (s : State) : s.confirmTrial.pending = s.pending := by simp [State.confirmTrial]
@[simp] theorem actFwConfirm_pending (c : HostCmd) (s : State) : (actFwConfirm c s).s.pending = s.pending :=
  withFlash_pending (fun c s => by simp) c s
@[simp] theorem endTrial_pending (s : State) : s.endTrial.pending = s.pending := by simp [State.endTrial]
@[simp] theorem actFwRevert_pending (c : HostCmd) (s : State) : (actFwRevert c s).s.pending = s.pending :=
  withFlash_pending (fun c s => by simp) c s

/-! ### Fallback (R571 to R573) -/

@[simp] theorem fallbackFor_pending (s : State) (xfer target : Nat) : (s.fallbackFor xfer target).pending = s.pending := by
  unfold State.fallbackFor
  split
  · rfl
  · exact (relayOut_pending actFwRevert_pending ..).trans (raise_pending ..)
@[simp] theorem actFwFallbackReq_pending (c : HostCmd) (s : State) : (actFwFallbackReq c s).s.pending = s.pending := by
  simp [actFwFallbackReq]
@[simp] theorem sendFallback_pending (s : State) : s.sendFallback.pending = s.pending := by simp [State.sendFallback]
@[simp] theorem doFallbackReqRepeat_pending (s : State) : (doFallbackReqRepeat s).pending = s.pending := by
  simp only [doFallbackReqRepeat]
  split <;> simp

/-! ### The restart -/

@[simp] theorem restartSettings_pending (s : State) (parsed : Bool) : (s.restartSettings parsed).pending = s.pending := by
  simp [State.restartSettings]
@[simp] theorem logBoot_pending (s : State) (step result reason word : Nat) : (s.logBoot step result reason word).pending = s.pending := rfl
@[simp] theorem runBank_pending (s : State) (b : Nat) : (s.runBank b).pending = s.pending := by simp [State.runBank]
@[simp] theorem endRestart_pending (s : State) (since : Nat) (parsed : Bool) : (s.endRestart since parsed).pending = s.pending := by
  simp only [State.endRestart]
  split <;> simp
@[simp] theorem doFirmwareRestart_pending (parsed : Bool) (s : State) : (doFirmwareRestart parsed s).pending = s.pending := by
  simp only [doFirmwareRestart]
  split <;> simp
@[simp] theorem endWrite_pending (s : State) : s.endWrite.pending = s.pending := by
  simp only [State.endWrite]
  repeat' split
  all_goals simp
@[simp] theorem flashFree_pending (s : State) : s.flashFree.pending = s.pending := by
  simp only [State.flashFree]
  split <;> simp
@[simp] theorem doFlashWriteComplete_pending (s : State) : (doFlashWriteComplete s).pending = s.pending := by
  simp only [doFlashWriteComplete]
  split <;> simp

/-! ### Settings commands -/

@[simp] theorem actSettingsGet_pending (c : HostCmd) (s : State) : (actSettingsGet c s).s.pending = s.pending := by simp [actSettingsGet]
@[simp] theorem actSettingsPut_pending (c : HostCmd) (s : State) : (actSettingsPut c s).s.pending = s.pending := by
  refine withFlash_pending (fun c s => ?_) c s
  dsimp only
  split
  · rfl
  · split
    · rfl
    · simp
@[simp] theorem actSettingsSave_pending (c : HostCmd) (s : State) : (actSettingsSave c s).s.pending = s.pending :=
  withFlash_pending (fun c s => by simp) c s

/-! ### What the flash holds -/

@[simp] theorem readBanks_pending (s : State) : s.readBanks.pending = s.pending := by
  simp only [State.readBanks, ws_pending, setBank_pending]

/-! ### Boot steps begin -/

@[simp] theorem trainPcie_pending (s : State) (full : Bool) : (s.trainPcie full).pending = s.pending := by simp [State.trainPcie]
@[simp] theorem pathsOn_pending (s : State) : s.pathsOn.pending = s.pending := by simp [State.pathsOn]
@[simp] theorem enterStep_pending (s : State) (n : Nat) : (s.enterStep n).pending = s.pending := by
  have hrates (s : State) : ((List.range 4).foldl (fun (s : State) (p : Nat) => s.w .fabMaxRate p (min 1 (s.r .fabMaxRate p))) s).pending =
      s.pending := foldl_pending (fun _ _ => w_pending ..) _ s
  unfold State.enterStep
  refine ite_keeps rfl (ite_keeps (ite_keeps rfl (startFuses_pending ..)) (ite_keeps (pathsOn_pending ..) (ite_keeps ?_ rfl)))
  exact ite_keeps (ite_keeps (ite_keeps (hrates _) rfl) (ite_keeps (hrates _) rfl)) (ite_keeps (hrates _) rfl)

/-! ### A reset of the node -/

@[simp] theorem cutShort_pending (s : State) : s.cutShort.pending = s.pending := by simp [State.cutShort]
@[simp] theorem noteInterrupted_pending (s : State) : s.noteInterrupted.pending = s.pending := by simp [State.noteInterrupted]
@[simp] theorem restartAll_pending (s : State) (cause : Nat) (warm trial : Bool) : (s.restartAll cause warm trial).pending = s.pending := by
  simp [State.restartAll]
@[simp] theorem bootClear_pending (s : State) : s.bootClear.pending = s.pending := by simp [State.bootClear]
@[simp] theorem joinReset_pending (s : State) (cause : Nat) (warm : Bool) : (s.joinReset cause warm).pending = s.pending := by
  simp [State.joinReset]
@[simp] theorem resetNode_pending (s : State) (cause : Nat) (warm : Bool) : (s.resetNode cause warm).pending = s.pending := by
  simp [State.resetNode]

/-! ### Blocks (Table 13.4) -/

@[simp] theorem stopBlock_pending (s : State) (b : Nat) : (s.stopBlock b).pending = s.pending := by
  simp only [State.stopBlock]
  split <;> simp
@[simp] theorem startBlock_pending (s : State) (b : Nat) : (s.startBlock b).pending = s.pending := by
  simp only [State.startBlock]
  split <;> simp
@[simp] theorem holdBlock_pending (s : State) (b : Nat) : (s.holdBlock b).pending = s.pending := by simp [State.holdBlock]
@[simp] theorem freeBlock_pending (s : State) (b : Nat) : (s.freeBlock b).pending = s.pending := by simp [State.freeBlock]
@[simp] theorem releaseBlock_pending (s : State) (b : Nat) : (s.releaseBlock b).pending = s.pending := by simp [State.releaseBlock]
@[simp] theorem writeBlocks_pending (s : State) (fromPcie : Bool) (mask value : Nat) :
    (s.writeBlocks fromPcie mask value).2.pending = s.pending := by
  simp only [State.writeBlocks]
  repeat' split
  all_goals simp
@[simp] theorem dueBlocks_pending (s : State) : s.dueBlocks.pending = s.pending := by simp [State.dueBlocks]

/-! ### Clock failures (R495, R496, Table 13.3) -/

@[simp] theorem tilePcie_pending (s : State) (st : Nat) : (s.tilePcie st).pending = s.pending := by simp [State.tilePcie]
@[simp] theorem enterState_pending (s : State) (st : Nat) : (s.enterState st).pending = s.pending := by simp [State.enterState]
@[simp] theorem leaveFor_pending (s : State) : s.leaveFor.pending = s.pending := by simp [State.leaveFor]
@[simp] theorem leaveNow_pending (s : State) : s.leaveNow.pending = s.pending := by simp [State.leaveNow]
@[simp] theorem noteRole_pending (s : State) : s.noteRole.pending = s.pending := by simp [State.noteRole]
@[simp] theorem failDomain_pending (s : State) (d : Nat) : (s.failDomain d).pending = s.pending := by simp [State.failDomain]
@[simp] theorem doClockFailureReset_pending (d : Nat) (s : State) : (doClockFailureReset d s).pending = s.pending := by
  simp [doClockFailureReset]
@[simp] theorem doPendingReleaseComplete_pending (b : Nat) (s : State) : (doPendingReleaseComplete b s).pending = s.pending := by
  simp [doPendingReleaseComplete]
@[simp] theorem doPendingReleaseTimeout_pending (b : Nat) (s : State) : (doPendingReleaseTimeout b s).pending = s.pending := by
  simp only [doPendingReleaseTimeout]
  split <;> simp
@[simp] theorem clockReturns_pending (s : State) (d : Nat) : (s.clockReturns d).pending = s.pending := by simp [State.clockReturns]
@[simp] theorem settleReleases_pending (s : State) : s.settleReleases.pending = s.pending := by simp [State.settleReleases]
@[simp] theorem noteTry_pending (s : State) (d : Nat) (good : Bool) : (s.noteTry d good).pending = s.pending := rfl
@[simp] theorem doClockSourceRetry_pending (d : Nat) (good : Bool) (s : State) : (doClockSourceRetry d good s).pending = s.pending := by
  simp [doClockSourceRetry]

/-! ### Supplies and pins -/

@[simp] theorem loseAon_pending (s : State) : s.loseAon.pending = s.pending := by
  unfold State.loseAon
  dsimp only
  rw [foldl_pending, foldl_pending]
  · exact fun _ _ => w_pending ..
  · exact fun _ _ => w_pending ..
@[simp] theorem doVbakLoss_pending (s : State) : (doVbakLoss s).pending = s.pending := by simp [doVbakLoss]
@[simp] theorem doBackupEnter_pending (s : State) : (doBackupEnter s).pending = s.pending := by simp [doBackupEnter]
@[simp] theorem doPowerOnResetAssert_pending (s : State) : (doPowerOnResetAssert s).pending = s.pending := by simp [doPowerOnResetAssert]
@[simp] theorem doPowerOnReset_pending (roleSel : Nat) (testEn strapChanged : Bool) (s : State) :
    (doPowerOnReset roleSel testEn strapChanged s).pending = s.pending := by
  simp [doPowerOnReset]
@[simp] theorem doPinReset_pending (lowNs also : Nat) (s : State) : (doPinReset lowNs also s).pending = s.pending := by simp [doPinReset]
@[simp] theorem doWatchdogExpire_pending (serviced : Bool) (s : State) : (doWatchdogExpire serviced s).pending = s.pending := by
  simp [doWatchdogExpire]
@[simp] theorem doLockupReset_pending (cause : Lockup) (s : State) : (doLockupReset cause s).pending = s.pending := by
  simp only [doLockupReset]
  split <;> simp
@[simp] theorem doFirmwareRestartTimeout_pending (s : State) : (doFirmwareRestartTimeout s).pending = s.pending := by
  simp only [doFirmwareRestartTimeout]
  split <;> simp
@[simp] theorem doPwrGoodChange_pending (level : Bool) (heldNs : Nat) (s : State) :
    (doPwrGoodChange level heldNs s).pending = s.pending := by
  simp [doPwrGoodChange]

/-! ### Boot steps -/

@[simp] theorem setsGood_pending (s : State) (l : List Nat) : (s.setsGood l).pending = s.pending := by simp [State.setsGood]
@[simp] theorem bootSettings_pending (s : State) : s.bootSettings.pending = s.pending := by
  simp only [State.bootSettings]
  repeat' split
  all_goals simp
@[simp] theorem clearStores_pending (s : State) : s.clearStores.pending = s.pending := rfl
@[simp] theorem reachRole_pending (s : State) : s.reachRole.pending = s.pending := by simp [State.reachRole]
@[simp] theorem stepWork_pending (s : State) (n : Nat) : (s.stepWork n).pending = s.pending := by
  simp only [State.stepWork]
  split <;> simp
@[simp] theorem passStep_pending (s : State) (n word : Nat) : (s.passStep n word).pending = s.pending := by simp [State.passStep]
@[simp] theorem goOn_pending (s : State) (n : Nat) : (s.goOn n).pending = s.pending := by
  simp only [State.goOn]
  repeat' split
  all_goals simp

/-! ### Failures (R506 to R511) -/

@[simp] theorem recordFail_pending (s : State) (n result reason : Nat) : (s.recordFail n result reason).1.pending = s.pending := by
  simp only [State.recordFail]
  repeat' split
  all_goals simp
@[simp] theorem romRecovery_pending (s : State) (n : Nat) : (s.romRecovery n).pending = s.pending := by simp [State.romRecovery]
@[simp] theorem haltBoot_pending (s : State) : s.haltBoot.pending = s.pending := rfl
@[simp] theorem retryStep_pending (s : State) : s.retryStep.pending = s.pending := rfl
@[simp] theorem failOtp_pending (s : State) (result reason : Nat) : (s.failOtp result reason).pending = s.pending := by simp [State.failOtp]
@[simp] theorem failStep_pending (s : State) (n result reason : Nat) : (s.failStep n result reason).pending = s.pending := by
  simp [State.failStep]
@[simp] theorem doBootStepEnd_pending (n : Nat) (failed : Option Nat) (word : Nat) (s : State) :
    (doBootStepEnd n failed word s).pending = s.pending := by
  simp only [doBootStepEnd]
  repeat' split
  all_goals simp
@[simp] theorem doBootStepTimeout_pending (n : Nat) (s : State) : (doBootStepTimeout n s).pending = s.pending := by
  simp only [doBootStepTimeout]
  split <;> simp
@[simp] theorem doBootStepRetry_pending (s : State) : (doBootStepRetry s).pending = s.pending := by simp [doBootStepRetry]
@[simp] theorem doOtpLoadDone_pending (crcOk : Bool) (s : State) : (doOtpLoadDone crcOk s).pending = s.pending := by simp [doOtpLoadDone]

/-! ### Power states -/

@[simp] theorem setAutoShow_pending (s : State) (v : Nat) : (s.setAutoShow v).pending = s.pending := by simp [State.setAutoShow]
@[simp] theorem actPwrGet_pending (c : HostCmd) (s : State) : (actPwrGet c s).s.pending = s.pending := rfl
@[simp] theorem goTo_pending (s : State) (min : Bool) : (s.goTo min).pending = s.pending := by simp [State.goTo]
@[simp] theorem actPwrSet_pending (c : HostCmd) (s : State) : (actPwrSet c s).s.pending = s.pending := by simp [actPwrSet]
@[simp] theorem doAutoShowEnter_pending (s : State) : (doAutoShowEnter s).pending = s.pending := by simp [doAutoShowEnter]
@[simp] theorem doRoleSetLost_pending (s : State) : (doRoleSetLost s).pending = s.pending := by
  simp only [doRoleSetLost]
  split <;> simp

/-! ### Reset commands -/

@[simp] theorem actRstGet_pending (c : HostCmd) (s : State) : (actRstGet c s).s.pending = s.pending := rfl
@[simp] theorem actRstNode_pending (c : HostCmd) (s : State) : (actRstNode c s).s.pending = s.pending := by simp [actRstNode]
@[simp] theorem actRstBlock_pending (c : HostCmd) (s : State) : (actRstBlock c s).s.pending = s.pending := by simp [actRstBlock]
@[simp] theorem actAonRead_pending (c : HostCmd) (s : State) : (actAonRead c s).s.pending = s.pending := by
  simp only [actAonRead]
  split <;> simp
@[simp] theorem scratchByte_pending (s : State) (a : Nat) (b : Byte) : (s.scratchByte a b).pending = s.pending := rfl
@[simp] theorem actAonWrite_pending (c : HostCmd) (s : State) : (actAonWrite c s).s.pending = s.pending := by
  have hscratch (k : Nat) (l : List (Byte × Nat)) : (l.foldl (fun (s : State) p => s.scratchByte (k + p.2) p.1) s).pending = s.pending :=
    foldl_pending (fun s p => scratchByte_pending ..) l s
  simp [actAonWrite, hscratch]
@[simp] theorem actBootClear_pending (c : HostCmd) (s : State) : (actBootClear c s).s.pending = s.pending := rfl

/-! ### Resets that are due -/

@[simp] theorem dueReset_pending (s : State) (kind : Nat) : (s.dueReset kind).pending = s.pending := by
  simp only [State.dueReset]
  split <;> simp
@[simp] theorem doTick_pending (s : State) : (doTick s).pending = s.pending := by simp [doTick]
theorem bar0Reset_pending (s : State) (f : State → State) (hf : (f s).pending = s.pending) : (s.bar0Reset f).pending = s.pending := by
  simp [State.bar0Reset, hf]

/-! ### Calibration runs -/

@[simp] theorem sweepStep_pending (s : State) (r : Run) : (s.sweepStep r).pending = s.pending := by
  simp only [State.sweepStep]
  split <;> simp
@[simp] theorem startCal_pending (s : State) (r : Run) : (s.startCal r).pending = s.pending := by simp [State.startCal]
@[simp] theorem nextCal_pending (s : State) : s.nextCal.pending = s.pending := by
  simp only [State.nextCal]
  repeat' split
  all_goals simp
@[simp] theorem actCalRun_pending (c : HostCmd) (s : State) : (actCalRun c s).s.pending = s.pending := by simp [actCalRun]
@[simp] theorem finishRun_pending (s : State) (w : Waits) (r : Run) (status : Nat) (data : List Byte) :
    (s.finishRun w r status data).pending = s.pending := by
  simp only [State.finishRun]
  repeat' split
  all_goals simp
@[simp] theorem applyCal_pending (s : State) (r : Run) (o : CalOutcome) : (s.applyCal r o).pending = s.pending := by simp [State.applyCal]
@[simp] theorem doCalRunDone_pending (o : CalOutcome) (s : State) : (doCalRunDone o s).pending = s.pending := by
  simp only [doCalRunDone]
  split <;> simp

/-! ### Memory errors -/

@[simp] theorem loseBuffered_pending (s : State) (w : Nat) : (s.loseBuffered w).pending = s.pending := by
  simp only [State.loseBuffered]
  repeat' split
  all_goals simp
@[simp] theorem memDouble_pending (s : State) (m : Nat) (ws : List Nat) : (s.memDouble m ws).pending = s.pending := by
  simp only [State.memDouble]
  repeat' split
  all_goals simp
@[simp] theorem doMemoryScrub_pending (m : Nat) (single double : List Nat) (s : State) :
    (doMemoryScrub m single double s).pending = s.pending := by
  simp [doMemoryScrub]

/-! ### When a run may start -/

@[simp] theorem readyChunk_pending (s : State) (r : Run) : (s.readyChunk r).pending = s.pending := by
  simp only [State.readyChunk]
  split <;> simp
@[simp] theorem echoOn_pending (s : State) (r : Run) : (s.echoOn r).pending = s.pending := by simp [State.echoOn]
@[simp] theorem startRunT_pending (s : State) (r : Run) : (s.startRunT r).pending = s.pending := by
  simp only [State.startRunT]
  repeat' split
  all_goals simp
@[simp] theorem stopRun_pending (s : State) (r : Run) : (s.stopRun r).pending = s.pending := by
  simp only [State.stopRun]
  repeat' split
  all_goals simp
@[simp] theorem nextTest_pending (s : State) : s.nextTest.pending = s.pending := by
  simp only [State.nextTest]
  split <;> simp
@[simp] theorem takeRun_pending (s : State) (r : Run) : (s.takeRun r).s.pending = s.pending := by simp [State.takeRun]
@[simp] theorem actTstRun_pending (c : HostCmd) (s : State) : (actTstRun c s).s.pending = s.pending := by simp [actTstRun]
@[simp] theorem actTstLoop_pending (c : HostCmd) (s : State) : (actTstLoop c s).s.pending = s.pending := by simp [actTstLoop]

/-! ### Chunks and records -/

@[simp] theorem clearMemory_pending (s : State) (m : Nat) : (s.clearMemory m).pending = s.pending := by
  simp only [State.clearMemory]
  split <;> simp
@[simp] theorem testEffect_pending (s : State) (r : Run) (fail : Bool) : (s.testEffect r fail).pending = s.pending := by
  simp only [State.testEffect]
  split <;> simp
@[simp] theorem endRun_pending (s : State) (r : Run) (outcome : Nat) : (s.endRun r outcome).pending = s.pending := by simp [State.endRun]
@[simp] theorem setRun_pending (s : State) (r x : Run) : (s.setRun r x).pending = s.pending := rfl
@[simp] theorem readErrors_pending (s : State) (index : Nat) (c : Chunk) : (s.readErrors index c).pending = s.pending := by
  simp [State.readErrors]
@[simp] theorem doTestChunkDone_pending (isLoop : Bool) (kind index : Nat) (c : Chunk) (s : State) :
    (doTestChunkDone isLoop kind index c s).pending = s.pending := by
  simp only [doTestChunkDone]
  split <;> simp
@[simp] theorem actTstResult_pending (c : HostCmd) (s : State) : (actTstResult c s).s.pending = s.pending := by simp [actTstResult]
@[simp] theorem actTstCounters_pending (c : HostCmd) (s : State) : (actTstCounters c s).s.pending = s.pending := by simp [actTstCounters]
@[simp] theorem actFrostExpect_pending (c : HostCmd) (s : State) : (actFrostExpect c s).s.pending = s.pending := by simp [actFrostExpect]

/-! ### Boundary scan and the debug port -/

@[simp] theorem doJtagInstruction_pending (i : Jtag) (s : State) : (doJtagInstruction i s).pending = s.pending := by
  simp [doJtagInstruction]
@[simp] theorem doDebugResponse_pending (sig : List Byte) (resetToo : Bool) (s : State) :
    (doDebugResponse sig resetToo s).pending = s.pending := by
  simp [doDebugResponse]

/-! ### Reads -/

@[simp] theorem readWord_pending (s : State) (off : Nat) : (s.readWord off).2.pending = s.pending := by
  simp only [State.readWord]
  repeat' split
  all_goals simp
@[simp] theorem readWords_pending (s : State) (off n : Nat) : (s.readWords off n).2.pending = s.pending := by
  induction n generalizing s off with
  | zero => rfl
  | succ n ih => simp [State.readWords, ih]
@[simp] theorem doLowWordRead_pending (off : Nat) (s : State) : (doLowWordRead off s).pending = s.pending := by simp [doLowWordRead]

/-! ### Writes -/

@[simp] theorem store_pending (s : State) (fromPcie : Bool) (f : FName) (i v : Nat) : (s.store fromPcie f i v).pending = s.pending := by
  simp only [State.store]
  repeat' split
  all_goals simp
@[simp] theorem trigger_pending (s : State) (f : FName) (i v key : Nat) : (s.trigger f i v key).pending = s.pending := by
  simp only [State.trigger]
  split <;> simp
@[simp] theorem clear1_pending (s : State) (f : FName) (i ones : Nat) : (s.clear1 f i ones).pending = s.pending := rfl
@[simp] theorem writeField_pending (s : State) (session : Nat) (fromPcie locked : Bool) (p : FName × Nat × Bool) (mask value : Nat) :
    (s.writeField session fromPcie locked p mask value).pending = s.pending := by
  simp only [State.writeField]
  repeat' split
  all_goals simp
@[simp] theorem writeWord_pending (s : State) (session : Nat) (fromPcie locked : Bool) (off mask value : Nat) :
    (s.writeWord session fromPcie locked off mask value).pending = s.pending := by
  simp [State.writeWord]
@[simp] theorem hostWord_pending (s : State) (off value : Nat) : (s.hostWord off value).pending = s.pending := by simp [State.hostWord]
@[simp] theorem doBar0Write_pending (off size value : Nat) (s : State) : (doBar0Write off size value s).pending = s.pending := by
  simp [doBar0Write]
@[simp] theorem doFraddrWrite_pending (stream value : Nat) (s : State) : (doFraddrWrite stream value s).pending = s.pending := by
  simp [doFraddrWrite]
@[simp] theorem doTraceCtrlWrite_pending (off value : Nat) (s : State) : (doTraceCtrlWrite off value s).pending = s.pending := by
  simp [doTraceCtrlWrite]

/-! ### The register commands (Table 12.14) -/

@[simp] theorem actRegRead_pending (c : HostCmd) (s : State) : (actRegRead c s).s.pending = s.pending := by simp [actRegRead]
@[simp] theorem actRegWrite_pending (c : HostCmd) (s : State) : (actRegWrite c s).s.pending = s.pending := by simp [actRegWrite]

/-! ### Readiness at the latch point -/

@[simp] theorem fixReady_pending (s : State) (v : View) : (s.fixReady v).pending = s.pending :=
  (raiseIf_pending ..).trans (foldl_pending (fun s n => w_pending s .layVReady n _) _ _)
@[simp] theorem doLatchPoint_pending (s : State) : (doLatchPoint s).pending = s.pending := by
  have hscale (l : List Nat) (s : State) : (l.foldl (fun s n => s.w .layVScaleDegraded n 0) s).pending = s.pending :=
    foldl_pending (fun s n => w_pending s .layVScaleDegraded n 0) l s
  unfold doLatchPoint
  dsimp only
  split
  · rfl
  · simp [hscale]

/-! ### The exchange and Frost -/

@[simp] theorem exchange_pending (s : State) (v : View) (f k : Nat) : (s.exchange v f k).pending = s.pending := by simp [State.exchange]
@[simp] theorem countFrost_pending (s : State) (k : Nat) : (s.countFrost k).pending = s.pending := by simp [State.countFrost]
@[simp] theorem checkFrost_pending (s : State) (k : Nat) : (s.checkFrost k).pending = s.pending := by simp [State.checkFrost]
@[simp] theorem reportFrost_pending (s : State) (target k : Nat) (held missed : Bool) :
    (s.reportFrost target k held missed).pending = s.pending := by
  simp [State.reportFrost]
@[simp] theorem endFeed_pending (s : State) (v : View) (f target k : Nat) : (s.endFeed v f target k).pending = s.pending := by
  simp [State.endFeed]

/-! ### What takes effect at a boundary -/

@[simp] theorem applyDue_pending (s : State) (f target : Nat) : (s.applyDue f target).pending = s.pending := by simp [State.applyDue]
@[simp] theorem leaveShowAt_pending (s : State) (f target : Nat) : (s.leaveShowAt f target).pending = s.pending := by
  simp [State.leaveShowAt]
@[simp] theorem enterShowAt_pending (s : State) (f : Nat) : (s.enterShowAt f).pending = s.pending := by
  unfold State.enterShowAt
  simp only [ite_pending, completeAll_pending, setIncr_pending, enterState_pending, ite_self]
@[simp] theorem slewZones_pending (s : State) : s.slewZones.pending = s.pending := by
  unfold State.slewZones
  split
  · rfl
  · exact foldl_pending (fun s z => foldl_pending (fun s e => w_pending s _ z _) _ s) _ _
@[simp] theorem nextWb_pending (s : State) : s.nextWb.pending = s.pending := rfl
@[simp] theorem routesAt_pending (s : State) (f : Nat) : (s.routesAt f).pending = s.pending := by
  simp only [State.routesAt]
  split <;> simp

/-! ### The next frame opens -/

@[simp] theorem openReceive_pending (s : State) (g : Nat) : (s.openReceive g).pending = s.pending := by simp [State.openReceive]
@[simp] theorem openNext_pending (s : State) (g : Nat) : (s.openNext g).pending = s.pending := by simp [State.openNext]
@[simp] theorem openScan_pending (s : State) (f : Nat) : (s.openScan f).pending = s.pending := by
  simp only [State.openScan]
  repeat' split
  all_goals simp
@[simp] theorem doFrameBoundary_pending (s : State) : (doFrameBoundary s).pending = s.pending := by
  have hheld (s : State) : ((List.range 4).foldl (fun s n => s.w .layVHeld n 0) s).pending = s.pending :=
    foldl_pending (fun s n => w_pending s .layVHeld n 0) _ s
  have hfeeds (v : View) (f target : Nat) (l : List Nat) (s : State) : (l.foldl (fun s k => s.endFeed v f target k) s).pending = s.pending :=
    foldl_pending (fun s k => endFeed_pending ..) l s
  unfold doFrameBoundary
  split
  · rfl
  · split
    · rfl
    · dsimp only
      split
      · simp [hheld, hfeeds, -List.foldl_cons]
      · simp [hheld, hfeeds, -List.foldl_cons]

/-! ### ABORT (Table 12.10) -/

@[simp] theorem abortDeferred_pending (s : State) (d : Deferred) : (s.abortDeferred d).2.pending = s.pending := by
  simp only [State.abortDeferred]
  repeat' split
  all_goals simp
@[simp] theorem actAbortHere_pending (c : HostCmd) (s : State) : (actAbortHere c s).s.pending = s.pending := by
  simp only [actAbortHere]
  split <;> simp
@[simp] theorem actAbortMirror_pending (r : Relay) (c : HostCmd) (s : State) : (actAbortMirror r c s).s.pending = s.pending := by
  simp only [actAbortMirror]
  split <;> simp
@[simp] theorem actAbort_pending (c : HostCmd) (s : State) : (actAbort c s).s.pending = s.pending := by
  unfold actAbort
  split
  · simp [relayOut_pending actAbortHere_pending]
  · simp

/-! ### The opcode table -/

theorem actions00_pending : ∀ p ∈ actions00, LeavesQueue p.2 := by simp [actions00, LeavesQueue]
theorem actions01_pending : ∀ p ∈ actions01, LeavesQueue p.2 := by simp [actions01, LeavesQueue]
theorem actions02_pending : ∀ p ∈ actions02, LeavesQueue p.2 := by simp [actions02, LeavesQueue]
theorem actions03_pending : ∀ p ∈ actions03, LeavesQueue p.2 := by simp [actions03, LeavesQueue]
theorem actions04_pending : ∀ p ∈ actions04, LeavesQueue p.2 := by simp [actions04, LeavesQueue]
theorem actions05_pending : ∀ p ∈ actions05, LeavesQueue p.2 := by simp [actions05, LeavesQueue]
theorem actions06_pending : ∀ p ∈ actions06, LeavesQueue p.2 := by simp [actions06, LeavesQueue]
theorem actions07_pending : ∀ p ∈ actions07, LeavesQueue p.2 := by simp [actions07, LeavesQueue]
theorem actions08_pending : ∀ p ∈ actions08, LeavesQueue p.2 := by simp [actions08, LeavesQueue]
theorem actions09_pending : ∀ p ∈ actions09, LeavesQueue p.2 := by simp [actions09, LeavesQueue]
theorem actions0A_pending : ∀ p ∈ actions0A, LeavesQueue p.2 := by simp [actions0A, LeavesQueue]
theorem actions0B_pending : ∀ p ∈ actions0B, LeavesQueue p.2 := by simp [actions0B, LeavesQueue]
theorem actions0C_pending : ∀ p ∈ actions0C, LeavesQueue p.2 := by simp [actions0C, LeavesQueue]
theorem actions0D_pending : ∀ p ∈ actions0D, LeavesQueue p.2 := by simp [actions0D, LeavesQueue]
theorem actions0E_pending : ∀ p ∈ actions0E, LeavesQueue p.2 := by simp [actions0E, LeavesQueue]
theorem actions0F_pending : ∀ p ∈ actions0F, LeavesQueue p.2 := by simp [actions0F, LeavesQueue]
theorem actions_pending : ∀ p ∈ actions, LeavesQueue p.2 := by
  simp only [actions, List.forall_mem_append, and_assoc]
  exact ⟨actions00_pending, actions01_pending, actions02_pending, actions03_pending, actions04_pending, actions05_pending,
    actions06_pending, actions07_pending, actions08_pending, actions09_pending, actions0A_pending, actions0B_pending,
    actions0C_pending, actions0D_pending, actions0E_pending, actions0F_pending⟩
/-- Whatever command is carried out, queued or fenced, its action leaves the queue. -/
theorem actionOf_pending (op : Nat) : LeavesQueue (actionOf op) := by
  unfold actionOf
  cases h : actions.find? (fun p => p.1 = op) with
  | none => exact fun _ _ => rfl
  | some p => exact actions_pending p (List.mem_of_find?_eq_some h)

/-! ### Scheduled and fenced commands -/

@[simp] theorem runDue_pending (n : Nat) (s : State) : (State.runDue n s).pending = s.pending := by
  induction n generalizing s with
  | zero => rfl
  | succ n ih =>
    unfold State.runDue
    split
    · rfl
    · exact (ih _).trans ((conclude_pending ..).trans (carry_pending (actionOf_pending _) ..))
@[simp] theorem doScheduledActivation_pending (s : State) : (doScheduledActivation s).pending = s.pending := by simp [doScheduledActivation]
@[simp] theorem doFencedCommandStart_pending (s : State) : (doFencedCommandStart s).pending = s.pending := by
  unfold doFencedCommandStart
  dsimp only
  split
  · simp
  · split
    · simp
    · exact (start_pending (actionOf_pending _) ..).trans (lapseDue_pending s)

/-! ### Relayed commands -/

@[simp] theorem runRelayed_pending (s : State) (c : HostCmd) : (s.runRelayed c).pending = s.pending := by
  have hrun := receive_pending (actionOf_pending c.opcode) s c.opcode c
  unfold State.runRelayed
  dsimp only
  split
  · exact hrun
  · exact hrun
@[simp] theorem runAwaiting_pending (s : State) : s.runAwaiting.pending = s.pending := by simp [State.runAwaiting]
@[simp] theorem doMbxCmdRx_pending (k : Pkt) (data : List Byte) (s : State) : (doMbxCmdRx k data s).pending = s.pending := by
  simp only [doMbxCmdRx]
  repeat' split
  all_goals simp

/-! ### Bulk data -/

@[simp] theorem gather_pending (s : State) (kind id src addr off : Nat) (l : List Byte) :
    (s.gather kind id src addr off l).pending = s.pending :=
  rfl
@[simp] theorem endTransfer_pending (s : State) (t : Transfer) : (s.endTransfer t).pending = s.pending := rfl
@[simp] theorem takeTable_pending (s : State) (l : List Byte) : (s.takeTable l).pending = s.pending := by simp [State.takeTable]
@[simp] theorem takeGranule_pending (s : State) (k : Pkt) : (s.takeGranule k).pending = s.pending := by
  simp only [State.takeGranule]
  repeat' split
  all_goals simp
@[simp] theorem takeReadback_pending (s : State) (k : Pkt) : (s.takeReadback k).pending = s.pending := by
  simp only [State.takeReadback]
  repeat' split
  all_goals simp
@[simp] theorem doBulkDataRx_pending (p : Nat) (k : Pkt) (s : State) : (doBulkDataRx p k s).pending = s.pending := by simp [doBulkDataRx]

/-! ### The forms of a row -/

theorem host_keeps {act : Action} {op : Nat} {c : HostCmd} {s t : State} (hact : LeavesQueue act)
    (h : (.next (runHost op act c s) : Host.Outcome State Fault Refusal) = .next t) : t.pending = s.pending := by
  obtain rfl : runHost op act c s = t := by simpa using h
  exact runHost_pending hact op c s

theorem always_keeps {d : State → State} {s t : State} (hd : ∀ s, (d s).pending = s.pending) (h : always d s = .next t) :
    t.pending = s.pending := by
  obtain rfl : d { s with out := [] } = t := by simpa [always] using h
  exact hd _

theorem event_keeps {d : State → State} {s t : State} (hd : ∀ s, (d s).pending = s.pending) (h : event d s = .next t) :
    t.pending = s.pending :=
  always_keeps (d := fun s => if s.running then d s else s) (fun s => ite_keeps (hd s) rfl) h

/-- Settles O54: a row is a host command, an event or an operation that always acts, and what it does leaves the queue. -/
theorem commandsLeaveTheQueue : Obligations.CommandsLeaveTheQueue := by
  unfold Obligations.CommandsLeaveTheQueue
  intro c s t h
  cases c
  case sysIdent | sysStatus | sysPing | regRead | regWrite | eventSet | uploadWrite | logRead | sessionOpen | sessionClose |
    sessionRenew | sessionGet | abort | fabPortGet | fabPortSet | fabRestart | fabLoop | fabLaneGet | fabNodeGet | fabSetId |
    fabDiscover | fabTopoRead | fabGroupSet | fabRouteGet | fabLinkGet | fabTransitGet | fabFence | timeGet | timeSetSource |
    timeSetPeriod | timeSetAnchor | timeStep | timeSetTrim | timeSetHold | layerGet | layerSetVideo | layerSetGraphic |
    layerWriteGraphic | layerSetWindow | layerSetBg | layerSetGuard | commit | commitStatus | pSet | pWrite | pKey | wbSet | wbRing |
    frostGet | frostSet | layerGetCoef | cloverSet | cloverGet | streamGet | streamSetup | streamSetFrame | streamPlayClip |
    streamStop | dpSet | dpGet | clipInfo | clipAlloc | clipFree | clipWrite | clipRead | clipPins | clipSetWindow | colGet | colSet |
    coefLoad | coefRead | coefSave | coefCheck | zoneGet | scanGet | scanSetLanes | scanSetTiming | scanSetFeed | scanSetWindow |
    scanPlan | genlockSet | genlockGet | shutterSet | scanSetTrim | laneGet | laneRestart | laneReg | laneSetCurrent | laneSetCurmap |
    diagSet | diagSummary | diagReadMap | diagEvents | laneEcho | redGet | redSet | redHandover | redTakeover | redSetSelect |
    redClaim | redResilver | thmGet | thmSet | thmSensor | thmNeighSet | calRun | calRead | calWrite | calRefSet | fwGet | fwBegin |
    fwWrite | fwWriteData | fwSpread | fwActivate | fwConfirm | fwRevert | fwFallbackReq | settingsGet | settingsPut | settingsSave |
    traceSet | traceRead | pseSetService | tstRun | tstLoop | tstResult | tstCounters | frostExpect | pwrGet | pwrSet | rstGet |
    rstNode | rstBlock | aonRead | aonWrite | bootClear =>
    exact host_keeps (fun _ _ => by simp) h
  case bar0Write | ftNowRead | lowWordRead | mbxDoorbell | cqHeadWrite | fraddrWrite | bar4Write | bar4Read | restart | diagEventRead |
    traceCtrlWrite | watchdogExpire | lockupReset | clockFailureReset | pendingReleaseComplete | pendingReleaseTimeout |
    clockSourceRetry | pwrGoodChange | otpLoadDone | bootStepEnd | bootStepTimeout | bootStepRetry | autoShowEnter | roleSetLost |
    frameBoundary | latchPoint | ftTick | timeSyncSend | timeSyncRx | pdelayReqSend | pdelayReqRx | pdelayRespRx | ptpMessageRx |
    parentTimeout | refLost | holdLimitExpire | alignLimitExpire | timeReturnShow | refDisagreeTimer | genlockEdge | genlockMissed |
    shutterAssert | shutterDeassert | dpFrameComplete | dpModeReceived | dpLinkLoss | dpHoldExpire | sendWindowOpen | lineSlot |
    fraddrLatch | cxlLinkUp | arbiterGrant | burstCut | clipFreeComplete | streamPacketRx | frameCompleteRx | headPickRx |
    pickWaitExpire | gust | engineLull | taskComplete | engineOverrun | pDataWritten | coefCopyComplete | slotClearComplete |
    coefBlockReload | memoryScrub | wbDataRx | subUpdateStart | loadStart | probeStarvedTimer | laneTrainDone | laneReplyRx |
    laneReplyTimeout | laneRetryTimer | offerSend | offerRx | silentBurst | trainingWordRx | trainStageTimeout | signalLoss |
    lane0LockLoss | alignCheck | fecWindow | adaptTrigger | adaptResult | rateStep | packetRx | linkPacketRx | linkSend |
    egressSelect | replayTimeout | nakRepeat | linkEventRx | discoveryStart | discQueryRx | discReplyRx | discQueryTimeout |
    discAssignRx | bulkDataRx | routeSetRx | noRouteRx | fenceRx | fenceDoneRx | fenceTimeout | mbxCmdRx | mbxRspRx | relayTimeout |
    scheduledActivation | fencedCommandStart | udpDatagramRx | sessionLapse | commitPrepareRx | commitVoteRx | commitSealRx |
    commitAbandonRx | voteTimeout | preparedSetExpire | leaseRenewSend | leaseAckRx | leaseYieldRx | leaseEnd | leaseSilence |
    guardEnd | candidateTimeout | renewMissed | pairStanddown | resilverRx | resilverPassDone | thermalSample | calRunStart |
    calRunDone | firmwareRestart | firmwareRestartTimeout | fallbackReqRepeat | spreadPoll | spreadTimeout | testRunStart |
    testChunkDone | debugResponse | pcieLinkDown | cxlLinkDown | flashWriteComplete | resyncBlockRx =>
    exact event_keeps (fun _ => by simp) h
  case rstCtrlNode | rstCtrlWarm =>
    exact event_keeps (fun s => bar0Reset_pending s _ (by simp)) h
  case rstBlockWrite => exact event_keeps (fun s => bar0Reset_pending s _ (writeBlocks_pending ..)) h
  case warmReset => exact event_keeps (fun _ => dueReset_pending ..) h
  case brownOutReset also => exact event_keeps (fun s => resetNode_pending ..) h
  case railLow rail =>
    refine event_keeps (d := doRailLow rail) (fun s => ?_) h
    unfold doRailLow
    split
    · exact raise_pending ..
    · rfl
  case leaseRenewRx => exact event_keeps (fun _ => ite_keeps (doLeaseRenewRx_pending ..) rfl) h
  case headClaimRx => exact event_keeps (fun _ => ite_keeps (doHeadClaimRx_pending ..) rfl) h
  case backupEnter | vbakLoss | powerOnReset | powerOnResetAssert | pinReset | jtagInstruction =>
    exact always_keeps (fun _ => by simp) h

end Sys2Proof.Machine
